-- ==== Sys2Proof/Word.lean ====
section
/-! DEFINITION. The plain value types of the 6240: identifiers that the part compares and does not interpret are
bit vectors (R1, R39, R141), unit numbers are bounded numbers (Table 1-1), everything that is counted is a natural
number (Introduction, 1.6: all quantities are whole numbers). -/

namespace Sys2Proof

/-- One byte of a ring frame (R189). -/
abbrev Byte := BitVec 8

/-- A 32-bit article code, compared and stored but not interpreted (Table ST-1). -/
abbrev Article := BitVec 32

/-- A 32-bit cart identity (Table TL-3). -/
abbrev CartId := BitVec 32

/-- A 32-bit order reference, stored and reported, not interpreted (Table OB-1). -/
abbrev OrderRef := BitVec 32

/-- A carousel number 0..7 (Table 1-1). -/
abbrev Carousel := Fin 8

/-- A pick station number 0..3 (Table 1-1). -/
abbrev Station := Fin 4

/-- A bay of a station, 0..3 (Table 1-1). -/
abbrev Bay := Fin 4

/-- A consolidation lane 0..3 (Table 1-1). -/
abbrev Lane := Fin 4

end Sys2Proof
end

