-- ==== Sys2Proof/Syntax.lean ====
section
/-! DEFINITION. The operand types of the part's commands and events, and Instr, the one inductive of all of them: one
constructor per row of spec/opcode_table.json, in the table's order. A row is one whole and indivisible step of the
part (95_what_each_step_holds.md): a frame taken from the ring, a timer's expiry, an entry or a report that one block
hands to another, a management request, or an event on a pin. -/

namespace Sys2Proof

/-! ## Stock, labels and units -/

/-- A week code: year 0..99 and week 1..53 (Table 1-3). -/
structure Week where
  year : Nat
  week : Nat
  deriving DecidableEq, Repr

/-- A label as a reader scans it: article code and week code (Table 1-4, Scan). -/
structure Label where
  article : Article
  week : Week
  deriving DecidableEq, Repr

/-- The priority class 0..3 is a plain number, 0 most urgent. -/
abbrev Class := Nat

/-- The result codes of a reply, in code order (Table FC-3). -/
inductive Result where
  | done | busy | range | state | full | unknown | malformed
  deriving DecidableEq, Repr

/-- The cell state of Table MG-1. -/
inductive Cell where
  | loading | running | halted
  deriving DecidableEq, Repr

/-- The ring state of R166. -/
inductive Ring where
  | down | restoring | up
  deriving DecidableEq, Repr

/-- The speed class of a carousel (R30). -/
inductive Speed where
  | normal | slow
  deriving DecidableEq, Repr

/-- The direction of a move (R37). -/
inductive Dir where
  | forward | reverse
  deriving DecidableEq, Repr

/-- The motion a DRIVE-STATUS carries (4.2). -/
inductive Motion where
  | still | moving | faulted
  deriving DecidableEq, Repr

/-- The fate of one of the part's own frames (R174). -/
inductive Fate where
  | accepted | refused | damaged | lost
  deriving DecidableEq, Repr

/-- The node roles of Table RG-1, in code order (Table FC-4). -/
inductive Role where
  | none | drive | panel | openingReader | inboundReader | laneController | laneReader | sorter | gateway | maint
  deriving DecidableEq, Repr

/-- The blocks that offer frames and take ring reports (R166, R173). `engine` is the Frame Engine itself, whose only
frames are the restore queries (R167). -/
inductive Block where
  | seq (k : Carousel)
  | station (st : Station)
  | transit
  | management
  | engine
  deriving DecidableEq, Repr

/-- The kinds of task of Table CS-3. -/
inductive TaskKind where
  | pick | put | audit
  deriving DecidableEq, Repr

/-- The outcome a TASK-DONE notice carries (R101). -/
inductive TaskOutcome where
  | confirmed | finished
  deriving DecidableEq, Repr

/-- The causes of FAULT (R82). -/
inductive FaultCause where
  | drive | timeout | short | link | index
  deriving DecidableEq, Repr

/-- The carousel states of Table CS-2. -/
inductive CarState where
  | unconfigured | unknown | idle | moving | stopping | ready | presenting | manual | fault | disabled
  deriving DecidableEq, Repr

/-- The conditions of an opening or inbound entry that lock a scan queue (R105, R106, R120). -/
inductive Cond where
  | unknown | held | overCount | wrongLot | wrongArticle | noTask
  deriving DecidableEq, Repr

/-- The reader a scan entry came from (R103). -/
inductive Reader where
  | opening | inbound
  deriving DecidableEq, Repr

/-- The sources of an audit request (Table AU-1). -/
inductive AuditSource where
  | host | short | recount | manual
  deriving DecidableEq, Repr

/-- The carrier states of Table ST-2, in code order (11.2). -/
inductive CarrierState where
  | normal | auditPending | auditLocked | unverified | disabled
  deriving DecidableEq, Repr

/-- The order states of Table OB-3, in code order (11.2). -/
inductive OrderState where
  | opened | picking | complete | cancelled | suspended
  deriving DecidableEq, Repr

/-- The compartment states of Table TL-2. -/
inductive CompState where
  | free | pending | picking | complete | cancelled
  deriving DecidableEq, Repr

/-- The reasons a planner refuses tyres (R127, R128, R131). -/
inductive RefuseReason where
  | splits | noSpace | held | excluded | closed
  deriving DecidableEq, Repr

/-- The reasons a line is reported waiting (R60). -/
inductive WaitReason where
  | noStock | noWindow | poolFull
  deriving DecidableEq, Repr

/-- A reservation is known by its pool place and its creation sequence, so that a report about a reservation that has
left the pool never reaches a later one in the same place (R50, R51). -/
structure ResId where
  place : Nat
  seq : Nat
  deriving DecidableEq, Repr

/-! ## Frames -/

/-- The header of a frame that reaches the part (Table FC-1), less its kind and its length. -/
structure Hdr where
  dest : Nat
  source : Nat
  flags : BitVec 8
  answer : BitVec 16
  deriving DecidableEq, Repr

/-- A frame as bytes on the ring (Table FC-1). -/
structure WireFrame where
  hdr : Hdr
  kind : Nat
  length : Nat
  payload : List Byte
  check : BitVec 16
  deriving DecidableEq, Repr

/-- The panel's eight keys, true while down (5.2). -/
structure Keys where
  confirm : Bool
  short : Bool
  batchEnd : Bool
  clearAccept : Bool
  clearReject : Bool
  recount : Bool
  signOn : Bool
  signOff : Bool
  deriving DecidableEq, Repr

/-- The content of a PANEL-INPUT frame: every key, and for each bay whether its curtain is broken (R96). -/
structure PanelInput where
  keys : Keys
  broken : Vector Bool 4
  deriving DecidableEq, Repr

/-- The content of a LANE-INPUT frame: both contacts (true when made) and the release button (true when down) (R141). -/
structure LaneInput where
  contactA : Bool
  contactB : Bool
  button : Bool
  deriving DecidableEq, Repr

/-- What a LANE-SHOW shows (R136). -/
inductive LaneShow where
  | compartment (n : Nat)
  | giveBack
  | reject
  deriving DecidableEq, Repr

/-- The mark of a pick in the task view (R99, R114). -/
inductive Mark where
  | opened | finished | doNotPick | substituted | short
  deriving DecidableEq, Repr

/-- The message line of the display (R99). -/
inductive Message where
  | locked (c : Cond)
  | rescan
  | conveyorFull
  | noSpace
  | notAllowed
  | finishScans
  | doNotPick
  deriving DecidableEq, Repr

/-- One pick as the display shows it (R99). -/
structure PickRow where
  article : Article
  week : Week
  remaining : Nat
  mark : Mark
  deriving DecidableEq, Repr

/-- One placement of a carrier under audit as the display shows it, without its count when the audit is blind (R99). -/
structure AuditRow where
  article : Article
  week : Week
  onHand : Option Nat
  deriving DecidableEq, Repr

/-- The task view part of the display (R99). -/
inductive ShowView where
  | closed
  | waiting
  | pick (carrier : Nat) (rows : List PickRow)
  | put (carrier : Nat) (article : Article) (week : Week) (remaining : Nat)
  | audit (carrier : Nat) (rows : List AuditRow)
  deriving DecidableEq, Repr

/-- The content of a PANEL-SHOW frame: the bay whose light is lit, the task view and the message (R99). -/
structure Content where
  light : Option Bay
  view : ShowView
  message : Option Message
  deriving DecidableEq, Repr

/-- One taken scan as a PICK-TAKEN or PUT-TAKEN notice reports it (R107, R108, R116). -/
structure ScanItem where
  carrier : Nat
  order : Option (Nat × OrderRef × Nat)
  lot : Nat
  label : Label
  deriving DecidableEq, Repr

/-- One lot of the variance that an AUDIT-RESULT notice carries: on hand before and after, and the reserved tyres that the
trims released (R23, R160). -/
structure Variance where
  lot : Nat
  before : Nat
  after : Nat
  released : Nat
  deriving DecidableEq, Repr

/-- The notices of Table MG-6, each with the content its raising rule gives, and the order reference beside every order's
handle (R39). -/
inductive NoticeBody where
  | carouselFault (k : Carousel) (cause : FaultCause) (index : Option Nat) (left : CarState)
  | balance (k : Carousel) (flag : Bool) (worst rotation total : Nat)
  | manualEntered (k : Carousel) (claimant : Nat) (index : Option Nat)
  | manualExited (k : Carousel) (idle : Bool) (carriers : List Nat) (all : Bool) (index : Option Nat)
  | foreignCommand (k : Carousel) (source kind : Nat)
  | pickTaken (st : Station) (k : Carousel) (items : List ScanItem)
  | putTaken (st : Station) (k : Carousel) (items : List ScanItem)
  | taskDone (st : Station) (k : Carousel) (carrier : Nat) (kind : TaskKind) (outcome : TaskOutcome)
  | scanException (st : Station) (c : Cond) (label : Label) (reader : Reader) (held : Option (Carousel × Nat × TaskKind))
  | putRefused (st : Station) (lot : Nat) (label : Label) (whole planned refused : Nat) (reason : RefuseReason)
  | reservationExpired (handle : Nat) (ref : OrderRef) (line : Nat) (k : Carousel) (carrier lot count : Nat)
  | lineWaiting (handle : Nat) (ref : OrderRef) (line : Nat) (article : Article) (need : Nat) (reason : WaitReason)
  | orderComplete (handle : Nat) (ref : OrderRef) (comp : Option (Lane × Nat))
  | orderDispatched (handle : Nat) (ref : OrderRef) (comp : Option (Lane × Nat)) (cart : Option CartId) (state : OrderState)
  | transitLost (handle : Nat) (ref : OrderRef) (line lot : Nat) (dest : Option (Lane × Nat)) (st : Station) (unrouted : Bool)
  | stray (l : Lane) (label : Label)
  | cartReleaseRequest (l : Lane) (cart : CartId) (comps : List (Nat × OrderRef × CompState))
  | cartLost (l : Lane) (cart : CartId) (orders : List (Nat × OrderRef)) (removed : Nat)
  | cartUnread (l : Lane)
  | auditResult (k : Carousel) (carrier : Nat) (source : AuditSource) (blind : Bool) (state : CarrierState)
      (unplaced unknown : Nat) (variance : List Variance)
  | auditDropped (k : Carousel) (carrier : Nat) (source : AuditSource)
  | auditAbandoned (k : Carousel) (carrier : Nat) (source : AuditSource)
  deriving DecidableEq, Repr

/-- A notice with the sequence number it took when it was handed (R187). -/
structure Notice where
  seq : Nat
  body : NoticeBody
  deriving DecidableEq, Repr

/-- A STATUS-QUERY that a sequencer has handed over: its carousel, and the model's own number of it (R68). -/
structure QueryId where
  car : Carousel
  num : Nat
  deriving DecidableEq, Repr

/-- The payloads of the frames that the part itself sends (Tables RG-2 and FC-3). The marks `forMissing` and `second` are
the model's own: they say which HALT answers a missing report (R83) and which sending of a frame this is (R135, R143,
R188); they are not sent. The number of a STATUS-QUERY, which says which query of its carousel it is (R68), is not sent either; that
of a restore's query is 0. So is the lane of a frame to a lane's controller or reader, which the frame's
destination stands for. -/
inductive Payload where
  | move (dir : Dir) (dist target : Nat) (speed : Speed)
  | halt (forMissing : Bool)
  | statusQuery (n : Nat)
  | panelShow (c : Content)
  | lock (l : Lane) (second : Bool)
  | unlock (l : Lane) (pulse : Nat) (second : Bool)
  | laneShow (l : Lane) (x : LaneShow)
  | readRequest (l : Lane)
  | divert (label : Label) (lane : Option Lane) (second : Bool)
  | reply (kind tag : Nat) (result : Result) (content : List Byte)
  | notice (n : Notice) (second : Bool)
  deriving DecidableEq, Repr

/-- Whom a block addresses: the node of a role and unit, a group, or a ring address (R169, R173, R175). -/
inductive Target where
  | node (role : Role) (unit : Nat)
  | group (g : Fin 8)
  | addr (a : Nat)
  deriving DecidableEq, Repr

/-! ## Reports between blocks -/

/-- One pick of a station's task view (R100, R115). `shorted` is set from a SHORT on the pick until the Order Book has answered
the short report with a new count, so that a second SHORT acts on the next pick (R114). -/
structure ViewPick where
  res : ResId
  lot : Nat
  remaining : Nat
  mark : Mark
  shorted : Bool
  deriving DecidableEq, Repr

/-- Why the Order Book released tyres of a reservation, as the report to its sequencer carries it: on an ACCEPT's substitution
request (R64, R111), on a SHORT's report (R63, R114), or for any other reason. -/
inductive Cause where
  | accept | short | other
  deriving DecidableEq, Repr

/-- The count that a reservation has after a reduction or an enlargement (R57, R63), and why it has changed. -/
structure NewCount where
  count : Nat
  why : Cause
  deriving DecidableEq, Repr

/-- A reservation that is struck (R52), and why. -/
structure Strike where
  res : ResId
  why : Cause
  deriving DecidableEq, Repr

/-- The order of a pick as the Order Book hands it over: its arrival sequence and its class (R71, R72). -/
structure PickOrder where
  seq : Nat
  cls : Class
  deriving DecidableEq, Repr

/-- An order as the Transit and Lane Unit is told it: handle and reference (R39). -/
structure OrderName where
  handle : Nat
  ref : OrderRef
  deriving DecidableEq, Repr

/-- The content of a station's task view (R100). -/
inductive ViewBody where
  | pick (picks : List ViewPick)
  | put (lot remaining : Nat)
  | audit (blind : Bool)
  deriving DecidableEq, Repr

/-- The station's view of the granted task (Table PS-1, Grant). -/
structure TaskView where
  carrier : Nat
  cls : Class
  body : ViewBody
  deriving DecidableEq, Repr

/-- The reports that change the view of a granted PICK task (R115). -/
inductive ViewChange where
  | newPick (p : ViewPick)
  | newCount (r : ResId) (n : Nat) (why : Cause)
  | struck (r : ResId) (why : Cause)
  | dropped (r : ResId)
  deriving DecidableEq, Repr

/-- The reasons of a compartment withdrawal (R46). -/
inductive Withdrawal where
  | flush | lost
  deriving DecidableEq, Repr

/-- The reasons of a transit removal (R48). -/
inductive RemovalReason where
  | timeout | cart
  deriving DecidableEq, Repr

/-- The actions of SCAN-CLEAR, in code order (R112). -/
inductive ClearAction where
  | accept | reject | recount
  deriving DecidableEq, Repr

/-! ## Management requests -/

/-- What every management request carries: the header of its frame, which names the source to reply to, and the request
tag that the warehouse computer chose (R172, R179). -/
structure Req where
  hdr : Hdr
  tag : Nat
  deriving DecidableEq, Repr

/-- One line of an ORDER-ADD (R41). -/
structure LineReq where
  article : Article
  quantity : Nat
  window : Option Nat
  deriving DecidableEq, Repr

/-- The body of CAROUSEL-CONFIG-WRITE (R7, R33, Table FC-4). -/
structure CarouselCfg where
  carousel : Nat
  p : Nat
  shelf : Nat
  gap : Nat
  rated : Nat
  soft : Nat
  hard : Nat
  bidirectional : Bool
  start : Nat
  normalPitch : Nat
  slowPitch : Nat
  deriving DecidableEq, Repr

/-- The body of STATION-CONFIG-WRITE (R95, Table FC-4). -/
structure StationCfg where
  station : Nat
  bays : Vector (Option Nat) 4
  putClass : Nat
  mode : Nat
  deriving DecidableEq, Repr

/-! ## The commands and events -/

/-- The rows of spec/opcode_table.json, in the table's order. Rows that stand for a frame from the ring carry the frame's
header; management requests carry a `Req`; the others carry what the owning rule says the event, entry or report
names. -/
inductive Instr where
  | resetAssert
  | powerOnReset (straps : BitVec 6)
  | clockLoss
  | silenceTimerExpiry
  | ringStateReport (b : Block) (r : Ring)
  | damagedFrameReceived (f : WireFrame)
  | forwardedFrame (f : WireFrame)
  | restoreRoundExpiry
  | nodeNotAnswered (role : Role) (unit : Nat)
  | frameReturn (h : Hdr) (kind : Nat) (intact : Bool)
  | roundDeadlineExpiry (i : Nat)
  | frameOffer (b : Block) (t : Target) (p : Payload)
  | frameWithdraw (b : Block) (kind : Nat)
  | payloadReplace (b : Block) (p : Payload)
  | frameSend
  | spaceReport (b : Block)
  | foreignCommand (h : Hdr) (jog : Bool)
  | manualClaim (h : Hdr)
  | access (h : Hdr)
  | maintDriveFrame (h : Hdr) (kind : Nat)
  | manualRelease (h : Hdr)
  | manualIdleExpiry (k : Carousel)
  | driveStatus (h : Hdr) (m : Motion) (index target : Nat)
  | queryRoundExpiry (k : Carousel)
  | moveReturn (k : Carousel) (fate : Fate)
  | moveTimeout (k : Carousel)
  | curtainBroken (k : Carousel) (unseen : Bool)
  | curtainClear (k : Carousel)
  | curtainSettleExpiry (k : Carousel)
  | driveMissingReport (k : Carousel)
  | speedClassReport (k : Carousel) (speed : Speed)
  | newReservation (k : Carousel) (r : ResId) (carrier count : Nat) (order : PickOrder)
  | putOffer (k : Carousel) (carrier lot count : Nat) (cls : Class) (st : Station)
  | auditOffer (k : Carousel) (carrier : Nat) (blind : Bool) (cls : Class)
  | auditRequeue (k : Carousel) (carrier : Nat)
  | auditTaskReclass (k : Carousel) (carrier : Nat) (cls : Class) (blind : Bool)
  | taskRemoveRequest (k : Carousel) (carrier : Nat)
  | pickNewCount (k : Carousel) (r : ResId) (new : NewCount)
  | pickDrop (k : Carousel) (r : ResId)
  | pickStruck (k : Carousel) (strike : Strike)
  | taskClassReport (k : Carousel) (handle : Nat) (cls : Class)
  | pickTakenReport (k : Carousel) (r : ResId)
  | putTakenReport (k : Carousel) (carrier : Nat)
  | grant (k : Carousel)
  | grantWithdrawal (k : Carousel)
  | earlyConfirm (k : Carousel)
  | auditAppliedReport (k : Carousel) (carrier : Nat)
  | stationBayReport (k : Carousel) (place : Option (Station × Bay))
  | stationStateReport (k : Carousel) (opened : Bool)
  | placeReport (st : Station) (k : Carousel)
  | auditPlaceReport (k : Carousel)
  | reserve (k : Carousel) (carrier lot count : Nat)
  | release (k : Carousel) (carrier lot count : Nat)
  | commitPick (k : Carousel) (carrier lot : Nat)
  | commitPut (k : Carousel) (carrier lot : Nat)
  | planIncoming (k : Carousel) (carrier lot count : Nat)
  | returnIncoming (k : Carousel) (carrier lot count : Nat)
  | roomQuery (k : Carousel) (carrier lot count : Nat)
  | auditMark (k : Carousel) (carrier : Nat)
  | auditClear (k : Carousel) (carrier : Nat)
  | auditLock (k : Carousel) (carrier : Nat)
  | auditUnlock (k : Carousel) (carrier : Nat)
  | auditApply (k : Carousel) (carrier : Nat) (tally : List (Nat × Nat)) (unknown unplaced : Nat)
  | exclude (k : Carousel) (carriers : List Nat)
  | admitCarriers (k : Carousel) (carriers : List Nat)
  | massReport (k : Carousel) (masses : List (Nat × Nat))
  | candidateTest (k : Carousel) (carrier added : Nat)
  | balanceQuery (k : Carousel) (carrier mass count : Nat)
  | travelPlan (k : Carousel) (index target : Nat)
  | stockRiseReport (article : Article)
  | eligibilityReport (k : Carousel) (carrier : Nat)
  | compartmentReceipt (handle seq : Nat) (l : Lane) (comp : Nat)
  | compartmentWithdrawal (handle : Nat) (reason : Withdrawal)
  | deliveryReport (handle line lot : Nat)
  | transitRemoval (handle line week : Nat) (reason : RemovalReason)
  | dispatchReport (handle : Nat) (l : Lane) (comp : Nat) (cart : CartId)
  | reservationJoined (r : ResId)
  | reservationPresented (r : ResId)
  | reservationWithdrawn (r : ResId)
  | commitReport (r : ResId) (k : Carousel) (carrier lot week : Nat)
  | reservationExpiry (place : Nat)
  | holdHandover (lot : Nat)
  | carrierRelease (k : Carousel) (carriers : List Nat)
  | auditTrim (k : Carousel) (carrier lot target : Nat)
  | shortReport (r : ResId) (count : Nat)
  | substitutionRequest (r : ResId) (lot : Nat)
  | substituteRelease (r : ResId)
  | readyReport (st : Station) (k : Carousel)
  | notReadyReport (st : Station) (k : Carousel)
  | grantAnswer (st : Station) (k : Carousel) (view : Option TaskView)
  | taskEndReport (st : Station) (k : Carousel) (carrier : Nat) (kind : TaskKind) (outcome : TaskOutcome)
  | grantWithdrawalReport (st : Station) (k : Carousel)
  | attentionTimeout (st : Station)
  | taskViewReport (st : Station) (k : Carousel) (change : ViewChange)
  | transitPlaceReport (st : Station)
  | plannerRoomReport (st : Station)
  | putTaskLeft (st : Station) (k : Carousel) (carrier lot : Nat)
  | panelShowReturn (st : Station) (fate : Fate)
  | panelRecovery (h : Hdr) (input : PanelInput)
  | bayCurtainChange (st : Station) (b : Bay) (broken : Bool)
  | signOn (st : Station)
  | signOff (st : Station)
  | clearAccept (st : Station)
  | clearReject (st : Station)
  | recount (st : Station)
  | short (st : Station)
  | confirm (st : Station)
  | batchEnd (st : Station)
  | stationLabel (h : Hdr) (label : Label)
  | transitPlaceRequest (st : Station)
  | placeGiveUp (st : Station) (place : Nat)
  | handOver (st : Station) (place : Nat) (order : OrderName) (line lot week : Nat)
  | divertReturn (label : Label) (l : Option Lane) (second : Bool) (fate : Fate)
  | transitTimeout (place : Nat)
  | laneArrival (h : Hdr) (label : Label)
  | tagRead (h : Hdr) (cart : CartId) (count : Nat)
  | cartContacts (h : Hdr) (input : LaneInput)
  | releaseButton (l : Lane)
  | laneControllerRecovery (h : Hdr) (input : LaneInput)
  | laneSettleExpiry (l : Lane)
  | tagTimerExpiry (l : Lane)
  | latchReturn (l : Lane) (lock : Bool) (second : Bool) (fate : Fate)
  | waitingReport (order : OrderName) (seq : Nat) (cls : Class) (lanes : Option (List Nat))
  | orderClassReport (handle : Nat) (cls : Class)
  | goneReport (handle : Nat)
  | cancelReport (handle : Nat) (picking : Bool)
  | completionReport (handle : Nat)
  | receiptAnswer (l : Lane) (comp handle seq : Nat) (accepted : Bool)
  | auditRequestRaised (k : Carousel) (carrier : Nat) (blind : Bool) (cls : Class) (source : AuditSource)
  | auditGranted (k : Carousel) (carrier : Nat)
  | tally (k : Carousel) (lot : Option Nat)
  | auditConfirm (k : Carousel)
  | auditIdleExpiry (k : Carousel)
  | auditAbandonReport (k : Carousel)
  | auditHandBack (k : Carousel) (carrier : Option Nat)
  | admitNotice (k : Carousel) (carriers : List Nat)
  | noticeHanded (b : NoticeBody)
  | noticeSend
  | noticeFate (n : Notice) (second : Bool) (fate : Fate)
  | replyOffer
  | malformedRequest (q : Req) (kind : Nat)
  | cellStatus (q : Req)
  | cellRun (q : Req)
  | cellHalt (q : Req)
  | cellRestart (q : Req)
  | nodeMapWrite (q : Req) (addr role unit : Nat) (mirror : Bool)
  | groupWrite (q : Req) (g : Nat) (members : List Nat)
  | carouselConfigWrite (q : Req) (c : CarouselCfg)
  | stationConfigWrite (q : Req) (c : StationCfg)
  | laneConfigWrite (q : Req) (l : Nat) (configured : Bool) (limit : Nat)
  | timerWrite (q : Req) (selector value : Nat)
  | lotWrite (q : Req) (lot : Nat) (article : Article) (week : Week) (width rim mass : Nat)
  | lotDelete (q : Req) (lot : Nat)
  | lotHold (q : Req) (lot : Nat)
  | lotRelease (q : Req) (lot : Nat)
  | carrierWrite (q : Req) (k carrier : Nat) (doubleStack disable : Bool) (list : List (Nat × Nat))
  | recordRead (q : Req) (kind index : Nat)
  | orderAdd (q : Req) (ref : OrderRef) (cls : Nat) (lanes : Option (List Nat)) (lines : List LineReq)
  | orderCancel (q : Req) (handle : Nat)
  | orderClass (q : Req) (handle cls : Nat)
  | orderResume (q : Req) (handle : Nat)
  | carouselEnable (q : Req) (k : Nat)
  | carouselDisable (q : Req) (k : Nat)
  | windowSet (q : Req) (k : Nat) (bounds : Option (Nat × Nat))
  | auditRequest (q : Req) (k carrier : Nat) (blind : Bool) (cls : Nat)
  | auditCancel (q : Req) (k carrier : Nat)
  | scanClear (q : Req) (st action : Nat)
  | lanePermit (q : Req) (l : Nat)
  | laneAssign (q : Req) (l : Nat) (cart : CartId) (count : Nat)
  | laneClose (q : Req) (l : Nat)
  | laneOpen (q : Req) (l : Nat)
  | clockReturn
  | statusQueryReturn (q : QueryId) (fate : Fate)
  | haltReturn (k : Carousel) (fate : Fate)
  deriving DecidableEq, Repr

end Sys2Proof
end

