-- ==== Sys2Proof/Decode.lean ====
section
/-! DEFINITION. The command that a word of spec/opcode_table.json spells. The table gives bits to none of its rows: the
commands of this part are frames, entries, reports, expiries and pin events. Frames are read from their bytes in
Machine/Formats.lean. -/

namespace Sys2Proof

/-- No word of the table spells a command. -/
def decodeTableWord (_nbits _w : Nat) : Option Instr := none

end Sys2Proof
end

