-- ==== Sys2Proof/Config.lean ====
section
/-! DEFINITION. The fixed sizes and times of the part, each from the rule that states it, and the four free values: bytes
that the spec leaves open. What differs between cells is written by management requests and stands in State. -/

namespace Sys2Proof.Config

/-- Lot records 0..1023 (R1). -/
def lots : Nat := 1024

/-- Order handles 0..255 (R39). -/
def handles : Nat := 256

/-- Places of the reservation pool (R50). -/
def poolPlaces : Nat := 512

/-- Tasks of one task queue (R71). -/
def queueTasks : Nat := 16

/-- Picks of one PICK task (R72). -/
def taskPicks : Nat := 8

/-- Entries of one scan queue (R103). -/
def scanEntries : Nat := 8

/-- Tyres of one put-away batch (R121). -/
def batchTyres : Nat := 16

/-- Parts of one planner's wait list, and parts made from one batch (R123, R127). -/
def waitParts : Nat := 4

/-- Places of the in-transit list (R132). -/
def transitPlaces : Nat := 64

/-- Requests of the audit request list (R152). -/
def auditRequests : Nat := 32

/-- Entries of an audit tally (R159). -/
def tallyEntries : Nat := 8

/-- Placements of one carrier (R9). -/
def placements : Nat := 4

/-- On-hand and incoming tyres of one placement (R9). -/
def placementTyres : Nat := 63

/-- Places of the reply list (R179). -/
def replies : Nat := 16

/-- Places of the notice queue (R187). -/
def notices : Nat := 64

/-- Frames of the transmit queue (R173). -/
def transmitFrames : Nat := 32

/-- Entries of the outstanding-frame list (R174). -/
def outstandingFrames : Nat := 32

/-- Node-map entries 0..63 (R169). -/
def nodes : Nat := 64

/-- The clamp of a carrier's mass in the mass vector (R26). -/
def massClamp : Nat := 2047

/-- The cap of a travel estimate, in tenths of a second (R38). -/
def estimateCap : Nat := 6000

/-- The distance of a candidate whose carousel gives no plan (R125). -/
def noDistance : Nat := 64

/-- Milliseconds in one tenth of a second, the unit of the configured times (Table 1-3). -/
def tenth : Nat := 100

/-- The silence time of the ring input, in milliseconds (R166). -/
def silence : Nat := 20

/-- The curtain settle time of 1 s, in milliseconds (R81). -/
def curtainSettle : Nat := 1000

/-! ## Free values: encodings that no rule states -/

/-- The bytes of a time that a record read back carries (a deadline, an expiry time, or the lack of one): the tables give a
time no range, so R189 gives it no size. DESIGN CHOICE: free. -/
opaque timeField : Option Nat → List Byte

/-- The bytes of a count without a stated width that a record read back carries (the task arrival count, a transit entry's
creation sequence). DESIGN CHOICE: free. -/
opaque countField : Nat → List Byte

/-- The four bytes of a cart id that is absent: all 32-bit values are ids, so R189 leaves none for absent. DESIGN CHOICE:
free. -/
opaque absentCart : CartId

/-- The four bytes of the order reference in a notice about a reservation whose handle names no order, which no rule gives (R39
has only orders), by the handle and the sequence number that the notice is to take. DESIGN CHOICE (log entry 74): free. -/
opaque goneOrderRef : Nat → Nat → OrderRef

end Sys2Proof.Config
end

