-- ==== Sys2Proof/Machine/State.lean ====
section
/-! DEFINITION. The state of the part: every record the spec gives its nine blocks, its pins and its ring output, as
plain data, with the values after a power-on reset. -/

namespace Sys2Proof.Machine

/-- A table by number, in one canonical form: numbers strictly rising, and no entry for a number that holds nothing (a
FREE lot, a free handle, an empty pool place, a FREE transit place, a node-map entry at its power-on value). -/
abbrev Table (α : Type) := List (Nat × α)

/-! ## The Stock Table Unit (chapter 1) -/

/-- The states of a lot record that holds a lot (R1). A number without a record in the lot table is FREE. -/
inductive LotState where
  | active | held
  deriving DecidableEq, Repr

/-- A lot record that is not FREE (Table ST-1). -/
structure Lot where
  article : Article
  week : Week
  width : Nat
  rim : Nat
  mass : Nat
  state : LotState
  onHand : Nat
  reserved : Nat
  incoming : Nat
  deriving DecidableEq, Repr

/-- A placement: one lot on one carrier (R9). -/
structure Placement where
  lot : Nat
  onHand : Nat
  reserved : Nat
  incoming : Nat
  deriving DecidableEq, Repr

/-- A carrier record (Table ST-2). The unplaced and unknown counts are absent when 0 (R8); the actual mass is derived. -/
structure Carrier where
  state : CarrierState
  excluded : Bool
  doubleStack : Bool
  overload : Bool
  placements : List Placement
  unplaced : Nat
  unknown : Nat
  deriving DecidableEq, Repr

/-- What the Stock Table Unit holds for a configured carousel (R7): its geometry and its carriers 0..P−1, so that P is
the number of carriers. -/
structure StockCar where
  shelf : Nat
  gap : Nat
  rated : Nat
  carriers : List Carrier
  deriving DecidableEq, Repr

/-! ## The Balance Unit (chapter 2) -/

/-- The balance record of one configured carousel (Table BL-1). The half count H is derived from P. -/
structure Balance where
  p : Nat
  masses : List Nat
  soft : Nat
  hard : Nat
  total : Nat
  worst : Nat
  rotation : Nat
  speed : Speed
  overbalance : Bool
  bidirectional : Bool
  start : Nat
  normalPitch : Nat
  slowPitch : Nat
  deriving DecidableEq, Repr

/-! ## The Order Book (chapter 3) -/

/-- A line record (Table OB-2). Its need and its state are derived (R40). -/
structure Line where
  article : Article
  quantity : Nat
  window : Option Nat
  reserved : Nat
  inTransit : Nat
  delivered : Nat
  taken : List Nat
  avoid : Option Carousel
  waitingReported : Bool
  deriving DecidableEq, Repr

/-- An order record (Table OB-1). `leaving` is set while the order waits for a struck reservation to leave the pool
before it leaves the table (R43, R49). -/
structure Order where
  ref : OrderRef
  cls : Class
  lanes : Option (List Nat)
  state : OrderState
  comp : Option (Lane × Nat)
  seq : Nat
  lines : List Line
  leaving : Bool
  deriving DecidableEq, Repr

/-- The states of a reservation (R50). -/
inductive ResState where
  | held | queued | presented
  deriving DecidableEq, Repr

/-- A reservation (Table OB-4). `substitute` marks one that a substitution made and that stands in no task (R64). -/
structure Reservation where
  order : Nat
  line : Nat
  car : Carousel
  carrier : Nat
  lot : Nat
  count : Nat
  state : ResState
  struck : Bool
  expiry : Option Nat
  seq : Nat
  substitute : Bool
  deriving DecidableEq, Repr

/-- The Order Book's own records (chapter 3). `freed` says that a reservation has left the pool while the pool-full mark
was set, so that the pass of R56 is due when the request in hand has been carried out. -/
structure OrderBook where
  orders : Table Order
  pool : Table Reservation
  arrivals : Nat
  creations : Nat
  poolFull : Bool
  freed : Bool
  deriving DecidableEq, Repr

/-! ## The Carousel Sequencers (chapter 4) -/

/-- The carousel's curtain (Table CS-1). -/
inductive Curtain where
  | unseen | broken | settling | clear
  deriving DecidableEq, Repr

/-- Why a carousel is being stopped (R77, R79, R81, R83). -/
inductive StopCause where
  | curtain | halt | other
  deriving DecidableEq, Repr

/-- One pick of a PICK task (Table CS-3). `order` is the arrival sequence of its order and `cls` that order's class, as the Order
Book has handed them (R44, R72): a finished pick keeps them after its reservation has left the pool. -/
structure Pick where
  res : ResId
  order : Nat
  cls : Class
  remaining : Nat
  struck : Bool
  deriving DecidableEq, Repr

/-- The content of a task by kind (Table CS-3). -/
inductive TaskBody where
  | pick (picks : List Pick)
  | put (lot count remaining : Nat) (st : Station)
  | audit (blind : Bool)
  deriving DecidableEq, Repr

/-- A task of a task queue, known by its arrival number (R71). -/
structure Task where
  num : Nat
  cls : Class
  carrier : Nat
  body : TaskBody
  deriving DecidableEq, Repr

/-- A reservation of the held list (R72), with what its hand-over named: its order is known by its arrival sequence. -/
structure HeldItem where
  res : ResId
  order : Nat
  carrier : Nat
  count : Nat
  cls : Class
  deriving DecidableEq, Repr

/-- The move in flight (Table CS-1); the deadline is in milliseconds, and the plan's timeout it was made from is in
tenths of a second. -/
structure Move where
  target : Nat
  dir : Dir
  dist : Nat
  speed : Speed
  timeout : Nat
  deadline : Nat
  resent : Bool
  stop : Option StopCause
  deriving DecidableEq, Repr

/-- The manual-claim record (R88). The deadline is absent while the idle time is unlimited. -/
structure Claim where
  node : Nat
  carriers : List Nat
  all : Bool
  deadline : Option Nat
  deriving DecidableEq, Repr

/-- A STATUS-QUERY handed over and not yet settled (R68, R79): which one it is, whether a MOVE's damaged or lost return asked
for it, whether a status has been taken since, and, once its frame has returned, when its round time ends. -/
structure Query where
  num : Nat
  afterMove : Bool
  answered : Bool
  deadline : Option Nat
  deriving DecidableEq, Repr

/-- A MOVE frame built and kept because the transmit queue was full (R76): its move, and for one that is sent once more
(R79) the deadline that it keeps. -/
structure Built where
  target : Nat
  dir : Dir
  dist : Nat
  speed : Speed
  timeout : Nat
  resent : Option Nat
  deriving DecidableEq, Repr

/-- A Carousel Sequencer's record (Table CS-1). The current task is given by its arrival number. `queries` are the unsettled
STATUS-QUERY frames, oldest first; `asked`, the model's own, counts those handed over and numbers the next (R68). -/
structure Seq where
  state : CarState
  fault : Option FaultCause
  place : Option (Station × Bay)
  index : Option Nat
  queue : List Task
  held : List HeldItem
  current : Option Nat
  move : Option Move
  built : Option Built
  short : Nat
  curtain : Curtain
  settle : Option Nat
  window : Option (Nat × Nat)
  claim : Option Claim
  arrivals : Nat
  queries : List Query
  asked : Nat
  deriving DecidableEq, Repr

/-- A sequencer after a power-on reset (R66). -/
def Seq.powerOn : Seq :=
  { state := .unconfigured, fault := none, place := none, index := none, queue := [], held := [], current := none,
    move := none, built := none, short := 0, curtain := .unseen, settle := none, window := none, claim := none,
    arrivals := 0, queries := [], asked := 0 }

/-! ## The Station Controllers (chapters 5 and 6) -/

/-- The notice modes, in code order (Tables PS-1 and FC-4). -/
inductive NoticeMode where
  | every | first | grouped | exception | none
  deriving DecidableEq, Repr

/-- A bay's curtain in the panel snapshot (Table PS-1). -/
inductive BayCurtain where
  | unseen | broken | clear
  deriving DecidableEq, Repr

/-- The grant of a station (Table PS-1). -/
inductive Grant where
  | absent
  | offered (k : Carousel)
  | held (k : Carousel) (view : TaskView)
  deriving DecidableEq, Repr

/-- The attention timer (Table PS-1). -/
inductive Attention where
  | stopped
  | running (deadline : Nat)
  | suspended
  deriving DecidableEq, Repr

/-- One entry of a scan queue (R103). -/
structure ScanEntry where
  reader : Reader
  label : Label
  deriving DecidableEq, Repr

/-- What the head of a scan queue waits for (R104). -/
inductive HeadWait where
  | none | conveyor | planner
  deriving DecidableEq, Repr

/-- The batch of an accumulator (Table PA-1). -/
structure Batch where
  lot : Nat
  count : Nat
  closing : Bool
  deriving DecidableEq, Repr

/-- The planning batch of a planner (Table PA-2). `whole` is the batch's whole count, which PUT-REFUSED carries (R127). -/
structure Planning where
  lot : Nat
  whole : Nat
  remainder : Nat
  parts : Nat
  planned : Nat
  deriving DecidableEq, Repr

/-- A part of a planner's wait list (Table PA-2), with the figures of its batch that a later PUT-REFUSED carries. -/
structure Part where
  car : Carousel
  carrier : Nat
  lot : Nat
  count : Nat
  whole : Nat
  planned : Nat
  deriving DecidableEq, Repr

/-- An entry of a planner's placed list (Table PA-2). -/
structure Placed where
  car : Carousel
  carrier : Nat
  lot : Nat
  deriving DecidableEq, Repr

/-- The display record (Table PS-1): the last content sent, that is, handed to the transmit queue for the panel, and the
content that waits to be sent because the queue was full. The panel's content at power-on is not known, so nothing has been
sent then. -/
structure Display where
  sent : Option Content
  waiting : Option Content
  deriving DecidableEq, Repr

/-- A Station Controller's record (Table PS-1) with its accumulator and planner (Tables PA-1 and PA-2). `reported` says
that the grant in hand has brought its one FIRST notice (R116). -/
structure Stn where
  configured : Bool
  bays : Vector (Option Carousel) 4
  putClass : Class
  mode : NoticeMode
  opened : Bool
  panelLost : Bool
  keys : Keys
  curtains : Vector BayCurtain 4
  attention : List Carousel
  ready : Vector Bool 8
  grant : Grant
  timer : Attention
  queue : List ScanEntry
  lock : Option Cond
  wait : HeadWait
  overrun : Bool
  group : List ScanItem
  reported : Bool
  message : Option Message
  display : Display
  batch : Option Batch
  planning : Option Planning
  waitList : List Part
  placed : List Placed
  roomWaiter : Bool
  deriving DecidableEq, Repr

/-- Every key up (R94). -/
def keysUp : Keys :=
  { confirm := false, short := false, batchEnd := false, clearAccept := false, clearReject := false, recount := false,
    signOn := false, signOff := false }

/-- A station after a power-on reset (R94, R119, R123). -/
def Stn.powerOn : Stn :=
  { configured := false, bays := Vector.replicate 4 none, putClass := 1, mode := .every, opened := false,
    panelLost := false, keys := keysUp, curtains := Vector.replicate 4 .unseen, attention := [],
    ready := Vector.replicate 8 false, grant := .absent, timer := .stopped, queue := [], lock := none, wait := .none,
    overrun := false, group := [], reported := false, message := none, display := { sent := none, waiting := none },
    batch := none, planning := none, waitList := [], placed := [], roomWaiter := false }

/-! ## The Transit and Lane Unit (chapter 7) -/

/-- A place of the in-transit list that is not FREE (Table TL-1). An entry keeps its order's reference, which its TRANSIT-LOST
carries (R39, R137). -/
inductive Place where
  | held (st : Station)
  | entry (order : Nat) (ref : OrderRef) (line lot week : Nat) (l : Lane) (comp : Nat) (st : Station) (deadline seq : Nat)
      (cancelled : Bool)
  deriving DecidableEq, Repr

/-- An entry of the waiting list (R138), with the order's reference (R39). -/
structure Waiting where
  handle : Nat
  seq : Nat
  ref : OrderRef
  cls : Class
  lanes : Option (List Nat)
  deriving DecidableEq, Repr

/-- The conveyor's records and the waiting list (R132, R133, R138). -/
structure Transit where
  places : Table Place
  created : Nat
  waitStations : List Station
  waiting : List Waiting
  deriving DecidableEq, Repr

/-- The lane states of Table TL-4. -/
inductive LaneState where
  | empty | seating | identifying | coupled | releaseWait | flushing | releasing | closed
  deriving DecidableEq, Repr

/-- Where a cart's identity came from (Table TL-3). -/
inductive CartSource where
  | tag | host
  deriving DecidableEq, Repr

/-- A cart record (Table TL-3). -/
structure Cart where
  id : CartId
  count : Nat
  source : CartSource
  deriving DecidableEq, Repr

/-- The order that a compartment holds: handle and arrival sequence (Table TL-2), and the reference that every notice about the
order carries (R39). -/
structure CompOrder where
  handle : Nat
  seq : Nat
  ref : OrderRef
  deriving DecidableEq, Repr

/-- A compartment (Table TL-2): its state and its order. -/
structure Comp where
  state : CompState
  order : Option CompOrder
  deriving DecidableEq, Repr

/-- A lane record (Table TL-3). The timer is the settle timer in SEATING and the tag timer in IDENTIFYING. -/
structure LaneRec where
  configured : Bool
  limit : Nat
  state : LaneState
  input : LaneInput
  controllerLost : Bool
  locked : Bool
  timer : Option Nat
  tagExpired : Bool
  cart : Option Cart
  comps : List Comp
  deriving DecidableEq, Repr

/-- A lane after a power-on reset (R141). DESIGN CHOICE (log entry 8): tag expired is clear, to which no rule gives a value. -/
def LaneRec.powerOn : LaneRec :=
  { configured := false, limit := 8, state := .empty,
    input := { contactA := false, contactB := false, button := false }, controllerLost := false, locked := false,
    timer := none, tagExpired := false, cart := none, comps := [] }

/-! ## The Audit Unit (chapter 8) -/

/-- The stages of an audit request (Table AU-1). -/
inductive Stage where
  | listed | barred | queued | inProgress
  deriving DecidableEq, Repr

/-- An audit request (Table AU-1). -/
structure AuditReq where
  car : Carousel
  carrier : Nat
  blind : Bool
  cls : Class
  source : AuditSource
  abandons : Nat
  stage : Stage
  deriving DecidableEq, Repr

/-- The idle timer of a session (Table AU-2). -/
inductive IdleTimer where
  | stopped
  | running (deadline : Nat)
  | paused (left : Nat)
  deriving DecidableEq, Repr

/-- An audit session (Table AU-2). -/
structure Session where
  carrier : Nat
  blind : Bool
  tally : List (Nat × Nat)
  unknown : Nat
  unplaced : Nat
  timer : IdleTimer
  deriving DecidableEq, Repr

/-! ## The Frame Engine (chapter 9) -/

/-- A node-map entry (R169). -/
structure Node where
  role : Role
  unit : Nat
  mirror : Bool
  deriving DecidableEq, Repr

/-- A frame of the part's own in the transmit queue (R173). -/
structure TxFrame where
  dest : Nat
  urgent : Bool
  block : Block
  payload : Payload
  deriving DecidableEq, Repr

/-- An entry of the outstanding-frame list (R174). -/
structure Outstanding where
  frame : TxFrame
  deadline : Nat
  deriving DecidableEq, Repr

/-- The Frame Engine's records (chapter 9). `kept` holds the frames that blocks keep after a full answer (R173), other
than PANEL-SHOW frames, replies, notices and the MOVE frame of a move in flight, which their blocks' own records hold.
`silence` is when the silence timer ends, in milliseconds, while it runs: 20 ms after the last frame (R166). -/
structure FrameEngine where
  ring : Ring
  silence : Option Nat
  nodes : Table Node
  groups : Vector (List Nat) 8
  queue : List TxFrame
  waiting : List Block
  kept : List TxFrame
  outstanding : List Outstanding
  damaged : Nat
  restore : List (Nat × Bool)
  restoreDeadline : Option Nat
  deriving DecidableEq, Repr

/-- What the ring output sent while the last command was carried out: a frame of the part's own as bytes, or a frame that
passed through, given by its header and kind as they left (its payload is untouched). -/
inductive OutFrame where
  | own (f : WireFrame)
  | passed (h : Hdr) (kind : Nat)
  deriving DecidableEq, Repr

/-! ## The Management Unit (chapter 10) -/

/-- The timer settings of Table MG-3, in the units given there. -/
structure Timers where
  hold0 : Nat
  hold1 : Nat
  hold2 : Nat
  hold3 : Nat
  attention : Nat
  transit : Nat
  auditIdle : Nat
  manualIdle : Nat
  settle : Nat
  tag : Nat
  latch : Nat
  round : Nat
  deriving DecidableEq, Repr

/-- The defaults of Table MG-3. -/
def Timers.powerOn : Timers :=
  { hold0 := 1200, hold1 := 3000, hold2 := 6000, hold3 := 12000, attention := 300, transit := 1200, auditIdle := 1800,
    manualIdle := 1200, settle := 20, tag := 50, latch := 30, round := 5 }

/-- A place of the reply list (R179): a reply that is ready, and whom it goes to. -/
structure Reply where
  dest : Nat
  kind : Nat
  tag : Nat
  result : Result
  content : List Byte
  deriving DecidableEq, Repr

/-- The Management Unit's records (R178). `resend` holds the notices to be offered once more, ahead of the queue (R188);
`haltedAt` is when the cell was halted, from which the time spent halted is measured (R54). -/
structure Management where
  cell : Cell
  timers : Timers
  replies : List Reply
  notices : List Notice
  resend : List Notice
  noticeSeq : Nat
  dropped : Bool
  haltedAt : Nat
  deriving DecidableEq, Repr

/-! ## Answers -/

/-- A travel plan (R37, R38); the estimate and the timeout are in tenths of a second. -/
structure Plan where
  dir : Dir
  dist : Nat
  speed : Speed
  estimate : Nat
  timeout : Nat
  deriving DecidableEq, Repr

/-- The figures of a candidate test (R34). -/
structure Candidate where
  pass : Bool
  worst : Nat
  rotation : Nat
  planned : Nat
  total : Nat
  deriving DecidableEq, Repr

/-- The answer that the last entry, offer, question or request between blocks was given. An outside command of such a row
reads it here. -/
inductive Answer where
  | none
  | granted (g : Nat)
  | taken
  | refused
  | refusedIncoming
  | returned (g : Nat)
  | room (n : Nat)
  | marked | cleared | locked | unlocked
  | applied (v : List Variance)
  | done
  | candidate (c : Candidate)
  | balance (n : Nat) (c : Candidate)
  | invalid
  | there
  | plan (p : Plan)
  | queued | full | noNode
  | withdrawn | gone | replaced
  | excluded | duplicate
  | moved | removed
  | remaining (n : Nat)
  | accepted | declined
  | trimmed (reserved : Nat)
  | charged (order line : Nat) (comp : Option (Lane × Nat))
  | substitute (r : ResId)
  | place (n : Nat)
  | discarded
  deriving DecidableEq, Repr

/-! ## The whole state -/

/-- Why a command could stop with a fault: no rule of the spec gives the part an effect that ends in one, so there is no
such reason. -/
inductive Fault where
  deriving DecidableEq, Repr

/-- Why a command could be refused by the model. -/
inductive Refusal where
  /-- Raised by `exec` alone, for a row without a meaning yet; safe. No row is without one. -/
  | notModelled (mnemonic : String)
  deriving DecidableEq, Repr

/-- The part's state. The fields `now`, `answer`, `out`, `mail` and `pending` are the model's own: the time in
milliseconds since reset, the last answer between blocks, what the ring output sent last, the reports handed from block to
block and not yet taken, oldest first, and the commands that wait to be taken. -/
structure State where
  resetLow : Bool
  clock : Bool
  strap : BitVec 6
  now : Nat
  answer : Answer
  out : List OutFrame
  fe : FrameEngine
  lots : Table Lot
  stock : Vector (Option StockCar) 8
  balance : Vector (Option Balance) 8
  book : OrderBook
  seqs : Vector Seq 8
  stations : Vector Stn 4
  transit : Transit
  lanes : Vector LaneRec 4
  requests : List AuditReq
  sessions : Vector (Option Session) 8
  mgmt : Management
  mail : List Instr
  pending : List Instr
  deriving DecidableEq, Repr

/-- Every block at its power-on values (R178), with the strap address as sampled. -/
def State.powerOn (straps : BitVec 6) : State :=
  { resetLow := false, clock := true, strap := straps, now := 0, answer := .none, out := [],
    fe := { ring := .down, silence := none, nodes := [], groups := Vector.replicate 8 [], queue := [], waiting := [],
            kept := [], outstanding := [], damaged := 0, restore := [], restoreDeadline := none },
    lots := [], stock := Vector.replicate 8 none, balance := Vector.replicate 8 none,
    book := { orders := [], pool := [], arrivals := 0, creations := 0, poolFull := false, freed := false },
    seqs := Vector.replicate 8 Seq.powerOn, stations := Vector.replicate 4 Stn.powerOn,
    transit := { places := [], created := 0, waitStations := [], waiting := [] },
    lanes := Vector.replicate 4 LaneRec.powerOn, requests := [], sessions := Vector.replicate 8 none,
    mgmt := { cell := .loading, timers := Timers.powerOn, replies := [], notices := [], resend := [], noticeSeq := 0,
              dropped := false, haltedAt := 0 },
    mail := [], pending := [] }

/-- The part right after a power-on reset with its straps left open, which read as 0 (R191). -/
def State.reset : State := State.powerOn 0

end Sys2Proof.Machine
end

