-- ==== Sys2Proof/Machine/Tables.lean ====
section
/-! DEFINITION. The operations over tables by number (State's Table) and over short lists, by structural recursion. -/

namespace Sys2Proof.Machine

/-- The entry under number `n`, if there is one. -/
def tget {α : Type} (n : Nat) : Table α → Option α
  | [] => none
  | (m, v) :: rest => if m = n then some v else tget n rest

/-- The table with `v` under number `n`, in place of what stood there. -/
def tput {α : Type} (n : Nat) (v : α) : Table α → Table α
  | [] => [(n, v)]
  | (m, w) :: rest =>
    if n < m then (n, v) :: (m, w) :: rest
    else if m = n then (n, v) :: rest
    else (m, w) :: tput n v rest

/-- The table with nothing under number `n`. -/
def tdel {α : Type} (n : Nat) : Table α → Table α
  | [] => []
  | (m, w) :: rest => if m = n then rest else (m, w) :: tdel n rest

/-- The table with the entry under number `n`, if there is one, changed by `f`. -/
def tmod {α : Type} (n : Nat) (f : α → α) : Table α → Table α
  | [] => []
  | (m, w) :: rest => if m = n then (m, f w) :: rest else (m, w) :: tmod n f rest

/-- Every entry changed by `f`. -/
def tmap {α : Type} (f : Nat → α → α) : Table α → Table α
  | [] => []
  | (m, w) :: rest => (m, f m w) :: tmap f rest

/-- The lowest number from `i` on that the table does not use. -/
def tfree {α : Type} (i : Nat) : Table α → Nat
  | [] => i
  | (m, _) :: rest => if m = i then tfree (i + 1) rest else tfree i rest

/-- The canonical form of a table: numbers strictly rising. -/
def twf {α : Type} : Table α → Bool
  | [] => true
  | [_] => true
  | (m, _) :: (n, v) :: rest => decide (m < n) && twf ((n, v) :: rest)

/-- `x` placed in a list kept in order of `le`, behind every entry it is not before. -/
def insertBy {α : Type} (before : α → α → Bool) (x : α) : List α → List α
  | [] => [x]
  | y :: rest => if before x y then x :: y :: rest else y :: insertBy before x rest

/-- The list in order of `before`, entries that neither precedes the other keeping their order. -/
def sortBy {α : Type} (before : α → α → Bool) : List α → List α
  | [] => []
  | x :: rest =>
    let sorted := sortBy before rest
    insertBy (fun a b => !before b a) x sorted

/-- The position of the first entry for which `p` holds. -/
def position {α : Type} (p : α → Bool) : List α → Option Nat
  | [] => none
  | x :: rest => if p x then some 0 else (position p rest).map (· + 1)

/-- The list without its first entry for which `p` holds. -/
def dropFirst {α : Type} (p : α → Bool) : List α → List α
  | [] => []
  | x :: rest => if p x then rest else x :: dropFirst p rest

/-- The list with its first entry for which `p` holds changed by `f`. -/
def modFirst {α : Type} (p : α → Bool) (f : α → α) : List α → List α
  | [] => []
  | x :: rest => if p x then f x :: rest else x :: modFirst p f rest

/-- The entry at position `i` changed by `f`. -/
def modAt {α : Type} (i : Nat) (f : α → α) : List α → List α
  | [] => []
  | x :: rest => match i with
    | 0 => f x :: rest
    | j + 1 => x :: modAt j f rest

end Sys2Proof.Machine
end

