-- ==== Sys2Proof/Machine/Formats.lean ====
section
/-! DEFINITION. The bytes on the ring: the frame check (R168), the frame layout and kind codes (Tables FC-1, FC-2), the
payloads of the frames the part sends (R189, Table FC-3), and the reading of the frames it takes into the commands they
stand for (R189, R190, Tables FC-2 to FC-4). -/

namespace Sys2Proof.Machine

/-! ## The frame check -/

/-- One bit through the check register, most significant bit first, polynomial x^16 + x^12 + x^5 + 1 (R168). -/
def crcBit (reg : BitVec 16) (bit : Bool) : BitVec 16 :=
  if reg.msb != bit then (reg <<< 1) ^^^ 0x1021#16 else reg <<< 1

/-- One byte through the check register (R168). -/
def crcByte (reg : BitVec 16) (b : Byte) : BitVec 16 :=
  crcBit (crcBit (crcBit (crcBit (crcBit (crcBit (crcBit (crcBit reg
    (b.getLsbD 7)) (b.getLsbD 6)) (b.getLsbD 5)) (b.getLsbD 4)) (b.getLsbD 3)) (b.getLsbD 2)) (b.getLsbD 1)) (b.getLsbD 0)

/-- The check over a run of bytes: preset to all ones, result inverted (R168). -/
def crc (bytes : List Byte) : BitVec 16 :=
  ~~~ (bytes.foldl crcByte 0xFFFF#16)

/-! ## Numbers as bytes (R189: most significant byte first) -/

/-- A number in one byte. -/
def b1 (n : Nat) : List Byte := [BitVec.ofNat 8 n]

/-- A number in two bytes. -/
def b2 (n : Nat) : List Byte := b1 (n / 256) ++ b1 n

/-- A number in three bytes. -/
def b3 (n : Nat) : List Byte := b1 (n / 65536) ++ b2 n

/-- A number in four bytes. -/
def b4 (n : Nat) : List Byte := b2 (n / 65536) ++ b2 n

/-- A number in six bytes. -/
def b6 (n : Nat) : List Byte := b2 (n / 4294967296) ++ b4 n

/-- A mark in one byte. DESIGN CHOICE (log entry 75): set, true or "yes" is 1 and clear, false or "no" is 0, also where a table
lists "set" first (the overbalance flag of Table BL-1, Struck of Table OB-4): R189 codes named values by their positions and
does not say whether a mark is one. -/
def bBool (b : Bool) : List Byte := b1 b.toNat

/-- A one-byte field that may be absent: 255 then (R189). -/
def bOpt (o : Option Nat) : List Byte := b1 (o.getD 255)

/-- A two-byte field that may be absent: 65535 then (R189). -/
def bOpt2 (o : Option Nat) : List Byte := b2 (o.getD 65535)

/-- A list field: a one-byte count and the entries back to back (R189). -/
def bList {α : Type} (f : α → List Byte) (l : List α) : List Byte := b1 l.length ++ l.flatMap f

/-- A week code: year then week (R189). -/
def bWeek (w : Week) : List Byte := b1 w.year ++ b1 w.week

/-- A label: article code then week code. -/
def bLabel (l : Label) : List Byte := b4 l.article.toNat ++ bWeek l.week

/-! ## Named values as their positions (R189) -/

/-- Result codes (Table FC-3). -/
def resultCode : Result → Nat
  | .done => 0 | .busy => 1 | .range => 2 | .state => 3 | .full => 4 | .unknown => 5 | .malformed => 6

/-- Role codes (Table FC-4, NODE-MAP-WRITE). -/
def roleCode : Role → Nat
  | .none => 0 | .drive => 1 | .panel => 2 | .openingReader => 3 | .inboundReader => 4 | .laneController => 5
  | .laneReader => 6 | .sorter => 7 | .gateway => 8 | .maint => 9

/-- The role of a role code; none for a role outside Table RG-1 (R169). -/
def roleOfCode : Nat → Option Role
  | 0 => some .none | 1 => some .drive | 2 => some .panel | 3 => some .openingReader | 4 => some .inboundReader
  | 5 => some .laneController | 6 => some .laneReader | 7 => some .sorter | 8 => some .gateway | 9 => some .maint
  | _ => none

/-- Direction (R37: FORWARD, REVERSE). -/
def dirCode : Dir → Nat
  | .forward => 0 | .reverse => 1

/-- Speed class (Table BL-1: NORMAL, SLOW). -/
def speedCode : Speed → Nat
  | .normal => 0 | .slow => 1

/-- Carousel state (Table CS-1). -/
def carStateCode : CarState → Nat
  | .unconfigured => 0 | .unknown => 1 | .idle => 2 | .moving => 3 | .stopping => 4 | .ready => 5 | .presenting => 6
  | .manual => 7 | .fault => 8 | .disabled => 9

/-- Fault cause (Table CS-1, after "absent"). -/
def causeCode : FaultCause → Nat
  | .drive => 0 | .timeout => 1 | .short => 2 | .link => 3 | .index => 4

/-- Condition of a scan entry: its position in R105's table, in which MATCH is 2. DESIGN CHOICE (log entry 66): NO-TASK, which R106
names and no list holds, is 6, behind that table. -/
def condCode : Cond → Nat
  | .unknown => 0 | .held => 1 | .overCount => 3 | .wrongLot => 4 | .wrongArticle => 5 | .noTask => 6

/-- Reader kind (R103: opening, inbound). -/
def readerCode : Reader → Nat
  | .opening => 0 | .inbound => 1

/-- Task kind (Table CS-3). -/
def taskKindCode : TaskKind → Nat
  | .pick => 0 | .put => 1 | .audit => 2

/-- Audit source (Table AU-1). -/
def sourceCode : AuditSource → Nat
  | .host => 0 | .short => 1 | .recount => 2 | .manual => 3

/-- Carrier state (11.2). -/
def carrierStateCode : CarrierState → Nat
  | .normal => 0 | .auditPending => 1 | .auditLocked => 2 | .unverified => 3 | .disabled => 4

/-- Order state (11.2). -/
def orderStateCode : OrderState → Nat
  | .opened => 0 | .picking => 1 | .complete => 2 | .cancelled => 3 | .suspended => 4

/-- Compartment state (Table TL-2). -/
def compStateCode : CompState → Nat
  | .free => 0 | .pending => 1 | .picking => 2 | .complete => 3 | .cancelled => 4

/-- Reason of a PUT-REFUSED (R127, R128, R131). DESIGN CHOICE (log entry 66): no rule gives the five reasons in one list, and the
model numbers them as the rules name them: SPLITS, NO-SPACE, HELD, EXCLUDED, CLOSED. -/
def refuseCode : RefuseReason → Nat
  | .splits => 0 | .noSpace => 1 | .held => 2 | .excluded => 3 | .closed => 4

/-- Reason of a LINE-WAITING (R60). -/
def waitCode : WaitReason → Nat
  | .noStock => 0 | .noWindow => 1 | .poolFull => 2

/-- Pick marks of the display: their positions in R99's list. DESIGN CHOICE (log entry 66): "short", with which R114 has a pick
shown and which R99 does not list, is 4, behind that list. -/
def markCode : Mark → Nat
  | .opened => 0 | .finished => 1 | .doNotPick => 2 | .substituted => 3 | .short => 4

/-- Cell state (Table MG-1). -/
def cellCode : Cell → Nat
  | .loading => 0 | .running => 1 | .halted => 2

/-- Ring state (R166: DOWN, RESTORING, UP). -/
def ringCode : Ring → Nat
  | .down => 0 | .restoring => 1 | .up => 2

/-! ## Payloads the part sends -/

/-- A lane and compartment that may be absent. -/
def bComp (o : Option (Lane × Nat)) : List Byte :=
  bOpt (o.map fun p => p.1.val) ++ bOpt (o.map fun p => p.2)

/-- A cart id that may be absent; its four-byte field has no absent value in R189, so those bytes are a free value. -/
def bCart (o : Option CartId) : List Byte := b4 (o.getD Config.absentCart).toNat

/-- The message line of a PANEL-SHOW: its position in R99, and the condition of a lock. DESIGN CHOICE (log entry 66): no message is
position 0 of R99's list and not an absent field, and the condition's byte always follows, 255 where there is no lock. -/
def bMessage : Option Message → List Byte
  | none => b1 0 ++ b1 255
  | some (.locked c) => b1 1 ++ b1 (condCode c)
  | some .rescan => b1 2 ++ b1 255
  | some .conveyorFull => b1 3 ++ b1 255
  | some .noSpace => b1 4 ++ b1 255
  | some .notAllowed => b1 5 ++ b1 255
  | some .finishScans => b1 6 ++ b1 255
  | some .doNotPick => b1 7 ++ b1 255

/-- The task view of a PANEL-SHOW (R99). DESIGN CHOICE (log entry 66): it begins with a byte that says which view follows, PICK 0,
PUT 1, AUDIT 2, the closed view 3 and the waiting view 4; R99 has the five views and no code for them. -/
def bView : ShowView → List Byte
  | .pick c rows =>
    b1 0 ++ b1 c ++ bList (fun (r : PickRow) => b4 r.article.toNat ++ bWeek r.week ++ b1 r.remaining ++ b1 (markCode r.mark)) rows
  | .put c a w n => b1 1 ++ b1 c ++ b4 a.toNat ++ bWeek w ++ b1 n
  | .audit c rows => b1 2 ++ b1 c ++ bList (fun (r : AuditRow) => b4 r.article.toNat ++ bWeek r.week ++ bOpt r.onHand) rows
  | .closed => b1 3
  | .waiting => b1 4

/-- One taken scan of a PICK-TAKEN or PUT-TAKEN notice (R107, R108). -/
def bScanItem (i : ScanItem) : List Byte :=
  b1 i.carrier ++ (match i.order with | some (h, r, l) => b1 h ++ b4 r.toNat ++ b1 l | none => []) ++ b2 i.lot ++ bLabel i.label

/-- The notice's kind, 1..22 in the order of Table MG-6 (Table FC-3). -/
def noticeCode : NoticeBody → Nat
  | .carouselFault .. => 1 | .balance .. => 2 | .manualEntered .. => 3 | .manualExited .. => 4 | .foreignCommand .. => 5
  | .pickTaken .. => 6 | .putTaken .. => 7 | .taskDone .. => 8 | .scanException .. => 9 | .putRefused .. => 10
  | .reservationExpired .. => 11 | .lineWaiting .. => 12 | .orderComplete .. => 13 | .orderDispatched .. => 14
  | .transitLost .. => 15 | .stray .. => 16 | .cartReleaseRequest .. => 17 | .cartLost .. => 18 | .cartUnread .. => 19
  | .auditResult .. => 20 | .auditDropped .. => 21 | .auditAbandoned .. => 22

/-- The CAROUSEL-FAULT group of Table MG-6; every other notice is ROUTINE. -/
def noticeFaultGroup : NoticeBody → Bool
  | .carouselFault .. | .balance .. | .manualEntered .. | .manualExited .. | .foreignCommand .. => true
  | .pickTaken .. | .putTaken .. | .taskDone .. | .scanException .. | .putRefused .. | .reservationExpired ..
  | .lineWaiting .. | .orderComplete .. | .orderDispatched .. | .transitLost .. | .stray .. | .cartReleaseRequest ..
  | .cartLost .. | .cartUnread .. | .auditResult .. | .auditDropped .. | .auditAbandoned .. => false

/-- A notice's content: the fields its raising rule gives, in that order (R189). DESIGN CHOICE (log entry 66): PICK-TAKEN and
PUT-TAKEN carry a counted list of scans in every notice mode, of one scan outside GROUPED (R116); the cause of TRANSIT-LOST is
TIMEOUT 0 or UNROUTED 1 (R134, R137); the order reference of R39 stands after each order's handle, also in TRANSIT-LOST,
CART-RELEASE-REQUEST and CART-LOST, whose rules (R137, R144, R147) name the order or its handle alone; MANUAL-EXITED gives ALL as
the single byte 255 in place of its counted list (R90); the new state in AUDIT-RESULT has its code among the carrier states (11.2),
in which UNVERIFIED is 3, and not its position in R160's "NORMAL or UNVERIFIED". -/
def bNotice : NoticeBody → List Byte
  | .carouselFault k c i l => b1 k.val ++ b1 (causeCode c) ++ bOpt i ++ b1 (carStateCode l)
  | .balance k f w r t => b1 k.val ++ bBool f ++ b3 w ++ b1 r ++ b3 t
  | .manualEntered k n i => b1 k.val ++ b1 n ++ bOpt i
  | .manualExited k idle cs all i =>
    b1 k.val ++ bBool idle ++ (if all then b1 255 else bList b1 cs) ++ bOpt i
  | .foreignCommand k src kind => b1 k.val ++ b1 src ++ b1 kind
  | .pickTaken st k items => b1 st.val ++ b1 k.val ++ bList bScanItem items
  | .putTaken st k items => b1 st.val ++ b1 k.val ++ bList bScanItem items
  | .taskDone st k c kind o => b1 st.val ++ b1 k.val ++ b1 c ++ b1 (taskKindCode kind) ++ b1 (match o with | .confirmed => 0 | .finished => 1)
  | .scanException st c l r held =>
    b1 st.val ++ b1 (condCode c) ++ bLabel l ++ b1 (readerCode r) ++
      bOpt (held.map fun h => h.1.val) ++ bOpt (held.map fun h => h.2.1) ++ bOpt (held.map fun h => taskKindCode h.2.2)
  | .putRefused st lot l w p n reason => b1 st.val ++ b2 lot ++ bLabel l ++ b1 w ++ b1 p ++ b1 n ++ b1 (refuseCode reason)
  | .reservationExpired h r l k c lot n => b1 h ++ b4 r.toNat ++ b1 l ++ b1 k.val ++ b1 c ++ b2 lot ++ b1 n
  | .lineWaiting h r l a n reason => b1 h ++ b4 r.toNat ++ b1 l ++ b4 a.toNat ++ b1 n ++ b1 (waitCode reason)
  | .orderComplete h r c => b1 h ++ b4 r.toNat ++ bComp c
  | .orderDispatched h r c cart st => b1 h ++ b4 r.toNat ++ bComp c ++ bCart cart ++ b1 (orderStateCode st)
  | .transitLost h r l lot d st u => b1 h ++ b4 r.toNat ++ b1 l ++ b2 lot ++ bComp d ++ b1 st.val ++ bBool u
  | .stray l lab => b1 l.val ++ bLabel lab
  | .cartReleaseRequest l c comps =>
    b1 l.val ++ b4 c.toNat ++ bList (fun (x : Nat × OrderRef × CompState) => b1 x.1 ++ b4 x.2.1.toNat ++ b1 (compStateCode x.2.2)) comps
  | .cartLost l c os n =>
    b1 l.val ++ b4 c.toNat ++ bList (fun (x : Nat × OrderRef) => b1 x.1 ++ b4 x.2.toNat) os ++ b1 n
  | .cartUnread l => b1 l.val
  | .auditResult k c src bl st up un v =>
    b1 k.val ++ b1 c ++ b1 (sourceCode src) ++ bBool bl ++ b1 (carrierStateCode st) ++ b1 up ++ b1 un ++
      bList (fun (x : Variance) => b2 x.lot ++ b1 x.before ++ b1 x.after ++ b1 x.released) v
  | .auditDropped k c src => b1 k.val ++ b1 c ++ b1 (sourceCode src)
  | .auditAbandoned k c src => b1 k.val ++ b1 c ++ b1 (sourceCode src)

/-- The kind code of a frame that the part sends (Table FC-2). -/
def payloadKind : Payload → Nat
  | .move .. => 1 | .halt .. => 3 | .statusQuery _ => 4 | .panelShow .. => 9 | .lock .. => 13 | .unlock .. => 14
  | .laneShow .. => 15 | .readRequest _ => 16 | .divert .. => 18 | .reply .. => 96 | .notice .. => 97

/-- HALT and the latch frames are URGENT, every other frame is NORMAL (R173). -/
def payloadUrgent : Payload → Bool
  | .halt .. | .lock .. | .unlock .. => true
  | .move .. | .statusQuery _ | .panelShow .. | .laneShow .. | .readRequest _ | .divert .. | .reply .. | .notice .. => false

/-- The payload bytes of a frame that the part sends (R189, Table FC-3). DESIGN CHOICE (log entry 66): a LANE-SHOW gives a
compartment by its number, return as 8 and reject as 9, a PANEL-SHOW gives its bay lights as the lit bay's number, or 255
when every bay is dark (R99), and a DIVERT gives the lane NONE as an absent lane, 255, and not as a fifth value (R135). -/
def payloadBytes : Payload → List Byte
  | .move d n t s => b1 (dirCode d) ++ b1 n ++ b1 t ++ b1 (speedCode s)
  | .halt _ => []
  | .statusQuery _ => []
  | .panelShow c => bOpt (c.light.map (·.val)) ++ bView c.view ++ bMessage c.message
  | .lock .. => []
  | .unlock _ p _ => b1 p
  | .laneShow _ (.compartment n) => b1 n
  | .laneShow _ .giveBack => b1 8
  | .laneShow _ .reject => b1 9
  | .readRequest _ => []
  | .divert lab l _ => bLabel lab ++ bOpt (l.map (·.val))
  | .reply k t r c => b1 k ++ b1 t ++ b1 (resultCode r) ++ c
  | .notice n _ => b2 n.seq ++ b1 (noticeCode n.body) ++ bBool (noticeFaultGroup n.body) ++ bNotice n.body

/-- The seven header bytes of a frame (Table FC-1). -/
def headerBytes (h : Hdr) (kind length : Nat) : List Byte :=
  b1 h.dest ++ b1 h.source ++ b1 kind ++ [h.flags] ++ b2 h.answer.toNat ++ b1 length

/-- A frame of the part's own as it leaves the ring output: flags and answer field clear (R174, R190). -/
def ownFrame (own : Nat) (f : TxFrame) : WireFrame :=
  let h : Hdr := { dest := f.dest, source := own, flags := 0, answer := 0 }
  let p := payloadBytes f.payload
  { hdr := h, kind := payloadKind f.payload, length := p.length, payload := p,
    check := crc (headerBytes h (payloadKind f.payload) p.length ++ p) }

/-- A frame is good when its check holds, its length field is 240 or less, and its payload is as long as that field says
(R168). -/
def frameGood (f : WireFrame) : Bool :=
  crc (headerBytes f.hdr f.kind f.length ++ f.payload) == f.check && decide (f.length ≤ 240) &&
    decide (f.payload.length = f.length)

/-! ## Reading the frames that the part takes -/

/-- Two bytes as a number. -/
def n2 (a b : Byte) : Nat := a.toNat * 256 + b.toNat

/-- Three bytes as a number. -/
def n3 (a b c : Byte) : Nat := n2 a b * 256 + c.toNat

/-- Four bytes as a 32-bit value. -/
def w4 (a b c d : Byte) : BitVec 32 := BitVec.ofNat 32 (n3 a b c * 256 + d.toNat)

/-- A one-byte mark as it is received. DESIGN CHOICE (log entry 75): 0 is clear and every other value, 2 to 255 among them, is set;
the spec neither refuses such a value nor gives it a meaning. -/
def n1b (a : Byte) : Bool := a.toNat != 0

/-- A one-byte field that may be absent (R189). -/
def n1o (a : Byte) : Option Nat := if a.toNat = 255 then none else some a.toNat

/-- The code of a motion (R67: STILL, MOVING, FAULTED). -/
def motionCode : Motion → Nat
  | .still => 0 | .moving => 1 | .faulted => 2

/-- The payload of a DRIVE-STATUS frame. -/
def statusBytes (m : Motion) (index target : Nat) : List Byte := b1 (motionCode m) ++ b1 index ++ b1 target

/-- The keys in the order of 5.2, each up or down. -/
def bKeys (k : Keys) : List Byte :=
  bBool k.confirm ++ bBool k.short ++ bBool k.batchEnd ++ bBool k.clearAccept ++ bBool k.clearReject ++ bBool k.recount ++
    bBool k.signOn ++ bBool k.signOff

/-- The payload of a PANEL-INPUT frame: the keys, then each bay's curtain, broken 0 or clear 1. -/
def panelInputBytes (i : PanelInput) : List Byte := bKeys i.keys ++ i.broken.toList.flatMap fun b => bBool (!b)

/-- The payload of a LANE-INPUT frame: the contacts, made 0 or open 1, and the release button. -/
def laneInputBytes (i : LaneInput) : List Byte := bBool (!i.contactA) ++ bBool (!i.contactB) ++ bBool i.button

/-- The payload of a TAG-READ frame. -/
def tagBytes (cart : CartId) (count : Nat) : List Byte := b4 cart.toNat ++ b1 count

/-- The motion of a motion byte. -/
def motionOfCode : Nat → Option Motion
  | 0 => some .still | 1 => some .moving | 2 => some .faulted | _ => none

/-- A frame from a field role as the command it stands for, when the role sends its kind (Table RG-1) with that kind's
length (R190); none for every other frame. DESIGN CHOICE (log entry 86): a LABEL is article code and week code, 6 bytes, as Table
RG-2 has it; R103 has it carry the reader kind too, which the model takes from the reader's role. -/
def fieldCommand (role : Role) (h : Hdr) (kind : Nat) (payload : List Byte) : Option Instr :=
  match role, kind, payload with
  | .drive, 5, [m, i, t] => (motionOfCode m.toNat).map fun m => .driveStatus h m i.toNat t.toNat
  | .panel, 10, [k0, k1, k2, k3, k4, k5, k6, k7, c0, c1, c2, c3] =>
    some (.panelRecovery h
      { keys := { confirm := n1b k0, short := n1b k1, batchEnd := n1b k2, clearAccept := n1b k3, clearReject := n1b k4,
                  recount := n1b k5, signOn := n1b k6, signOff := n1b k7 },
        broken := #v[!n1b c0, !n1b c1, !n1b c2, !n1b c3] })
  | .openingReader, 11, [a, b, c, d, y, w] =>
    some (.stationLabel h { article := w4 a b c d, week := { year := y.toNat, week := w.toNat } })
  | .inboundReader, 11, [a, b, c, d, y, w] =>
    some (.stationLabel h { article := w4 a b c d, week := { year := y.toNat, week := w.toNat } })
  | .laneController, 12, [a, b, r] =>
    some (.cartContacts h { contactA := !n1b a, contactB := !n1b b, button := n1b r })
  | .laneReader, 11, [a, b, c, d, y, w] =>
    some (.laneArrival h { article := w4 a b c d, week := { year := y.toNat, week := w.toNat } })
  | .laneReader, 17, [a, b, c, d, n] => some (.tagRead h (w4 a b c d) n.toNat)
  | _, _, _ => none

/-- A frame from a MAINT node to a drive as the command it stands for (R171). -/
def maintCommand (h : Hdr) (kind : Nat) : Instr :=
  match kind with
  | 6 => .manualClaim h
  | 7 => .access h
  | 8 => .manualRelease h
  | _ => .maintDriveFrame h kind

/-- The placements of a CARRIER-WRITE, three bytes each (Table FC-4). -/
def readPlacements : List Byte → Option (List (Nat × Nat))
  | [] => some []
  | a :: b :: n :: rest => (readPlacements rest).map ((n2 a b, n.toNat) :: ·)
  | _ => none

/-- The lines of an ORDER-ADD, six bytes each (Table FC-4). -/
def readLines : List Byte → Option (List LineReq)
  | [] => some []
  | a :: b :: c :: d :: q :: w :: rest =>
    (readLines rest).map ({ article := w4 a b c d, quantity := q.toNat, window := n1o w } :: ·)
  | _ => none

/-- The allowed-lanes byte of an ORDER-ADD (Table FC-4, R190). Bits 4..6 stand for lanes that do not exist, so that a byte
with one of them set is refused with RANGE. -/
def readLanes (b : Byte) : Option (List Nat) :=
  let bits := [0, 1, 2, 3, 4, 5, 6].filter fun i => b.getLsbD i
  if b.getLsbD 7 || b.getLsbD 4 || b.getLsbD 5 || b.getLsbD 6 then some bits else none

/-- A list body whose count byte must equal the number of entries read (R190). -/
def counted {α : Type} (n : Byte) (l : Option (List α)) : Option (List α) :=
  match l with
  | some l => if l.length = n.toNat then some l else none
  | none => none

/-- A management request's body, after its tag, as the command it stands for (Tables FC-2 and FC-4, R189). None for an
unknown kind or a length that does not suit the kind, which R179 answers MALFORMED. DESIGN CHOICE (log entry 87): of a flags byte
the bits that Table FC-4 does not name, bits 1..7 of CAROUSEL-CONFIG-WRITE and 2..7 of CARRIER-WRITE, are not read; and a
WINDOW-SET has no bounds when both its bound bytes are 255, one alone being a bound out of range. -/
def requestCommand (q : Req) (kind : Nat) (body : List Byte) : Option Instr :=
  match kind, body with
  | 64, [] => some (.cellStatus q)
  | 65, [] => some (.cellRun q)
  | 66, [] => some (.cellHalt q)
  | 67, [] => some (.cellRestart q)
  | 68, [a, r, u, m] => some (.nodeMapWrite q a.toNat r.toNat u.toNat (n1b m))
  | 69, g :: n :: rest => (counted n (some rest)).map fun l => .groupWrite q g.toNat (l.map (·.toNat))
  | 70, [k, p, s1, s0, g, r1, r0, l2, l1, l0, h2, h1, h0, f, o, np, sp] =>
    some (.carouselConfigWrite q
      { carousel := k.toNat, p := p.toNat, shelf := n2 s1 s0, gap := g.toNat, rated := n2 r1 r0, soft := n3 l2 l1 l0,
        hard := n3 h2 h1 h0, bidirectional := f.getLsbD 0, start := o.toNat, normalPitch := np.toNat, slowPitch := sp.toNat })
  | 71, [st, a, b, c, d, p, m] =>
    some (.stationConfigWrite q
      { station := st.toNat, bays := #v[n1o a, n1o b, n1o c, n1o d], putClass := p.toNat, mode := m.toNat })
  | 72, [l, c, n] => some (.laneConfigWrite q l.toNat (n1b c) n.toNat)
  | 73, [s, v1, v0] => some (.timerWrite q s.toNat (n2 v1 v0))
  | 74, [l1, l0, a, b, c, d, y, w, s1, s0, r, m] =>
    some (.lotWrite q (n2 l1 l0) (w4 a b c d) { year := y.toNat, week := w.toNat } (n2 s1 s0) r.toNat m.toNat)
  | 75, [l1, l0] => some (.lotDelete q (n2 l1 l0))
  | 76, [l1, l0] => some (.lotHold q (n2 l1 l0))
  | 77, [l1, l0] => some (.lotRelease q (n2 l1 l0))
  | 78, k :: c :: f :: n :: rest =>
    (counted n (readPlacements rest)).map fun l => .carrierWrite q k.toNat c.toNat (f.getLsbD 0) (f.getLsbD 1) l
  | 79, [k, i1, i0] => some (.recordRead q k.toNat (n2 i1 i0))
  | 80, r3 :: r2 :: r1 :: r0 :: c :: l :: n :: rest =>
    (counted n (readLines rest)).map fun ls => .orderAdd q (w4 r3 r2 r1 r0) c.toNat (readLanes l) ls
  | 81, [h] => some (.orderCancel q h.toNat)
  | 82, [h, c] => some (.orderClass q h.toNat c.toNat)
  | 83, [h] => some (.orderResume q h.toNat)
  | 84, [k] => some (.carouselEnable q k.toNat)
  | 85, [k] => some (.carouselDisable q k.toNat)
  | 86, [k, a, b] =>
    some (.windowSet q k.toNat (if a.toNat = 255 ∧ b.toNat = 255 then none else some (a.toNat, b.toNat)))
  | 87, [k, c, b, p] => some (.auditRequest q k.toNat c.toNat (n1b b) p.toNat)
  | 88, [k, c] => some (.auditCancel q k.toNat c.toNat)
  | 89, [st, a] => some (.scanClear q st.toNat a.toNat)
  | 90, [l] => some (.lanePermit q l.toNat)
  | 91, [l, a, b, c, d, n] => some (.laneAssign q l.toNat (w4 a b c d) n.toNat)
  | 92, [l] => some (.laneClose q l.toNat)
  | 93, [l] => some (.laneOpen q l.toNat)
  | _, _ => none

/-- A frame handed to the Management Unit as the command it stands for: its payload's first byte is the request tag, and a
request without one is MALFORMED with tag 0 (R190). -/
def managementCommand (h : Hdr) (kind : Nat) (payload : List Byte) : Instr :=
  match payload with
  | [] => .malformedRequest { hdr := h, tag := 0 } kind
  | t :: body =>
    (requestCommand { hdr := h, tag := t.toNat } kind body).getD (.malformedRequest { hdr := h, tag := t.toNat } kind)

end Sys2Proof.Machine
end

