-- ==== Sys2Proof/Machine/Ops.lean ====
section
/-! DEFINITION. The shared operations every block uses: reading and writing one unit's record, handing a report to another
block, answering, time, and handing a notice to the Management Unit (R187). -/

namespace Sys2Proof.Machine

/-! ## How a command is carried out -/

/-- A command is carried out whole (95_what_each_step_holds.md). While RESETN is low the part takes nothing (R191). What
the ring output sent and the last answer are those of this command alone. -/
def carry (s : State) (f : State → State) : Host.Outcome State Fault Refusal :=
  .next (if s.resetLow then s else f { s with out := [], answer := .none })

/-! ## Records by unit -/

/-- The sequencer of carousel `k`. -/
def State.seq (s : State) (k : Carousel) : Seq := s.seqs[k]

/-- The state with the sequencer of carousel `k` replaced. -/
def State.setSeq (s : State) (k : Carousel) (q : Seq) : State := { s with seqs := s.seqs.set k.val q k.isLt }

/-- The state with the sequencer of carousel `k` changed by `f`. -/
def State.modSeq (s : State) (k : Carousel) (f : Seq → Seq) : State := s.setSeq k (f (s.seq k))

/-- The controller of station `i`. -/
def State.stn (s : State) (i : Station) : Stn := s.stations[i]

/-- The state with the controller of station `i` replaced. -/
def State.setStn (s : State) (i : Station) (x : Stn) : State := { s with stations := s.stations.set i.val x i.isLt }

/-- The state with the controller of station `i` changed by `f`. -/
def State.modStn (s : State) (i : Station) (f : Stn → Stn) : State := s.setStn i (f (s.stn i))

/-- The record of lane `l`. -/
def State.lane (s : State) (l : Lane) : LaneRec := s.lanes[l]

/-- The state with the record of lane `l` replaced. -/
def State.setLane (s : State) (l : Lane) (x : LaneRec) : State := { s with lanes := s.lanes.set l.val x l.isLt }

/-- The state with the record of lane `l` changed by `f`. -/
def State.modLane (s : State) (l : Lane) (f : LaneRec → LaneRec) : State := s.setLane l (f (s.lane l))

/-- What the Stock Table Unit holds for carousel `k`; nothing while it is UNCONFIGURED (R7). -/
def State.stockCar (s : State) (k : Carousel) : Option StockCar := s.stock[k]

/-- The state with the Stock Table Unit's records of carousel `k` replaced. -/
def State.setStock (s : State) (k : Carousel) (c : Option StockCar) : State :=
  { s with stock := s.stock.set k.val c k.isLt }

/-- The balance record of carousel `k`; none while it is UNCONFIGURED (R25). -/
def State.bal (s : State) (k : Carousel) : Option Balance := s.balance[k]

/-- The state with the balance record of carousel `k` replaced. -/
def State.setBal (s : State) (k : Carousel) (b : Option Balance) : State :=
  { s with balance := s.balance.set k.val b k.isLt }

/-- The audit session of carousel `k` (Table AU-2). -/
def State.session (s : State) (k : Carousel) : Option Session := s.sessions[k]

/-- The state with the audit session of carousel `k` replaced. -/
def State.setSession (s : State) (k : Carousel) (x : Option Session) : State :=
  { s with sessions := s.sessions.set k.val x k.isLt }

/-- The state with the Frame Engine's records changed by `f`. -/
def State.modFe (s : State) (f : FrameEngine → FrameEngine) : State := { s with fe := f s.fe }

/-- The state with the Order Book's records changed by `f`. -/
def State.modBook (s : State) (f : OrderBook → OrderBook) : State := { s with book := f s.book }

/-- The state with the conveyor's records changed by `f`. -/
def State.modTransit (s : State) (f : Transit → Transit) : State := { s with transit := f s.transit }

/-- The state with the Management Unit's records changed by `f`. -/
def State.modMgmt (s : State) (f : Management → Management) : State := { s with mgmt := f s.mgmt }

/-- The lot record `n`, when it is not FREE. -/
def State.lot (s : State) (n : Nat) : Option Lot := tget n s.lots

/-- The order under handle `h`, when the handle is in use (R39). -/
def State.order (s : State) (h : Nat) : Option Order := tget h s.book.orders

/-- The order reference that a notice about the order under handle `h` carries (R39). DESIGN CHOICE (log entry 74): for a handle
that names no order, which the Order Book's own reservations and commits never do, it is a free value. -/
def State.orderRef (s : State) (h : Nat) : OrderRef :=
  ((s.order h).map (·.ref)).getD (Config.goneOrderRef h s.mgmt.noticeSeq)

/-- The reservation in pool place `n`, if one is there (R50). -/
def State.reservation (s : State) (n : Nat) : Option Reservation := tget n s.book.pool

/-- The reservation a report names, if it is still in the pool (R51). -/
def State.resOf (s : State) (r : ResId) : Option Reservation :=
  match s.reservation r.place with
  | some x => if x.seq = r.seq then some x else none
  | none => none

/-- The count that a report of a new count leaves (R73): the reported one, or the smaller one to which commits made since the
report was handed have lowered the reservation (DEDUCED, log entry 12). -/
def State.countNow (s : State) (r : ResId) (n : Nat) : Nat :=
  match s.resOf r with
  | some x => min n x.count
  | none => n

/-- The carrier count P of carousel `k`, 0 while it is UNCONFIGURED. -/
def State.carriersOf (s : State) (k : Carousel) : Nat :=
  match s.stockCar k with
  | some c => c.carriers.length
  | none => 0

/-- The carrier record of carousel `k`, carrier `c`. -/
def State.carrier (s : State) (k : Carousel) (c : Nat) : Option Carrier :=
  match s.stockCar k with
  | some x => x.carriers[c]?
  | none => none

/-! ## Reports, answers and time -/

/-- A report handed to another block, to be taken in its turn. -/
def State.post (s : State) (c : Instr) : State := { s with mail := s.mail ++ [c] }

/-- Reports handed to other blocks, in order. -/
def State.postAll (s : State) (cs : List Instr) : State := { s with mail := s.mail ++ cs }

/-- The answer to the entry, offer or question in hand. -/
def State.ans (s : State) (a : Answer) : State := { s with answer := a }

/-- An expiry is not taken before its deadline: the time is then at least the deadline. -/
def State.reach (s : State) (deadline : Nat) : State := { s with now := max s.now deadline }

/-- A configured time of `n` tenths of a second from now, as a deadline. -/
def State.after (s : State) (n : Nat) : Nat := s.now + n * Config.tenth

/-- The part's own ring address (R178). -/
def State.own (s : State) : Nat := s.strap.toNat

/-- The hold time of a class, in tenths (R54). -/
def Timers.hold (t : Timers) (cls : Class) : Nat :=
  match cls with
  | 0 => t.hold0
  | 1 => t.hold1
  | 2 => t.hold2
  | _ => t.hold3

/-! ## Notices (R187) -/

/-- The list without its last entry for which `p` holds. -/
def dropLastBy {α : Type} (p : α → Bool) (l : List α) : List α := (dropFirst p l.reverse).reverse

/-- The notice queue and the DROPPED flag when notice `n` is handed (R187). -/
def queueNotice (n : Notice) (queue : List Notice) : List Notice × Bool :=
  if queue.length < Config.notices then (queue ++ [n], false)
  else if noticeFaultGroup n.body && queue.any (fun x => !noticeFaultGroup x.body) then
    (dropLastBy (fun x => !noticeFaultGroup x.body) queue ++ [n], true)
  else (queue, true)

/-- A notice is handed to the Management Unit: it takes its sequence number and is queued or dropped (R187). -/
def handNotice (b : NoticeBody) (s : State) : State :=
  let r := queueNotice { seq := s.mgmt.noticeSeq, body := b } s.mgmt.notices
  s.modMgmt fun m => { m with notices := r.1, noticeSeq := (m.noticeSeq + 1) % 65536, dropped := m.dropped || r.2 }

/-- Several notices handed in order. -/
def handNotices (bs : List NoticeBody) (s : State) : State := bs.foldl (fun s b => handNotice b s) s

end Sys2Proof.Machine
end

