-- ==== Sys2Proof/Machine/Operands.lean ====
section
/-! DEFINITION. What the operands of commands name: units by number, nodes by role and unit (R169), frames by disposal
(R170), carriers of a window (R86), lots by label (R105). -/

namespace Sys2Proof.Machine

/-- The carousel of a number, when there is one. -/
def car? (n : Nat) : Option Carousel := if h : n < 8 then some ⟨n, h⟩ else none

/-- The station of a number, when there is one. -/
def stn? (n : Nat) : Option Station := if h : n < 4 then some ⟨n, h⟩ else none

/-- The lane of a number, when there is one. -/
def lane? (n : Nat) : Option Lane := if h : n < 4 then some ⟨n, h⟩ else none

/-- How many units a role has (Table RG-1); a role without units carries unit 0. -/
def roleUnits : Role → Nat
  | .drive => 8
  | .panel | .openingReader | .inboundReader | .laneController | .laneReader => 4
  | .none | .sorter | .gateway | .maint => 1

/-- The field roles of R169. -/
def fieldRole : Role → Bool
  | .drive | .panel | .openingReader | .inboundReader | .laneController | .laneReader | .sorter => true
  | .none | .gateway | .maint => false

/-- The frame kinds the part acts on from a node of a role (Table RG-1, by the codes of Table FC-2). -/
def roleSends (r : Role) (kind : Nat) : Bool :=
  match r with
  | .drive => kind == 5
  | .panel => kind == 10
  | .openingReader | .inboundReader => kind == 11
  | .laneController => kind == 12
  | .laneReader => kind == 11 || kind == 17
  | .sorter | .none | .gateway | .maint => false

/-- The roles whose nodes are asked for their status when a broken ring is made whole (R167). -/
def restoreRole : Role → Bool
  | .drive | .panel | .laneController => true
  | .none | .openingReader | .inboundReader | .laneReader | .sorter | .gateway | .maint => false

/-- The node-map entry of a ring address; every address not written is NONE with unit 0 and mirror clear (R169). -/
def State.node (s : State) (a : Nat) : Node := (tget a s.fe.nodes).getD { role := .none, unit := 0, mirror := false }

/-- The first address of a node map whose entry has a role and unit. -/
def findNode (role : Role) (unit : Nat) : Table Node → Option Nat
  | [] => none
  | (a, n) :: rest => if n.role = role ∧ n.unit = unit then some a else findNode role unit rest

/-- The ring address of the node of a role and unit (R169). -/
def State.nodeOf (s : State) (role : Role) (unit : Nat) : Option Nat := findNode role unit s.fe.nodes

/-- The node of the GATEWAY entry (R172). -/
def State.gateway (s : State) : Option Nat := s.nodeOf .gateway 0

/-- The ring address of a target, when the node map holds it (R173). -/
def State.address (s : State) : Target → Option Nat
  | .node r u => s.nodeOf r u
  | .group g => some (64 + g.val)
  | .addr a => some a

/-- The role and unit that a block addresses with a payload; none where the payload has no such address: the HALT of a group
and a reply, whose address the frame itself names (R169, Table RG-2). -/
def addressee (b : Block) : Payload → Option Target
  | .move .. | .statusQuery _ | .halt _ => match b with
    | .seq k => some (.node .drive k.val)
    | .station _ | .transit | .management | .engine => none
  | .panelShow _ => match b with
    | .station st => some (.node .panel st.val)
    | .seq _ | .transit | .management | .engine => none
  | .lock l _ | .unlock l _ _ | .laneShow l _ => some (.node .laneController l.val)
  | .readRequest l => some (.node .laneReader l.val)
  | .divert .. => some (.node .sorter 0)
  | .notice .. => some (.node .gateway 0)
  | .reply .. => none

/-- The ring address that a kept frame takes when it is offered again: its node is looked up anew, since only a frame in the
transmit queue keeps the destination it was built with (R169). -/
def State.addressNow (s : State) (f : TxFrame) : Option Nat :=
  match addressee f.block f.payload with
  | some t => s.address t
  | none => some f.dest

/-- How a good frame is disposed of (the rows of R170's table; `unasked` is a frame to the part from a node that may not
ask, R172). -/
inductive Disposal where
  | own
  | request
  | unasked
  | foreign (k : Carousel)
  | maint (k : Carousel)
  | field (role : Role) (unit : Nat) (mirror : Bool)
  | other
  deriving DecidableEq, Repr

/-- The row of R170's table that fits a frame first. -/
def State.disposal (s : State) (h : Hdr) (kind : Nat) : Disposal :=
  let from_ := s.node h.source
  let toward := s.node h.dest
  let drive := if toward.role = .drive then car? toward.unit else none
  if h.source = s.own then .own
  else if h.dest = s.own then
    match s.gateway with
    | none => .request
    | some g => if h.source = g then .request else .unasked
  else match drive with
    | some k =>
      if (kind = 1 ∨ kind = 2) ∧ from_.role ≠ .maint then .foreign k
      else if from_.role = .maint then .maint k
      else if roleSends from_.role kind then .field from_.role from_.unit from_.mirror
      else .other
    | none => if roleSends from_.role kind then .field from_.role from_.unit from_.mirror else .other

/-- The first lot of a lot table that holds an article code and a week code. -/
def findLot (label : Label) : Table Lot → Option (Nat × Lot)
  | [] => none
  | (n, l) :: rest => if l.article = label.article ∧ l.week = label.week then some (n, l) else findLot label rest

/-- The lot that a label names: the record that is not FREE and holds its article code and week code (R105). -/
def State.lotOf (s : State) (label : Label) : Option (Nat × Lot) := findLot label s.lots

/-- The label of a lot: its article code and week code. -/
def lotLabel (l : Lot) : Label := { article := l.article, week := l.week }

/-- The label of lot `n`; a FREE record holds article code 0 and week code year 0 week 1 (R1). -/
def State.labelOf (s : State) (n : Nat) : Label :=
  match s.lot n with
  | some l => lotLabel l
  | none => { article := 0, week := { year := 0, week := 1 } }

/-- The week index of a week code (Introduction, 1.6). -/
def weekIndex (w : Week) : Nat := w.year * 53 + w.week - 1

/-- The week index of lot `n`. -/
def State.lotWeek (s : State) (n : Nat) : Nat := weekIndex (s.labelOf n).week

/-- Whether a restricted window covers a carrier (R86): lower..upper, or round the end when lower is above upper. -/
def inWindow (w : Option (Nat × Nat)) (c : Nat) : Bool :=
  match w with
  | none => false
  | some (lo, hi) => if lo ≤ hi then decide (lo ≤ c ∧ c ≤ hi) else decide (lo ≤ c ∨ c ≤ hi)

/-- The station that a carousel is served by (R66). -/
def State.stationOf (s : State) (k : Carousel) : Option Station := (s.seq k).place.map (·.1)

/-- A station serves while it is OPEN with its panel PRESENT; a lost panel makes it CLOSED (R98). -/
def Stn.serving (x : Stn) : Bool := x.configured && x.opened && !x.panelLost

/-- The carousels, in number order. -/
def carousels : List Carousel := [0, 1, 2, 3, 4, 5, 6, 7]

/-- The stations, in number order. -/
def stationList : List Station := [0, 1, 2, 3]

/-- The lanes, in number order. -/
def laneList : List Lane := [0, 1, 2, 3]

/-- The bays, in number order. -/
def bayList : List Bay := [0, 1, 2, 3]

end Sys2Proof.Machine
end

