-- ==== Sys2Proof/Machine/Frames.lean ====
section
/-! DEFINITION. The operations of the Frame Engine (chapter 9): offering, withdrawing and sending frames, their fates, the
ring state and the restore. -/

namespace Sys2Proof.Machine

/-! ## The ring output -/

/-- A frame that passes through goes out on the ring, unless the ring is DOWN or the clock is lost (R166, R191). -/
def passFrame (h : Hdr) (kind : Nat) (s : State) : State :=
  if s.clock = true ∧ s.fe.ring ≠ .down then { s with out := s.out ++ [OutFrame.passed h kind] } else s

/-- A frame of the part's own goes out on the ring and enters the outstanding-frame list (R174). -/
def sendFrame (f : TxFrame) (s : State) : State :=
  let s1 : State := { s with out := s.out ++ [OutFrame.own (ownFrame s.own f)] }
  s1.modFe fun e => { e with outstanding := e.outstanding ++ [{ frame := f, deadline := s.now + s.mgmt.timers.round }] }

/-! ## The transmit queue (R173) -/

/-- A block joins the list of blocks that wait for the transmit queue. -/
def joinWaiting (b : Block) (s : State) : State :=
  s.modFe fun e => { e with waiting := if b ∈ e.waiting then e.waiting else e.waiting ++ [b] }

/-- A frame has left the queue: every waiting block is given a space report, and the list is emptied. -/
def spaceFreed (s : State) : State :=
  (s.postAll (s.fe.waiting.map .spaceReport)).modFe fun e => { e with waiting := [] }

/-- The queue with a frame joined to it: URGENT frames ahead of NORMAL frames, each class in the order of its offers. -/
def joinQueue (f : TxFrame) (q : List TxFrame) : List TxFrame :=
  if f.urgent then q.takeWhile (·.urgent) ++ f :: q.dropWhile (·.urgent) else q ++ [f]

/-- A block keeps its frame after a full answer (R173). -/
def keepFrame (f : TxFrame) (s : State) : State := s.modFe fun e => { e with kept := e.kept ++ [f] }

/-- A frame answered full, or pushed out, is kept by its block (R173): the MOVE of a move in flight by an IDLE carousel as its
built frame (R76), a PANEL-SHOW as the content that waits (R99), a reply and a notice at the head of their lists (R179, R188),
and every other frame, a MOVE without a move in flight among them, as it is. -/
def handBack (f : TxFrame) (s : State) : State :=
  match f.payload, f.block with
  | .move dir dist target speed, .seq k =>
    match (s.seq k).move with
    | some m => s.modSeq k fun q =>
        { q with state := .idle, move := none,
                 built := some { target := target, dir := dir, dist := dist, speed := speed, timeout := m.timeout,
                                 resent := if m.resent then some m.deadline else none } }
    | none => keepFrame f s
  | .panelShow c, .station st => s.modStn st fun x => { x with display := { x.display with waiting := some c } }
  | .reply kind tag result content, _ =>
    s.modMgmt fun m => { m with replies := { dest := f.dest, kind := kind, tag := tag, result := result, content := content } :: m.replies }
  | .notice n second, _ =>
    s.modMgmt fun m => if second then { m with resend := n :: m.resend } else { m with notices := n :: m.notices }
  | _, _ => keepFrame f s

/-- The answer to an offer (R173). -/
inductive Offer where
  | queued | full | noNode
  deriving DecidableEq, Repr

/-- A built frame is offered to the transmit queue (R173). -/
def offerFrame (f : TxFrame) (s : State) : State × Offer :=
  if s.fe.queue.length < Config.transmitFrames then
    (s.modFe fun e => { e with queue := joinQueue f e.queue }, .queued)
  else
    match s.fe.queue.getLast? with
    | some v =>
      if f.urgent && !v.urgent then
        let s := s.modFe fun e => { e with queue := joinQueue f e.queue.dropLast }
        (joinWaiting v.block (handBack v (spaceFreed s)), .queued)
      else (joinWaiting f.block s, .full)
    | none => (joinWaiting f.block s, .full)

/-- The frame of a payload to a destination. -/
def frameTo (b : Block) (dest : Nat) (p : Payload) : TxFrame :=
  { dest := dest, urgent := payloadUrgent p, block := b, payload := p }

/-- A block offers a frame to a role and unit, a group or an address; an address the node map does not hold is answered
no node and nothing is queued (R173). -/
def offer (b : Block) (t : Target) (p : Payload) (s : State) : State × Offer :=
  match s.address t with
  | none => (s, .noNode)
  | some d => offerFrame (frameTo b d p) s

/-- A built frame is offered, and kept when the queue is full. -/
def offerOrKeep (f : TxFrame) (s : State) : State :=
  let r := offerFrame f s
  if r.2 = .full then keepFrame f r.1 else r.1

/-- A frame is offered, and kept by its block when the queue is full; answers whether there was no node. -/
def sendOrKeep (b : Block) (t : Target) (p : Payload) (s : State) : State × Bool :=
  match s.address t with
  | none => (s, true)
  | some d => (offerOrKeep (frameTo b d p) s, false)

/-- On a space report a block offers the frames it kept again, in order, each to the node that the map now holds (R169, R173);
`unheard` is what it does with an answer of no node. -/
def reofferKept (b : Block) (unheard : Payload → State → State) (s : State) : State :=
  let mine := s.fe.kept.filter fun f => f.block = b
  let s := s.modFe fun e => { e with kept := e.kept.filter fun f => !(f.block = b) }
  mine.foldl (fun s f =>
    match s.addressNow f with
    | some d => offerOrKeep { f with dest := d } s
    | none => unheard f.payload s) s

/-- A block's frame of a kind, by its place in the transmit queue. -/
def isFrameOf (b : Block) (kind : Nat) (f : TxFrame) : Bool := f.block = b && payloadKind f.payload == kind

/-- A block asks for its frame to be withdrawn: true when it was still in the queue and has been removed (R173). -/
def withdrawFrame (b : Block) (kind : Nat) (s : State) : State × Bool :=
  if s.fe.queue.any (isFrameOf b kind) then
    (spaceFreed (s.modFe fun e => { e with queue := dropFirst (isFrameOf b kind) e.queue }), true)
  else (s, false)

/-- Every frame of the queue for which `p` holds is withdrawn (R173). -/
def withdrawWhere (p : TxFrame → Bool) (s : State) : State :=
  if s.fe.queue.any p then spaceFreed (s.modFe fun e => { e with queue := e.queue.filter fun f => !p f }) else s

/-- Every frame of a kind that a block still has in the queue is withdrawn (R173). -/
def withdrawFrames (b : Block) (kind : Nat) (s : State) : State := withdrawWhere (isFrameOf b kind) s

/-- A block asks for the payload of its queued frame to be replaced: true when it was still queued (R173). -/
def replacePayload (b : Block) (p : Payload) (s : State) : State × Bool :=
  if s.fe.queue.any (isFrameOf b (payloadKind p)) then
    (s.modFe fun e => { e with queue := modFirst (isFrameOf b (payloadKind p)) (fun f => { f with payload := p }) e.queue }, true)
  else (s, false)

/-- The head frame of the transmit queue may be sent: the ring is UP, the part has its clock, and the outstanding-frame
list has a free entry (R173, R191). -/
def State.maySend (s : State) : Bool :=
  s.fe.ring = .up && s.clock && decide (s.fe.outstanding.length < Config.outstandingFrames)

/-- The head frame of the transmit queue is sent when it may be (R173). -/
def sendHead (s : State) : State :=
  match s.fe.queue with
  | [] => s
  | f :: rest => if s.maySend then spaceFreed (sendFrame f (s.modFe fun e => { e with queue := rest })) else s

/-! ## Fates (R174, R175) -/

/-- The report of a frame's fate to the block that offered it (R174, R176). HALT frames other than the one that answers a
missing report, replies, LANE-SHOW and READ-REQUEST frames have no rule for their fate. -/
def fateReport (f : TxFrame) (fate : Fate) : List Instr :=
  match f.payload, f.block with
  | .move .., .seq k => [.moveReturn k fate]
  | .statusQuery n, .seq k => [.statusQueryReturn { car := k, num := n } fate]
  | .halt true, .seq k => [.haltReturn k fate]
  | .panelShow _, .station st => [.panelShowReturn st fate]
  | .lock l second, _ => [.latchReturn l true second fate]
  | .unlock l _ second, _ => [.latchReturn l false second fate]
  | .divert label l second, _ => [.divertReturn label l second fate]
  | .notice n second, _ => [.noticeFate n second fate]
  | _, _ => []

/-- The members of a group whose answer bit is clear, by position (R175). -/
def missingFrom (answer : BitVec 16) : Nat → List Nat → List Nat
  | _, [] => []
  | i, a :: rest => if answer.getLsbD i then missingFrom answer (i + 1) rest else a :: missingFrom answer (i + 1) rest

/-- A missing member is reported to the owner of its role and unit (R175). Only the sequencers have a rule for the report
(R83). DEDUCED (log entry 68): at the owner of a panel, a reader or a lane controller it changes nothing, and none is made. -/
def missingReport (s : State) (a : Nat) : List Instr :=
  let n := s.node a
  if n.role = .drive then (match car? n.unit with | some k => [.driveMissingReport k] | none => []) else []

/-- The drives of the node map that are not members of G0, which a G0 frame's report also names missing (R175). -/
def drivesOutside (s : State) (members : List Nat) : List Nat :=
  (s.fe.nodes.filter fun e => e.2.role = .drive && !(e.1 ∈ members)).map (·.1)

/-- The reports of missing members when a group frame is reported: those whose bit is clear in an intact return, and all
of them otherwise (R175). DESIGN CHOICE (log entry 78): the members are those that the group holds when the frame is reported,
also when a GROUP-WRITE has replaced them since it was sent. -/
def groupReports (s : State) (f : TxFrame) (intact : Option (BitVec 16)) : List Instr :=
  if h : 64 ≤ f.dest ∧ f.dest < 72 then
    let g : Fin 8 := ⟨f.dest - 64, by omega⟩
    let members := s.fe.groups[g]
    let missing := match intact with | some a => missingFrom a 0 members | none => members
    (missing ++ (if g = 0 then drivesOutside s members else [])).flatMap (missingReport s)
  else []

/-- One entry of the outstanding-frame list is reported to its block (R174, R175). -/
def reportEntry (f : TxFrame) (fate : Fate) (intact : Option (BitVec 16)) (s : State) : State :=
  s.postAll (groupReports s f intact ++ fateReport f fate)

/-- The round time after the last restore query's return is started when that return has been reported (R167). -/
def restoreReturned (s : State) : State :=
  if s.fe.ring = .restoring ∧ s.fe.restoreDeadline = none ∧ ¬ (s.fe.outstanding.any fun o => o.frame.block = .engine) then
    s.modFe fun e => { e with restoreDeadline := some (s.now + s.mgmt.timers.round) }
  else s

/-- Entries of the outstanding-frame list reported LOST, in order. -/
def reportLost (l : List Outstanding) (s : State) : State :=
  l.foldl (fun s o => reportEntry o.frame .lost none s) s

/-- An outstanding entry answers a destination and kind. -/
def entryIs (dest kind : Nat) (o : Outstanding) : Bool := o.frame.dest == dest && payloadKind o.frame.payload == kind

/-- The fate of an intact return: a group frame is ACCEPTED when every member's bit is set, a unicast frame when bit 0 is
(R174, R175). -/
def returnFate (s : State) (f : TxFrame) (answer : BitVec 16) : Fate :=
  if h : 64 ≤ f.dest ∧ f.dest < 72 then
    let g : Fin 8 := ⟨f.dest - 64, by omega⟩
    if missingFrom answer 0 (s.fe.groups[g]) = [] then .accepted else .refused
  else if answer.getLsbD 0 then .accepted else .refused

/-- A frame of the part's own has come back and is matched to the outstanding-frame list (R174). -/
def frameReturned (h : Hdr) (kind : Nat) (intact : Bool) (s : State) : State :=
  match s.fe.outstanding with
  | [] => s
  | o :: rest =>
    if intact then
      match position (entryIs h.dest kind) s.fe.outstanding with
      | none => s
      | some i =>
        let older := s.fe.outstanding.take i
        let later := s.fe.outstanding.drop (i + 1)
        match s.fe.outstanding[i]? with
        | none => s
        | some m =>
          let s := reportLost older (s.modFe fun e => { e with outstanding := later })
          restoreReturned (reportEntry m.frame (returnFate s m.frame h.answer) (some h.answer) s)
    else
      restoreReturned (reportEntry o.frame .damaged none (s.modFe fun e => { e with outstanding := rest }))

/-- The round deadline of the outstanding entry at position `i` passes (R174). -/
def roundExpired (i : Nat) (s : State) : State :=
  match s.fe.outstanding[i]? with
  | none => s
  | some o =>
    let s := s.reach o.deadline
    restoreReturned (reportEntry o.frame .lost none (s.modFe fun e => { e with outstanding := e.outstanding.eraseIdx i }))

/-! ## The ring state (R166, R167) -/

/-- The blocks that are handed each change of ring state. -/
def ringReports (r : Ring) : List Instr :=
  carousels.map (fun k => .ringStateReport (.seq k) r) ++ stationList.map (fun i => .ringStateReport (.station i) r) ++
    [.ringStateReport .transit r, .ringStateReport .management r]

/-- The ring state changes and every block is handed the new one. -/
def setRing (r : Ring) (s : State) : State := (s.modFe fun e => { e with ring := r }).postAll (ringReports r)

/-- The restore ends: the owners of unanswered nodes are told first, then every block that the ring is UP (R167). DESIGN CHOICE
(log entry 78): the owner is that of the role and unit that the node map gives the node when the restore ends. -/
def endRestore (s : State) : State :=
  let missing := (s.fe.restore.filter fun e => !e.2).map fun e => (s.node e.1)
  let s := s.postAll (missing.map fun n => .nodeNotAnswered n.role n.unit)
  setRing .up (s.modFe fun e => { e with restore := [], restoreDeadline := none })

/-- The nodes a restore asks, in address order (R167). -/
def restoreNodes (s : State) : List Nat := (s.fe.nodes.filter fun e => restoreRole e.2.role).map (·.1)

/-- The restore queries are sent in node-address order, ahead of every queued frame (R167). While the clock is lost the ring
output is stopped and none is sent (R191). -/
def sendQueries (s : State) : State :=
  if s.clock then s.fe.restore.foldl (fun s e => sendFrame (frameTo .engine e.1 (.statusQuery 0)) s) s else s

/-- A restore whose queries have not been sent: none is out, and the last one's return has not been reported. -/
def State.queriesWait (s : State) : Bool :=
  s.fe.ring = .restoring && s.fe.restoreDeadline.isNone && !s.fe.outstanding.any fun o => o.frame.block = .engine

/-- The restore list is made and its queries are sent; an empty list ends the restore at once (R167). -/
def startQueries (s : State) : State :=
  let asked := restoreNodes s
  let s := s.modFe fun e => { e with restore := asked.map fun a => (a, false), restoreDeadline := none }
  if asked = [] then endRestore s else sendQueries s

/-- The clock has returned: restore queries that the lost clock held back are sent. DESIGN CHOICE (log entry 67): no rule says
what becomes of a restore that begins while the ring output stands still. -/
def resumeQueries (s : State) : State := if s.queriesWait then sendQueries s else s

/-- The first good frame in DOWN puts the ring in RESTORING (R166, R167). -/
def beginRestore (s : State) : State := startQueries (setRing .restoring s)

/-- The silence timer restarts on a frame at the ring input (R166). -/
def restartSilence (s : State) : State := s.modFe fun e => { e with silence := some (s.now + Config.silence) }

/-- A good frame has arrived: the silence timer restarts, and a ring that was DOWN begins its restore (R166). -/
def goodFrame (s : State) : State :=
  let s := restartSilence s
  if s.fe.ring = .down then beginRestore s else s

/-- A node on the restore list has answered; when every node has, the ring becomes UP (R167). -/
def restoreAnswered (a : Nat) (s : State) : State :=
  if s.fe.ring = .restoring then
    let s := s.modFe fun e => { e with restore := e.restore.map fun x => if x.1 = a then (x.1, true) else x }
    if s.fe.restore.all (·.2) then endRestore s else s
  else s

/-- One round time after the last restore query's return the restore ends (R167). -/
def restoreExpired (s : State) : State :=
  if s.fe.ring = .restoring then
    match s.fe.restoreDeadline with
    | some d => endRestore (s.reach d)
    | none => s
  else s

/-- The reports that blocks make up for a frame removed by ring loss: a latch frame is taken as a failed sending (R143)
and a notice as LOST (R188). The other owners act on the ring state alone. -/
def removedReport (o : Outstanding) : List Instr :=
  match o.frame.payload with
  | .lock .. | .unlock .. | .notice .. => fateReport o.frame .lost
  | _ => []

/-- 20 ms of silence in UP or RESTORING puts the ring in DOWN; the outstanding-frame list is emptied (R166). The expiry comes no
earlier than 20 ms after the last frame; idle patterns, which no row of the table brings, put it off (log entry 4). -/
def silenceExpired (s : State) : State :=
  if s.fe.ring = .down then s
  else
    let s := s.reach (s.fe.silence.getD 0)
    let gone := s.fe.outstanding
    let s := s.modFe fun e => { e with outstanding := [], restore := [], restoreDeadline := none, silence := none }
    (setRing .down s).postAll (gone.flatMap removedReport)

/-! ## Receiving (R168, R170) -/

/-- A frame that is not good restarts the silence timer, is counted, whatever its source and whatever the ring state, and passed
on with its DAMAGED flag set; in DOWN it is dropped. A frame of the part's own is not passed on but taken as a damaged return
(R166, R168). -/
def badFrame (h : Hdr) (kind : Nat) (s : State) : State :=
  let s := (restartSilence s).modFe fun e => { e with damaged := if e.damaged < 65535 then e.damaged + 1 else 65535 }
  if h.source = s.own then frameReturned h kind false s else passFrame { h with flags := h.flags ||| 1#8 } kind s

/-- A good frame as it arrives: one whose DAMAGED flag is set already is passed on unchanged and not acted on (R168); any
other is disposed of by `act` (R170). -/
def receive (h : Hdr) (kind : Nat) (act : Disposal → State → State) (s : State) : State :=
  let s := goodFrame s
  if h.flags.getLsbD 0 then
    if h.source = s.own then frameReturned h kind false s else passFrame h kind s
  else act (s.disposal h kind) s

end Sys2Proof.Machine
end

