-- ==== Sys2Proof/Machine/Stock.lean ====
section
/-! DEFINITION. The Stock Table Unit (chapter 1): masses and room, the entries of Table ST-3, the reports of R14, the
stock parts of CAROUSEL-CONFIG-WRITE and CELL-RESTART, and the lot and carrier requests. -/

namespace Sys2Proof.Machine

/-! ## Lots, masses and lengths -/

/-- The record of lot `n`; a FREE record holds the power-on values (R1). -/
def State.lotOr (s : State) (n : Nat) : Lot :=
  (s.lot n).getD
    { article := 0, week := { year := 0, week := 1 }, width := 125, rim := 12, mass := 8, state := .held, onHand := 0,
      reserved := 0, incoming := 0 }

/-- Lot `n` is ACTIVE. -/
def State.lotActive (s : State) (n : Nat) : Bool :=
  match s.lot n with
  | some l => l.state = .active
  | none => false

/-- Lot `n` is HELD. -/
def State.lotHeld (s : State) (n : Nat) : Bool :=
  match s.lot n with
  | some l => l.state = .held
  | none => false

/-- The actual mass of a carrier's placements: on-hand times unit mass, summed (R11). -/
def State.actualMass (s : State) (ps : List Placement) : Nat := (ps.map fun p => p.onHand * (s.lotOr p.lot).mass).sum

/-- The planned mass of a carrier's placements: (on-hand + incoming) times unit mass, summed (R11). -/
def State.plannedMass (s : State) (ps : List Placement) : Nat :=
  (ps.map fun p => (p.onHand + p.incoming) * (s.lotOr p.lot).mass).sum

/-- The placement of a lot among a carrier's placements. -/
def placementOf (lot : Nat) (ps : List Placement) : Option Placement := ps.find? fun p => p.lot = lot

/-- The on-hand count of a lot among a carrier's placements. -/
def onHandOf (lot : Nat) (ps : List Placement) : Nat := ((placementOf lot ps).map (·.onHand)).getD 0

/-- The reserved count of a lot among a carrier's placements. -/
def reservedOf (lot : Nat) (ps : List Placement) : Nat := ((placementOf lot ps).map (·.reserved)).getD 0

/-- The incoming count of a lot among a carrier's placements. -/
def incomingOf (lot : Nat) (ps : List Placement) : Nat := ((placementOf lot ps).map (·.incoming)).getD 0

/-- A placement with three zero counts is removed, and the placements after it close up (R9). -/
def dropEmpty (ps : List Placement) : List Placement :=
  ps.filter fun p => !(p.onHand == 0 && p.reserved == 0 && p.incoming == 0)

/-- The placement of a lot changed by `f`, and removed when that leaves three zero counts (R9). -/
def changePlacement (lot : Nat) (f : Placement → Placement) (ps : List Placement) : List Placement :=
  (ps.map fun p => if p.lot = lot then f p else p).filter fun p =>
    !(p.lot == lot && p.onHand == 0 && p.reserved == 0 && p.incoming == 0)

/-- The lot totals when one carrier's placements change from `old` to `new` (R1, law L2). -/
def retotal (old new : List Placement) (lots : Table Lot) : Table Lot :=
  tmap (fun n l => { l with
    onHand := l.onHand + onHandOf n new - onHandOf n old,
    reserved := l.reserved + reservedOf n new - reservedOf n old,
    incoming := l.incoming + incomingOf n new - incomingOf n old }) lots

/-- The OVERLOAD mark of a carrier: its actual mass exceeds the rated load (R11). -/
def State.overloaded (s : State) (rated : Nat) (ps : List Placement) : Bool := decide (rated < s.actualMass ps)

/-! ## Changing a carrier, with the reports of R14 -/

/-- A carrier is able to take new reservations (R14). -/
def Carrier.able (c : Carrier) : Bool := c.state = .normal && !c.excluded

/-- The reports that a change of one carrier calls for, in order (R14). -/
def State.carrierReports (s : State) (k : Carousel) (c : Nat) (old new : Carrier) : List Instr :=
  (if s.actualMass old.placements = s.actualMass new.placements then []
   else [.massReport k [(c, min (s.actualMass new.placements) Config.massClamp)]]) ++
  ((new.placements.filter fun p => decide (onHandOf p.lot old.placements < p.onHand) && s.lotActive p.lot).map
    fun p => .stockRiseReport (s.labelOf p.lot).article) ++
  (if new.able && !old.able then [.eligibilityReport k c] else [])

/-- A carrier record is replaced: the lot totals follow its counts, the OVERLOAD mark is recomputed (R1, R11), and no
report is made. -/
def State.putCarrier (s : State) (k : Carousel) (c : Nat) (new : Carrier) : State :=
  match s.stockCar k, s.carrier k c with
  | some car, some old =>
    { s with lots := retotal old.placements new.placements s.lots }.setStock k
      (some { car with carriers :=
        car.carriers.set c { new with overload := s.overloaded car.rated new.placements } })
  | _, _ => s

/-- A carrier record is changed by `f` and the reports of R14 are handed out. -/
def State.changeCarrier (s : State) (k : Carousel) (c : Nat) (f : Carrier → Carrier) : State :=
  match s.carrier k c with
  | some old => (s.putCarrier k c (f old)).postAll (s.carrierReports k c old (f old))
  | none => s

/-- A carrier's placements changed by `f`, with the reports of R14. -/
def State.changePlacements (s : State) (k : Carousel) (c : Nat) (f : List Placement → List Placement) : State :=
  s.changeCarrier k c fun x => { x with placements := f x.placements }

/-! ## Which state allows what (R10) -/

/-- The carrier takes new reservations and planned puts: NORMAL with its excluded mark clear (R10). -/
def Carrier.takesNew (c : Carrier) : Bool := c.state = .normal && !c.excluded

/-- The carrier serves existing reservations and commits puts: NORMAL, AUDIT-PENDING or UNVERIFIED (R10). -/
def Carrier.serves (c : Carrier) : Bool := c.state = .normal || c.state = .auditPending || c.state = .unverified

/-! ## Room (R12) -/

/-- The pitch of a lot on a carousel: ceil((section width + gap) / 5) (R12). -/
def Lot.pitch (l : Lot) (gap : Nat) : Nat := (l.width + gap + 4) / 5

/-- The stack factor of a lot on a carrier (R12). -/
def Lot.stack (l : Lot) (doubleStack : Bool) : Nat := if doubleStack && l.width ≤ 205 && l.rim ≤ 17 then 2 else 1

/-- The length that `k` tyres of a lot occupy: ceil(k / s) × p (R12). -/
def Lot.occupied (l : Lot) (gap : Nat) (doubleStack : Bool) (k : Nat) : Nat :=
  (k + l.stack doubleStack - 1) / l.stack doubleStack * l.pitch gap

/-- The occupied length of a carrier's placements, with `n` more tyres of `lot` (R12). -/
def State.occupiedWith (s : State) (gap : Nat) (doubleStack : Bool) (lot n : Nat) (ps : List Placement) : Nat :=
  (ps.map fun p =>
    (s.lotOr p.lot).occupied gap doubleStack (p.onHand + p.incoming + if p.lot = lot then n else 0)).sum +
  (if (placementOf lot ps).isSome then 0 else (s.lotOr lot).occupied gap doubleStack n)

/-- The room test for `n` more tyres of a lot on a carrier (R12). DESIGN CHOICE (log entry 64): it fails on a carrier that does not
exist, of an UNCONFIGURED carousel or with a number of P or more. -/
def State.roomTest (s : State) (k : Carousel) (c lot n : Nat) : Bool :=
  match s.stockCar k, s.carrier k c with
  | some car, some x =>
    ((placementOf lot x.placements).isSome || decide (x.placements.length < Config.placements)) &&
    decide (onHandOf lot x.placements + incomingOf lot x.placements + n ≤ Config.placementTyres) &&
    decide (s.occupiedWith car.gap x.doubleStack lot n x.placements ≤ car.shelf) &&
    decide (s.plannedMass x.placements + n * (s.lotOr lot).mass ≤ car.rated)
  | _, _ => false

/-- The greatest `n` in 0..count for which a test passes, counting down. -/
def greatest (p : Nat → Bool) : Nat → Nat
  | 0 => 0
  | n + 1 => if p (n + 1) then n + 1 else greatest p n

/-- The room query (R12). DESIGN CHOICE (log entry 64): for a carrier that does not exist it answers 0. -/
def State.roomQuery (s : State) (k : Carousel) (c lot count : Nat) : Nat := greatest (s.roomTest k c lot) count

/-! ## Entries of the Order Book, the stations and the planner -/

/-- The count a reserve entry grants (R15). -/
def State.reserveGrant (s : State) (k : Carousel) (c lot count : Nat) : Nat :=
  match s.carrier k c with
  | some x =>
    match placementOf lot x.placements with
    | some p => if x.takesNew && s.lotActive lot then min count (p.onHand - p.reserved) else 0
    | none => 0
  | none => 0

/-- The reserve entry (R15). -/
def reserveEntry (k : Carousel) (c lot count : Nat) (s : State) : State × Nat :=
  let g := s.reserveGrant k c lot count
  if g = 0 then (s, 0)
  else (s.changePlacements k c (changePlacement lot fun p => { p with reserved := p.reserved + g }), g)

/-- The release entry (R16). -/
def releaseEntry (k : Carousel) (c lot count : Nat) (s : State) : State × Nat :=
  let g := match s.carrier k c with
    | some x => min count (reservedOf lot x.placements)
    | none => 0
  if g = 0 then (s, 0)
  else (s.changePlacements k c (changePlacement lot fun p => { p with reserved := p.reserved - g }), g)

/-- The commit-pick entry is taken (R17). -/
def State.pickTakes (s : State) (k : Carousel) (c lot : Nat) : Bool :=
  match s.carrier k c with
  | some x => x.serves && decide (1 ≤ reservedOf lot x.placements)
  | none => false

/-- The commit-pick entry (R17). -/
def commitPickEntry (k : Carousel) (c lot : Nat) (s : State) : State × Bool :=
  if s.pickTakes k c lot then
    (s.changePlacements k c
      (changePlacement lot fun p => { p with onHand := p.onHand - 1, reserved := p.reserved - 1 }), true)
  else (s, false)

/-- The commit-put entry is taken (R18). -/
def State.putTakes (s : State) (k : Carousel) (c lot : Nat) : Bool :=
  match s.carrier k c with
  | some x => x.serves && decide (1 ≤ incomingOf lot x.placements)
  | none => false

/-- The commit-put entry (R18). -/
def commitPutEntry (k : Carousel) (c lot : Nat) (s : State) : State × Bool :=
  if s.putTakes k c lot then
    (s.changePlacements k c
      (changePlacement lot fun p => { p with onHand := p.onHand + 1, incoming := p.incoming - 1 }), true)
  else (s, false)

/-- The plan-incoming entry is taken (R19). DESIGN CHOICE (log entry 46): a count of 0, which R19 does not have, is refused. -/
def State.planTakes (s : State) (k : Carousel) (c lot count : Nat) : Bool :=
  match s.carrier k c with
  | some x => decide (1 ≤ count) && x.takesNew && s.lotActive lot && s.roomTest k c lot count
  | none => false

/-- The placements of a carrier with `count` tyres booked to arrive (R19, R9). -/
def bookIncoming (lot count : Nat) (ps : List Placement) : List Placement :=
  if (placementOf lot ps).isSome then changePlacement lot (fun p => { p with incoming := p.incoming + count }) ps
  else ps ++ [{ lot := lot, onHand := 0, reserved := 0, incoming := count }]

/-- The plan-incoming entry (R19). -/
def planIncomingEntry (k : Carousel) (c lot count : Nat) (s : State) : State × Bool :=
  if s.planTakes k c lot count then (s.changePlacements k c (bookIncoming lot count), true) else (s, false)

/-- The return-incoming entry (R20). -/
def returnIncomingEntry (k : Carousel) (c lot count : Nat) (s : State) : State × Nat :=
  let g := match s.carrier k c with
    | some x => min count (incomingOf lot x.placements)
    | none => 0
  if g = 0 then (s, 0)
  else (s.changePlacements k c (changePlacement lot fun p => { p with incoming := p.incoming - g }), g)

/-! ## Audit entries -/

/-- The carrier's state is changed. -/
def State.setCarrierState (s : State) (k : Carousel) (c : Nat) (st : CarrierState) : State :=
  s.changeCarrier k c fun x => { x with state := st }

/-- The state of a carrier, when the carrier exists. -/
def State.carrierState (s : State) (k : Carousel) (c : Nat) : Option CarrierState := (s.carrier k c).map (·.state)

/-- The audit-mark entry; true when it answers marked (R21). DESIGN CHOICE (log entry 64): for a carrier that does not exist,
of an UNCONFIGURED carousel or with a number of P or more, it answers refused, as for a DISABLED one. -/
def auditMarkEntry (k : Carousel) (c : Nat) (s : State) : State × Bool :=
  match s.carrierState k c with
  | some .normal | some .unverified => (s.setCarrierState k c .auditPending, true)
  | some .auditPending | some .auditLocked => (s, true)
  | some .disabled | none => (s, false)

/-- The audit-clear entry (R21). -/
def auditClearEntry (k : Carousel) (c : Nat) (s : State) : State :=
  if s.carrierState k c = some .auditPending then s.setCarrierState k c .normal else s

/-- The answers of the audit-lock entry (R22). -/
inductive LockAnswer where
  | locked | refusedIncoming | refused
  deriving DecidableEq, Repr

/-- The audit-lock entry (R22). DESIGN CHOICE (log entry 64): for a carrier that does not exist it answers refused. -/
def auditLockEntry (k : Carousel) (c : Nat) (s : State) : State × LockAnswer :=
  match s.carrier k c with
  | some x =>
    if x.state = .auditPending then
      if x.placements.all (fun p => p.incoming == 0) then (s.setCarrierState k c .auditLocked, .locked)
      else (s, .refusedIncoming)
    else (s, .refused)
  | none => (s, .refused)

/-- The audit-unlock entry (R22), which always answers unlocked. DESIGN CHOICE (log entry 64): for a carrier that does not exist
it changes nothing. -/
def auditUnlockEntry (k : Carousel) (c : Nat) (s : State) : State :=
  if s.carrierState k c = some .auditLocked then s.setCarrierState k c .auditPending else s

/-- The count of a lot in a tally, 0 when it is not in it. -/
def tallyOf (lot : Nat) (tally : List (Nat × Nat)) : Nat := ((tally.find? fun e => e.1 = lot).map (·.2)).getD 0

/-- The on-hand count that an apply gives a placement (R23). -/
def applyTarget (tally : List (Nat × Nat)) (lot : Nat) : Nat := min (tallyOf lot tally) Config.placementTyres

/-- Steps 1 and 2 of an apply: the placements whose lots are in the tally take their counts, the others are removed
(R23). -/
def applyKept (tally : List (Nat × Nat)) (ps : List Placement) : List Placement :=
  dropEmpty (ps.map fun p => { p with onHand := applyTarget tally p.lot })

/-- Step 3 of an apply: the tallied lots that had no placement, in tally order, take free slots; answers the placements
and what found none (R23). DESIGN CHOICE (log entry 69): of a lot that a tally names twice, the later entry gives its excess alone,
and an entry with a count of 0 places nothing; R23 has counts of 1 or more, and a session tallies each lot once. An entry that
names a FREE lot, which R23 says cannot be, is placed like any other, and the lot stays FREE with no totals (log entry 69). -/
def applyNew (old : List Placement) : List (Nat × Nat) → List Placement → List Placement × Nat
  | [], ps => (ps, 0)
  | (lot, n) :: rest, ps =>
    if (placementOf lot (old ++ ps)).isSome ∨ n = 0 then
      let r := applyNew old rest ps
      (r.1, r.2 + (n - Config.placementTyres))
    else if ps.length < Config.placements then
      let r := applyNew old rest (ps ++ [{ lot := lot, onHand := min n Config.placementTyres, reserved := 0, incoming := 0 }])
      (r.1, r.2 + (n - Config.placementTyres))
    else
      let r := applyNew old rest ps
      (r.1, r.2 + n)

/-- The lots of the variance: those that had a placement, then those of the tally (R23). DESIGN CHOICE (log entry 81): the lots of
the old placements come first, in placement order, and then the tally's other lots, in tally order. -/
def varianceLots (old : List Placement) (tally : List (Nat × Nat)) : List Nat :=
  old.map (·.lot) ++ (tally.map (·.1)).filter fun lot => !(placementOf lot old).isSome

/-- The carrier as an apply leaves it (R23). -/
def applyCarrier (tally : List (Nat × Nat)) (unknown unplaced : Nat) (x : Carrier) : Carrier :=
  let r := applyNew x.placements tally (applyKept tally x.placements)
  let up := min (r.2 + unplaced) 255
  let un := min unknown 255
  { x with placements := r.1, unplaced := up, unknown := un,
           state := if up = 0 ∧ un = 0 then .normal else .unverified }

/-- The audit-apply entry is taken (R23). -/
def State.applyTakes (s : State) (k : Carousel) (c : Nat) (tally : List (Nat × Nat)) : Bool :=
  match s.carrier k c with
  | some x => x.state = .auditLocked && x.placements.all fun p => decide (p.reserved ≤ applyTarget tally p.lot)
  | none => false

/-- The audit-apply entry, with the variance it answers (R23). -/
def auditApplyEntry (k : Carousel) (c : Nat) (tally : List (Nat × Nat)) (unknown unplaced : Nat) (s : State) :
    State × Option (List Variance) :=
  match s.carrier k c with
  | some x =>
    if s.applyTakes k c tally then
      let new := applyCarrier tally unknown unplaced x
      (s.changeCarrier k c (applyCarrier tally unknown unplaced),
       some ((varianceLots x.placements tally).map fun lot =>
         { lot := lot, before := onHandOf lot x.placements, after := onHandOf lot new.placements, released := 0 }))
    else (s, none)
  | none => (s, none)

/-! ## Exclude and admit (R10) -/

/-- The exclude request: the marks of the named carriers are set. DESIGN CHOICE (log entry 64): a carrier that does not exist is
passed over. -/
def excludeEntry (k : Carousel) (cs : List Nat) (s : State) : State :=
  cs.foldl (fun s c => s.changeCarrier k c fun x => { x with excluded := true }) s

/-- The admit request: the marks of the named carriers are cleared, with the eligibility reports of R14. DESIGN CHOICE (log entry
64): a carrier that does not exist is passed over. -/
def admitEntry (k : Carousel) (cs : List Nat) (s : State) : State :=
  cs.foldl (fun s c => s.changeCarrier k c fun x => { x with excluded := false }) s

/-! ## Configuration and restart -/

/-- A carrier record as it is created (R7). -/
def newCarrier (excluded : Bool) : Carrier :=
  { state := .normal, excluded := excluded, doubleStack := false, overload := false, placements := [], unplaced := 0,
    unknown := 0 }

/-- The carriers 0..p−1 as they are created (R7). -/
def newCarriers (p : Nat) (excluded : Nat → Bool) : List Carrier := (List.range p).map fun c => newCarrier (excluded c)

/-- A carousel holds a placement. -/
def StockCar.anyPlacement (c : StockCar) : Bool := c.carriers.any fun x => !x.placements.isEmpty

/-- The stock part of a CAROUSEL-CONFIG-WRITE is taken (R7); `excluded` is what the sequencer's state requires of the
carriers that are created. -/
def configureStock (k : Carousel) (p shelf gap rated : Nat) (excluded : Nat → Bool) (s : State) : State :=
  match s.stockCar k with
  | some car =>
    if car.carriers.length = p then
      let kept := car.carriers.map (fun x => { x with overload := s.overloaded rated x.placements })
      s.setStock k (some { shelf := shelf, gap := gap, rated := rated, carriers := kept })
    else s.setStock k (some { shelf := shelf, gap := gap, rated := rated, carriers := newCarriers p excluded })
  | none => s.setStock k (some { shelf := shelf, gap := gap, rated := rated, carriers := newCarriers p excluded })

/-- A carrier's state after CELL-RESTART (R24). -/
def restartState : CarrierState → CarrierState
  | .auditPending | .auditLocked | .normal => .normal
  | .unverified => .unverified
  | .disabled => .disabled

/-- A carrier after CELL-RESTART (R24). -/
def restartCarrier (excluded overload : Bool) (x : Carrier) : Carrier :=
  { x with state := restartState x.state, excluded := excluded, overload := overload,
           placements := dropEmpty (x.placements.map fun p => { p with reserved := 0, incoming := 0 }) }

/-- The carriers of a carousel after CELL-RESTART, numbered from `i`. -/
def restartCarriers (excluded : Nat → Bool) (overload : Carrier → Bool) : Nat → List Carrier → List Carrier
  | _, [] => []
  | i, x :: rest => restartCarrier (excluded i) (overload x) x :: restartCarriers excluded overload (i + 1) rest

/-- The stock records on CELL-RESTART (R24); `excluded` gives the marks that stay. -/
def restartStock (excluded : Carousel → Nat → Bool) (s : State) : State :=
  { s with
    lots := tmap (fun _ l => { l with reserved := 0, incoming := 0 }) s.lots,
    stock := Vector.ofFn fun k => (s.stockCar k).map fun car =>
      { car with carriers :=
          restartCarriers (excluded k) (fun (x : Carrier) => s.overloaded car.rated x.placements) 0 car.carriers } }

/-! ## Lots in use (R2) -/

/-- An in-transit entry names a lot. -/
def Place.names (lot : Nat) : Place → Bool
  | .held _ => false
  | .entry _ _ _ l _ _ _ _ _ _ _ => l = lot

/-- A lot is in use (R2). -/
def State.lotInUse (s : State) (n : Nat) : Bool :=
  (match s.lot n with
   | some l => decide (0 < l.onHand) || decide (0 < l.reserved) || decide (0 < l.incoming)
   | none => false) ||
  s.transit.places.any (fun e => e.2.names n) ||
  s.stations.toList.any (fun x => x.batch.any (fun b => b.lot == n) || x.planning.any (fun b => b.lot == n)) ||
  s.sessions.toList.any (fun x => x.any fun t => t.tally.any fun e => e.1 == n)

/-! ## Lot requests -/

/-- LOT-WRITE (R3). -/
def lotWriteRequest (n : Nat) (article : Article) (week : Week) (width rim mass : Nat) (s : State) : State × Result :=
  let differs := match s.lot n with
    | some l => !(l.article = article ∧ l.week = week ∧ l.width = width ∧ l.rim = rim ∧ l.mass = mass)
    | none => true
  if ¬ (n < Config.lots ∧ week.year ≤ 99 ∧ 1 ≤ week.week ∧ week.week ≤ 53 ∧ 125 ≤ width ∧ width ≤ 395 ∧ 12 ≤ rim ∧
        rim ≤ 24 ∧ 8 ≤ mass ∧ mass ≤ 160) then (s, .range)
  else if s.lots.any (fun e => !(e.1 == n) && e.2.article == article && e.2.week == week) then (s, .state)
  else if s.lotInUse n && differs then (s, .busy)
  else
    let l := match s.lot n with
      | some l => { l with article := article, week := week, width := width, rim := rim, mass := mass }
      | none => { article := article, week := week, width := width, rim := rim, mass := mass, state := .active,
                  onHand := 0, reserved := 0, incoming := 0 }
    ({ s with lots := tput n l s.lots }, .done)

/-- LOT-DELETE (R4). -/
def lotDeleteRequest (n : Nat) (s : State) : State × Result :=
  if ¬ n < Config.lots then (s, .range)
  else match s.lot n with
    | none => (s, .state)
    | some _ => if s.lotInUse n then (s, .busy) else ({ s with lots := tdel n s.lots }, .done)

/-- LOT-HOLD (R5). -/
def lotHoldRequest (n : Nat) (s : State) : State × Result :=
  if ¬ n < Config.lots then (s, .range)
  else match s.lot n with
    | none => (s, .state)
    | some l =>
      if l.state = .held then (s, .done)
      else ({ s with lots := tput n { l with state := .held } s.lots }.post (.holdHandover n), .done)

/-- LOT-RELEASE (R6). -/
def lotReleaseRequest (n : Nat) (s : State) : State × Result :=
  if ¬ n < Config.lots then (s, .range)
  else match s.lot n with
    | none => (s, .state)
    | some l =>
      if l.state = .active then (s, .done)
      else ({ s with lots := tput n { l with state := .active } s.lots }.post (.stockRiseReport l.article), .done)

/-! ## CARRIER-WRITE -/

/-- The carrier as CARRIER-WRITE leaves it (R13). -/
def writtenCarrier (doubleStack disable : Bool) (list : List (Nat × Nat)) (x : Carrier) : Carrier :=
  { x with state := if disable then .disabled else .normal, doubleStack := doubleStack, unplaced := 0, unknown := 0,
           placements := (list.filter fun e => decide (0 < e.2)).map fun e =>
             { lot := e.1, onHand := e.2, reserved := 0, incoming := 0 } }

/-- CARRIER-WRITE (R13). -/
def carrierWriteRequest (kn c : Nat) (doubleStack disable : Bool) (list : List (Nat × Nat)) (s : State) : State × Result :=
  match car? kn with
  | none => (s, .range)
  | some k =>
    if (s.stockCar k).isSome && (s.carrier k c).isNone then (s, .range)
    else if decide (Config.placements < list.length) || list.any (fun e => !(decide (e.1 < Config.lots) && decide (e.2 ≤ Config.placementTyres))) ||
        !((list.map (·.1)).Nodup) then (s, .range)
    else match s.carrier k c with
      | none => (s, .state)
      | some x =>
        if list.any (fun e => (s.lot e.1).isNone) then (s, .state)
        else if s.mgmt.cell ≠ .loading ∧ (s.seq k).state ≠ .disabled ∧ x.state ≠ .unverified then (s, .state)
        else if x.state = .auditPending ∨ x.state = .auditLocked ∨
            x.placements.any (fun p => decide (0 < p.reserved) || decide (0 < p.incoming)) then (s, .busy)
        else (s.changeCarrier k c (writtenCarrier doubleStack disable list), .done)

end Sys2Proof.Machine
end

