-- ==== Sys2Proof/Machine/Balance.lean ====
section
/-! DEFINITION. The Balance Unit (chapter 2): the recomputation and its reports, the put-candidate test, the balance query
and travel plans. -/

namespace Sys2Proof.Machine

/-! ## The arithmetic of imbalance (R27, R28) -/

/-- The total mass T of a mass vector (R27). -/
def totalMass (m : List Nat) : Nat := m.sum

/-- The window sum S_r: the half-rotation of `h` carriers that starts at carrier `r` (R27). -/
def windowSum (m : List Nat) (h r : Nat) : Nat := ((m.drop r).take h).sum

/-- The imbalance D_r = |2 × S_r − T| (R27). -/
def imbalanceAt (m : List Nat) (h r : Nat) : Nat := ((2 * windowSum m h r : Int) - totalMass m).natAbs

/-- The worst imbalance among the half-rotations 0..n−1 (R28). -/
def worstUpTo (m : List Nat) (h : Nat) : Nat → Nat
  | 0 => 0
  | n + 1 => max (worstUpTo m h n) (imbalanceAt m h n)

/-- The worst imbalance W of a mass vector of P masses, over r in 0..H−1 (R28). -/
def worstImbalance (m : List Nat) : Nat := worstUpTo m (m.length / 2) (m.length / 2)

/-- The smallest r in 0..n−1 whose imbalance is `w`, counting from the last. -/
def firstAt (m : List Nat) (h w : Nat) : Nat → Nat
  | 0 => 0
  | n + 1 => let r := firstAt m h w n
             if n = 0 then 0 else if imbalanceAt m h r = w then r else if imbalanceAt m h n = w then n else r

/-- The worst rotation r*: the smallest r in 0..H−1 whose imbalance is W (R28). -/
def worstRotation (m : List Nat) : Nat := firstAt m (m.length / 2) (worstImbalance m) (m.length / 2)

/-! ## Recomputation (R30 to R32) -/

/-- A balance record recomputed from its mass vector (R27 to R31). -/
def Balance.recompute (b : Balance) : Balance :=
  let w := worstImbalance b.masses
  { b with total := totalMass b.masses, worst := w, rotation := worstRotation b.masses,
           speed := if w ≤ b.soft then .normal else .slow, overbalance := decide (b.hard < w) }

/-- The speed-class report and the BALANCE notice that a recomputation from `old` to `new` calls for (R30, R31). -/
def balanceReports (k : Carousel) (old new : Balance) (s : State) : State :=
  let s := if old.speed = new.speed then s else s.post (.speedClassReport k new.speed)
  if old.overbalance = new.overbalance then s
  else handNotice (.balance k new.overbalance new.worst new.rotation new.total) s

/-- A carousel's record is changed by `f` and recomputed (R32). -/
def rebalance (k : Carousel) (f : Balance → Balance) (s : State) : State :=
  match s.bal k with
  | some old =>
    let new := (f old).recompute
    balanceReports k old new (s.setBal k (some new))
  | none => s

/-- The entries of a mass report written into a mass vector (R26). DESIGN CHOICE (log entry 64): an entry that names a carrier
of P or more writes nothing. -/
def writeMasses (m : List Nat) (report : List (Nat × Nat)) : List Nat :=
  report.foldl (fun m e => m.set e.1 (min e.2 Config.massClamp)) m

/-- A mass report is taken (R26, R32). DESIGN CHOICE (log entry 64): one of an UNCONFIGURED carousel, which has no mass vector,
changes nothing. -/
def takeMasses (k : Carousel) (report : List (Nat × Nat)) (s : State) : State :=
  rebalance k (fun b => { b with masses := writeMasses b.masses report }) s

/-- A pitch time as it is held (R33). -/
def heldPitch (n : Nat) : Nat := max 1 (min n 100)

/-- The balance part of a CAROUSEL-CONFIG-WRITE is taken (R33). -/
def configureBalance (k : Carousel) (c : CarouselCfg) (s : State) : State :=
  match s.bal k with
  | some b =>
    rebalance k (fun b => { b with
      p := c.p, masses := if b.p = c.p then b.masses else List.replicate c.p 0, soft := c.soft, hard := c.hard,
      bidirectional := c.bidirectional, start := min c.start 100, normalPitch := heldPitch c.normalPitch,
      slowPitch := heldPitch c.slowPitch }) (s.setBal k (some b))
  | none =>
    s.setBal k (some {
      p := c.p, masses := List.replicate c.p 0, soft := c.soft, hard := c.hard, total := 0, worst := 0, rotation := 0,
      speed := .normal, overbalance := false, bidirectional := c.bidirectional, start := min c.start 100,
      normalPitch := heldPitch c.normalPitch, slowPitch := heldPitch c.slowPitch })

/-- The balance part of CELL-RESTART: every configured carousel is recomputed (R25, R32). -/
def restartBalance (s : State) : State := carousels.foldl (fun s k => rebalance k id s) s

/-! ## The put-candidate test (R34, R35) -/

/-- The clamped planned masses of a carousel's carriers (R34). -/
def State.plannedMasses (s : State) (k : Carousel) : List Nat :=
  match s.stockCar k with
  | some car => car.carriers.map fun x => min (s.plannedMass x.placements) Config.massClamp
  | none => []

/-- The exact planned mass of a carrier. -/
def State.plannedMassAt (s : State) (k : Carousel) (c : Nat) : Nat :=
  match s.carrier k c with
  | some x => s.plannedMass x.placements
  | none => 0

/-- The candidate test on a carousel with hard limit `hard`: carrier `c` with `added` more mass (R34). DESIGN
CHOICE (log entry 64): a carrier of P or more leaves the vector as it is, so that the test answers with W' = Wp; an added mass
outside 8..2560, which R34 does not have, is added like any other. -/
def State.candidateWith (s : State) (k : Carousel) (hard c added : Nat) : Candidate :=
  let m := s.plannedMasses k
  let m' := m.set c (min (s.plannedMassAt k c + added) Config.massClamp)
  let wp := worstImbalance m
  let w' := worstImbalance m'
  { pass := decide (w' ≤ hard) || decide (w' < wp), worst := w', rotation := worstRotation m', planned := wp,
    total := totalMass m' }

/-- The candidate test (R34); no answer for an UNCONFIGURED carousel, which has no balance record (log entry 34). -/
def State.candidateTest (s : State) (k : Carousel) (c added : Nat) : Option Candidate :=
  (s.bal k).map fun b => s.candidateWith k b.hard c added

/-- The balance query: the greatest passing count, with the figures for it, or for n = 1 when it is 0 (R35). DESIGN CHOICE (log
entry 64): a query with a count of 0, which R35 does not have, answers 0 with the figures of n = 1, and these may be marked as
passing; a unit mass outside 8..160, which R35 does not have either, is taken like any other, and the greatest passing count is
then answered also where the passing counts have a gap. -/
def State.balanceQuery (s : State) (k : Carousel) (c mass count : Nat) : Option (Nat × Candidate) :=
  (s.bal k).map fun b =>
    let n := greatest (fun n => (s.candidateWith k b.hard c (n * mass)).pass) count
    (n, s.candidateWith k b.hard c (max n 1 * mass))

/-! ## Travel plans (R37, R38) -/

/-- The answers of a travel plan request (R37). -/
inductive Travel where
  | invalid
  | there
  | plan (p : Plan)
  deriving DecidableEq, Repr

/-- The pitch time of a speed class. -/
def Balance.pitch (b : Balance) : Speed → Nat
  | .normal => b.normalPitch
  | .slow => b.slowPitch

/-- The estimate E of a move of `d` carriers, in tenths (R38). -/
def Balance.estimate (b : Balance) (d : Nat) : Nat := min (b.start + d * b.pitch b.speed) Config.estimateCap

/-- A travel plan from carrier `i` to carrier `t` on a balance record (R37, R38). -/
def Balance.travel (b : Balance) (i t : Nat) : Travel :=
  if b.p ≤ i ∨ b.p ≤ t then .invalid
  else
    let f := (t + b.p - i) % b.p
    let r := (i + b.p - t) % b.p
    let dir : Dir := if b.bidirectional && decide (r < f) then .reverse else .forward
    let d := if b.bidirectional then min f r else f
    if d = 0 then .there
    else
      let e := b.estimate d
      .plan { dir := dir, dist := d, speed := b.speed, estimate := e, timeout := 2 * e + 50 }

/-- A travel plan request (R37); an UNCONFIGURED carousel has no carriers, so that every index is invalid. -/
def State.travelPlan (s : State) (k : Carousel) (i t : Nat) : Travel :=
  match s.bal k with
  | some b => b.travel i t
  | none => .invalid

end Sys2Proof.Machine
end

