-- ==== Sys2Proof/Machine/Flags.lean ====
section
/-! DEFINITION. The derived values: a line's need and state (R40), whether a reservation is live or expires (R50), and an
order's lines. The part holds none of these; each follows from the records at every moment. -/

namespace Sys2Proof.Machine

/-- The states of a line (Table OB-2). -/
inductive LineState where
  | waiting | partly | covered | delivered
  deriving DecidableEq, Repr

/-- A line's need: quantity − delivered − in transit − reserved (R40). -/
def Line.need (l : Line) : Nat := l.quantity - l.delivered - l.inTransit - l.reserved

/-- A line's state (R40). -/
def Line.state (l : Line) : LineState :=
  if l.delivered = l.quantity then .delivered
  else if l.need = 0 then .covered
  else if 0 < l.reserved + l.inTransit then .partly
  else .waiting

/-- The code of a line state (Table OB-2: WAITING, PARTIAL, COVERED, DELIVERED). -/
def lineStateCode : LineState → Nat
  | .waiting => 0 | .partly => 1 | .covered => 2 | .delivered => 3

/-- The waiting-reported mark is clear outside WAITING: it is cleared when the line leaves that state (R60). -/
def Line.settled (l : Line) : Line := if l.state = .waiting then l else { l with waitingReported := false }

/-- A reservation is live while its struck mark is clear (R50). -/
def Reservation.live (r : Reservation) : Bool := !r.struck

/-- Every line of an order is DELIVERED. -/
def Order.allDelivered (o : Order) : Bool := o.lines.all fun l => l.state = .delivered

/-- The line numbers of an order. -/
def Order.lineNumbers (o : Order) : List Nat := List.range o.lines.length

end Sys2Proof.Machine
end

