-- ==== Sys2Proof/Machine/Orders.lean ====
section
/-! DEFINITION. The operations of the Order Book (chapter 3): lines and their resolution, the reservation pool and its one
release, and the reports and requests of the other blocks. -/

namespace Sys2Proof.Machine

/-! ## Records -/

/-- The order under a handle replaced. -/
def State.setOrder (s : State) (h : Nat) (o : Order) : State := s.modBook fun b => { b with orders := tput h o b.orders }

/-- The order under a handle changed by `f`. -/
def State.modOrder (s : State) (h : Nat) (f : Order → Order) : State :=
  s.modBook fun b => { b with orders := tmod h f b.orders }

/-- Line `i` of an order. -/
def State.line (s : State) (h i : Nat) : Option Line :=
  match s.order h with
  | some o => o.lines[i]?
  | none => none

/-- Line `i` of an order changed by `f`; its waiting-reported mark falls when it leaves WAITING (R60). -/
def State.modLine (s : State) (h i : Nat) (f : Line → Line) : State :=
  s.modOrder h fun o => { o with lines := modAt i (fun l => (f l).settled) o.lines }

/-- The reservation in a pool place replaced. -/
def State.setRes (s : State) (p : Nat) (r : Reservation) : State := s.modBook fun b => { b with pool := tput p r b.pool }

/-- The name of a reservation in a pool place. -/
def resId (p : Nat) (r : Reservation) : ResId := { place := p, seq := r.seq }

/-- The week index at which a reservation's line is held: its lot's (R58). -/
def State.resWeek (s : State) (r : Reservation) : Nat := s.lotWeek r.lot

/-- The reservations of a line, by pool place. -/
def State.lineRes (s : State) (h i : Nat) : Table Reservation :=
  s.book.pool.filter fun e => e.2.order == h && e.2.line == i

/-- A struck reservation of an order remains in the pool. -/
def State.struckLeft (s : State) (h : Nat) : Bool := s.book.pool.any fun e => e.2.order == h && e.2.struck

/-! ## Leaving the table and the pool -/

/-- An order leaves the table, at once or, while a struck reservation of it remains in the pool, when that reservation
leaves (R43). -/
def leaveTable (h : Nat) (s : State) : State :=
  if s.struckLeft h then s.modOrder h fun o => { o with leaving := true }
  else s.modBook fun b => { b with orders := tdel h b.orders }

/-- A reservation's place becomes free, and an order that waited for it leaves the table (R43). -/
def vacate (p h : Nat) (s : State) : State :=
  let s := s.modBook fun b => { b with pool := tdel p b.pool }
  match s.order h with
  | some o => if o.leaving then leaveTable h s else s
  | none => s

/-- A reservation leaves the pool; while the pool-full mark is set the mark is cleared and a pass is due (R56). -/
def leavePool (p h : Nat) (s : State) : State :=
  vacate p h (s.modBook fun b => { b with poolFull := false, freed := b.freed || b.poolFull })

/-! ## The one release (R52) -/

/-- What a reservation's sequencer is told when it leaves the pool: a PRESENTED pick is struck, every other is dropped. A
substitution's reservation stands in no task, so no sequencer is told of it (R64). A strike carries why tyres were released. -/
def leaveReport (why : Cause) (p : Nat) (r : Reservation) : List Instr :=
  if r.substitute then []
  else match r.state with
    | .presented => [.pickStruck r.car ⟨resId p r, why⟩]
    | .held | .queued => [.pickDrop r.car (resId p r)]

/-- A release of `n` tyres of the reservation in place `p` (R52); answers the count released. The reports to its sequencer carry
why, so that the station can show a pick that its own ACCEPT or SHORT strikes as such (R111, R114). -/
def releaseRes (why : Cause) (p n : Nat) (s : State) : State × Nat :=
  match s.reservation p with
  | none => (s, 0)
  | some r =>
    let e := releaseEntry r.car r.carrier r.lot n s
    let g := e.2
    let s := e.1.modLine r.order r.line fun l => { l with reserved := l.reserved - g }
    if r.count - g = 0 then (leavePool p r.order (s.postAll (leaveReport why p r)), g)
    else if n = r.count then
      let s := s.setRes p { r with count := r.count - g, struck := true, expiry := none }
      (if r.substitute then s else s.post (.pickStruck r.car ⟨resId p r, why⟩), g)
    else
      let s := s.setRes p { r with count := r.count - g }
      (if r.substitute then s else s.post (.pickNewCount r.car (resId p r) ⟨r.count - g, why⟩), g)

/-- A reservation is released whole, unless it is struck (R52); answers the count released. -/
def releaseWhole (p : Nat) (s : State) : State × Nat :=
  match s.reservation p with
  | some r => if r.live then releaseRes .other p r.count s else (s, 0)
  | none => (s, 0)

/-- Several reservations released whole, in order of place. -/
def releaseAll (ps : List Nat) (s : State) : State := ps.foldl (fun s p => (releaseWhole p s).1) s

/-- The pool places of the live reservations for which `f` holds. -/
def State.livePlaces (s : State) (f : Reservation → Bool) : List Nat :=
  (s.book.pool.filter fun e => e.2.live && f e.2).map (·.1)

/-- The lines of the live reservations for which `f` holds. -/
def State.liveLines (s : State) (f : Reservation → Bool) : List (Nat × Nat) :=
  (s.book.pool.filter fun e => e.2.live && f e.2).map fun e => (e.2.order, e.2.line)

/-! ## Reading the stock (R57, R59) -/

/-- A placement that can serve a line, with its free count (R57). -/
structure Free where
  car : Carousel
  carrier : Nat
  count : Nat
  deriving DecidableEq, Repr

/-- The free counts of a lot on one carousel's carriers, numbered from `i`, one carrier left out (R57). -/
def freeOn (k : Carousel) (lot : Nat) (skip : Option (Carousel × Nat)) : Nat → List Carrier → List Free
  | _, [] => []
  | i, x :: rest =>
    let here : List Free := match placementOf lot x.placements with
      | some p => if x.takesNew && !(skip == some (k, i)) then [{ car := k, carrier := i, count := p.onHand - p.reserved }] else []
      | none => []
    here ++ freeOn k lot skip (i + 1) rest

/-- The placements of a lot that can serve a line, in order of carousel and carrier, less the avoided carousel and the
shorted carrier (R57). -/
def State.freePlacements (s : State) (lot : Nat) (avoid : Option Carousel) (skip : Option (Carousel × Nat)) : List Free :=
  carousels.flatMap fun k =>
    if avoid = some k then [] else match s.stockCar k with
      | some car => freeOn k lot skip 0 car.carriers
      | none => []

/-- The available count of a lot (R57). -/
def State.available (s : State) (lot : Nat) (avoid : Option Carousel) (skip : Option (Carousel × Nat)) : Nat :=
  ((s.freePlacements lot avoid skip).map (·.count)).sum

/-- The placements of a lot in the order in which they are asked: shortest task queue first, then carousel, then carrier
(R59). -/
def State.askOrder (s : State) (lot : Nat) (avoid : Option Carousel) (skip : Option (Carousel × Nat)) : List Free :=
  sortBy (fun a b => decide ((s.seq a.car).queue.length < (s.seq b.car).queue.length)) (s.freePlacements lot avoid skip)

/-- A candidate lot of a line with its week index and available count (R57). -/
structure CandLot where
  lot : Nat
  week : Nat
  avail : Nat
  deriving DecidableEq, Repr

/-- The candidate lots of an article, oldest first by week index and then lot number (R57, R58). -/
def State.candidates (s : State) (article : Article) (avoid : Option Carousel) (skip : Option (Carousel × Nat)) : List CandLot :=
  sortBy (fun a b => decide (a.week < b.week))
    ((s.lots.filter fun e => e.2.article = article && e.2.state = .active).map fun e =>
      { lot := e.1, week := weekIndex e.2.week, avail := s.available e.1 avoid skip })

/-- The week indices that bind a line's window: its taken list and the lots of its reservations (R58). -/
def State.boundWeeks (s : State) (h i : Nat) (l : Line) : List Nat :=
  l.taken ++ (s.lineRes h i).map fun e => s.resWeek e.2

/-- The lots of a candidate list whose week index lies in x..x + w. -/
def spanLots (x w : Nat) (cs : List CandLot) : List CandLot := cs.filter fun c => decide (x ≤ c.week ∧ c.week ≤ x + w)

/-- A candidate lot is a feasible anchor (R58 step 2). -/
def feasibleAnchor (bound : List Nat) (w need : Nat) (cs : List CandLot) (a : CandLot) : Bool :=
  bound.all (fun b => decide (a.week ≤ b ∧ b ≤ a.week + w)) &&
    decide (need ≤ ((spanLots a.week w cs).map (·.avail)).sum)

/-- The selection of R58: the lots to ask in order, or none when it would reserve nothing. -/
def selectLots (window : Option Nat) (bound : List Nat) (need : Nat) (cs : List CandLot) : Option (List Nat) :=
  match window with
  | none => if cs.any (fun c => decide (0 < c.avail)) then some (cs.map (·.lot)) else none
  | some w => (cs.find? (feasibleAnchor bound w need cs)).map fun a => (spanLots a.week w cs).map (·.lot)

/-! ## Asking for tyres (R59) -/

/-- The live reservation of a line on a placement (R59). DESIGN CHOICE (log entry 65): one made by a substitution is met like
any other, so that a resolution enlarges it (R59) and hands its sequencer the new count, which finds no pick of it (R64). -/
def findLive (h i : Nat) (k : Carousel) (c lot : Nat) : Table Reservation → Option (Nat × Reservation)
  | [] => none
  | (p, r) :: rest =>
    if r.order = h ∧ r.line = i ∧ r.car = k ∧ r.carrier = c ∧ r.lot = lot ∧ r.struck = false then some (p, r)
    else findLive h i k c lot rest

/-- How far a resolution has come: the state, the need that remains, what it has added by pool place, and whether it has
stopped on a full pool. -/
structure Asking where
  s : State
  need : Nat
  added : List (Nat × Nat)
  stopped : Bool

/-- The expiry time of a reservation of an order: now plus the hold time of its class (R54). -/
def State.holdExpiry (s : State) (h : Nat) : Nat :=
  s.after (s.mgmt.timers.hold (((s.order h).map (·.cls)).getD 0))

/-- A new reservation is created HELD, with the next creation sequence, and handed to its sequencer with its order (known by its
arrival sequence) and the order's class (R59, R72). DESIGN CHOICE (log
entry 65): it takes the lowest-numbered free place of the pool. -/
def createRes (h i : Nat) (k : Carousel) (c lot g : Nat) (s : State) : State × Nat :=
  let p := tfree 0 s.book.pool
  let r : Reservation :=
    { order := h, line := i, car := k, carrier := c, lot := lot, count := g, state := .held, struck := false,
      expiry := some (s.holdExpiry h), seq := s.book.creations, substitute := false }
  let cls := ((s.order h).map (·.cls)).getD 0
  let arrival := ((s.order h).map (·.seq)).getD 0
  (((s.setRes p r).modBook fun b => { b with creations := b.creations + 1 }).post
    (.newReservation k (resId p r) c g ⟨arrival, cls⟩), p)

/-- A reservation is enlarged by `g`; it takes a fresh expiry time unless it is PRESENTED, and its sequencer is handed the new
count (R59). DESIGN CHOICE (log entry 65): so does one made by a substitution. -/
def enlargeRes (p : Nat) (r : Reservation) (g : Nat) (s : State) : State :=
  let e := if r.state = .presented then none else some (s.holdExpiry r.order)
  (s.setRes p { r with count := r.count + g, expiry := e }).post (.pickNewCount r.car (resId p r) ⟨r.count + g, .other⟩)

/-- One placement is asked for the smaller of its free count and the need that remains (R59, R56). -/
def askPlacement (h i lot : Nat) (a : Asking) (f : Free) : Asking :=
  if a.stopped || a.need == 0 || f.count == 0 then a
  else
    let mine := findLive h i f.car f.carrier lot a.s.book.pool
    if mine.isNone && decide (Config.poolPlaces ≤ a.s.book.pool.length) then { a with stopped := true }
    else
      let e := reserveEntry f.car f.carrier lot (min f.count a.need) a.s
      let g := e.2
      if g = 0 then { a with s := e.1 }
      else
        let s := e.1.modLine h i fun l => { l with reserved := l.reserved + g }
        match mine with
        | some (p, r) => { s := enlargeRes p r g s, need := a.need - g, added := (p, g) :: a.added, stopped := false }
        | none =>
          let c := createRes h i f.car f.carrier lot g s
          { s := c.1, need := a.need - g, added := (c.2, g) :: a.added, stopped := false }

/-- The lots of a selection are asked in order (R58, R59). -/
def askLots (h i : Nat) (avoid : Option Carousel) (skip : Option (Carousel × Nat)) (lots : List Nat) (a : Asking) : Asking :=
  lots.foldl (fun a lot => (a.s.askOrder lot avoid skip).foldl (askPlacement h i lot) a) a

/-- What a resolution added to a reservation is given back; such releases start no pass (R58 step 4, R56). DESIGN CHOICE (log
entry 65): a reservation that was enlarged and is cut back keeps the expiry time that the enlargement gave it (R59). -/
def giveBackOne (p g : Nat) (s : State) : State :=
  match s.reservation p with
  | none => s
  | some r =>
    let e := releaseEntry r.car r.carrier r.lot g s
    let s := e.1.modLine r.order r.line fun l => { l with reserved := l.reserved - e.2 }
    if r.count - e.2 = 0 then vacate p r.order (s.postAll (leaveReport .other p r))
    else (s.setRes p { r with count := r.count - e.2 }).post (.pickNewCount r.car (resId p r) ⟨r.count - e.2, .other⟩)

/-- Everything that a resolution added is given back, the last first. -/
def giveBack (added : List (Nat × Nat)) (s : State) : State := added.foldl (fun s e => giveBackOne e.1 e.2 s) s

/-- How a line's resolution ends: whether the pass stops on a full pool, and the reason with which a line left WAITING is
reported (R60). -/
structure Resolved where
  s : State
  stopped : Bool
  reason : WaitReason

/-- The lots of a selection are asked, and a window's grants are given back when they fall short: the line then ends as it
began, its waiting-reported mark included (R56, R58, R60). -/
def takeLots (h i : Nat) (l : Line) (avoid : Option Carousel) (skip : Option (Carousel × Nat)) (lots : List Nat) (s : State) :
    Resolved :=
  let a := askLots h i avoid skip lots { s := s, need := l.need, added := [], stopped := false }
  let short := l.window.isSome && decide (0 < a.need)
  let s := if short then (giveBack a.added a.s).modLine h i fun x => { x with waitingReported := l.waitingReported } else a.s
  if a.stopped then { s := s.modBook (fun b => { b with poolFull := true }), stopped := true, reason := .poolFull }
  else { s := s, stopped := false, reason := if l.window.isSome then .noWindow else .noStock }

/-- One selection for a line: none when it would reserve nothing (R58). -/
def State.selection (s : State) (h i : Nat) (l : Line) (avoid : Option Carousel) (skip : Option (Carousel × Nat)) :
    Option (List Nat) :=
  selectLots l.window (s.boundWeeks h i l) l.need (s.candidates l.article avoid skip)

/-- Why a line is left with nothing when no selection reserves anything (R60). -/
def State.emptyReason (s : State) (l : Line) (skip : Option (Carousel × Nat)) : WaitReason :=
  if l.window.isSome && (s.candidates l.article none skip).any (fun c => decide (0 < c.avail)) then .noWindow else .noStock

/-- One line is resolved (R57, R58): without its avoid carousel first, and with it, its mark cleared, when that would
reserve nothing. -/
def resolveLine (h i : Nat) (l : Line) (skip : Option (Carousel × Nat)) (s : State) : Resolved :=
  match s.selection h i l l.avoid skip with
  | some lots => takeLots h i l l.avoid skip lots s
  | none =>
    match l.avoid with
    | none => { s := s, stopped := false, reason := s.emptyReason l skip }
    | some _ =>
      let s := s.modLine h i fun l => { l with avoid := none }
      match s.selection h i l none skip with
      | some lots => takeLots h i l none skip lots s
      | none => { s := s, stopped := false, reason := s.emptyReason l skip }

/-! ## Passes (R55, R56, R60) -/

/-- A line left WAITING in a PICKING order is reported once (R60). -/
def reportWaiting (h i : Nat) (reason : WaitReason) (s : State) : State :=
  match s.order h, s.line h i with
  | some o, some l =>
    if o.state = .picking ∧ l.state = .waiting ∧ l.waitingReported = false then
      handNotice (.lineWaiting h o.ref i l.article l.need reason) (s.modLine h i fun l => { l with waitingReported := true })
    else s
  | _, _ => s

/-- A line in a pass: passed over unless its order is PICKING and its need is above 0 (R55); after a stop only reported
(R60). -/
def passLine (skip : Option (Carousel × Nat)) (a : State × Bool) (x : Nat × Nat) : State × Bool :=
  let s := a.1
  match s.order x.1, s.line x.1 x.2 with
  | some o, some l =>
    if o.state = .picking ∧ 0 < l.need then
      if a.2 then (reportWaiting x.1 x.2 .poolFull s, true)
      else
        let r := resolveLine x.1 x.2 l skip s
        (reportWaiting x.1 x.2 r.reason r.s, r.stopped)
    else a
  | _, _ => a

/-- The key by which the lines of a pass are ordered: class, arrival sequence, line number (R55). -/
def State.passKey (s : State) (x : Nat × Nat) : Nat × Nat × Nat :=
  match s.order x.1 with
  | some o => (o.cls, o.seq, x.2)
  | none => (0, 0, x.2)

/-- One pass key stands before another. -/
def keyBefore (a b : Nat × Nat × Nat) : Bool :=
  decide (a.1 < b.1 ∨ (a.1 = b.1 ∧ (a.2.1 < b.2.1 ∨ (a.2.1 = b.2.1 ∧ a.2.2 < b.2.2))))

/-- A resolution pass over a set of lines (R55). -/
def resolvePass (lines : List (Nat × Nat)) (skip : Option (Carousel × Nat)) (s : State) : State :=
  ((sortBy (fun a b => keyBefore (s.passKey a) (s.passKey b)) lines.dedup).foldl (passLine skip) (s, false)).1

/-- Every line of the order table for which `f` holds. -/
def State.linesWhere (s : State) (f : Line → Bool) : List (Nat × Nat) :=
  s.book.orders.flatMap fun e => (e.2.lineNumbers.filter fun i => (e.2.lines[i]?).any f).map fun i => (e.1, i)

/-- The pass that is due when a reservation has left the pool while the pool-full mark was set (R56). -/
def finishPool (s : State) : State :=
  if s.book.freed then
    resolvePass (s.linesWhere fun l => decide (0 < l.need)) none (s.modBook fun b => { b with freed := false })
  else s

/-- A pass for the lines of released reservations, and the pass of R56 when one is due. -/
def passAfter (lines : List (Nat × Nat)) (skip : Option (Carousel × Nat)) (s : State) : State :=
  finishPool (resolvePass lines skip s)

/-- Every live reservation for which `f` holds is released whole, and the lines resolve in one pass (R61). -/
def releaseWhere (f : Reservation → Bool) (s : State) : State :=
  passAfter (s.liveLines f) none (releaseAll (s.livePlaces f) s)

/-! ## Requests -/

/-- The Transit and Lane Unit is told that an order waits for a compartment (R41, R45, R46). -/
def postWaiting (h : Nat) (s : State) : State :=
  match s.order h with
  | some o => s.post (.waitingReport ⟨h, o.ref⟩ o.seq o.cls o.lanes)
  | none => s

/-- A line as it is first written (R41). -/
def newLine (l : LineReq) : Line :=
  { article := l.article, quantity := l.quantity, window := l.window, reserved := 0, inTransit := 0, delivered := 0,
    taken := [], avoid := none, waitingReported := false }

/-- ORDER-ADD (R41); a request that is taken answers the handle. -/
def orderAddRequest (ref : OrderRef) (cls : Nat) (lanes : Option (List Nat)) (lines : List LineReq) (s : State) :
    State × Result × List Byte :=
  if ¬ (cls ≤ 3 ∧ lines ≠ [] ∧ lines.length ≤ 8) ∨
      lines.any (fun l => l.quantity == 0 || decide (16 < l.quantity) || l.window.any (fun w => decide (8 < w))) ∨
      lanes.any (fun ls => ls.isEmpty || ls.any fun l => decide (3 < l)) then (s, .range, [])
  else if s.mgmt.cell = .loading then (s, .state, [])
  else
    let h := tfree 0 s.book.orders
    if Config.handles ≤ h then (s, .full, [])
    else
      let o : Order := { ref := ref, cls := cls, lanes := lanes, state := .opened, comp := none, seq := s.book.arrivals,
                         lines := lines.map newLine, leaving := false }
      (postWaiting h ((s.setOrder h o).modBook fun b => { b with arrivals := b.arrivals + 1 }), .done, b1 h)

/-- An order's live reservations are released whole, with no pass of their own (R43, R46). -/
def releaseOrder (h : Nat) (s : State) : State := releaseAll (s.livePlaces fun r => r.order = h) s

/-- ORDER-CANCEL (R43). -/
def orderCancelRequest (h : Nat) (s : State) : State × Result :=
  if ¬ h < Config.handles then (s, .range)
  else if s.mgmt.cell = .loading then (s, .state)
  else match s.order h with
    | none => (s, .unknown)
    | some o =>
      match o.state with
      | .complete | .cancelled => (s, .state)
      | .opened => ((leaveTable h s).post (.cancelReport h false), .done)
      | .suspended => (leaveTable h s, .done)
      | .picking =>
        let s := (releaseOrder h s).modOrder h fun o => { o with state := .cancelled }
        (finishPool (s.post (.cancelReport h true)), .done)

/-- The carousels that hold a reservation of an order. -/
def State.orderCars (s : State) (h : Nat) : List Carousel :=
  carousels.filter fun k => s.book.pool.any fun e => e.2.order == h && e.2.car == k

/-- ORDER-CLASS (R44). -/
def orderClassRequest (h cls : Nat) (s : State) : State × Result :=
  if ¬ (h < Config.handles ∧ cls ≤ 3) then (s, .range)
  else if s.mgmt.cell = .loading then (s, .state)
  else match s.order h with
    | none => (s, .unknown)
    | some o =>
      match o.state with
      | .complete | .cancelled => (s, .state)
      | .opened | .picking | .suspended =>
        let s := s.modOrder h fun o => { o with cls := cls }
        let s := if o.state = .opened then s.post (.orderClassReport h cls) else s
        (s.postAll ((s.orderCars h).map fun k => .taskClassReport k h cls), .done)

/-- A line of a resumed order (R45). -/
def resumedLine (l : Line) : Line := { l with delivered := 0, taken := [], avoid := none, waitingReported := false }

/-- ORDER-RESUME (R45). DESIGN CHOICE (log entry 16): a SUSPENDED order that has been cancelled and stays for a struck reservation
alone becomes OPEN too and is reported waiting; it keeps its mark `leaving`, so that it is assigned no compartment. -/
def orderResumeRequest (h : Nat) (s : State) : State × Result :=
  if ¬ h < Config.handles then (s, .range)
  else if s.mgmt.cell = .loading then (s, .state)
  else match s.order h with
    | none => (s, .unknown)
    | some o =>
      if o.state = .suspended then
        (postWaiting h (s.modOrder h fun o => { o with state := .opened, lines := o.lines.map resumedLine }), .done)
      else (s, .state)

/-! ## Reports of the Transit and Lane Unit -/

/-- The receipt of an order that takes the compartment (R42): it is OPEN, with the arrival sequence named. One that only waits
to leave the table takes none (DEDUCED, log entry 16). -/
def State.receives (s : State) (h seq : Nat) : Option Order :=
  (s.order h).filter fun o => o.seq = seq && o.state = .opened && !o.leaving

/-- A compartment receipt (R42); true when it is accepted. The order answers, and its lines are then resolved. -/
def takeReceipt (h seq : Nat) (l : Lane) (comp : Nat) (s : State) : State × Bool :=
  match s.receives h seq with
  | some o =>
    let s := s.modOrder h fun o => { o with state := .picking, comp := some (l, comp) }
    (passAfter (o.lineNumbers.map fun i => (h, i)) none (s.post (.receiptAnswer l comp h seq true)), true)
  | none => (s.post (.receiptAnswer l comp h seq false), false)

/-- A compartment withdrawal (R46). -/
def takeWithdrawal (h : Nat) (reason : Withdrawal) (s : State) : State :=
  match s.order h with
  | none => s
  | some o =>
    match reason, o.state with
    | .flush, .picking =>
      let s := (releaseOrder h s).modOrder h fun o => { o with state := .opened, comp := none }
      finishPool (postWaiting h s)
    | .lost, .picking | .lost, .complete =>
      finishPool ((releaseOrder h s).modOrder h fun o => { o with state := .suspended, comp := none })
    | .lost, .cancelled => leaveTable h s
    | _, _ => s

/-- A delivery report (R47). It names the order by its handle, all that Table TL-1 keeps. DESIGN CHOICE (log entry 85): where the
handle has been assigned again, the report is charged to the line of that number of the new order, or, with none of its tyres
in transit, changes nothing (log entry 15). -/
def takeDelivery (h i : Nat) (s : State) : State :=
  match s.order h, s.line h i with
  | some _, some l =>
    if l.inTransit = 0 then s
    else
      let s := s.modLine h i fun l => { l with inTransit := l.inTransit - 1, delivered := l.delivered + 1 }
      match s.order h with
      | none => s
      | some o =>
        if o.allDelivered then
          match o.state with
          | .picking =>
            (handNotice (.orderComplete h o.ref o.comp) (s.modOrder h fun o => { o with state := .complete })).post (.completionReport h)
          | .opened =>
            if o.leaving then s
            else
              let s := handNotices [.orderComplete h o.ref none, .orderDispatched h o.ref none none .opened] s
              (leaveTable h s).post (.goneReport h)
          | .complete | .cancelled | .suspended => s
        else s
  | _, _ => s

/-- A transit removal (R48). DESIGN CHOICE (log entry 85): a handle that has been assigned again names the new order, as in
`takeDelivery`. -/
def takeRemoval (h i week : Nat) (reason : RemovalReason) (s : State) : State :=
  match s.order h, s.line h i with
  | some _, some l =>
    if l.inTransit = 0 then s
    else
      let s := s.modLine h i fun l =>
        { l with inTransit := l.inTransit - 1, taken := dropFirst (fun w => w = week) l.taken }
      match reason with
      | .timeout => passAfter [(h, i)] none s
      | .cart => s
  | _, _ => s

/-- A dispatch report (R49). -/
def takeDispatch (h : Nat) (l : Lane) (comp : Nat) (cart : CartId) (s : State) : State :=
  match s.order h with
  | none => s
  | some o =>
    match o.state with
    | .complete | .cancelled =>
      leaveTable h (handNotice (.orderDispatched h o.ref (some (l, comp)) (some cart) o.state) s)
    | .opened | .picking | .suspended => s

/-! ## Reports of the sequencers and the stations -/

/-- A change of a reservation's state on a sequencer's report (R51). -/
def changeRes (r : ResId) (f : Reservation → Reservation) (s : State) : State :=
  match s.resOf r with
  | some x => s.setRes r.place (f x)
  | none => s

/-- Joined (R51). -/
def resJoined (r : ResId) (s : State) : State :=
  changeRes r (fun x => match x.state with | .held => { x with state := .queued } | .queued | .presented => x) s

/-- Presented (R51). -/
def resPresented (r : ResId) (s : State) : State := changeRes r (fun x => { x with state := .presented, expiry := none }) s

/-- Withdrawn (R51). -/
def resWithdrawn (r : ResId) (s : State) : State :=
  changeRes r (fun x => match x.state with
    | .presented => { x with state := .queued, expiry := if x.struck then none else some (s.holdExpiry x.order) }
    | .held | .queued => x) s

/-- The newest reservation of a placement among a pool's entries. -/
def newestOf (k : Carousel) (c lot : Nat) : Table Reservation → Option (Nat × Reservation)
  | [] => none
  | (p, r) :: rest =>
    match newestOf k c lot rest with
    | some (p', r') => if r.car = k ∧ r.carrier = c ∧ r.lot = lot ∧ r'.seq < r.seq then some (p, r) else some (p', r')
    | none => if r.car = k ∧ r.carrier = c ∧ r.lot = lot then some (p, r) else none

/-- A commit is charged to the reservation in place `p` (R53); `told` says that its sequencer is told, because no
pick-taken report reaches its pick. -/
def chargeCommit (p : Nat) (r : Reservation) (week : Nat) (told : Bool) (s : State) : State :=
  let s := s.modLine r.order r.line fun l =>
    { l with reserved := l.reserved - 1, inTransit := l.inTransit + 1, taken := l.taken ++ [week] }
  let tell := told && !r.substitute
  if r.count - 1 = 0 then
    finishPool (leavePool p r.order (if tell then s.post (.pickDrop r.car (resId p r)) else s))
  else
    let s := s.setRes p { r with count := r.count - 1 }
    if tell then s.post (.pickNewCount r.car (resId p r) ⟨r.count - 1, .other⟩) else s

/-- Whom a commit report is charged to: the named reservation, or the newest of the placement (R53). -/
def State.chargeTo (s : State) (r : ResId) (k : Carousel) (c lot : Nat) : Option (Nat × Reservation × Bool) :=
  match s.resOf r with
  | some x => some (r.place, x, false)
  | none => (newestOf k c lot s.book.pool).map fun e => (e.1, e.2, true)

/-- The compartment of an order. -/
def State.compOf (s : State) (h : Nat) : Option (Lane × Nat) := (s.order h).bind (·.comp)

/-- A commit report (R53); answers the order, line and compartment that the commit is charged to. -/
def takeCommit (r : ResId) (k : Carousel) (c lot week : Nat) (s : State) : State × Option (Nat × Nat × Option (Lane × Nat)) :=
  match s.chargeTo r k c lot with
  | some (p, x, told) => (chargeCommit p x week told s, some (x.order, x.line, s.compOf x.order))
  | none => (s, none)

/-- A reservation's expiry (R54). Hold time is not counted while the cell is HALTED. -/
def resExpired (p : Nat) (s : State) : State :=
  match s.reservation p with
  | none => s
  | some r =>
    match r.expiry with
    | none => s
    | some d =>
      if s.mgmt.cell = .halted ∨ r.state = .presented ∨ r.struck then s
      else
        let ref := s.orderRef r.order
        let e := releaseWhole p (s.reach d)
        let s := e.1.modLine r.order r.line fun l => { l with avoid := some r.car }
        let s := handNotice (.reservationExpired r.order ref r.line r.car r.carrier r.lot e.2) s
        passAfter [(r.order, r.line)] none s

/-- A hold handed over (R61). -/
def takeHold (lot : Nat) (s : State) : State := releaseWhere (fun r => r.lot = lot) s

/-- A release by carriers (R61). -/
def takeCarrierRelease (k : Carousel) (cs : List Nat) (s : State) : State :=
  releaseWhere (fun r => r.car = k && r.carrier ∈ cs) s

/-- The places of a placement's live reservations, newest first (R62). -/
def State.trimOrder (s : State) (k : Carousel) (c lot : Nat) : List Nat :=
  (sortBy (fun (a b : Nat × Reservation) => decide (b.2.seq < a.2.seq))
    (s.book.pool.filter fun e => e.2.live && e.2.car == k && e.2.carrier == c && e.2.lot == lot)).map (·.1)

/-- The reserved count of a placement. -/
def State.reservedAt (s : State) (k : Carousel) (c lot : Nat) : Nat :=
  match s.carrier k c with
  | some x => reservedOf lot x.placements
  | none => 0

/-- One reservation of a trim: cut by the excess, or released whole (R62). -/
def trimOne (k : Carousel) (c lot target : Nat) (a : State × List (Nat × Nat)) (p : Nat) : State × List (Nat × Nat) :=
  let excess := a.1.reservedAt k c lot - target
  if excess = 0 then a
  else match a.1.reservation p with
    | some r => ((releaseRes .other p (min excess r.count) a.1).1, a.2 ++ [(r.order, r.line)])
    | none => a

/-- An audit trim (R62). -/
def takeTrim (k : Carousel) (c lot target : Nat) (s : State) : State × Nat :=
  let r := (s.trimOrder k c lot).foldl (trimOne k c lot target) (s, [])
  (passAfter r.2 none r.1, r.1.reservedAt k c lot)

/-- A short report (R63). -/
def takeShort (r : ResId) (n : Nat) (s : State) : State :=
  match s.resOf r with
  | some x =>
    if x.live && x.state == .presented then
      passAfter [(x.order, x.line)] (some (x.car, x.carrier)) (releaseRes .short r.place (min n x.count) s).1
    else s
  | none => s

/-- The greatest week index of a list. -/
def greatestWeek (l : List Nat) : Nat := l.foldl max 0

/-- A list of week indices spans at most `w`. -/
def withinWindow (w : Nat) (l : List Nat) : Bool := l.all fun a => decide (greatestWeek l ≤ a + w)

/-- The conditions of a substitution (R64). A full pool has no place for the new reservation, and the request is then
refused. -/
def State.maySubstitute (s : State) (x : Reservation) (place lot : Nat) : Bool :=
  let free := match s.carrier x.car x.carrier with
    | some y => y.takesNew && (match placementOf lot y.placements with | some p => decide (p.reserved < p.onHand) | none => false)
    | none => false
  let windowed := match s.line x.order x.line with
    | some l => (match l.window with
      | none => true
      | some w =>
        let others := (s.lineRes x.order x.line).filter fun e => !(e.1 == place && e.2.count ≤ 1)
        withinWindow w (s.lotWeek lot :: l.taken ++ others.map fun e => s.resWeek e.2))
    | none => false
  s.lotActive lot && free && windowed && decide (s.book.pool.length < Config.poolPlaces)

/-- A substitution request (R64); answers the new reservation when it is granted. DESIGN CHOICE (log entry 65): the new
reservation takes the lowest-numbered free place of the pool. -/
def takeSubstitution (r : ResId) (lot : Nat) (s : State) : State × Option ResId :=
  match s.resOf r with
  | none => (s, none)
  | some x =>
    if x.live && x.state == .presented && s.maySubstitute x r.place lot then
      let e := reserveEntry x.car x.carrier lot 1 s
      if e.2 = 0 then (e.1, none)
      else
        let p := tfree 0 e.1.book.pool
        let y : Reservation :=
          { order := x.order, line := x.line, car := x.car, carrier := x.carrier, lot := lot, count := 1, state := .presented,
            struck := false, expiry := none, seq := e.1.book.creations, substitute := true }
        let s := (e.1.setRes p y).modBook fun b => { b with creations := b.creations + 1 }
        let s := s.modLine x.order x.line fun l => { l with reserved := l.reserved + 1 }
        (finishPool (releaseRes .accept r.place 1 s).1, some (resId p y))
    else (s, none)

/-- A release request for a substitution's reservation (R64). -/
def takeSubstituteRelease (r : ResId) (s : State) : State :=
  match s.resOf r with
  | some x =>
    if x.substitute && x.live then passAfter [(x.order, x.line)] none (releaseRes .other r.place x.count s).1 else s
  | none => s

/-! ## Halts and restart -/

/-- Every expiry time moves later by the time the cell spent halted (R54). -/
def shiftExpiries (d : Nat) (s : State) : State :=
  s.modBook fun b => { b with pool := tmap (fun _ r => { r with expiry := r.expiry.map (· + d) }) b.pool }

/-- The Order Book's records after a power-on reset and on CELL-RESTART (R65). -/
def restartBook (s : State) : State :=
  { s with book := { orders := [], pool := [], arrivals := 0, creations := 0, poolFull := false, freed := false } }

end Sys2Proof.Machine
end

