-- ==== Sys2Proof/Machine/Grant.lean ====
section
/-! DEFINITION. The end of a station's grant as a step of its own (R101, R116), which every block that ends a grant takes
in the step in which the carousel leaves PRESENTING (R100). -/

namespace Sys2Proof.Machine

/-- The kind of the task that a view shows. -/
def viewKind (v : TaskView) : TaskKind :=
  match v.body with
  | .pick _ => .pick
  | .put .. => .put
  | .audit _ => .audit

/-- The carousel that holds a station's grant, with its view. -/
def Stn.holder (x : Stn) : Option (Carousel × TaskView) :=
  match x.grant with
  | .held k v => some (k, v)
  | .absent | .offered _ => none

/-- The carousel to which a station's grant is OFFERED. -/
def Stn.offeree (x : Stn) : Option Carousel :=
  match x.grant with
  | .offered k => some k
  | .absent | .held .. => none

/-- The station whose HELD grant belongs to a carousel. -/
def State.grantedBy (s : State) (k : Carousel) : Option Station :=
  stationList.find? fun st => (s.stn st).holder.any fun h => h.1 = k

/-- The notice of taken scans: its kind follows the granted task (R116). -/
def takenNotice (st : Station) (k : Carousel) (kind : TaskKind) (items : List ScanItem) : NoticeBody :=
  match kind with
  | .put => .putTaken st k items
  | .pick | .audit => .pickTaken st k items

/-- The group buffer is emptied into a notice when the grant ends (R116). -/
def flushGroup (st : Station) (k : Carousel) (kind : TaskKind) (s : State) : State :=
  if (s.stn st).group = [] then s
  else (handNotice (takenNotice st k kind (s.stn st).group) s).modStn st fun x => { x with group := [] }

/-- How a HELD grant ends: a withdrawal after which the carousel is READY again keeps its ready mark, every other end
clears it; a task end hands TASK-DONE (R101). -/
inductive GrantEnd where
  | withdrawn
  | left
  | done (outcome : TaskOutcome)
  deriving DecidableEq, Repr

/-- A station's HELD grant ends (R101, R116). -/
def endGrant (st : Station) (how : GrantEnd) (s : State) : State :=
  match (s.stn st).grant with
  | .absent | .offered _ => s
  | .held k v =>
    let s := flushGroup st k (viewKind v) s
    let s := match how with
      | .done outcome =>
        if (s.stn st).mode = NoticeMode.none then s else handNotice (.taskDone st k v.carrier (viewKind v) outcome) s
      | .withdrawn | .left => s
    s.modStn st fun x => { x with
      grant := .absent, timer := .stopped, reported := false,
      ready := if how = GrantEnd.withdrawn then x.ready else x.ready.set k.val false k.isLt }

/-- The grant that a carousel holds ends. -/
def endGrantOf (k : Carousel) (how : GrantEnd) (s : State) : State :=
  match s.grantedBy k with
  | some st => endGrant st how s
  | none => s

/-- The view of a HELD grant changed by `f`. -/
def Stn.modView (x : Stn) (f : TaskView → TaskView) : Stn :=
  match x.grant with
  | .held k v => { x with grant := .held k (f v) }
  | .absent | .offered _ => x

end Sys2Proof.Machine
end

