-- ==== Sys2Proof/Machine/Display.lean ====
section
/-! DEFINITION. The display of a station (R99) and the changes of the view that it shows (R115), which a sequencer's reports
make in the station's record. -/

namespace Sys2Proof.Machine

/-! ## The display (R99) -/

/-- The bay of a station that holds a carousel. -/
def Stn.bayOf (x : Stn) (k : Carousel) : Option Bay := bayList.find? fun b => x.bays[b] = some k

/-- A pick as the display shows it. -/
def State.pickRow (s : State) (p : ViewPick) : PickRow :=
  { article := (s.labelOf p.lot).article, week := (s.labelOf p.lot).week, remaining := p.remaining, mark := p.mark }

/-- The placements of a carrier as the display shows them to an audit. -/
def State.auditRows (s : State) (k : Carousel) (c : Nat) (blind : Bool) : List AuditRow :=
  match s.carrier k c with
  | some x => x.placements.map fun p =>
      { article := (s.labelOf p.lot).article, week := (s.labelOf p.lot).week, onHand := if blind then none else some p.onHand }
  | none => []

/-- The task view that a station's display shows (R99). -/
def State.showView (s : State) (x : Stn) : ShowView :=
  match x.holder with
  | some (k, v) =>
    match v.body with
    | .pick ps => .pick v.carrier (ps.map s.pickRow)
    | .put lot n => .put v.carrier (s.labelOf lot).article (s.labelOf lot).week n
    | .audit blind => .audit v.carrier (s.auditRows k v.carrier blind)
  | none => if x.serving then .waiting else .closed

/-- The message line (R99). -/
def Stn.line (x : Stn) : Option Message :=
  match x.lock with
  | some c => some (.locked c)
  | none => if x.overrun then some .rescan else x.message

/-- The content of a station's display (R99). -/
def State.content (s : State) (st : Station) : Content :=
  let x := s.stn st
  { light := x.holder.bind fun h => x.bayOf h.1, view := s.showView x, message := x.line }

/-- The panel of a station. -/
def panelOf (st : Station) : Target := .node .panel st.val

/-- A content is sent to the panel: it replaces the content still waiting, is offered, or waits for space; with no panel in
the node map the frame is taken as unanswered (R99, R98). DESIGN CHOICE (log entry 30): the answer no node is put in the mail as the
frame's refused return, so that the panel becomes LOST in a later step. -/
def sendContent (st : Station) (c : Content) (s : State) : State :=
  let r := replacePayload (.station st) (.panelShow c) s
  if r.2 then r.1.modStn st fun x => { x with display := { sent := some c, waiting := none } }
  else
    let o := offer (.station st) (panelOf st) (.panelShow c) r.1
    match o.2 with
    | .queued => o.1.modStn st fun x => { x with display := { sent := some c, waiting := none } }
    | .full => o.1.modStn st fun x => { x with display := { x.display with waiting := some c } }
    | .noNode => (o.1.modStn st fun x => { x with display := { sent := some c, waiting := none } }).post (.panelShowReturn st .refused)

/-- The content that the panel shows or is about to show: the one that waits, or else the last one sent. -/
def Stn.latest (x : Stn) : Option Content := x.display.waiting.or x.display.sent

/-- The display is sent when its content has changed (R99); while the panel is LOST no PANEL-SHOW is sent (R98). -/
def refresh (st : Station) (s : State) : State :=
  let x := s.stn st
  if x.configured = true ∧ x.panelLost = false ∧ x.latest ≠ some (s.content st) then sendContent st (s.content st) s
  else s

/-- The current content is sent once more (R99). -/
def resend (st : Station) (s : State) : State :=
  let x := s.stn st
  if x.configured && !x.panelLost then sendContent st (s.content st) s else s

/-- A transient message is shown (R99). -/
def showMessage (st : Station) (m : Message) (s : State) : State := s.modStn st fun x => { x with message := some m }

/-! ## Changes of the view (R115) -/

/-- The mark of a struck pick, by why it was struck: its own ACCEPT's is substituted (R111), its own SHORT's is short (R114), and
any other "do not pick" (R115). -/
def strikeMark : Cause → Mark
  | .accept => .substituted
  | .short => .short
  | .other => .doNotPick

/-- A change of the view of a granted PICK task (R115). -/
def changeView (c : ViewChange) (v : TaskView) : TaskView :=
  match v.body with
  | .put .. | .audit _ => v
  | .pick ps =>
    let on (r : ResId) (f : ViewPick → ViewPick) : List ViewPick := ps.map fun p => if p.res = r then f p else p
    { v with body := .pick (match c with
      | .newPick p => ps.filter (fun q => !(q.res = p.res)) ++ [p]
      | .newCount r n why => on r fun p =>
          { p with remaining := n, shorted := if why = .short then false else p.shorted,
                   mark := if p.mark = .finished ∧ n ≠ 0 then .opened else if p.mark = .opened ∧ n = 0 then .finished else p.mark }
      | .struck r why => on r fun p => { p with mark := strikeMark why }
      | .dropped r => ps.filter fun p => !(p.res = r)) }

/-- A struck pick that the panel's message line shows: not one that the station's own ACCEPT or SHORT struck (R115). -/
def showsStrike (c : ViewChange) (v : TaskView) : Bool :=
  match c, v.body with
  | .struck r .other, .pick ps => ps.any fun p => p.res = r
  | _, _ => false

/-- A view report as it stands when it is taken: its count follows the commits made since it was handed. -/
def State.viewNow (s : State) (c : ViewChange) : ViewChange :=
  match c with
  | .newPick p => .newPick { p with remaining := s.countNow p.res p.remaining }
  | .newCount r n why => .newCount r (s.countNow r n) why
  | .struck r why => .struck r why
  | .dropped r => .dropped r

/-- A report that changes a granted PICK task (R115). -/
def takeViewReport (st : Station) (k : Carousel) (c : ViewChange) (s : State) : State :=
  match (s.stn st).holder with
  | none => s
  | some (j, v) =>
    if j = k then
      let s := if showsStrike c v then showMessage st .doNotPick s else s
      refresh st (s.modStn st fun x => x.modView (changeView (s.viewNow c)))
    else s

end Sys2Proof.Machine
end

