-- ==== Sys2Proof/Machine/Sequencer.lean ====
section
/-! DEFINITION. The operations of the Carousel Sequencers (chapter 4): the task queue, the choice of a task, moves and
their returns, presentation, faults, windows, claims and restarts. What a station does after its grant has ended stands in
Station.lean. -/

namespace Sys2Proof.Machine

/-! ## The task queue (R71, R72) -/

/-- A task's kind. -/
def Task.kind (t : Task) : TaskKind :=
  match t.body with
  | .pick _ => .pick
  | .put .. => .put
  | .audit _ => .audit

/-- A task is of a kind and for a carrier. -/
def Task.is (kind : TaskKind) (carrier : Nat) (t : Task) : Bool := t.kind = kind && t.carrier == carrier

/-- The task of a kind that stands for a carrier. -/
def Seq.taskFor (q : Seq) (kind : TaskKind) (carrier : Nat) : Option Task := q.queue.find? (Task.is kind carrier)

/-- The task with an arrival number. -/
def Seq.taskNum (q : Seq) (n : Nat) : Option Task := q.queue.find? fun t => t.num == n

/-- The current task, while it stands in the queue (R75). -/
def Seq.currentTask (q : Seq) : Option Task := q.current.bind q.taskNum

/-- The queue holds fewer than 16 tasks. -/
def Seq.hasPlace (q : Seq) : Bool := decide (q.queue.length < Config.queueTasks)

/-- Task `u` stands behind task `t` by class and arrival number (R71). -/
def Task.behind (t u : Task) : Bool := decide (t.cls < u.cls ∨ (t.cls = u.cls ∧ t.num < u.num))

/-- `x` at position `i`. -/
def insertAt {α : Type} (i : Nat) (x : α) (l : List α) : List α := l.take i ++ x :: l.drop i

/-- Where a task goes by its class and arrival number (R71). -/
def placeByClass (t : Task) (q : List Task) : Nat := (position t.behind q).getD q.length

/-- Where a task goes: by its class and arrival number, but an AUDIT task directly behind a PUT task for its carrier that
stands later (R71, R72). -/
def placeAt (t : Task) (q : List Task) : Nat :=
  let i := placeByClass t q
  if t.kind = .audit then
    match position (Task.is .put t.carrier) q with
    | some j => if i ≤ j then j + 1 else i
    | none => i
  else i

/-- A task placed in a queue (R71, R72). -/
def placeTask (t : Task) (q : List Task) : List Task := insertAt (placeAt t q) t q

/-- A queue without the task of an arrival number. -/
def withoutTask (n : Nat) (q : List Task) : List Task := q.filter fun t => !(t.num == n)

/-- A pick is finished when its remaining count is 0 and its struck mark is clear (R73). -/
def Pick.finished (p : Pick) : Bool := p.remaining == 0 && !p.struck

/-- A pick is live and unfinished. -/
def Pick.opened (p : Pick) : Bool := !p.struck && !(p.remaining == 0)

/-- The picks of a task. -/
def Task.picks (t : Task) : List Pick :=
  match t.body with
  | .pick ps => ps
  | .put .. | .audit _ => []

/-- A PICK task with other picks. -/
def Task.withPicks (t : Task) (ps : List Pick) : Task :=
  match t.body with
  | .pick _ => { t with body := .pick ps }
  | .put .. | .audit _ => t

/-- The lowest class of a list, if it has one. -/
def lowest : List Nat → Option Nat
  | [] => none
  | x :: rest => match lowest rest with
    | some y => some (min x y)
    | none => some x

/-- A PICK task's class: the lowest among the orders of its live picks, the finished ones among them (Table CS-3). -/
def Task.pickClass (t : Task) : Class := (lowest ((t.picks.filter fun p => !p.struck).map (·.cls))).getD t.cls

/-- A task is put in the place its class and arrival number give, with class `c` (R71). -/
def reclassTask (k : Carousel) (t : Task) (c : Class) (s : State) : State :=
  s.modSeq k fun q =>
    if c = t.cls then { q with queue := q.queue.map fun u => if u.num = t.num then t else u }
    else { q with queue := placeTask { t with cls := c } (withoutTask t.num q.queue) }

/-- A PICK task takes other picks; when a pick has joined or left, its class and place follow (R71). DEDUCED (log entry 80): a
pick that is taken, struck or given a new count neither joins nor leaves. -/
def setPicks (k : Carousel) (t : Task) (ps : List Pick) (s : State) : State :=
  let t' := t.withPicks ps
  reclassTask k t' (if ps.map (·.res) = t.picks.map (·.res) then t.cls else t'.pickClass) s

/-- A new task is placed with the next arrival number (R71). -/
def newTask (k : Carousel) (cls : Class) (carrier : Nat) (body : TaskBody) (s : State) : State :=
  s.modSeq k fun q =>
    { q with queue := placeTask { num := q.arrivals, cls := cls, carrier := carrier, body := body } q.queue,
             arrivals := q.arrivals + 1 }

/-- The carousel's granted task: its current task while it is PRESENTING. -/
def Seq.granted (q : Seq) : Option Task := if q.state = .presenting then q.currentTask else none

/-- A task is the granted one. -/
def Seq.isGranted (q : Seq) (t : Task) : Bool := q.granted.any fun u => u.num == t.num

/-! ## What a station is shown (R100, R115) -/

/-- A pick as the station's view shows it; a reservation no longer in the pool is not shown, since its drop is on the
way (R54). -/
def State.viewPick (s : State) (p : Pick) : Option ViewPick :=
  (s.resOf p.res).map fun x =>
    { res := p.res, lot := x.lot, remaining := p.remaining,
      mark := if p.struck then .doNotPick else if p.remaining = 0 then .finished else .opened, shorted := false }

/-- A task's view (R100). An AUDIT task's blind flag is that of its session when one stands (R159). -/
def State.taskView (s : State) (k : Carousel) (t : Task) : TaskView :=
  { carrier := t.carrier, cls := t.cls,
    body := match t.body with
      | .pick ps => .pick (ps.filterMap s.viewPick)
      | .put lot _ remaining _ => .put lot remaining
      | .audit blind =>
        match s.session k with
        | some x => .audit (if x.carrier = t.carrier then x.blind else blind)
        | none => .audit blind }

/-- A change of a granted PICK task reaches the station that holds the grant, whose view and display follow at once
(R115). -/
def tellView (k : Carousel) (c : ViewChange) (s : State) : State :=
  match s.grantedBy k with
  | some st => takeViewReport st k c s
  | none => s

/-- The station that holds the grant of a carrier's AUDIT task is shown the task again, with the blind flag that now holds
(R99, R153, R159). -/
def showAudit (k : Carousel) (c : Nat) (s : State) : State :=
  match s.grantedBy k, (s.seq k).granted with
  | some st, some t =>
    if t.is .audit c then refresh st (s.modStn st fun x => x.modView fun _ => s.taskView k t) else s
  | _, _ => s

/-! ## The held list and freed places (R72, R74) -/

/-- The pick of a reservation that has been handed over (R72). -/
def HeldItem.pick (i : HeldItem) : Pick :=
  { res := i.res, order := i.order, cls := i.cls, remaining := i.count, struck := false }

/-- A reservation is taken by steps 1 and 2 of R72; none when it finds no place. -/
def joinTask (k : Carousel) (i : HeldItem) (s : State) : Option State :=
  let q := s.seq k
  match q.taskFor .pick i.carrier with
  | some t =>
    if t.picks.length < Config.taskPicks then
      let s1 := setPicks k t (t.picks ++ [i.pick]) s
      if q.isGranted t then
        let s2 := s1.post (.reservationPresented i.res)
        some (match s.viewPick i.pick with | some v => tellView k (.newPick v) s2 | none => s2)
      else some (s1.post (.reservationJoined i.res))
    else none
  | none =>
    if q.hasPlace then
      some ((newTask k i.cls i.carrier (.pick [i.pick]) s).post (.reservationJoined i.res))
    else none

/-- A reservation is taken by R72: by steps 1 and 2, or into the held list. -/
def takeReservation (k : Carousel) (i : HeldItem) (s : State) : State :=
  match joinTask k i s with
  | some s => s
  | none => s.modSeq k fun q => { q with held := q.held ++ [i] }

/-- The held list is tried again, oldest first; an entry that finds no place stays (R74). -/
def retryHeld (k : Carousel) (s : State) : State :=
  (s.seq k).held.foldl (fun s i => takeReservation k i s) (s.modSeq k fun q => { q with held := [] })

/-- A place has freed: the held list first, then place reports when the queue still has one (R74). -/
def placeFreed (k : Carousel) (s : State) : State :=
  let s := retryHeld k s
  if (s.seq k).hasPlace then
    (match s.stationOf k with
     | some st => s.post (.placeReport st k)
     | none => s).post (.auditPlaceReport k)
  else s

/-! ## Leaving the opening (R85) -/

/-- The picks of the granted task when its grant ends without the task: each live unfinished pick is reported withdrawn,
the others are removed (R85). -/
def withdrawPicks (k : Carousel) (s : State) : State :=
  match (s.seq k).granted with
  | some t =>
    let live := t.picks.filter (·.opened)
    (setPicks k t live s).postAll (live.map fun p => .reservationWithdrawn p.res)
  | none => s

/-- The granted task holds a struck or finished pick, which leaves it when the grant ends (R73, R85). -/
def Seq.shedsPick (q : Seq) : Bool := q.granted.any fun t => t.picks.any fun p => !p.opened

/-- What follows the end of a grant whose task stays: where a pick has left the task a place has freed (R74). -/
def shedFreed (k : Carousel) (shed : Bool) (s : State) : State := if shed then placeFreed k s else s

/-- The carousel leaves READY or PRESENTING other than by grant and withdrawal, into state `next` (R85). -/
def leaveOpening (k : Carousel) (next : CarState) (s : State) : State :=
  match (s.seq k).state with
  | .ready =>
    (match s.stationOf k with
     | some st => s.post (.notReadyReport st k)
     | none => s).modSeq k fun q => { q with state := next }
  | .presenting =>
    shedFreed k (s.seq k).shedsPick ((endGrantOf k .left (withdrawPicks k s)).modSeq k fun q => { q with state := next })
  | .unconfigured | .unknown | .idle | .moving | .stopping | .manual | .fault | .disabled =>
    s.modSeq k fun q => { q with state := next }

/-- A HELD grant is withdrawn by the station or on the Audit Unit's request: the carousel returns to READY with its task
kept (R85, R101). -/
def withdrawGrant (k : Carousel) (s : State) : State :=
  match (s.seq k).state with
  | .presenting =>
    shedFreed k (s.seq k).shedsPick ((endGrantOf k .withdrawn (withdrawPicks k s)).modSeq k fun q => { q with state := .ready })
  | .unconfigured | .unknown | .idle | .moving | .stopping | .ready | .manual | .fault | .disabled => s

/-! ## Faults and queries (R68, R82) -/

/-- The MOVE frame is withdrawn from the transmit queue; true when it was still there (R77). -/
def withdrawMove (k : Carousel) (s : State) : State × Bool := withdrawFrame (.seq k) 1 s

/-- An audit in progress on a carousel is reported to the Audit Unit as abandoned (R82, R88). -/
def abandonAudit (k : Carousel) (s : State) : State :=
  if (s.session k).isSome then s.post (.auditAbandonReport k) else s

/-- A state in which a failure makes the carousel enter FAULT: not UNCONFIGURED, MANUAL, DISABLED or FAULT already (R67,
R68, R82, R92). -/
def faultable : CarState → Bool
  | .unknown | .idle | .moving | .stopping | .ready | .presenting => true
  | .unconfigured | .manual | .fault | .disabled => false

/-- Entry into FAULT (R82), when the state allows it. -/
def enterFault (k : Carousel) (cause : FaultCause) (s : State) : State :=
  let left := (s.seq k).state
  if faultable left then
    let s := abandonAudit k (leaveOpening k .fault (withdrawMove k s).1)
    let s := s.modSeq k fun q =>
      { q with fault := some cause, move := none, built := none, current := none, short := 0 }
    handNotice (.carouselFault k cause (s.seq k).index left) s
  else s

/-- The drive of a carousel. -/
def driveOf (k : Carousel) : Target := .node .drive k.val

/-- A query handed over joins the record behind those still unsettled (R68). -/
def Seq.ask (afterMove : Bool) (q : Seq) : Seq :=
  { q with queries := q.queries ++ [{ num := q.asked, afterMove := afterMove, answered := false, deadline := none }],
           asked := q.asked + 1 }

/-- A query is settled: it leaves the record, and every other one stays as it is (R68). -/
def Seq.settleQuery (n : Nat) (q : Seq) : Seq := { q with queries := q.queries.filter fun x => x.num ≠ n }

/-- A query's frame has returned ACCEPTED: its round time, and no other query's, begins (R68). -/
def Seq.timeQuery (n deadline : Nat) (q : Seq) : Seq :=
  { q with queries := q.queries.map fun x => if x.num = n then { x with deadline := some deadline } else x }

/-- A STATUS-QUERY is sent to the drive; with no drive in the node map the query is unanswered (R68). -/
def sendQuery (k : Carousel) (afterMove : Bool) (s : State) : State :=
  let r := sendOrKeep (.seq k) (driveOf k) (.statusQuery (s.seq k).asked) s
  if r.2 then enterFault k .link r.1 else r.1.modSeq k (Seq.ask afterMove)

/-- Entry to UNKNOWN: the current task is lost, and a query is sent when the ring is UP (R68). -/
def enterUnknown (k : Carousel) (s : State) : State :=
  let s := (leaveOpening k .unknown s).modSeq k fun q =>
    { q with fault := none, move := none, built := none, current := none, short := 0 }
  if s.fe.ring = .up then sendQuery k false s else s

/-- An urgent HALT is sent to the drive; answers whether there was no node. -/
def sendHalt (k : Carousel) (forMissing : Bool) (s : State) : State × Bool :=
  sendOrKeep (.seq k) (driveOf k) (.halt forMissing) s

/-! ## The choice and the move (R75, R76) -/

/-- A task is presentable unless it is a PICK task whose carrier is AUDIT-LOCKED (R75). -/
def State.presentable (s : State) (k : Carousel) (t : Task) : Bool :=
  !(t.kind = .pick && s.carrierState k t.carrier = some .auditLocked)

/-- The conditions under which a move is planned (R75). -/
def State.moveAllowed (s : State) (k : Carousel) : Bool :=
  s.mgmt.cell = .running && s.fe.ring = .up && (s.stationOf k).any (fun st => (s.stn st).serving) &&
    (s.seq k).curtain = .clear

/-- The carousel comes to rest in IDLE, keeping its current task or not; in a HALTED cell it keeps none (R77, R83). -/
def comeToRest (k : Carousel) (keep : Bool) (s : State) : State :=
  s.modSeq k fun q =>
    if keep && !(s.mgmt.cell = .halted) then { q with state := .idle, move := none, built := none }
    else { q with state := .idle, move := none, built := none, current := none, short := 0 }

/-- The carousel becomes READY with a task, and its station is told (R84). -/
def becomeReady (k : Carousel) (t : Task) (s : State) : State :=
  let s := s.modSeq k fun q =>
    { q with state := .ready, current := some t.num, move := none, built := none, short := 0 }
  match s.stationOf k with
  | some st => s.post (.readyReport st k)
  | none => s

/-- A move to a task's carrier is planned and its MOVE frame handed over (R76); `resent` is the deadline that a move sent
once more keeps (R79). -/
def planMove (k : Carousel) (t : Task) (resent : Option Nat) (s : State) : State :=
  match (s.seq k).index with
  | none => comeToRest k true s
  | some i =>
    match s.travelPlan k i t.carrier with
    | .invalid => enterFault k .index s
    | .there => becomeReady k t s
    | .plan p =>
      let r := offer (.seq k) (driveOf k) (.move p.dir p.dist t.carrier p.speed) s
      match r.2 with
      | .noNode => enterFault k .link r.1
      | .queued => r.1.modSeq k fun q =>
          { q with state := .moving, current := some t.num, built := none,
                   move := some { target := t.carrier, dir := p.dir, dist := p.dist, speed := p.speed,
                                  timeout := p.timeout, deadline := resent.getD (s.after p.timeout),
                                  resent := resent.isSome, stop := none } }
      | .full => r.1.modSeq k fun q =>
          { q with state := .idle, current := some t.num, move := none,
                   built := some { target := t.carrier, dir := p.dir, dist := p.dist, speed := p.speed,
                                   timeout := p.timeout, resent := resent } }

/-- The task that the choice goes to: a current task kept from an earlier choice, or the first presentable one (R75). -/
def State.chosen (s : State) (k : Carousel) : Option Task :=
  match (s.seq k).currentTask with
  | some t => if s.presentable k t then some t else (s.seq k).queue.find? (s.presentable k)
  | none => (s.seq k).queue.find? (s.presentable k)

/-- The current task is cleared, and the short-move count with it (R78). -/
def clearCurrent (k : Carousel) (s : State) : State := s.modSeq k fun q => { q with current := none, short := 0, built := none }

/-- The choice of R75, made only in IDLE. A built MOVE frame that was kept is discarded and planned again, which builds the
same frame while its conditions hold (R76). -/
def choose (k : Carousel) (s : State) : State :=
  if (s.seq k).state = .idle then
    match s.chosen k with
    | none => clearCurrent k s
    | some t =>
      let kept := (s.seq k).current = some t.num
      let resent := if kept then (s.seq k).built.bind (·.resent) else none
      let s := if kept then s else clearCurrent k s
      if (s.seq k).index = some t.carrier then
        if s.mgmt.cell = .loading then clearCurrent k s else becomeReady k t s
      else if s.moveAllowed k then planMove k t resent s
      else s.modSeq k fun q => { q with built := none }
  else s

/-- A place has freed in the queue, and an IDLE carousel chooses again (R74, R75). -/
def settleQueue (k : Carousel) (s : State) : State := choose k (placeFreed k s)

/-! ## Tasks that leave the queue (R74, R85, R130) -/

/-- A task leaves the queue; the offering station of a PUT task is told (R130). -/
def takeOut (k : Carousel) (t : Task) (s : State) : State :=
  let s := s.modSeq k fun q => { q with queue := withoutTask t.num q.queue }
  match t.body with
  | .put lot _ _ st => s.post (.putTaskLeft st k t.carrier lot)
  | .pick _ | .audit _ => s

/-- A task leaves the queue; when it is current, a carousel at the opening leaves it and becomes IDLE (R85). -/
def dropTask (k : Carousel) (t : Task) (s : State) : State :=
  let q := s.seq k
  if q.current = some t.num ∧ (q.state = .ready ∨ q.state = .presenting) then
    clearCurrent k (takeOut k t (leaveOpening k .idle s))
  else takeOut k t s

/-- The granted task ends: it leaves the queue, the station's grant ends, and the carousel becomes IDLE and chooses
(R85). -/
def endTask (k : Carousel) (t : Task) (outcome : TaskOutcome) (s : State) : State :=
  let s := (endGrantOf k (.done outcome) (takeOut k t s)).modSeq k fun q => { q with state := .idle }
  settleQueue k (clearCurrent k s)

/-- After a change of a granted PICK task's picks: with none left the task is gone, and with none open it ends (R73,
R85). -/
def checkPicks (k : Carousel) (s : State) : State :=
  match (s.seq k).granted with
  | some t =>
    match t.body with
    | .pick ps =>
      if ps = [] then settleQueue k (dropTask k t s)
      else if ps.any (·.opened) then s
      else endTask k t .finished s
    | .put .. | .audit _ => s
  | none => s

/-! ## Reports about reservations (R73) -/

/-- The PICK task that holds a reservation's pick. -/
def Seq.taskOf (q : Seq) (r : ResId) : Option Task := q.queue.find? fun t => t.picks.any fun p => p.res = r

/-- One pick of a list changed by `f`. -/
def modPick (r : ResId) (f : Pick → Pick) (ps : List Pick) : List Pick := ps.map fun p => if p.res = r then f p else p

/-- The picks of a PICK task change (R73): a granted task's station is shown `change` and the task may end; a task that is not
granted holds no finished and no struck picks, so that such picks leave it, and with none left it is removed (R73, R74). -/
def changePicks (k : Carousel) (t : Task) (ps : List Pick) (change : Option ViewChange) (s : State) : State :=
  if (s.seq k).isGranted t then
    let s := setPicks k t ps s
    checkPicks k (match change with | some c => tellView k c s | none => s)
  else
    let left := ps.filter (·.opened)
    let s := setPicks k t left s
    if left.length = t.picks.length then s else settleQueue k (if left = [] then dropTask k t s else s)

/-- A new count for a reservation (R73). -/
def takeNewCount (k : Carousel) (r : ResId) (n : Nat) (why : Cause) (s : State) : State :=
  let n := s.countNow r n
  match (s.seq k).taskOf r with
  | some t => changePicks k t (modPick r (fun p => { p with remaining := n }) t.picks) (some (.newCount r n why)) s
  | none => s.modSeq k fun q => { q with held := q.held.map fun i => if i.res = r then { i with count := n } else i }

/-- A drop of a reservation (R73, R74). -/
def takeDrop (k : Carousel) (r : ResId) (s : State) : State :=
  match (s.seq k).taskOf r with
  | some t => changePicks k t (t.picks.filter fun p => !(p.res = r)) (some (.dropped r)) s
  | none => s.modSeq k fun q => { q with held := q.held.filter fun i => !(i.res = r) }

/-- A strike of a reservation (R73): in a granted task the pick is marked, in any other its pick leaves, since a task that
is not granted holds no struck picks. -/
def takeStrike (k : Carousel) (r : ResId) (why : Cause) (s : State) : State :=
  match (s.seq k).taskOf r with
  | some t => changePicks k t (modPick r (fun p => { p with struck := true }) t.picks) (some (.struck r why)) s
  | none => takeDrop k r s

/-- A pick-taken report (R73), which reaches the pick wherever its task stands (R107); the station that took the tyre has
changed its own view. -/
def pickTaken (k : Carousel) (r : ResId) (s : State) : State :=
  match (s.seq k).taskOf r with
  | some t => changePicks k t (modPick r (fun p => { p with remaining := p.remaining - 1 }) t.picks) none s
  | none => s

/-- A PUT task's remaining count. -/
def Task.remaining (t : Task) : Nat :=
  match t.body with
  | .put _ _ n _ => n
  | .pick _ | .audit _ => 0

/-- A put-taken report (R108, R85). -/
def putTaken (k : Carousel) (carrier : Nat) (s : State) : State :=
  match (s.seq k).taskFor .put carrier with
  | some t =>
    match t.body with
    | .put lot count n st =>
      let t' : Task := { t with body := .put lot count (n - 1) st }
      let s' := s.modSeq k fun q => { q with queue := q.queue.map fun u => if u.num = t.num then t' else u }
      if n - 1 = 0 then
        if (s.seq k).isGranted t then endTask k t' .finished s' else settleQueue k (dropTask k t' s')
      else s'
    | .pick _ | .audit _ => s
  | none => s

/-- The arrival sequence of the order under a handle is `n`: picks and held entries know their orders by it. -/
def State.orderIsSeq (s : State) (h n : Nat) : Bool := (s.order h).any fun o => o.seq == n

/-- A task's picks with the new class of an order (R44). -/
def Task.classed (mine : Nat → Bool) (cls : Class) (t : Task) : Task :=
  t.withPicks (t.picks.map fun p => if mine p.order then { p with cls := cls } else p)

/-- A new class of an order (R44, R71): its picks and held entries take it, and the PICK tasks with such picks are recomputed. -/
def takeClass (k : Carousel) (h : Nat) (cls : Class) (s : State) : State :=
  let mine := s.orderIsSeq h
  let tasks := (s.seq k).queue.filter fun t => t.picks.any fun p => mine p.order
  let s := tasks.foldl (fun s t => reclassTask k (t.classed mine cls) (t.classed mine cls).pickClass s) s
  choose k (s.modSeq k fun q => { q with held := q.held.map fun i => if mine i.order then { i with cls := cls } else i })

/-- A new reservation is taken in, and an IDLE carousel then chooses (R72, R75). -/
def takeNewReservation (k : Carousel) (r : ResId) (carrier count : Nat) (order : PickOrder) (s : State) : State :=
  choose k (takeReservation k { res := r, order := order.seq, carrier := carrier, count := count, cls := order.cls } s)

/-! ## Reports taken at once (R111) -/

/-- A report of the Order Book to a carousel: a new reservation, a new class, or what becomes of a pick. -/
def orderReport (k : Carousel) : Instr → Bool
  | .newReservation j .. | .taskClassReport j .. | .pickNewCount j .. | .pickDrop j _ | .pickStruck j _ => j = k
  | _ => false

/-- One such report is taken. -/
def takeOrderReport (i : Instr) (s : State) : State :=
  match i with
  | .newReservation k r carrier count order => takeNewReservation k r carrier count order s
  | .taskClassReport k handle cls => takeClass k handle cls s
  | .pickNewCount k r new => takeNewCount k r new.count new.why s
  | .pickDrop k r => takeDrop k r s
  | .pickStruck k strike => takeStrike k strike.res strike.why s
  | _ => s

/-- The sequencer takes every report that the Order Book has handed to it, oldest first, within the step (R111: the cut of a
substitution lowers the count of the pick before the next entry is judged). No report overtakes an earlier one: a reservation
that is released while its own report waits is taken in and then dropped (R52). -/
def takeOrderReports (k : Carousel) (s : State) : State :=
  (s.mail.filter (orderReport k)).foldl (fun s i => takeOrderReport i s)
    { s with mail := s.mail.filter fun i => !orderReport k i }

/-! ## Offers (R72) -/

/-- The answers to a PUT or AUDIT offer (R72). -/
inductive OfferAnswer where
  | taken | full | excluded | duplicate
  deriving DecidableEq, Repr

/-- A carrier is closed to offers: excluded, or on a DISABLED carousel (R72). -/
def State.closedTo (s : State) (k : Carousel) (c : Nat) : Bool :=
  (s.seq k).state = .disabled || (match s.carrier k c with | some x => x.excluded | none => true)

/-- A PUT offer (R72). -/
def putOffered (k : Carousel) (c lot count : Nat) (cls : Class) (st : Station) (s : State) : State × OfferAnswer :=
  if s.closedTo k c then (s, .excluded)
  else if ((s.seq k).taskFor .put c).isSome then (s, .duplicate)
  else if (s.seq k).hasPlace then (choose k (newTask k cls c (.put lot count count st) s), .taken)
  else (s, .full)

/-- An AUDIT offer (R72). DEDUCED (log entry 84): one for a carrier whose AUDIT task stands is refused DUPLICATE, as a PUT offer
is, since no queue holds two tasks of one kind for a carrier (R71, law L11); R72 names EXCLUDED and FULL alone. -/
def auditOffered (k : Carousel) (c : Nat) (blind : Bool) (cls : Class) (s : State) : State × OfferAnswer :=
  if s.closedTo k c then (s, .excluded)
  else if ((s.seq k).taskFor .audit c).isSome then (s, .duplicate)
  else if (s.seq k).hasPlace then (choose k (newTask k cls c (.audit blind) s), .taken)
  else (s, .full)

/-- The Audit Unit asks for an AUDIT task to go behind its carrier's PUT task (R157); answers whether the task still
stands. -/
def auditRequeued (k : Carousel) (c : Nat) (s : State) : State × Bool :=
  match (s.seq k).taskFor .audit c with
  | none => (s, false)
  | some t =>
    let stays := ((s.seq k).taskFor .put c).isSome
    let s := dropTask k t s
    if stays then (choose k (s.modSeq k fun q => { q with queue := placeTask t q.queue }), true)
    else (settleQueue k s, false)

/-- An AUDIT task stands behind its carrier's PUT task. -/
def behindPut (t : Task) (q : List Task) : Bool :=
  match position (Task.is .put t.carrier) q, position (fun u => u.num == t.num) q with
  | some i, some j => decide (i < j)
  | _, _ => false

/-- An AUDIT task placed again after a merge (R153): by its class and arrival number, and, when it stood behind its carrier's
PUT task, still behind it. -/
def replaceAudit (t : Task) (q : List Task) : List Task :=
  let rest := withoutTask t.num q
  if behindPut t q then placeTask t rest else insertAt (placeByClass t rest) t rest

/-- A merged request's new class and blind flag (R153). -/
def auditReclassed (k : Carousel) (c : Nat) (cls : Class) (blind : Bool) (s : State) : State :=
  match (s.seq k).taskFor .audit c with
  | none => s
  | some t => choose k (showAudit k c (s.modSeq k fun q =>
      { q with queue := replaceAudit { t with cls := cls, body := .audit blind } q.queue }))

/-- The Audit Unit asks for an AUDIT task to be removed (R85, R163). -/
def auditRemoved (k : Carousel) (c : Nat) (s : State) : State :=
  match (s.seq k).taskFor .audit c with
  | none => s
  | some t => settleQueue k (dropTask k t s)

/-- The Audit Unit reports an audit applied, which ends its task (R85). -/
def auditApplied (k : Carousel) (c : Nat) (s : State) : State :=
  match (s.seq k).taskFor .audit c with
  | none => s
  | some t => if (s.seq k).isGranted t then endTask k t .finished s else settleQueue k (dropTask k t s)

/-! ## Presentation (R84, R85) -/

/-- What a task's owner is told when the task is granted (R84). -/
def grantedReports (k : Carousel) (t : Task) : List Instr :=
  match t.body with
  | .pick ps => (ps.filter (·.opened)).map fun p => .reservationPresented p.res
  | .put .. => []
  | .audit _ => [.auditGranted k t.carrier]

/-- A READY carousel accepts a grant and becomes PRESENTING (R84). -/
def acceptGrant (k : Carousel) (t : Task) (s : State) : State :=
  (s.modSeq k fun q => { q with state := .presenting }).postAll (grantedReports k t)

/-- CONFIRM ends a granted PICK or PUT task early (R85, R113): a PICK task's unfinished picks form a new task, a PUT
task's remaining count is given back and answered. -/
def confirmTask (k : Carousel) (s : State) : State × Nat :=
  match (s.seq k).granted with
  | none => (s, 0)
  | some t =>
    match t.body with
    | .pick ps =>
      let live := ps.filter (·.opened)
      let s := s.postAll (live.map fun p => .reservationWithdrawn p.res)
      let s := s.modSeq k fun q => { q with queue := withoutTask t.num q.queue }
      let s := if live = [] then s else newTask k (t.withPicks live).pickClass t.carrier (.pick live) s
      (endTask k t .confirmed s, 0)
    | .put lot _ n _ => (endTask k t .confirmed (returnIncomingEntry k t.carrier lot n s).1, n)
    | .audit _ => (s, 0)

/-! ## Moves and the drive (R67 to R80) -/

/-- A move is complete (R78). When its task has gone, the choice that follows is that of R75: DESIGN CHOICE (log entry 72), it takes
the first presentable task in queue order, also when a later one stands for the carrier at the opening. -/
def moveComplete (k : Carousel) (s : State) : State :=
  match (s.seq k).currentTask with
  | some t => becomeReady k t s
  | none => choose k (comeToRest k false s)

/-- The move is planned again toward the current task's carrier, or the carousel comes to rest (R78, R79). -/
def replan (k : Carousel) (resent : Option Nat) (s : State) : State :=
  match (s.seq k).currentTask with
  | none => choose k (comeToRest k false s)
  | some t => if s.moveAllowed k then planMove k t resent s else choose k (comeToRest k true s)

/-- A short move (R78). DESIGN CHOICE (log entry 88): the count is judged first, so that a second short move is a fault also when
the current task has gone or a condition of R75 fails, where R78 has the carousel come to rest and choose. -/
def moveShort (k : Carousel) (s : State) : State :=
  if (s.seq k).short = 0 then replan k none (s.modSeq k fun q => { q with short := 1 }) else enterFault k .short s

/-- The carousel is brought to rest by a HALT: the stop cause is recorded and the carousel becomes STOPPING. -/
def stopping (k : Carousel) (cause : StopCause) (s : State) : State :=
  s.modSeq k fun q => { q with state := .stopping, move := q.move.map fun m => { m with stop := some cause } }

/-- The drive has another target: lost position in MOVING (R79, R91). -/
def otherTarget (k : Carousel) (s : State) : State := stopping k .other (sendHalt k false s).1

/-- The carousel at rest has lost its position (R70). -/
def lostPosition (k : Carousel) (s : State) : State := enterUnknown k s

/-- A STILL or MOVING status in MOVING (R78, R79); `answer` says that it answers the query after a damaged or lost MOVE. -/
def statusMoving (k : Carousel) (mv : Move) (answer still : Bool) (index target : Nat) (s : State) : State :=
  if still then
    if index = mv.target then moveComplete k s
    else if answer then
      if mv.resent then enterFault k .link s else replan k (some mv.deadline) s
    else moveShort k s
  else if target = mv.target then s
  else otherTarget k s

/-- A STILL status in STOPPING (R77). -/
def statusStopped (k : Carousel) (s : State) : State :=
  let keep := ((s.seq k).move.bind (·.stop)) = some .curtain
  choose k (comeToRest k keep s)

/-- The queries as a status leaves them: it answers every one that was handed over before it (R68). One whose frame has returned
is settled, and one whose frame is still out is marked. -/
def answeredQueries (queries : List Query) : List Query :=
  (queries.filter fun x => x.deadline.isNone).map fun x => { x with answered := true }

/-- A status is taken with the queries that stand (R68, R79). -/
def Seq.answerQueries (q : Seq) : Seq := { q with queries := answeredQueries q.queries }

/-- A STILL or MOVING motion is acted on by the state (R67). -/
def statusMotion (k : Carousel) (old : Option Nat) (answer still : Bool) (index target : Nat) (s : State) : State :=
  match (s.seq k).state with
  | .unknown => if still then choose k (comeToRest k false s) else s
  | .idle | .ready | .presenting => if still && old = some index then s else lostPosition k s
  | .moving => match (s.seq k).move with
    | some mv => statusMoving k mv answer still index target s
    | none => s
  | .stopping => if still then statusStopped k s else s
  | .unconfigured | .manual | .fault | .disabled => s

/-- A DRIVE-STATUS is taken (R67). One with an index outside the carousel answers the queries where it is a fault, and is
discarded in every other state. -/
def takeStatus (k : Carousel) (m : Motion) (index target : Nat) (s : State) : State :=
  let q := s.seq k
  if q.state = .unconfigured then s
  else if s.carriersOf k ≤ index then
    if faultable q.state then enterFault k .index (s.modSeq k Seq.answerQueries) else s
  else
    let answer := q.queries.any fun x => x.afterMove && x.deadline.isSome
    let s := s.modSeq k fun q => Seq.answerQueries { q with index := some index }
    match m with
    | .faulted => enterFault k .drive s
    | .still => statusMotion k q.index answer true index target s
    | .moving => statusMotion k q.index answer false index target s

/-- The query whose round time ends first, with that time; the one handed over first when several end together (R68). -/
def firstDue : List Query → Option (Nat × Query)
  | [] => none
  | x :: rest =>
    match x.deadline, firstDue rest with
    | some d, some e => some (if d ≤ e.1 then (d, x) else e)
    | some d, none => some (d, x)
    | none, e => e

/-- The round time after a query's return has passed (R68). -/
def queryExpired (k : Carousel) (s : State) : State :=
  match firstDue (s.seq k).queries with
  | none => s
  | some (d, x) =>
    let s := (s.reach d).modSeq k (Seq.settleQuery x.num)
    if x.answered then s else enterFault k .link s

/-- The query numbered `n` is unanswered (R68). -/
def queryUnanswered (k : Carousel) (n : Nat) (s : State) : State := enterFault k .link (s.modSeq k (Seq.settleQuery n))

/-- The return of the STATUS-QUERY numbered `n`, which settles or times that query alone (R68). -/
def queryReturned (k : Carousel) (n : Nat) (fate : Fate) (s : State) : State :=
  match fate with
  | .accepted => s.modSeq k (Seq.timeQuery n (s.now + s.mgmt.timers.round))
  | .refused | .damaged | .lost => queryUnanswered k n s

/-- The return of a MOVE frame (R79): a damaged or lost one makes the sequencer ask the drive for its status, in every state
(R68), and the answer is acted on by the table of R79 while the carousel is MOVING. A refused one is a fault while the move is
in flight (DEDUCED, log entry 20). -/
def moveReturned (k : Carousel) (fate : Fate) (s : State) : State :=
  let state := (s.seq k).state
  match fate with
  | .accepted => s
  | .refused => if state = .moving ∨ state = .stopping then enterFault k .drive s else s
  | .damaged | .lost => if state = .unconfigured then s else sendQuery k (state = .moving) s

/-- The return of the HALT that answers a missing report (R83). -/
def haltReturned (k : Carousel) (fate : Fate) (s : State) : State :=
  if (s.seq k).state = .stopping ∧ fate ≠ .accepted then enterFault k .link s else s

/-- The move timeout (R80, R77). -/
def moveTimedOut (k : Carousel) (s : State) : State :=
  match (s.seq k).move with
  | none => s
  | some mv =>
    match (s.seq k).state with
    | .moving => enterFault k .timeout (sendHalt k false (s.reach mv.deadline)).1
    | .stopping => enterFault k .timeout (s.reach mv.deadline)
    | .unconfigured | .unknown | .idle | .ready | .presenting | .manual | .fault | .disabled => s

/-- A MOVING carousel is stopped because a condition has ended: its frame is withdrawn when still queued, and else it is
halted (R77, R81). -/
def stopMove (k : Carousel) (s : State) : State :=
  if (s.seq k).state = .moving then
    let r := withdrawMove k s
    if r.2 then choose k (comeToRest k true r.1)
    else stopping k .curtain (sendHalt k false r.1).1
  else s

/-- A broken curtain, or a curtain unseen with its panel lost (R81). -/
def curtainBreaks (k : Carousel) (unseen : Bool) (s : State) : State :=
  let s := s.modSeq k fun q => { q with curtain := if unseen then .unseen else .broken, settle := none }
  choose k (stopMove k s)

/-- A clear curtain (R81). -/
def curtainClears (k : Carousel) (s : State) : State :=
  match (s.seq k).curtain with
  | .broken | .unseen =>
    s.modSeq k fun q => { q with curtain := .settling, settle := some (s.now + Config.curtainSettle) }
  | .settling | .clear => s

/-- The settle timer expires (R81). -/
def curtainSettles (k : Carousel) (s : State) : State :=
  match (s.seq k).settle with
  | none => s
  | some d =>
    if (s.seq k).curtain = .settling then
      choose k ((s.reach d).modSeq k fun q => { q with curtain := .clear, settle := none })
    else s

/-- The drive is missing from the answer mask of the G0 HALT (R83). -/
def driveMissing (k : Carousel) (s : State) : State :=
  if (s.seq k).state = .stopping then
    let r := sendHalt k true s
    if r.2 then enterFault k .link r.1 else r.1
  else s

/-- A speed-class report discards a built MOVE frame, which is planned again (R76). -/
def speedReported (k : Carousel) (s : State) : State := if (s.seq k).built.isSome then choose k s else s

/-- An offer of a sequencer is answered no node: its carousel goes to FAULT with cause LINK for the frames whose fate it waits
for (R68, DEDUCED, log entry 19). -/
def driveUnheard (k : Carousel) (p : Payload) (s : State) : State :=
  match p with
  | .statusQuery n => queryUnanswered k n s
  | .move .. | .halt true => enterFault k .link s
  | .halt false | .panelShow _ | .lock .. | .unlock .. | .laneShow .. | .readRequest _ | .divert .. | .reply .. | .notice .. => s

/-- The MOVE frames that a sequencer keeps without a move of its own are discarded. -/
def discardMoves (k : Carousel) (s : State) : State :=
  s.modFe fun e => { e with kept := e.kept.filter fun f => !isFrameOf (.seq k) 1 f }

/-- Space in the transmit queue: kept frames are offered again, and a MOVE's conditions are checked again, those of one that was
built for the current task and those of one that was kept without a move (R76). -/
def seqSpace (k : Carousel) (s : State) : State :=
  let free := (s.seq k).state = .idle ∧ s.moveAllowed k
  let s := reofferKept (.seq k) (driveUnheard k) (if free then s else discardMoves k s)
  if (s.seq k).built.isSome then choose k s else s

/-! ## Stations, ring and cell (R66, R77, R83, R92, R93) -/

/-- The carousel is told its station and bay, or that it has none (R66). -/
def takePlace (k : Carousel) (place : Option (Station × Bay)) (s : State) : State :=
  choose k (s.modSeq k fun q =>
    if place = none then { q with place := none, curtain := .unseen, settle := none } else { q with place := place })

/-- The carousel is told its station's state (R75, R77): a MOVE frame still queued for a CLOSED station is withdrawn. -/
def takeStationState (k : Carousel) (opened : Bool) (s : State) : State :=
  if (s.seq k).state = .moving ∧ opened = false then
    let r := withdrawMove k s
    if r.2 then choose k (comeToRest k true r.1) else r.1
  else choose k s

/-- A frame is the STATUS-QUERY of a carousel that is numbered `n`. -/
def isQuery (k : Carousel) (n : Nat) (f : TxFrame) : Bool := f.block = .seq k && f.payload = .statusQuery n

/-- A query stands while its frame waits or is out, and while the round time after its return runs (R68). -/
def State.queryStands (s : State) (k : Carousel) (x : Query) : Bool :=
  x.deadline.isSome || (s.fe.queue ++ s.fe.kept ++ s.fe.outstanding.map (·.frame)).any (isQuery k x.num)

/-- The ring goes DOWN (R92). The queries whose frames were out are dropped: their returns never come (DEDUCED, log entry 20). -/
def seqRingDown (k : Carousel) (s : State) : State :=
  let s := s.modSeq k fun q => { q with queries := q.queries.filter (s.queryStands k) }
  match (s.seq k).state with
  | .moving | .stopping =>
    (withdrawMove k s).1.modSeq k fun q =>
      { q with state := .unknown, move := none, built := none, current := none, short := 0 }
  | .idle => choose k s
  | .unconfigured | .unknown | .ready | .presenting | .manual | .fault | .disabled => s

/-- A change of ring state reaches a sequencer (R92, R75). -/
def seqRing (k : Carousel) (r : Ring) (s : State) : State :=
  match r with
  | .down => seqRingDown k s
  | .restoring | .up => choose k s

/-- CELL-HALT reaches a sequencer, after the URGENT HALT has been offered (R83). -/
def seqHalt (k : Carousel) (s : State) : State :=
  match (s.seq k).state with
  | .moving =>
    let r := withdrawMove k s
    if r.2 then choose k (comeToRest k false r.1) else stopping k .halt r.1
  | .stopping => stopping k .halt s
  | .idle => choose k s
  | .unconfigured | .unknown | .ready | .presenting | .manual | .fault | .disabled => s

/-- CELL-RUN reaches a sequencer (R83). -/
def seqRun (k : Carousel) (s : State) : State :=
  match (s.seq k).state with
  | .unknown | .idle | .stopping | .ready => enterUnknown k s
  | .unconfigured | .moving | .presenting | .manual | .fault | .disabled => s

/-- A sequencer's record on CELL-RESTART (R93, Table CS-4). -/
def Seq.restart (q : Seq) : Seq :=
  let kept := q.state = .manual ∨ q.state = .unconfigured
  { q with
    state := if kept then q.state else .unknown, fault := none, index := if q.state = .manual then q.index else none, queue := [],
    held := [], current := none, move := none, built := none, short := 0, arrivals := 0, queries := [] }

/-! ## Windows, disable and enable (R86, R87) -/

/-- The carriers of a carousel for which `f` holds. -/
def State.carriersWhere (s : State) (k : Carousel) (f : Nat → Bool) : List Nat := (List.range (s.carriersOf k)).filter f

/-- A PUT task is removed with return-incoming (step 2 of R86). -/
def closePut (k : Carousel) (s : State) (t : Task) : State :=
  match t.body with
  | .put lot _ n _ => dropTask k t (returnIncomingEntry k t.carrier lot n s).1
  | .pick _ | .audit _ => s

/-- An AUDIT task is handed back (step 3 of R86). -/
def closeAudit (k : Carousel) (s : State) (t : Task) : State :=
  match t.body with
  | .audit _ => (dropTask k t s).post (.auditHandBack k (some t.carrier))
  | .pick _ | .put .. => s

/-- Carriers are closed (steps 1 to 3 of R86): they are excluded and their reservations released, their PUT tasks removed
with return-incoming, and their AUDIT tasks handed back; the places that this frees are filled by R74. -/
def closeCarriers (k : Carousel) (cs : List Nat) (s : State) : State :=
  if cs = [] then s
  else
    let s := (excludeEntry k cs s).post (.carrierRelease k cs)
    let puts := (s.seq k).queue.filter fun t => t.kind = .put && t.carrier ∈ cs
    let audits := (s.seq k).queue.filter fun t => t.kind = .audit && t.carrier ∈ cs
    let s := audits.foldl (closeAudit k) (puts.foldl (closePut k) s)
    if puts = [] ∧ audits = [] then s else placeFreed k s

/-- Carriers are admitted, and the Audit Unit is told (R86, R155). -/
def openCarriers (k : Carousel) (cs : List Nat) (s : State) : State :=
  if cs = [] then s else (admitEntry k cs s).post (.admitNotice k cs)

/-- WINDOW-SET (R86). -/
def windowSetRequest (kn : Nat) (bounds : Option (Nat × Nat)) (s : State) : State × Result :=
  match car? kn with
  | none => (s, .range)
  | some k =>
    let q := s.seq k
    if q.state ≠ .unconfigured ∧ bounds.any (fun b => decide (s.carriersOf k ≤ b.1) || decide (s.carriersOf k ≤ b.2)) then
      (s, .range)
    else if q.state = .unconfigured then (s, .state)
    else
      let newly := s.carriersWhere k fun c => inWindow bounds c && !inWindow q.window c
      let left := s.carriersWhere k fun c => inWindow q.window c && !inWindow bounds c
      let s := closeCarriers k newly (s.modSeq k fun q => { q with window := bounds })
      let s := if q.state = .disabled then s else openCarriers k left s
      (choose k s, .done)

/-- CAROUSEL-DISABLE (R87). -/
def disableRequest (kn : Nat) (s : State) : State × Result :=
  match car? kn with
  | none => (s, .range)
  | some k =>
    match (s.seq k).state with
    | .unconfigured => (s, .state)
    | .manual => (s, .busy)
    | .disabled => (s, .done)
    | .unknown | .idle | .moving | .stopping | .ready | .presenting | .fault =>
      let s := if (s.seq k).move.isSome then
          let r := withdrawMove k s
          if r.2 then r.1 else (sendHalt k false r.1).1
        else s
      let s := closeCarriers k (s.carriersWhere k fun _ => true) s
      let s := (leaveOpening k .disabled s).modSeq k fun q =>
        { q with fault := none, move := none, built := none, current := none, short := 0 }
      (s, .done)

/-- CAROUSEL-ENABLE (R87). -/
def enableRequest (kn : Nat) (s : State) : State × Result :=
  match car? kn with
  | none => (s, .range)
  | some k =>
    match (s.seq k).state with
    | .unconfigured => (s, .state)
    | .disabled =>
      let w := (s.seq k).window
      (enterUnknown k (openCarriers k (s.carriersWhere k fun c => !inWindow w c) s), .done)
    | .fault => (enterUnknown k s, .done)
    | .unknown | .idle | .moving | .stopping | .ready | .presenting | .manual => (s, .done)

/-! ## Manual claims (R88 to R91) -/

/-- The manual idle timer is started (R89). -/
def State.idleDeadline (s : State) : Option Nat :=
  if s.mgmt.timers.manualIdle = 0 then none else some (s.after s.mgmt.timers.manualIdle)

/-- The claim's idle timer is restarted when the frame comes from the claimant (R89). -/
def restartIdle (k : Carousel) (source : Nat) (s : State) : State :=
  s.modSeq k fun q =>
    { q with claim := q.claim.map fun c => if c.node = source then { c with deadline := s.idleDeadline } else c }

/-- A MANUAL-CLAIM is taken (R88). -/
def takeClaim (k : Carousel) (source : Nat) (s : State) : State :=
  match (s.seq k).state with
  | .unconfigured | .disabled => s
  | .manual => restartIdle k source s
  | .unknown | .idle | .moving | .stopping | .ready | .presenting | .fault =>
    let s := abandonAudit k (leaveOpening k .manual (withdrawMove k s).1)
    let s := s.modSeq k fun q =>
      { q with fault := none, move := none, built := none, current := none, short := 0,
               claim := some { node := source, carriers := [], all := false, deadline := s.idleDeadline } }
    handNotice (.manualEntered k source (s.seq k).index) s

/-- A claim after an ACCESS at an index (R89). -/
def Claim.access (c : Claim) (index : Option Nat) : Claim :=
  match index with
  | none => { c with all := true }
  | some i =>
    if i ∈ c.carriers then c
    else if c.carriers.length < 8 then { c with carriers := c.carriers ++ [i] }
    else { c with all := true }

/-- An ACCESS frame is taken (R89). -/
def takeAccess (k : Carousel) (source : Nat) (s : State) : State :=
  if (s.seq k).state = .manual then
    restartIdle k source (s.modSeq k fun q =>
      { q with claim := q.claim.map fun c => if c.node = source then c.access q.index else c })
  else s

/-- Any other frame of the claimant (R89). -/
def takeMaintFrame (k : Carousel) (source : Nat) (s : State) : State :=
  if (s.seq k).state = .manual then restartIdle k source s else s

/-- The claim ends (R90). -/
def endClaim (k : Carousel) (idle : Bool) (s : State) : State :=
  match (s.seq k).state, (s.seq k).claim with
  | .manual, some c =>
    let cs := if c.all then List.range (s.carriersOf k) else c.carriers
    let s := s.postAll (cs.map fun i => .auditRequestRaised k i true 1 .manual)
    let s := handNotice (.manualExited k idle c.carriers c.all (s.seq k).index) s
    enterUnknown k (s.modSeq k fun q => { q with claim := none })
  | _, _ => s

/-- A MANUAL-RELEASE is taken (R90). -/
def takeRelease (k : Carousel) (source : Nat) (s : State) : State :=
  if (s.seq k).claim.any (fun c => c.node = source) then endClaim k false s else s

/-- The manual idle timer expires (R90). -/
def manualIdleExpired (k : Carousel) (s : State) : State :=
  match (s.seq k).claim.bind (·.deadline) with
  | some d => endClaim k true (s.reach d)
  | none => s

/-- The carousels whose claim names a node: a write of its address to a role other than MAINT ends them as a release
(R90). -/
def endClaimsOf (node : Nat) (s : State) : State :=
  carousels.foldl (fun s k => takeRelease k node s) s

/-! ## Configuration (R69) -/

/-- The sequencer's part of a CAROUSEL-CONFIG-WRITE, after the Stock Table Unit and the Balance Unit (R69). DESIGN CHOICE (log
entry 73): a DISABLED carousel keeps its current index, also one of the new P or more. -/
def configureSeq (k : Carousel) (s : State) : State :=
  if (s.seq k).state = .unconfigured then
    enterUnknown k (s.modSeq k fun q => { q with index := none })
  else
    s.modSeq k fun q =>
      { q with window := q.window.bind fun w =>
          if w.1 < s.carriersOf k ∧ w.2 < s.carriersOf k then some w else none }

end Sys2Proof.Machine
end

