-- ==== Sys2Proof/Machine/Receive.lean ====
section
/-! DEFINITION. What becomes of a good frame that a command row brings (R170 to R172): a management request and its reply
(R179), a MAINT node's frame (R171), a field node's frame, and a frame given under a row that its disposal does not fit. -/

namespace Sys2Proof.Machine

/-! ## Requests and replies (R172, R179) -/

/-- What the owning block answers to a request: the result, and the returned content, which is sent with DONE alone. -/
structure Answered where
  result : Result
  content : List Byte
  deriving DecidableEq, Repr

/-- The header with which a request's frame is forwarded: bit 0 of its answer field is set (R172). -/
def takenHdr (h : Hdr) : Hdr := { h with answer := h.answer ||| 1#16 }

/-- A reply joins the reply list (R179). -/
def addReply (q : Req) (kind : Nat) (a : Answered) (s : State) : State :=
  s.modMgmt fun m => { m with replies := m.replies ++
    [{ dest := q.hdr.source, kind := kind, tag := q.tag, result := a.result,
       content := if a.result = .done then a.content else [] }] }

/-- A management request whose frame has been forwarded: one that finds all 16 reply places taken is discarded, any other
is carried out by `body` and answered (R179). -/
def answerRequest (q : Req) (kind : Nat) (body : State → State × Answered) (s : State) : State :=
  if Config.replies ≤ s.mgmt.replies.length then s.ans .discarded
  else
    let r := body s
    addReply q kind r.2 r.1

/-- A request that its kind or length makes MALFORMED (R179, R190): its tag is its payload's first byte, and 0 when it has
none. -/
def malformed (h : Hdr) (kind : Nat) (payload : List Byte) (s : State) : State :=
  answerRequest { hdr := h, tag := (payload.head?.getD 0#8).toNat } kind
    (fun s => (s, { result := .malformed, content := [] })) (passFrame (takenHdr h) kind s)

/-! ## Frames by disposal (R170, R171) -/

/-- A MAINT node's frame as its drive's sequencer takes it (R88 to R90, R171). -/
def maintAct (kind : Nat) : Carousel → Nat → State → State :=
  match kind with
  | 6 => takeClaim
  | 7 => takeAccess
  | 8 => takeRelease
  | _ => takeMaintFrame

/-- A foreign MOVE (kind 1) or JOG (kind 2) is absorbed, and the sequencer hands the notice (R91, R171). -/
def takeForeignFrame (k : Carousel) (h : Hdr) (kind : Nat) (s : State) : State :=
  handNotice (.foreignCommand k h.source kind) s

/-- A frame given under a row that its disposal does not fit is disposed of as R170 gives; `payload` is what the row tells
of its payload, empty where the row does not carry it. -/
def redirect (d : Disposal) (h : Hdr) (kind : Nat) (payload : List Byte) (s : State) : State :=
  match d with
  | .own => frameReturned h kind true s
  | .request => malformed h kind payload s
  | .foreign k => takeForeignFrame k h kind s
  | .maint k => maintAct kind k h.source (passFrame h kind s)
  | .field .. | .unasked | .other => passFrame h kind s

/-- A frame from a field role: handed to the owning block of the source's role and unit, and absorbed, or passed on when
the source's mirror flag is set (R170). A frame of a node's answering kind answers the restore (R167). -/
def fieldFrame (h : Hdr) (kind : Nat) (payload : List Byte) (owner : Role → Nat → State → State) (s : State) : State :=
  receive h kind (fun d s =>
    match d with
    | .field role unit mirror =>
      let s := if mirror then passFrame h kind s else s
      let s := owner role unit s
      if restoreRole role then restoreAnswered h.source s else s
    | d => redirect d h kind payload s) s

end Sys2Proof.Machine
end

