-- ==== Sys2Proof/Machine/Lanes.lean ====
section
/-! DEFINITION. The operations of the Transit and Lane Unit (chapter 7): the in-transit list, compartments and waiting
orders, and the lane machines. -/

namespace Sys2Proof.Machine

/-! ## The in-transit list (R132, R133) -/

/-- A place of the in-transit list, when it is not FREE. -/
def State.place (s : State) (n : Nat) : Option Place := tget n s.transit.places

/-- A place becomes FREE, and every waiting station is given a transit place report (R133). -/
def freePlace (n : Nat) (s : State) : State :=
  (s.postAll (s.transit.waitStations.map .transitPlaceReport)).modTransit fun t =>
    { t with places := tdel n t.places, waitStations := [] }

/-- A station asks for a transit place: the lowest FREE one, HELD for it, or none, and the station waits (R133). -/
def askPlace (st : Station) (s : State) : State × Option Nat :=
  let n := tfree 0 s.transit.places
  if n < Config.transitPlaces then (s.modTransit fun t => { t with places := tput n (.held st) t.places }, some n)
  else
    (s.modTransit fun t =>
      { t with waitStations := if st ∈ t.waitStations then t.waitStations else t.waitStations ++ [st] }, none)

/-- A station gives a HELD place back (R133). -/
def givePlace (st : Station) (n : Nat) (s : State) : State :=
  if s.place n = some (.held st) then freePlace n s else s

/-- An entry names a lane. -/
def Place.inLane (l : Lane) : Place → Bool
  | .held _ => false
  | .entry _ _ _ _ _ k _ _ _ _ _ => k = l

/-- An entry names an order. -/
def Place.ofOrder (h : Nat) : Place → Bool
  | .held _ => false
  | .entry o _ _ _ _ _ _ _ _ _ _ => o = h

/-- An entry's creation sequence. -/
def Place.seq : Place → Nat
  | .held _ => 0
  | .entry _ _ _ _ _ _ _ _ _ q _ => q

/-- The cancelled mark set on an entry of an order (R140). -/
def Place.cancel (h : Nat) : Place → Place
  | .held st => .held st
  | .entry o r i lot w l c st d q x => .entry o r i lot w l c st d q (x || o = h)

/-- The oldest of a table's entries for which `f` holds. -/
def oldest (f : Place → Bool) : Table Place → Option (Nat × Place)
  | [] => none
  | (n, p) :: rest =>
    match oldest f rest with
    | some (m, q) => if f p && decide (p.seq < q.seq) then some (n, p) else some (m, q)
    | none => if f p then some (n, p) else none

/-- The compartment of a list that holds an order, with its number. -/
def compHolding (h : Nat) : Nat → List Comp → Option (Nat × Comp)
  | _, [] => none
  | i, c :: rest => if c.order.any fun o => o.handle = h then some (i, c) else compHolding h (i + 1) rest

/-- The lane and compartment that hold an order (R134). The orders of a RELEASING lane have been dispatched (R146), and their
handles may name other orders by now. -/
def State.holding (s : State) (h : Nat) : Option (Lane × Nat × Comp) :=
  laneList.findSome? fun l =>
    if (s.lane l).state = .releasing then none else (compHolding h 0 (s.lane l).comps).map fun e => (l, e.1, e.2)

/-- A DIVERT is sent to the sorter; with no SORTER in the node map none is sent (R135). -/
def sendDivert (label : Label) (l : Option Lane) (second : Bool) (s : State) : State :=
  (sendOrKeep .transit (.node .sorter 0) (.divert label l second) s).1

/-- A hand-over of a HELD place (R134). The entry keeps the order's reference for the notice of its loss (R39). -/
def handOverPlace (st : Station) (n h : Nat) (ref : OrderRef) (line lot week : Nat) (s : State) : State :=
  if s.place n = some (.held st) then
    let label := s.labelOf lot
    match s.holding h with
    | some (l, c, comp) =>
      if (s.lane l).state = .coupled ∨ (s.lane l).state = .releaseWait then
        let e : Place := .entry h ref line lot week l c st (s.after s.mgmt.timers.transit) s.transit.created
          (comp.state = .cancelled)
        sendDivert label (some l) false
          (s.modTransit fun t => { t with places := tput n e t.places, created := t.created + 1 })
      else unrouted label s
    | none => unrouted label s
  else s
where
  /-- A tyre with nowhere to go (R134). DESIGN CHOICE (log entry 66): its TRANSIT-LOST carries lane and compartment absent, also
  for an order that holds a compartment of a FLUSHING lane. -/
  unrouted (label : Label) (s : State) : State :=
    let s := sendDivert label none false (freePlace n s)
    handNotice (.transitLost h ref line lot none st true) (s.post (.transitRemoval h line week .timeout))

/-- The return of a DIVERT: a first DAMAGED or LOST is sent once more (R135). -/
def divertReturned (label : Label) (l : Option Lane) (second : Bool) (fate : Fate) (s : State) : State :=
  match fate with
  | .damaged | .lost => if second then s else sendDivert label l true s
  | .accepted | .refused => s

/-! ## The latch (R143) -/

/-- The node of a lane's controller. -/
def controllerOf (l : Lane) : Target := .node .laneController l.val

/-- A LOCK or UNLOCK frame of a lane. -/
def isLatchOf (l : Lane) (f : TxFrame) : Bool :=
  match f.payload with
  | .lock m _ | .unlock m _ _ => m = l
  | .move .. | .halt _ | .statusQuery _ | .panelShow _ | .laneShow .. | .readRequest _ | .divert .. | .reply .. | .notice .. => false

/-- The controller mark becomes LOST. No LOCK or UNLOCK is sent from then on: one that still waits in the transmit queue is
withdrawn, and one that was kept for it is given up (R150). -/
def loseController (l : Lane) (s : State) : State :=
  let s := (withdrawWhere (isLatchOf l) s).modFe fun e => { e with kept := e.kept.filter fun f => !isLatchOf l f }
  s.modLane l fun x => { x with controllerLost := true }

/-- A LOCK or UNLOCK is sent, unless the controller mark is LOST; an answer of no node is a second failed sending (R143,
R150). -/
def sendLatch (l : Lane) (lock second : Bool) (s : State) : State :=
  if (s.lane l).controllerLost then s
  else
    let p := if lock then Payload.lock l second else Payload.unlock l s.mgmt.timers.latch second
    let r := sendOrKeep .transit (controllerOf l) p s
    let s := r.1.modLane l fun x => { x with locked := lock }
    if r.2 then loseController l s else s

/-- The return of a LOCK or UNLOCK: a failed one is sent once more, a second failure marks the controller LOST (R143). DESIGN
CHOICE (log entry 82): the frame sent once more sets the record of the latch again, also when the opposite one has been commanded
meanwhile (Table TL-3 has the latch as last commanded), and an UNLOCK sent once more carries the latch pulse time as it is set
at that time. -/
def latchReturned (l : Lane) (lock second : Bool) (fate : Fate) (s : State) : State :=
  if fate = .accepted then s
  else if second then loseController l s
  else sendLatch l lock true s

/-- A LANE-SHOW is sent once (R136). -/
def showAtLane (l : Lane) (x : LaneShow) (s : State) : State := (sendOrKeep .transit (controllerOf l) (.laneShow l x) s).1

/-- An offer of the Transit and Lane Unit is answered no node: a latch frame is a second failed sending (R143), and any other
frame is dropped (R135, R136, R142). -/
def laneUnheard (p : Payload) (s : State) : State :=
  match p with
  | .lock l _ | .unlock l _ _ => loseController l s
  | .move .. | .halt _ | .statusQuery _ | .panelShow _ | .laneShow .. | .readRequest _ | .divert .. | .reply .. | .notice .. => s

/-! ## Compartments and waiting orders (R138, R139) -/

/-- An entry of the waiting list stands before another: by class, then by arrival sequence (R138). -/
def waitsBefore (a b : Waiting) : Bool := decide (a.cls < b.cls ∨ (a.cls = b.cls ∧ a.seq < b.seq))

/-- The waiting list with an entry in its place; no handle stands twice (R138). -/
def joinWaitList (w : Waiting) (l : List Waiting) : List Waiting :=
  insertBy waitsBefore w (l.filter fun x => !(x.handle == w.handle))

/-- The waiting list without a handle. -/
def leaveWaitList (h : Nat) (l : List Waiting) : List Waiting := l.filter fun x => !(x.handle == h)

/-- An entry's allowed lanes are absent or include a lane. -/
def Waiting.admits (l : Lane) (w : Waiting) : Bool :=
  match w.lanes with
  | none => true
  | some ls => l.val ∈ ls

/-- One compartment of a lane changed by `f`. -/
def modComp (l : Lane) (c : Nat) (f : Comp → Comp) (s : State) : State :=
  s.modLane l fun x => { x with comps := modAt c f x.comps }

/-- A lane's FREE compartments are given to waiting orders, at most `n` of them (R139). -/
def assignLane (l : Lane) : Nat → State → State
  | 0, s => s
  | n + 1, s =>
    match position (fun c => c.state = .free) (s.lane l).comps, s.transit.waiting.find? (Waiting.admits l) with
    | some c, some w =>
      let s := modComp l c (fun _ => { state := .pending, order := some { handle := w.handle, seq := w.seq, ref := w.ref } }) s
      let s := s.modTransit fun t => { t with waiting := leaveWaitList w.handle t.waiting }
      assignLane l n (s.post (.compartmentReceipt w.handle w.seq l c))
    | _, _ => s

/-- An assignment round (R139). -/
def assignRound (s : State) : State :=
  laneList.foldl (fun s l =>
    if (s.lane l).state = .coupled ∧ (s.lane l).controllerLost = false then assignLane l (s.lane l).comps.length s else s) s

/-! ## The lane machine (R142 to R147) -/

/-- An entry of the list names the lane. -/
def State.laneNamed (s : State) (l : Lane) : Bool := s.transit.places.any fun e => e.2.inLane l

/-- The dispatch reports of a lane's COMPLETE and CANCELLED compartments, in compartment order (R146). -/
def dispatchReports (l : Lane) (cart : CartId) : Nat → List Comp → List Instr
  | _, [] => []
  | i, c :: rest =>
    (match c.state, c.order with
     | .complete, some o | .cancelled, some o => [.dispatchReport o.handle l i cart]
     | _, _ => []) ++ dispatchReports l cart (i + 1) rest

/-- The id of a lane's cart. -/
def LaneRec.cartId (x : LaneRec) : CartId := ((x.cart).map (·.id)).getD 0

/-- Entry to RELEASING (R146). -/
def enterReleasing (l : Lane) (s : State) : State :=
  let s := sendLatch l false false (s.modLane l fun x => { x with state := .releasing })
  s.postAll (dispatchReports l (s.lane l).cartId 0 (s.lane l).comps)

/-- A FLUSHING lane that no entry names enters RELEASING (R145). -/
def checkFlush (l : Lane) (s : State) : State :=
  if (s.lane l).state = .flushing ∧ s.laneNamed l = false then enterReleasing l s else s

/-- A compartment is PENDING or PICKING. -/
def Comp.working (c : Comp) : Bool := c.state = .pending || c.state = .picking

/-- A FREE compartment. -/
def freeComp : Comp := { state := .free, order := none }

/-- Entry to FLUSHING (R145). -/
def enterFlushing (l : Lane) (s : State) : State :=
  let given := ((s.lane l).comps.filter (·.working)).filterMap (·.order)
  let s := s.postAll (given.map fun o => .compartmentWithdrawal o.handle .flush)
  checkFlush l (s.modLane l fun x =>
    { x with state := .flushing, comps := x.comps.map fun c => if c.working then freeComp else c })

/-- The permit test (R144). -/
def permitTest (l : Lane) (s : State) : State :=
  if (s.lane l).state = .releaseWait ∧ (s.lane l).comps.all (fun c => !c.working) then enterFlushing l s else s

/-- Entry to SEATING (R142). -/
def enterSeating (l : Lane) (s : State) : State :=
  s.modLane l fun x => { x with state := .seating, timer := some (s.after s.mgmt.timers.settle) }

/-- An EMPTY configured lane whose contacts are both made enters SEATING (R141, R142, R147). -/
def seatIfMade (l : Lane) (s : State) : State :=
  let x := s.lane l
  if x.state = .empty ∧ x.configured = true ∧ x.input.contactA = true ∧ x.input.contactB = true then enterSeating l s else s

/-- A lane becomes EMPTY without a cart. -/
def emptyLane (l : Lane) (s : State) : State :=
  s.modLane l fun x => { x with state := .empty, timer := none, cart := none, comps := [] }

/-- A cart is coupled (R143). -/
def coupleCart (l : Lane) (id : CartId) (count : Nat) (source : CartSource) (s : State) : State :=
  let s := s.modLane l fun x =>
    { x with state := .coupled, timer := none, cart := some { id := id, count := count, source := source },
             comps := List.replicate (min count x.limit) freeComp }
  assignRound (sendLatch l true false s)

/-- The orders that a lane's compartments hold, by compartment. -/
def LaneRec.held (x : LaneRec) : List CompOrder := x.comps.filterMap (·.order)

/-- The handles of the orders that a lane's compartments hold, by compartment. -/
def LaneRec.orders (x : LaneRec) : List Nat := x.held.map (·.handle)

/-- The orders that were on a lane's cart, as a CART-LOST carries them: each one's handle and reference (R39, R147). -/
def LaneRec.lostOrders (x : LaneRec) : List (Nat × OrderRef) := x.held.map fun o => (o.handle, o.ref)

/-- The removal of one entry of a lost cart (R147). -/
def removalOf (held : List Nat) : Place → List Instr
  | .held _ => []
  | .entry h _ line _ week _ _ _ _ _ _ => [.transitRemoval h line week (if h ∈ held then .cart else .timeout)]

/-- A cart has left without release (R147). DESIGN CHOICE (log entry 32): its entries are removed and reported in the order of
their places. Removing an entry that names another lane may let that lane go on (R145): it does so after the steps of the lost
cart, behind its UNLOCK and CART-LOST. -/
def cartLost (l : Lane) (s : State) : State :=
  let held := (s.lane l).orders
  let body := fun n => NoticeBody.cartLost l (s.lane l).cartId (s.lane l).lostOrders n
  let gone := s.transit.places.filter fun e => e.2.inLane l || held.any fun h => e.2.ofOrder h
  let s := gone.foldl (fun s e => (freePlace e.1 s).postAll (removalOf held e.2)) s
  let s := s.postAll (held.map fun h => .compartmentWithdrawal h .lost)
  let s := sendLatch l false false (emptyLane l s)
  let s := handNotice (body gone.length) s
  seatIfMade l (laneList.foldl (fun s m => checkFlush m s) s)

/-- What a CART-RELEASE-REQUEST carries for each compartment that is not FREE: its order's handle and reference, and its state
(R39, R144). -/
def LaneRec.requestComps (x : LaneRec) : List (Nat × OrderRef × CompState) :=
  x.comps.filterMap fun c => c.order.map fun o => (o.handle, o.ref, c.state)

/-- A press of the release button (R142, R144, R146). -/
def pressRelease (l : Lane) (s : State) : State :=
  match (s.lane l).state with
  | .identifying | .releasing => sendLatch l false false s
  | .coupled =>
    let s := s.modLane l fun x => { x with state := .releaseWait }
    permitTest l (handNotice (.cartReleaseRequest l (s.lane l).cartId (s.lane l).requestComps) s)
  | .empty | .seating | .releaseWait | .flushing | .closed => s

/-- The contacts have changed from `old` to the snapshot's (R142, R146, R147). -/
def contactsChanged (l : Lane) (old : LaneInput) (s : State) : State :=
  let new := (s.lane l).input
  let opens := (old.contactA && !new.contactA) || (old.contactB && !new.contactB)
  match (s.lane l).state with
  | .empty => seatIfMade l s
  | .seating | .identifying => if opens then emptyLane l s else s
  | .coupled | .releaseWait | .flushing => if opens then cartLost l s else s
  | .releasing => if new.contactA || new.contactB then s else emptyLane l s
  | .closed => s

/-- A LANE-INPUT frame's inputs are taken: compared with the snapshot, stored and acted on, contacts before the button; the
first one from a LOST controller makes it PRESENT and an assignment round follows (R141, R150). -/
def takeLaneInput (l : Lane) (i : LaneInput) (s : State) : State :=
  let x := s.lane l
  let old := x.input
  let s := s.modLane l fun x => { x with input := i, controllerLost := false }
  let s := if x.configured then
      let s := if old.contactA = i.contactA ∧ old.contactB = i.contactB then s else contactsChanged l old s
      if i.button && !old.button then pressRelease l s else s
    else s
  if x.controllerLost then assignRound s else s

/-- A momentary press of the release button, from up to down (R141). It comes by a LANE-INPUT, so that one from a LOST
controller makes it PRESENT and an assignment round follows (R150). -/
def momentaryRelease (l : Lane) (s : State) : State :=
  let x := s.lane l
  if x.input.button then s
  else
    let s := if x.controllerLost then s.modLane l fun x => { x with controllerLost := false } else s
    let s := if x.configured then pressRelease l s else s
    if x.controllerLost then assignRound s else s

/-- The settle timer expires (R142). -/
def laneSettled (l : Lane) (s : State) : State :=
  match (s.lane l).state, (s.lane l).timer with
  | .seating, some d =>
    let s := s.reach d
    let s := (sendOrKeep .transit (.node .laneReader l.val) (.readRequest l) s).1
    s.modLane l fun x => { x with state := .identifying, tagExpired := false, timer := some (s.after s.mgmt.timers.tag) }
  | _, _ => s

/-- The tag timer expires (R142). -/
def tagExpires (l : Lane) (s : State) : State :=
  match (s.lane l).state, (s.lane l).timer with
  | .identifying, some d =>
    handNotice (.cartUnread l) ((s.reach d).modLane l fun x => { x with tagExpired := true, timer := none })
  | _, _ => s

/-- A TAG-READ from a lane's reader (R142). -/
def takeTag (l : Lane) (id : CartId) (count : Nat) (s : State) : State :=
  if (s.lane l).state = .identifying ∧ 1 ≤ count ∧ count ≤ 8 then
    coupleCart l id count .tag s
  else s

/-! ## Arrivals and timeouts (R136, R137) -/

/-- An entry names a lane and a lot (R136). -/
def Place.matches (l : Lane) (lot : Nat) : Place → Bool
  | .held _ => false
  | .entry _ _ _ x _ k _ _ _ _ _ => k = l && x == lot

/-- The oldest entry that a label at a lane matches (R136). -/
def State.arriving (s : State) (l : Lane) (label : Label) : Option (Nat × Place) :=
  (s.lotOf label).bind fun e => oldest (Place.matches l e.1) s.transit.places

/-- A LABEL from a lane's reader (R136). -/
def takeArrival (l : Lane) (label : Label) (s : State) : State :=
  match s.arriving l label with
  | some (n, .entry h _ line lot _ _ c _ _ _ cancelled) =>
    let s := (freePlace n s).post (.deliveryReport h line lot)
    checkFlush l (showAtLane l (if cancelled then .giveBack else .compartment c) s)
  | _ => showAtLane l .reject (handNotice (.stray l label) s)

/-- An entry reaches its deadline (R137). -/
def transitExpired (n : Nat) (s : State) : State :=
  match s.place n with
  | some (.entry h ref line lot week l c st d _ _) =>
    let s := (freePlace n (s.reach d)).post (.transitRemoval h line week .timeout)
    checkFlush l (handNotice (.transitLost h ref line lot (some (l, c)) st false) s)
  | some (.held _) | none => s

/-! ## Reports of the Order Book (R138 to R140) -/

/-- A waiting report (R138, R139). -/
def takeWaiting (w : Waiting) (s : State) : State :=
  assignRound (s.modTransit fun t => { t with waiting := joinWaitList w t.waiting })

/-- A class report (R138, R139). -/
def takeOrderClass (h : Nat) (cls : Class) (s : State) : State :=
  assignRound (s.modTransit fun t => { t with waiting :=
    (match t.waiting.find? fun w => w.handle = h with
     | some w => joinWaitList { w with cls := cls } t.waiting
     | none => t.waiting) })

/-- A gone report (R138). -/
def takeGone (h : Nat) (s : State) : State := s.modTransit fun t => { t with waiting := leaveWaitList h t.waiting }

/-- The PICKING compartment that holds an order takes another state, and the permit test follows (R140). -/
def closeComp (h : Nat) (st : CompState) (s : State) : State :=
  match s.holding h with
  | some (l, c, comp) =>
    if comp.state = .picking then permitTest l (modComp l c (fun x => { x with state := st }) s) else s
  | none => s

/-- A cancel report (R140). -/
def takeCancel (h : Nat) (picking : Bool) (s : State) : State :=
  let s := s.modTransit fun t => { t with places := tmap (fun _ p => p.cancel h) t.places }
  if picking then closeComp h .cancelled s else takeGone h s

/-- A completion report (R140). -/
def takeCompletion (h : Nat) (s : State) : State := closeComp h .complete s

/-- The Order Book's answer to a receipt (R139). -/
def takeReceiptAnswer (l : Lane) (c h seq : Nat) (accepted : Bool) (s : State) : State :=
  if (s.lane l).comps[c]?.any fun x => x.state = .pending && x.order.any fun o => o.handle == h && o.seq == seq then
    if accepted then modComp l c (fun x => { x with state := .picking }) s
    else assignRound (modComp l c (fun _ => freeComp) s)
  else s

/-! ## Requests and restart (R142, R144, R148, R151) -/

/-- LANE-PERMIT (R144). -/
def lanePermitRequest (n : Nat) (s : State) : State × Result :=
  match lane? n with
  | none => (s, .range)
  | some l =>
    match (s.lane l).state with
    | .releaseWait => (enterFlushing l s, .done)
    | .flushing | .releasing => (s, .done)
    | .empty | .seating | .identifying | .coupled | .closed => (s, .state)

/-- LANE-ASSIGN (R142). -/
def laneAssignRequest (n : Nat) (id : CartId) (count : Nat) (s : State) : State × Result :=
  match lane? n with
  | none => (s, .range)
  | some l =>
    if ¬ (1 ≤ count ∧ count ≤ 8) then (s, .range)
    else if (s.lane l).state = .identifying then (coupleCart l id count .host s, .done) else (s, .state)

/-- LANE-CLOSE (R148). -/
def laneCloseRequest (n : Nat) (s : State) : State × Result :=
  match lane? n with
  | none => (s, .range)
  | some l =>
    match (s.lane l).state with
    | .empty => (s.modLane l fun x => { x with state := .closed, timer := none }, .done)
    | .closed => (s, .done)
    | .seating | .identifying | .coupled | .releaseWait | .flushing | .releasing => (s, .busy)

/-- LANE-OPEN (R148): a CLOSED lane becomes EMPTY, or SEATING at once when the snapshot shows both contacts made. -/
def laneOpenRequest (n : Nat) (s : State) : State × Result :=
  match lane? n with
  | none => (s, .range)
  | some l =>
    if (s.lane l).state = .closed then
      let s := s.modLane l fun x => { x with state := .empty }
      (if (s.lane l).input.contactA && (s.lane l).input.contactB then enterSeating l s else s, .done)
    else (s, .done)

/-- A lane written by LANE-CONFIG-WRITE (R141). -/
def configureLane (l : Lane) (configured : Bool) (limit : Nat) (s : State) : State :=
  let s := s.modLane l fun x => { x with configured := configured, limit := limit }
  let x := s.lane l
  if configured then
    let s := if x.state = .empty ∨ x.state = .closed then s
      else s.modLane l fun x =>
        { x with comps := match x.cart with
            | some c => List.replicate (min c.count limit) freeComp
            | none => x.comps }
    seatIfMade l s
  else if x.state = .closed then s else emptyLane l s

/-- A lane on CELL-RESTART (R151). -/
def LaneRec.restart (x : LaneRec) : LaneRec :=
  let st := match x.state with
    | .coupled | .releaseWait | .flushing => LaneState.coupled
    | .empty => .empty | .seating => .seating | .identifying => .identifying | .releasing => .releasing | .closed => .closed
  { x with state := st, comps := x.comps.map fun _ => freeComp }

/-- The Transit and Lane Unit's records on CELL-RESTART (R151). -/
def restartLanes (s : State) : State :=
  { s with transit := { places := [], created := 0, waitStations := [], waiting := [] }, lanes := s.lanes.map LaneRec.restart }

end Sys2Proof.Machine
end

