-- ==== Sys2Proof/Machine/PutAway.lean ====
section
/-! DEFINITION. The accumulator and planner of the Station Controllers (chapter 6). -/

namespace Sys2Proof.Machine

/-- The planner is full: it holds a planning batch, or its wait list holds 4 parts (R123). -/
def Stn.plannerFull (x : Stn) : Bool := x.planning.isSome || decide (Config.waitParts ≤ x.waitList.length)

/-- A count of tyres is refused: the panel shows "no space" and a PUT-REFUSED notice is handed (R127). -/
def refusePut (st : Station) (lot whole planned n : Nat) (reason : RefuseReason) (s : State) : State :=
  handNotice (.putRefused st lot (s.labelOf lot) whole planned n reason) (s.modStn st fun x => { x with message := some .noSpace })

/-- The planning batch ends with its remainder refused (R127). -/
def refuseBatch (st : Station) (b : Planning) (reason : RefuseReason) (s : State) : State :=
  refusePut st b.lot b.whole b.planned b.remainder reason (s.modStn st fun x => { x with planning := none })

/-! ## Candidates (R124, R125) -/

/-- A candidate carrier with its readings (R125). -/
structure Reading where
  car : Carousel
  carrier : Nat
  holds : Bool
  count : Nat
  worst : Nat
  distance : Nat
  deriving DecidableEq, Repr

/-- A carousel whose state lets its carriers be candidates (R124). -/
def offersCandidates : CarState → Bool
  | .unknown | .idle | .moving | .stopping | .ready | .presenting => true
  | .unconfigured | .manual | .fault | .disabled => false

/-- A carrier is named by the planner's placed list or wait list (R124). -/
def Stn.names (x : Stn) (k : Carousel) (c : Nat) : Bool :=
  x.placed.any (fun p => p.car = k && p.carrier == c) || x.waitList.any (fun p => p.car = k && p.carrier == c)

/-- The distance of a candidate (R125). -/
def State.distance (s : State) (k : Carousel) (c : Nat) : Nat :=
  match (s.seq k).index with
  | none => Config.noDistance
  | some i =>
    match s.travelPlan k i c with
    | .invalid => Config.noDistance
    | .there => 0
    | .plan p => p.dist

/-- The readings of one carrier for `n` tyres of a lot; none when nothing fits (R125). -/
def State.reading (s : State) (k : Carousel) (c lot n : Nat) (x : Carrier) : Option Reading :=
  let mass := (s.lotOr lot).mass
  let room := s.roomQuery k c lot n
  match s.balanceQuery k c mass n with
  | none => none
  | some (bal, cand) =>
    let count := min room bal
    if count = 0 then none
    else
      let worst := if count = bal then cand.worst else ((s.candidateTest k c (count * mass)).map (·.worst)).getD cand.worst
      some { car := k, carrier := c, holds := (placementOf lot x.placements).isSome, count := count, worst := worst,
             distance := s.distance k c }

/-- The readings of a carousel's candidates, from carrier `i` on (R124, R125). -/
def State.readingsOn (s : State) (x : Stn) (k : Carousel) (lot n : Nat) : Nat → List Carrier → List Reading
  | _, [] => []
  | i, c :: rest =>
    let here := if c.takesNew && !x.names k i then (s.reading k i lot n c).toList else []
    here ++ s.readingsOn x k lot n (i + 1) rest

/-- A station has a carousel in one of its bays. -/
def Stn.has (x : Stn) (k : Carousel) : Bool := bayList.any fun b => x.bays[b] = some k

/-- The readings of every candidate of a station, by carousel and carrier (R124, R125). -/
def State.readings (s : State) (st : Station) (lot n : Nat) : List Reading :=
  carousels.flatMap fun k =>
    if (s.stn st).has k && offersCandidates (s.seq k).state then
      match s.stockCar k with
      | some car => s.readingsOn (s.stn st) k lot n 0 car.carriers
      | none => []
    else []

/-- One candidate ranks before another by the first three keys of R126; among readings in order of carousel and carrier the
first then stands for the last two. -/
def Reading.before (a b : Reading) : Bool :=
  if a.holds != b.holds then a.holds
  else decide (a.worst < b.worst ∨ (a.worst = b.worst ∧ a.distance < b.distance))

/-- The first candidate after ranking (R126). -/
def bestReading : List Reading → Option Reading
  | [] => none
  | r :: rest =>
    match bestReading rest with
    | some b => if b.before r then some b else some r
    | none => some r

/-! ## Offers (R128) -/

/-- A part is offered to its carousel: it becomes a PUT task, stays (answered FULL), or is given back and refused (R128).
Answers whether it was FULL. DESIGN CHOICE (log entry 70): the placed list is kept oldest first; Table PA-2 orders the wait list
alone. -/
def offerPart (st : Station) (p : Part) (s : State) : State × Bool :=
  let r := putOffered p.car p.carrier p.lot p.count (s.stn st).putClass st s
  match r.2 with
  | .taken =>
    (r.1.modStn st fun x => { x with placed := x.placed ++ [{ car := p.car, carrier := p.carrier, lot := p.lot }] }, false)
  | .full => (r.1, true)
  | .excluded | .duplicate =>
    (refusePut st p.lot p.whole p.planned p.count .excluded (returnIncomingEntry p.car p.carrier p.lot p.count r.1).1, false)

/-! ## Planning (R126, R127) -/

/-- A part is booked on a candidate and offered (R126, R128). DESIGN CHOICE (log entry 66): a part that waits and is refused
later carries, as the count planned of its PUT-REFUSED, what its batch had planned when the part was made. -/
def makePart (st : Station) (b : Planning) (r : Reading) (s : State) : State :=
  let e := planIncomingEntry r.car r.carrier b.lot r.count s
  if e.2 then
    let b' := { b with remainder := b.remainder - r.count, parts := b.parts + 1, planned := b.planned + r.count }
    let p : Part := { car := r.car, carrier := r.carrier, lot := b.lot, count := r.count, whole := b.whole, planned := b'.planned }
    let o := offerPart st p (e.1.modStn st fun x => { x with planning := some b' })
    if o.2 then o.1.modStn st fun x => { x with waitList := x.waitList ++ [p] } else o.1
  else e.1

/-- The planning batch is planned, at most `n` rounds of it (R124 to R127): it ends, or it pauses when the wait list is
full. -/
def planBatch (st : Station) : Nat → State → State
  | 0, s => s
  | n + 1, s =>
    match (s.stn st).planning with
    | none => s
    | some b =>
      if b.remainder = 0 then s.modStn st fun x => { x with planning := none }
      else if 4 ≤ b.parts then refuseBatch st b .splits s
      else if Config.waitParts ≤ (s.stn st).waitList.length then s
      else if s.lotActive b.lot then
        match bestReading (s.readings st b.lot b.remainder) with
        | none => refuseBatch st b .noSpace s
        | some r => planBatch st n (makePart st b r s)
      else refuseBatch st b .held s

/-- The rounds that suffice: four parts, and the round that ends the batch. -/
def planRounds : Nat := 6

/-- A batch is handed to the planner and planned at once (R123). -/
def handBatch (st : Station) (b : Batch) (s : State) : State :=
  planBatch st planRounds (s.modStn st fun x =>
    { x with batch := none,
             planning := some { lot := b.lot, whole := b.count, remainder := b.count, parts := 0, planned := 0 } })

/-- The steps when the planner passes from full to not full (R123): a CLOSING batch is handed over, and a waiting head
entry's controller is told that there is room. -/
def roomSteps (st : Station) (wasFull : Bool) (s : State) : State :=
  if wasFull && !(s.stn st).plannerFull then
    let s := match (s.stn st).batch with
      | some b => if b.closing then handBatch st b s else s
      | none => s
    if (s.stn st).roomWaiter && !(s.stn st).plannerFull then
      (s.modStn st fun x => { x with roomWaiter := false }).post (.plannerRoomReport st)
    else s
  else s

/-- The wait list's parts for a carousel are offered, oldest first, up to the first answered FULL (R129). -/
def offerParts (st : Station) (k : Carousel) : List Part → State → State
  | [], s => s
  | p :: rest, s =>
    if p.car = k then
      let o := offerPart st p s
      if o.2 then o.1
      else offerParts st k rest (o.1.modStn st fun x => { x with waitList := dropFirst (fun q => q = p) x.waitList })
    else offerParts st k rest s

/-- A place report reaches a planner (R129). -/
def takePlaceReport (st : Station) (k : Carousel) (s : State) : State :=
  let full := (s.stn st).plannerFull
  let s := offerParts st k (s.stn st).waitList s
  roomSteps st full (planBatch st planRounds s)

/-- A PUT task has left its queue (R130). -/
def takePutLeft (st : Station) (k : Carousel) (c lot : Nat) (s : State) : State :=
  s.modStn st fun x => { x with placed := x.placed.filter fun p => !(p = { car := k, carrier := c, lot := lot }) }

/-! ## The accumulator (R120 to R122) -/

/-- The accumulator's answers (R104). -/
inductive Accepted where
  | taken
  | exception (c : Cond)
  | wait
  deriving DecidableEq, Repr

/-- An inbound entry of an ACTIVE lot is taken, or waits on the planner (R121). -/
def accumulate (st : Station) (lot : Nat) (s : State) : State × Accepted :=
  let x := s.stn st
  let fresh : Batch := { lot := lot, count := 1, closing := false }
  match x.batch with
  | none => (s.modStn st fun x => { x with batch := some fresh }, .taken)
  | some b =>
    if b.closing then (s, .wait)
    else if b.lot = lot then
      let b' := { b with count := b.count + 1 }
      if b'.count < Config.batchTyres then (s.modStn st fun x => { x with batch := some b' }, .taken)
      else if x.plannerFull then (s.modStn st fun x => { x with batch := some { b' with closing := true } }, .taken)
      else (handBatch st b' s, .taken)
    else if x.plannerFull then (s, .wait)
    else ((handBatch st b s).modStn st fun x => { x with batch := some fresh }, .taken)

/-- An inbound label is classified and handed to the accumulator (R120). -/
def inboundEntry (st : Station) (label : Label) (s : State) : State × Accepted :=
  match s.lotOf label with
  | some (n, l) => if l.state = .held then (s, .exception .held) else accumulate st n s
  | none => (s, .exception .unknown)

/-- BATCH-END (R122). -/
def endBatch (st : Station) (s : State) : State :=
  match (s.stn st).batch with
  | none => s
  | some b =>
    if b.closing then s
    else if (s.stn st).plannerFull then s.modStn st fun x => { x with batch := some { b with closing := true } }
    else handBatch st b s

/-! ## Closing and configuration (R119, R131) -/

/-- SIGN-OFF and panel loss discard the batch and refuse the remainder of a paused planning batch (R119, R131, Table
PA-3). -/
def closePlanner (st : Station) (s : State) : State :=
  let s := s.modStn st fun x => { x with batch := none, roomWaiter := false }
  match (s.stn st).planning with
  | some b => refuseBatch st b .closed s
  | none => s

/-- A wait-list part of a carousel that leaves the station is given back and refused (R131). -/
def returnPart (st : Station) (s : State) (p : Part) : State :=
  refusePut st p.lot p.whole p.planned p.count .excluded (returnIncomingEntry p.car p.carrier p.lot p.count s).1

/-- The wait-list parts of the carousels for which `f` holds leave the list (R131). -/
def dropParts (st : Station) (f : Carousel → Bool) (s : State) : State :=
  let full := (s.stn st).plannerFull
  let gone := (s.stn st).waitList.filter fun p => f p.car
  let s := gone.foldl (returnPart st) (s.modStn st fun x => { x with waitList := x.waitList.filter fun p => !f p.car })
  if gone = [] then s else roomSteps st full (planBatch st planRounds s)

end Sys2Proof.Machine
end

