-- ==== Sys2Proof/Machine/Station.lean ====
section
/-! DEFINITION. The operations of the Station Controllers (chapter 5): grants, the attention timer, the scan
queue, exceptions, keys, the panel, and configuration. -/

namespace Sys2Proof.Machine

/-! ## Grants and the attention timer (R100 to R102) -/

/-- The first carousel of an attention list whose ready mark is set. -/
def Stn.nextReady (x : Stn) : Option Carousel := x.attention.find? fun k => x.ready[k]

/-- A carousel moved to the end of an attention list. -/
def moveToEnd (k : Carousel) (l : List Carousel) : List Carousel := l.filter (fun j => !(j = k)) ++ [k]

/-- The controller tries a grant (R100). -/
def tryGrant (st : Station) (s : State) : State :=
  let x := s.stn st
  if x.serving = true ∧ s.mgmt.cell = .running ∧ x.grant = .absent then
    match x.nextReady with
    | some k =>
      (s.modStn st fun x => { x with attention := moveToEnd k x.attention, grant := .offered k }).post (.grant k)
    | none => s
  else s

/-- The attention timer as it starts (R102). -/
def State.attentionStart (s : State) : Attention :=
  if s.mgmt.timers.attention = 0 then .stopped else .running (s.after s.mgmt.timers.attention)

/-- The attention timer is started while a grant is HELD (R102). -/
def startTimer (st : Station) (s : State) : State :=
  s.modStn st fun x => if x.holder.isSome then { x with timer := s.attentionStart } else x

/-- The attention timer is suspended while the scan queue is not empty or a lock stands, and starts again from the full
time when neither holds (R102). -/
def settleTimer (st : Station) (s : State) : State :=
  s.modStn st fun x =>
    if x.holder.isSome then
      if !x.queue.isEmpty || x.lock.isSome then { x with timer := .suspended }
      else if x.timer = .suspended then { x with timer := s.attentionStart } else x
    else { x with timer := .stopped }

/-! ## The scan queue (R103 to R106) -/

/-- The head entry leaves the queue; the overrun flag falls when the queue becomes empty (R103). -/
def popHead (st : Station) (s : State) : State :=
  s.modStn st fun x => { x with queue := x.queue.tail, overrun := x.overrun && !x.queue.tail.isEmpty }

/-- The transient message is cleared by a scan that is taken (R99). -/
def clearMessage (st : Station) (s : State) : State := s.modStn st fun x => { x with message := none }

/-- The queue is locked with a condition of its head entry, and SCAN-EXCEPTION is handed (R109, R116). -/
def lockQueue (st : Station) (c : Cond) (e : ScanEntry) (s : State) : State :=
  let x := s.stn st
  let held := x.holder.map fun h => (h.1, h.2.carrier, viewKind h.2)
  let s := s.modStn st fun x => { x with lock := some c }
  if x.mode = NoticeMode.none then s else handNotice (.scanException st c e.label e.reader held) s

/-- A pick of the view that is neither finished nor struck. -/
def viewOpen (p : ViewPick) : Bool := p.mark = .opened && decide (0 < p.remaining)

/-- The condition of an opening entry against a PICK task's view: a pick that it matches, or a condition that locks (R105).
-/
def State.judgePick (s : State) (label : Label) (picks : List ViewPick) : Option ViewPick × Cond :=
  let named := s.lotOf label
  if !(s.lots.any fun e => e.2.article = label.article) then (none, .unknown)
  else if named.any (fun e => e.2.state = .held) then (none, .held)
  else
    match named with
    | some (n, _) =>
      match picks.find? (fun p => p.lot = n && viewOpen p) with
      | some p => (some p, .noTask)
      | none =>
        if picks.any (fun p => p.lot = n) then (none, .overCount)
        else if picks.any (fun p => viewOpen p && (s.labelOf p.lot).article = label.article) then (none, .wrongLot)
        else (none, .wrongArticle)
    | none =>
      if picks.any (fun p => viewOpen p && (s.labelOf p.lot).article = label.article) then (none, .wrongLot)
      else (none, .wrongArticle)

/-- The condition of an opening entry against a PUT task's view; none for MATCH (R106). -/
def State.judgePut (s : State) (label : Label) (lot remaining : Nat) : Option Cond :=
  let named := s.lotOf label
  let isLot := named.any fun e => e.1 = lot
  if isLot && decide (0 < remaining) then none
  else if !(s.lots.any fun e => e.2.article = label.article) then some .unknown
  else if named.any (fun e => e.2.state = .held) then some .held
  else if isLot then some .overCount
  else if (s.labelOf lot).article = label.article then some .wrongLot
  else some .wrongArticle

/-! ## Taking a tyre (R107, R108, R116) -/

/-- A taken scan is reported as the notice mode selects (R116). -/
def reportTaken (st : Station) (k : Carousel) (kind : TaskKind) (item : ScanItem) (s : State) : State :=
  let x := s.stn st
  match x.mode with
  | .every => handNotice (takenNotice st k kind [item]) s
  | .first =>
    if x.reported then s
    else handNotice (takenNotice st k kind [item]) (s.modStn st fun x => { x with reported := true })
  | .grouped =>
    let items := x.group ++ [item]
    if items.length < 4 then s.modStn st fun x => { x with group := items }
    else handNotice (takenNotice st k kind items) (s.modStn st fun x => { x with group := [] })
  | .exception | .none => s

/-- One tyre fewer remains on a pick of the view (R107). -/
def takeViewPick (r : ResId) (v : TaskView) : TaskView :=
  match v.body with
  | .pick ps => { v with body := .pick (ps.map fun p =>
      if p.res = r then
        { p with remaining := p.remaining - 1, mark := if p.mark = .opened ∧ p.remaining - 1 = 0 then .finished else p.mark }
      else p) }
  | .put .. | .audit _ => v

/-- One tyre fewer remains on a put of the view (R108). -/
def takeViewPut (v : TaskView) : TaskView :=
  match v.body with
  | .put lot n => { v with body := .put lot (n - 1) }
  | .pick _ | .audit _ => v

/-- Steps 3 and 4 of R107: the commit report, and the hand-over with what the Order Book answers. When the Order Book
finds no reservation for the commit, which law L2 excludes, the place is given back. -/
def reportCommit (st : Station) (place : Nat) (r : ResId) (k : Carousel) (c lot : Nat) (s : State) :
    State × Option (Nat × OrderRef × Nat) :=
  let week := s.lotWeek lot
  let e := takeCommit r k c lot week s
  match e.2 with
  | some (h, line, _) =>
    (handOverPlace st place h (s.orderRef h) line lot week e.1, some (h, s.orderRef h, line))
  | none => (givePlace st place e.1, none)

/-- MATCH on a pick is taken (R107); answers whether the entry has left the queue. -/
def takePick (st : Station) (k : Carousel) (v : TaskView) (p : ViewPick) (e : ScanEntry) (s : State) : State × Bool :=
  let a := askPlace st s
  match a.2 with
  | none => (showMessage st .conveyorFull (a.1.modStn st fun x => { x with wait := .conveyor }), false)
  | some place =>
    let c := commitPickEntry k v.carrier p.lot a.1
    if c.2 then
      let o := reportCommit st place p.res k v.carrier p.lot c.1
      let s := (popHead st (clearMessage st o.1)).modStn st fun x => x.modView (takeViewPick p.res)
      let item : ScanItem := { carrier := v.carrier, order := o.2, lot := p.lot, label := e.label }
      (pickTaken k p.res (reportTaken st k .pick item (startTimer st s)), true)
    else (lockQueue st .overCount e (givePlace st place c.1), false)

/-- MATCH on a put is taken (R108); answers whether the entry has left the queue. -/
def takePut (st : Station) (k : Carousel) (v : TaskView) (lot : Nat) (e : ScanEntry) (s : State) : State × Bool :=
  let c := commitPutEntry k v.carrier lot s
  if c.2 then
    let s := (popHead st (clearMessage st c.1)).modStn st fun x => x.modView takeViewPut
    let item : ScanItem := { carrier := v.carrier, order := none, lot := lot, label := e.label }
    (putTaken k v.carrier (reportTaken st k .put item (startTimer st s)), true)
  else (lockQueue st .overCount e c.1, false)

/-- An entry from the inbound reader is handed to the accumulator (R104, R120). -/
def evalInbound (st : Station) (e : ScanEntry) (s : State) : State × Bool :=
  let a := inboundEntry st e.label (clearMessage st s)
  match a.2 with
  | .taken => (popHead st a.1, true)
  | .exception c => (lockQueue st c e s, false)
  | .wait => (s.modStn st fun x => { x with wait := .planner, roomWaiter := true }, false)

/-- An entry from the opening reader is judged against the grant (R105, R106). -/
def evalOpening (st : Station) (e : ScanEntry) (s : State) : State × Bool :=
  match (s.stn st).holder with
  | none => (lockQueue st .noTask e s, false)
  | some (k, v) =>
    match v.body with
    | .pick ps =>
      match s.judgePick e.label ps with
      | (some p, _) => takePick st k v p e s
      | (none, c) => (lockQueue st c e s, false)
    | .put lot n =>
      match s.judgePut e.label lot n with
      | none => takePut st k v lot e s
      | some c => (lockQueue st c e s, false)
    | .audit _ =>
      (startTimer st (popHead st (s.post (.tally k ((s.lotOf e.label).map (·.1))))), true)

/-- The head entry may be evaluated (R104). -/
def State.headFree (s : State) (st : Station) : Bool :=
  let x := s.stn st
  x.serving && s.mgmt.cell = .running && x.lock.isNone && x.wait = .none && x.offeree.isNone

/-- The head entry is evaluated when nothing holds it; answers whether it has left the queue (R104). -/
def evalHead (st : Station) (s : State) : State × Bool :=
  match (s.stn st).queue with
  | [] => (s, false)
  | e :: _ =>
    if s.headFree st then
      match e.reader with
      | .inbound => evalInbound st e s
      | .opening => evalOpening st e s
    else (s, false)

/-- A grant is tried, then head entries are evaluated, one after another, with a new try after each (R101, R104). -/
def evalLoop (st : Station) : Nat → State → State
  | 0, s => s
  | n + 1, s =>
    let r := evalHead st (tryGrant st s)
    if r.2 then evalLoop st n r.1 else r.1

/-- What a controller does when something that held it has changed: it tries a grant, evaluates its head, and sets its
timer and display (R100 to R104, R99). -/
def attend (st : Station) (s : State) : State :=
  refresh st (settleTimer st (evalLoop st ((s.stn st).queue.length + 1) s))

/-- Every station whose grant has ended since `s0` attends to what follows (R101). -/
def attendEnded (s0 s : State) : State :=
  stationList.foldl (fun s st =>
    if (s0.stn st).grant ≠ .absent ∧ (s.stn st).grant = .absent then attend st s else s) s

/-! ## Reports of the sequencers (R84, R100, R101, R115) -/

/-- A ready report (R100). -/
def takeReady (st : Station) (k : Carousel) (s : State) : State :=
  attend st (s.modStn st fun x => { x with ready := x.ready.set k.val true k.isLt })

/-- A not-ready report (R100). -/
def takeNotReady (st : Station) (k : Carousel) (s : State) : State :=
  attend st (s.modStn st fun x => { x with ready := x.ready.set k.val false k.isLt })

/-- An OFFERED grant is declined (R100). -/
def declineGrant (st : Station) (k : Carousel) (s : State) : State :=
  attend st (s.modStn st fun x => { x with grant := .absent, ready := x.ready.set k.val false k.isLt })

/-- An OFFERED grant is accepted: HELD by the carousel, which is PRESENTING from the same step (R84, R100). -/
def holdGrant (st : Station) (k : Carousel) (t : Task) (v : TaskView) (s : State) : State :=
  let s := (acceptGrant k t s).modStn st fun x => { x with grant := .held k v, reported := false, group := [] }
  attend st (startTimer st s)

/-- The task that a READY carousel presents when it accepts a grant (R84). -/
def Seq.presents (q : Seq) : Option Task := if q.state = .ready then q.currentTask else none

/-- A grant reaches a sequencer (R84). One whose offer the station has cleared meanwhile is not accepted. -/
def takeGrant (k : Carousel) (s : State) : State :=
  match stationList.find? (fun st => (s.stn st).offeree = some k) with
  | none => s
  | some st =>
    match (s.seq k).presents with
    | some t => holdGrant st k t (s.taskView k t) s
    | none => declineGrant st k s

/-- A grant's answer reaches the controller (R100). -/
def takeGrantAnswer (st : Station) (k : Carousel) (view : Option TaskView) (s : State) : State :=
  if (s.stn st).offeree = some k then
    match view, (s.seq k).presents with
    | some v, some t => holdGrant st k t v s
    | _, _ => declineGrant st k s
  else s

/-- A station holds the grant for a carousel. -/
def Stn.holds (x : Stn) (k : Carousel) : Bool := x.holder.any fun h => h.1 = k

/-- A carousel's report that its task has ended (R101): the step in which it leaves PRESENTING (R100). -/
def takeTaskEnd (st : Station) (k : Carousel) (outcome : TaskOutcome) (s : State) : State :=
  if (s.stn st).holds k then
    match (s.seq k).granted with
    | some t => attendEnded s (endTask k t outcome s)
    | none => attendEnded s (endGrant st (.done outcome) s)
  else s

/-- A carousel's report that it withdraws the grant (R101). -/
def takeWithdrawalReport (st : Station) (k : Carousel) (s : State) : State :=
  if (s.stn st).holds k then
    if (s.seq k).state = .presenting then attendEnded s (withdrawGrant k s) else attendEnded s (endGrant st .left s)
  else s

/-- The station's grant is withdrawn or its offer cleared (R97, R101, R117). -/
def dropGrant (st : Station) (s : State) : State :=
  match (s.stn st).grant with
  | .absent => s
  | .offered _ => s.modStn st fun x => { x with grant := .absent }
  | .held k _ =>
    if (s.seq k).state = .presenting then withdrawGrant k s else endGrant st .left s

/-- The attention timer expires (R102). -/
def attentionExpired (st : Station) (s : State) : State :=
  match (s.stn st).timer, (s.stn st).holder with
  | .running d, some _ => attendEnded s (dropGrant st (s.reach d))
  | _, _ => s

/-- A transit place report (R133, R104). -/
def takePlaceFree (st : Station) (s : State) : State :=
  if (s.stn st).wait = .conveyor then attend st (s.modStn st fun x => { x with wait := .none }) else s

/-- The planner's room report (R123, R104). -/
def takeRoom (st : Station) (s : State) : State :=
  if (s.stn st).wait = .planner then attend st (s.modStn st fun x => { x with wait := .none }) else s

/-- A LABEL frame from an opening or inbound reader (R103). -/
def takeLabel (st : Station) (reader : Reader) (label : Label) (s : State) : State :=
  let x := s.stn st
  if x.serving then
    if x.queue.length < Config.scanEntries then
      attend st (settleTimer st (s.modStn st fun x => { x with queue := x.queue ++ [{ reader := reader, label := label }] }))
    else refresh st (s.modStn st fun x => { x with overrun := true })
  else s

/-! ## Clears (R110, R111) -/

/-- A lock is lifted with its entry: the overrun flag falls and the timer starts again (R110). -/
def liftLock (st : Station) (s : State) : State :=
  startTimer st ((popHead st s).modStn st fun x => { x with lock := none, overrun := false })

/-- A lock is cleared, and the next head is evaluated (R110). -/
def clearLock (st : Station) (s : State) : State := attend st (liftLock st s)

/-- The class of the task that a carousel's grant shows: the task's class as it stands, which may have changed since the
grant (R71, R110). -/
def State.grantedClass (s : State) (k : Carousel) (v : TaskView) : Class := ((s.seq k).granted.map (·.cls)).getD v.cls

/-- REJECT and RECOUNT (R110); true when there was a lock to clear. -/
def rejectClear (st : Station) (recount : Bool) (s : State) : State × Bool :=
  let x := s.stn st
  match x.lock with
  | some _ =>
    let s := match x.holder, x.queue with
      | some (k, v), e :: _ =>
        if recount && e.reader = .opening then s.post (.auditRequestRaised k v.carrier false (s.grantedClass k v) .recount)
        else s
      | _, _ => s
    (clearLock st s, true)
  | none => (s, false)

/-- The pick whose lot an ACCEPT substitutes (R111). -/
def State.acceptPick (s : State) (x : Stn) (e : ScanEntry) : Option (Carousel × TaskView × ViewPick × Nat) :=
  match x.holder, s.lotOf e.label with
  | some (k, v), some (n, _) =>
    match v.body with
    | .pick ps =>
      (ps.find? fun p => viewOpen p && (s.labelOf p.lot).article = e.label.article).map fun p => (k, v, p, n)
    | .put .. | .audit _ => none
  | _, _ => none

/-- The pick that an ACCEPT may substitute, with its grant and the scanned lot, when ACCEPT is allowed (R111). -/
def State.acceptAllowed (s : State) (st : Station) : Option (ScanEntry × Carousel × TaskView × ViewPick × Nat) :=
  let x := s.stn st
  match x.lock, x.queue with
  | some .wrongLot, e :: _ =>
    if e.reader = .opening then (s.acceptPick x e).map fun a => (e, a) else none
  | _, _ => none

/-- ACCEPT (R111), with the result that a SCAN-CLEAR answers (R112). The Order Book's cut of the old reservation, whose report says that
an ACCEPT caused it, reaches the pick when the commit's last step is done and the lock is cleared, before the next head is judged; a grant that it ends is ended
then (R101). -/
def acceptClear (st : Station) (s : State) : State × Result :=
  match s.acceptAllowed st with
  | none => (refresh st (showMessage st .notAllowed s), .state)
  | some (e, k, v, p, lot) =>
    let a := askPlace st s
    match a.2 with
    | none => (refresh st (showMessage st .conveyorFull a.1), .busy)
    | some place =>
      let b := takeSubstitution p.res lot a.1
      match b.2 with
      | none => (refresh st (showMessage st .notAllowed (givePlace st place b.1)), .state)
      | some r =>
        let c := commitPickEntry k v.carrier lot b.1
        if c.2 then
          let o := reportCommit st place r k v.carrier lot c.1
          let item : ScanItem := { carrier := v.carrier, order := o.2, lot := lot, label := e.label }
          (attend st (takeOrderReports k (liftLock st (reportTaken st k .pick item (clearMessage st o.1)))), .done)
        else
          let s := (takeSubstituteRelease r (givePlace st place c.1)).modStn st fun x => { x with lock := some .overCount }
          (refresh st (attendEnded s (takeOrderReports k s)), .done)

/-! ## Keys (R96, R97, R113, R114) -/

/-- The carousels of a station, in bay order. -/
def Stn.cars (x : Stn) : List Carousel := bayList.filterMap fun b => x.bays[b]

/-- Each carousel of the station is told its state (R97). -/
def tellStations (st : Station) (opened : Bool) (s : State) : State :=
  s.postAll ((s.stn st).cars.map fun k => .stationStateReport k opened)

/-- SIGN-ON (R97). -/
def signOnKey (st : Station) (s : State) : State :=
  let x := s.stn st
  if x.opened = false ∧ x.panelLost = false then
    attend st (tellStations st true (s.modStn st fun x => { x with opened := true }))
  else s

/-- What SIGN-OFF and panel loss do, in turn (R97, R98). -/
def closeStation (st : Station) (s : State) : State :=
  let s := (dropGrant st s).modStn st fun x =>
    { x with queue := [], lock := none, wait := .none, overrun := false, timer := .stopped }
  refresh st (tellStations st false (closePlanner st s))

/-- SIGN-OFF (R97). -/
def signOffKey (st : Station) (s : State) : State :=
  if (s.stn st).opened then closeStation st (s.modStn st fun x => { x with opened := false }) else s

/-- Whether CONFIRM or SHORT may act: the scan queue is empty and there is no lock (R113). -/
def Stn.settled (x : Stn) : Bool := x.queue.isEmpty && x.lock.isNone

/-- CONFIRM (R113). DESIGN CHOICE (log entry 28): the grant is tested first, so that without a HELD grant nothing is shown, also
with entries queued or a lock standing. -/
def confirmKey (st : Station) (s : State) : State :=
  let x := s.stn st
  match x.holder with
  | none => s
  | some (k, v) =>
    if x.settled then
      match v.body with
      | .pick _ | .put .. => attendEnded s (confirmTask k (startTimer st s)).1
      | .audit _ => (startTimer st s).post (.auditConfirm k)
    else refresh st (showMessage st .finishScans s)

/-- A pick whose short report is on its way (R114). -/
def markShorted (r : ResId) (v : TaskView) : TaskView :=
  match v.body with
  | .pick ps => { v with body := .pick (ps.map fun p => if p.res = r then { p with shorted := true } else p) }
  | .put .. | .audit _ => v

/-- The pick that SHORT acts on: the first that is open and has not been shorted already (R114). -/
def shortPick (v : TaskView) : Option ViewPick :=
  match v.body with
  | .pick ps => ps.find? fun p => viewOpen p && !p.shorted
  | .put .. | .audit _ => none

/-- SHORT (R114). DESIGN CHOICE (log entry 28): with entries queued or a lock standing it shows "finish scans", as CONFIRM does
(R113). -/
def shortKey (st : Station) (s : State) : State :=
  let x := s.stn st
  match x.holder with
  | none => s
  | some (k, v) =>
    match v.body with
    | .put .. | .audit _ => s
    | .pick _ =>
      if x.settled then
        match shortPick v with
        | none => s
        | some p =>
          let s := s.postAll [.shortReport p.res p.remaining, .auditRequestRaised k v.carrier false 0 .short]
          startTimer st (s.modStn st fun x => x.modView (markShorted p.res))
      else refresh st (showMessage st .finishScans s)

/-- A key of the panel. -/
inductive Key where
  | signOn | clearAccept | clearReject | recount | short | confirm | batchEnd | signOff
  deriving DecidableEq, Repr

/-- A key acts; every key other than SIGN-ON is ignored while the station is CLOSED (R96). -/
def actKey (st : Station) (key : Key) (s : State) : State :=
  match key with
  | .signOn => signOnKey st s
  | .clearAccept => if (s.stn st).serving && (s.stn st).lock.isSome then (acceptClear st s).1 else s
  | .clearReject => if (s.stn st).serving then (rejectClear st false s).1 else s
  | .recount => if (s.stn st).serving then (rejectClear st true s).1 else s
  | .short => if (s.stn st).serving then shortKey st s else s
  | .confirm => if (s.stn st).serving then confirmKey st s else s
  | .batchEnd => if (s.stn st).serving then refresh st (endBatch st s) else s
  | .signOff => if (s.stn st).serving then signOffKey st s else s

/-- Whether a key is down in a panel's inputs. -/
def Key.isDown (key : Key) (k : Keys) : Bool :=
  match key with
  | .signOn => k.signOn | .clearAccept => k.clearAccept | .clearReject => k.clearReject | .recount => k.recount
  | .short => k.short | .confirm => k.confirm | .batchEnd => k.batchEnd | .signOff => k.signOff

/-- A key is pressed and released: it acts when the station is configured, its panel is PRESENT and the snapshot shows the
key up (R96). DESIGN CHOICE (log entry 43): while the panel is LOST the row changes nothing, and the panel stays LOST. -/
def pressKey (st : Station) (key : Key) (s : State) : State :=
  let x := s.stn st
  if x.configured = true ∧ x.panelLost = false ∧ key.isDown x.keys = false then actKey st key s else s

/-! ## The panel (R96, R98) -/

/-- A bay's curtain in the snapshot, reported to the bay's carousel when it differs (R96). -/
def takeBayCurtain (st : Station) (b : Bay) (broken : Bool) (s : State) : State :=
  let new : BayCurtain := if broken then .broken else .clear
  let x := s.stn st
  if x.curtains[b] = new then s
  else
    let s := s.modStn st fun x => { x with curtains := x.curtains.set b.val new b.isLt }
    match x.bays[b] with
    | some k => s.post (if broken then .curtainBroken k false else .curtainClear k)
    | none => s

/-- A PANEL-INPUT difference of one bay's curtain (R96). DESIGN CHOICE (log entry 43): while the panel is LOST the row changes
nothing, and the panel stays LOST. -/
def bayCurtainInput (st : Station) (b : Bay) (broken : Bool) (s : State) : State :=
  let x := s.stn st
  if x.configured = true ∧ x.panelLost = false then takeBayCurtain st b broken s else s

/-- The keys in the order in which their presses are acted on (R96). -/
def keyOrder : List Key := [.signOn, .clearAccept, .clearReject, .recount, .short, .confirm, .batchEnd, .signOff]

/-- The presses of a PANEL-INPUT frame (R96). -/
def takeKeys (st : Station) (old new : Keys) (s : State) : State :=
  keyOrder.foldl (fun s key => if key.isDown new && !key.isDown old then actKey st key s else s) s

/-- A PANEL-INPUT frame is taken (R96); the first one after a loss makes the panel PRESENT (R98), and the latest content is
sent to it, whatever was sent before the loss (R99; DEDUCED). -/
def takePanelInput (st : Station) (i : PanelInput) (s : State) : State :=
  let x := s.stn st
  if x.configured then
    let s' := if x.panelLost then
        s.modStn st fun x => { x with panelLost := false, display := { sent := none, waiting := none } }
      else s
    let s' := bayList.foldl (fun s b => takeBayCurtain st b i.broken[b] s) s'
    let s' := if x.panelLost then s' else takeKeys st x.keys i.keys s'
    let s' := s'.modStn st fun x => { x with keys := i.keys }
    if x.panelLost then attend st (if x.opened then tellStations st true s' else s') else s'
  else s

/-- A station's record as its panel is LOST: every key up, every curtain unseen, and no content waits to be sent (R98). -/
def Stn.panelGone (x : Stn) : Stn :=
  { x with panelLost := true, keys := keysUp, curtains := Vector.replicate 4 .unseen,
           display := { x.display with waiting := none } }

/-- The panel is LOST (R98). No PANEL-SHOW is sent from then on: one that still waits in the transmit queue is withdrawn. -/
def losePanel (st : Station) (s : State) : State :=
  let x := s.stn st
  if x.panelLost then s
  else
    let s := (withdrawFrames (.station st) 9 s).modStn st fun x => x.panelGone
    let s := if x.opened then closeStation st s else s
    s.postAll (x.cars.map fun k => .curtainBroken k true)

/-- The return of a PANEL-SHOW (R98, R99). -/
def panelReturned (st : Station) (fate : Fate) (s : State) : State :=
  match fate with
  | .accepted => s
  | .damaged => resend st s
  | .refused | .lost => losePanel st s

/-- Space in the transmit queue: a content that waits is offered (R99). -/
def stationSpace (st : Station) (s : State) : State := if (s.stn st).display.waiting.isSome then resend st s else s

/-- A change of ring state reaches a station: the latest content is sent when the ring is UP (R99). -/
def stationRing (st : Station) (r : Ring) (s : State) : State :=
  match r with
  | .up => if (s.stn st).latest.isSome then resend st s else s
  | .down | .restoring => s

/-! ## Requests and restarts (R95, R112, R117, R118) -/

/-- The notice modes by code (Table FC-4). -/
def modeOfCode : Nat → Option NoticeMode
  | 0 => some .every | 1 => some .first | 2 => some .grouped | 3 => some .exception | 4 => some .none | _ => none

/-- The code of a notice mode. -/
def modeCode : NoticeMode → Nat
  | .every => 0 | .first => 1 | .grouped => 2 | .exception => 3 | .none => 4

/-- The bays of a STATION-CONFIG-WRITE, when every carousel number is a carousel's. -/
def readBays (v : Vector (Option Nat) 4) : Vector (Option Carousel) 4 := v.map fun o => o.bind car?

/-- The carousels whose bay a write changes: added, taken out or moved (R95). -/
def movedCars (old new : Vector (Option Carousel) 4) : List Carousel :=
  carousels.filter fun k => bayList.any fun b => (old[b] = some k) != (new[b] = some k)

/-- The curtain of a bay as it is sent to a carousel newly placed in it (R95). -/
def curtainReport (k : Carousel) : BayCurtain → Instr
  | .clear => .curtainClear k
  | .broken | .unseen => .curtainBroken k false

/-- The reports of a STATION-CONFIG-WRITE to the carousels of the station (R95). -/
def bayReports (st : Station) (old new : Vector (Option Carousel) 4) (curtains : Vector BayCurtain 4) : List Instr :=
  bayList.flatMap (fun b =>
    match new[b] with
    | some k =>
      .stationBayReport k (some (st, b)) :: (if old[b] = some k then [] else [curtainReport k curtains[b]])
    | none => []) ++
  (bayList.filterMap fun b => old[b]).filterMap fun k =>
    if bayList.any (fun b => new[b] = some k) then none else some (.stationBayReport k none)

/-- STATION-CONFIG-WRITE (R95). DESIGN CHOICE (log entry 83): a write that changes nothing keeps the attention list and the ready
marks, as one that changes only the put class or the notice mode. -/
def stationConfigRequest (c : StationCfg) (s : State) : State × Result :=
  match stn? c.station, modeOfCode c.mode with
  | some st, some mode =>
    let x := s.stn st
    let named := bayList.filterMap fun b => c.bays[b]
    let new := readBays c.bays
    if named.any (fun n => decide (7 < n)) || decide (3 < c.putClass) || named.isEmpty || !named.Nodup then (s, .range)
    else if stationList.any (fun o => !(o = st) && (s.stn o).configured && new.toList.any fun k => k.any (s.stn o).has) then
      (s, .state)
    else if s.mgmt.cell ≠ .loading ∧ x.serving = true then (s, .state)
    else if s.mgmt.cell ≠ .loading ∧
        (movedCars x.bays new).any (fun k => !((s.seq k).state = .unconfigured || (s.seq k).state = .disabled)) then (s, .state)
    else
      let bays' := if x.bays = new then x.attention else bayList.filterMap fun b => new[b]
      let s := s.modStn st fun x =>
        { x with configured := true, bays := new, putClass := c.putClass, mode := mode, attention := bays',
                 ready := if x.bays = new then x.ready else Vector.replicate 8 false,
                 group := if x.mode = mode then x.group else [] }
      let s := s.postAll (bayReports st x.bays new x.curtains)
      (refresh st (dropParts st (fun k => x.has k && !(s.stn st).has k) s), .done)
  | _, _ => (s, .range)

/-- The clear actions by code (Table FC-4). -/
def actionOfCode : Nat → Option ClearAction
  | 0 => some .accept | 1 => some .reject | 2 => some .recount | _ => none

/-- SCAN-CLEAR (R112). -/
def scanClearRequest (n action : Nat) (s : State) : State × Result :=
  match stn? n, actionOfCode action with
  | some st, some a =>
    if (s.stn st).configured = false ∨ (s.stn st).lock = none then (s, .state)
    else match a with
      | .accept => acceptClear st s
      | .reject => ((rejectClear st false s).1, .done)
      | .recount => ((rejectClear st true s).1, .done)
  | _, _ => (s, .range)

/-- CELL-HALT reaches a station (R117). -/
def stationHalt (st : Station) (s : State) : State := attend st (dropGrant st s)

/-- CELL-RUN reaches a station: the ready marks fall with the carousels' return to UNKNOWN, a grant is tried and the head
evaluated (R117). -/
def stationRun (st : Station) (s : State) : State :=
  attend st (s.modStn st fun x => { x with ready := Vector.replicate 8 false })

/-- A station's record on CELL-RESTART (R118, Table PS-2, Table PA-3). The display record is emptied, since the restart drops
frames that the panel has not been shown, so that the closed or the waiting view is sent whatever was sent before. DESIGN CHOICE (log
entry 27): a transient message is cleared, as no rule says. -/
def Stn.restart (x : Stn) : Stn :=
  { x with display := { sent := none, waiting := none }, grant := .absent, ready := Vector.replicate 8 false, attention := x.cars, timer := .stopped, queue := [],
           lock := none, wait := .none, overrun := false, group := [], reported := false, message := none, batch := none,
           planning := none, waitList := [], placed := [], roomWaiter := false }

end Sys2Proof.Machine
end

