-- ==== Sys2Proof/Machine/Audit.lean ====
section
/-! DEFINITION. The operations of the Audit Unit (chapter 8): the request list, AUDIT tasks, sessions and tallies, applying
a count, abandonment and cancel. -/

namespace Sys2Proof.Machine

/-! ## The request list (R152, R153) -/

/-- A request is for a carrier. -/
def AuditReq.is (k : Carousel) (c : Nat) (r : AuditReq) : Bool := r.car = k && r.carrier == c

/-- The request for a carrier. -/
def State.auditReq (s : State) (k : Carousel) (c : Nat) : Option AuditReq := s.requests.find? (AuditReq.is k c)

/-- The request for a carrier changed by `f`. -/
def modReq (k : Carousel) (c : Nat) (f : AuditReq → AuditReq) (s : State) : State :=
  { s with requests := modFirst (AuditReq.is k c) f s.requests }

/-- The request for a carrier leaves the list. -/
def dropReq (k : Carousel) (c : Nat) (s : State) : State := { s with requests := dropFirst (AuditReq.is k c) s.requests }

/-- A carousel has a task standing: one of its requests is QUEUED or IN-PROGRESS (R152). -/
def State.taskStanding (s : State) (k : Carousel) : Bool :=
  s.requests.any fun r => r.car = k && (r.stage = .queued || r.stage = .inProgress)

/-- The oldest LISTED request of a carousel (R155). -/
def State.nextAudit (s : State) (k : Carousel) : Option AuditReq := s.requests.find? fun r => r.car = k && r.stage = .listed

/-- The oldest LISTED request of a carousel with no task standing is offered; one answered EXCLUDED becomes BARRED and the
next is offered, at most `n` of them (R155). DESIGN CHOICE (log entry 84): one answered DUPLICATE, for which R155 has no row, is
QUEUED with the task that stands. -/
def offerAudits (k : Carousel) : Nat → State → State
  | 0, s => s
  | n + 1, s =>
    if s.taskStanding k then s
    else match s.nextAudit k with
      | none => s
      | some r =>
        let o := auditOffered k r.carrier r.blind r.cls s
        match o.2 with
        | .taken | .duplicate => modReq k r.carrier (fun r => { r with stage := .queued }) o.1
        | .full => o.1
        | .excluded => offerAudits k n (modReq k r.carrier (fun r => { r with stage := .barred }) o.1)

/-- The offer of R155. -/
def offerAudit (k : Carousel) (s : State) : State := offerAudits k Config.auditRequests s

/-- What becomes of a raised request (R153). -/
inductive Raised where
  | listed | merged | full | disabled
  deriving DecidableEq, Repr

/-- A request is raised (R153). -/
def raiseAudit (k : Carousel) (c : Nat) (blind : Bool) (cls : Class) (source : AuditSource) (s : State) : State × Raised :=
  match s.auditReq k c with
  | some r =>
    let b := r.blind || blind
    let cl := min r.cls cls
    let s := modReq k c (fun r => { r with blind := b, cls := cl }) s
    if r.stage = .queued ∧ (b ≠ r.blind ∨ cl ≠ r.cls) then (auditReclassed k c cl b s, .merged) else (s, .merged)
  | none =>
    if Config.auditRequests ≤ s.requests.length then (s, .full)
    else
      let m := auditMarkEntry k c s
      if m.2 then
        let r : AuditReq := { car := k, carrier := c, blind := blind, cls := cls, source := source, abandons := 0, stage := .listed }
        (offerAudit k { m.1 with requests := m.1.requests ++ [r] }, .listed)
      else (m.1, .disabled)

/-- An internal request is raised; one that the full list cannot take is dropped with a notice (R154). -/
def raiseInternal (k : Carousel) (c : Nat) (blind : Bool) (cls : Class) (source : AuditSource) (s : State) : State :=
  let r := raiseAudit k c blind cls source s
  match r.2 with
  | .full => handNotice (.auditDropped k c source) r.1
  | .listed | .merged | .disabled => r.1

/-- AUDIT-REQUEST (R154). -/
def auditRequestRequest (kn c : Nat) (blind : Bool) (cls : Nat) (s : State) : State × Result :=
  match car? kn with
  | none => (s, .range)
  | some k =>
    if 3 < cls then (s, .range)
    else if s.mgmt.cell = .loading then (s, .state)
    else if (s.stockCar k).isNone then (s, .state)
    else if s.carriersOf k ≤ c then (s, .range)
    else
      let r := raiseAudit k c blind cls .host s
      (r.1, match r.2 with | .listed | .merged => .done | .full => .full | .disabled => .state)

/-! ## Sessions (R157, R159) -/

/-- The idle timer as it starts; while the cell is HALTED it is paused (R157, R165). -/
def State.sessionTimer (s : State) : IdleTimer :=
  if s.mgmt.cell = .halted then .paused (s.mgmt.timers.auditIdle * Config.tenth) else .running (s.after s.mgmt.timers.auditIdle)

/-- A session's idle timer is restarted. -/
def restartSession (k : Carousel) (s : State) : State :=
  s.setSession k ((s.session k).map fun x => { x with timer := s.sessionTimer })

/-- A session starts, and the station that presents the task shows it with the session's blind flag (R157, R159). -/
def startSession (k : Carousel) (r : AuditReq) (s : State) : State :=
  showAudit k r.carrier ((modReq k r.carrier (fun r => { r with stage := .inProgress }) s).setSession k
    (some { carrier := r.carrier, blind := r.blind, tally := [], unknown := 0, unplaced := 0, timer := s.sessionTimer }))

/-- The AUDIT task of a carrier is the granted one. -/
def State.auditHeld (s : State) (k : Carousel) (c : Nat) : Bool := (s.seq k).granted.any (Task.is .audit c)

/-- A granted AUDIT task is reported (R157). A report whose grant has ended meanwhile is not acted on. DESIGN CHOICE (log entry
76): the idle timer restarts on each later grant, as R157 ends, where its second case has the session resume with its timer as
it stands. -/
def takeAuditGranted (k : Carousel) (c : Nat) (s : State) : State :=
  match s.auditReq k c with
  | none => auditRemoved k c s
  | some r =>
    if s.auditHeld k c then
      match r.stage, s.session k with
      | .inProgress, some _ => restartSession k s
      | .queued, none =>
        let l := auditLockEntry k c s
        match l.2 with
        | .locked => startSession k r l.1
        | .refusedIncoming =>
          let q := auditRequeued k c l.1
          if q.2 then q.1 else modReq k c (fun r => { r with stage := .listed }) q.1
        | .refused =>
          offerAudit k (handNotice (.auditAbandoned k c r.source) (dropReq k c (auditRemoved k c l.1)))
      | _, _ => s
    else s

/-- One more, saturating at 255. -/
def saturate (n : Nat) : Nat := min (n + 1) 255

/-- A lot counted into a tally; none when the tally holds 8 other entries (R159). -/
def countLot (lot : Nat) (t : List (Nat × Nat)) : Option (List (Nat × Nat)) :=
  if t.any (fun e => e.1 == lot) then some (t.map fun e => if e.1 = lot then (e.1, saturate e.2) else e)
  else if t.length < Config.tallyEntries then some (t ++ [(lot, 1)])
  else none

/-- A session after a tally (R159). -/
def Session.count (x : Session) : Option Nat → Session
  | none => { x with unknown := saturate x.unknown }
  | some lot =>
    match countLot lot x.tally with
    | some t => { x with tally := t }
    | none => { x with unplaced := saturate x.unplaced }

/-- A tally (R159). DESIGN CHOICE (log entry 69): a lot that has become FREE since its label was scanned is tallied as a lot. -/
def takeTally (k : Carousel) (lot : Option Nat) (s : State) : State :=
  match s.session k with
  | some x => restartSession k (s.setSession k (some (x.count lot)))
  | none => s

/-! ## Applying a count (R160) -/

/-- The trims of an apply, in placement order, with the reserved tyres that each released (R160 step 1). -/
def trimPlacements (k : Carousel) (c : Nat) (tally : List (Nat × Nat)) : List Nat → State → State × List (Nat × Nat)
  | [], s => (s, [])
  | lot :: rest, s =>
    let target := applyTarget tally lot
    let before := s.reservedAt k c lot
    if target < before then
      let t := takeTrim k c lot target s
      let r := trimPlacements k c tally rest t.1
      (r.1, (lot, before - t.2) :: r.2)
    else trimPlacements k c tally rest s

/-- The variance of an apply with the reserved tyres that the trims released (R160). -/
def withReleased (released : List (Nat × Nat)) (v : List Variance) : List Variance :=
  v.map fun x => { x with released := tallyOf x.lot released }

/-- The lots of a carrier's placements, in placement order. -/
def State.placedLots (s : State) (k : Carousel) (c : Nat) : List Nat :=
  match s.carrier k c with
  | some x => x.placements.map (·.lot)
  | none => []

/-- The AUDIT-RESULT notice of an apply (R160). -/
def State.auditResult (s : State) (k : Carousel) (x : Session) (source : AuditSource) (v : List Variance) : NoticeBody :=
  match s.carrier k x.carrier with
  | some c => .auditResult k x.carrier source x.blind c.state c.unplaced c.unknown v
  | none => .auditResult k x.carrier source x.blind .normal 0 0 v

/-- The source of a carrier's request. -/
def State.auditSource (s : State) (k : Carousel) (c : Nat) : AuditSource := ((s.auditReq k c).map (·.source)).getD .host

/-- CONFIRM on an audit: the count is applied (R160). -/
def confirmAudit (k : Carousel) (s : State) : State :=
  match s.session k with
  | none => s
  | some x =>
    let t := trimPlacements k x.carrier x.tally (s.placedLots k x.carrier) s
    let a := auditApplyEntry k x.carrier x.tally x.unknown x.unplaced t.1
    match a.2 with
    | some v =>
      let source := a.1.auditSource k x.carrier
      let s1 := (dropReq k x.carrier a.1).setSession k none
      let s1 := handNotice (s1.auditResult k x source (withReleased t.2 v)) s1
      offerAudit k (attendEnded s (auditApplied k x.carrier s1))
    | none =>
      match a.1.grantedBy k with
      | some st => refresh st (showMessage st .notAllowed a.1)
      | none => a.1

/-! ## Abandonment and cancel (R161 to R163) -/

/-- What has become of the AUDIT task when its audit is abandoned (R161). -/
inductive TaskFate where
  | stands | unitRemoves | handedBack
  deriving DecidableEq, Repr

/-- The request for a carrier moved to the head of the list, changed by `f` (R162). -/
def reqToHead (k : Carousel) (c : Nat) (f : AuditReq → AuditReq) (s : State) : State :=
  match s.auditReq k c with
  | some r => { s with requests := f r :: dropFirst (AuditReq.is k c) s.requests }
  | none => s

/-- The task of a request that is QUEUED again takes the values merged while it was IN-PROGRESS, which apply when it is next
presented (R153). -/
def reclassTo (r : AuditReq) (s : State) : State :=
  match (s.seq r.car).taskFor .audit r.carrier with
  | some t =>
    if t.cls = r.cls ∧ t.body = .audit r.blind then s else auditReclassed r.car r.carrier r.cls r.blind s
  | none => s

/-- The audit in progress on a carousel is abandoned (R161, R162). -/
def abandonSession (k : Carousel) (fate : TaskFate) (s : State) : State :=
  match s.session k with
  | none => s
  | some x =>
    let c := x.carrier
    let s1 := (auditUnlockEntry k c s).setSession k none
    match s1.auditReq k c with
    | none => s1
    | some r =>
      if r.abandons = 0 then
        match fate with
        | .stands => reclassTo r (reqToHead k c (fun r => { r with abandons := 1, stage := .queued }) s1)
        | .unitRemoves =>
          let s1 := reqToHead k c (fun r => { r with abandons := 1, stage := .listed }) s1
          offerAudit k (attendEnded s (auditRemoved k c s1))
        | .handedBack => offerAudit k (reqToHead k c (fun r => { r with abandons := 1, stage := .listed }) s1)
      else
        let s1 := if fate = .handedBack then s1 else attendEnded s (auditRemoved k c s1)
        offerAudit k (handNotice (.auditAbandoned k c r.source) (auditClearEntry k c (dropReq k c s1)))

/-- The session idle timer expires (R161). -/
def sessionExpired (k : Carousel) (s : State) : State :=
  match s.session k with
  | some x =>
    match x.timer with
    | .running d => abandonSession k .unitRemoves (s.reach d)
    | .paused _ | .stopped => s
  | none => s

/-- Every request of a carousel leaves the list, each with a notice, and its session ends (R156, change of P). -/
def dropAudits (k : Carousel) (s : State) : State :=
  let gone := s.requests.filter fun r => r.car = k
  let s := handNotices (gone.map fun r => .auditDropped k r.carrier r.source) s
  { s with requests := s.requests.filter fun r => !(r.car = k) }.setSession k none

/-- An AUDIT task is handed back (R156); none stands for every task, when P changes. The report names the carrier alone and may be
taken after its request has been abandoned, or cancelled and raised again, and offered anew. DEDUCED (log entry 84): one for a
carrier whose AUDIT task stands concerns a task that has gone, and changes nothing, so that the request keeps its one task
(R164). -/
def takeHandBack (k : Carousel) (carrier : Option Nat) (s : State) : State :=
  match carrier with
  | none => dropAudits k s
  | some c =>
    if ((s.seq k).taskFor .audit c).isSome then s
    else match s.auditReq k c with
    | some r =>
      match r.stage with
      | .queued => offerAudit k (modReq k c (fun r => { r with stage := .listed }) s)
      | .inProgress => abandonSession k .handedBack s
      | .listed | .barred => s
    | none => s

/-- An admit notice (R155). -/
def takeAdmit (k : Carousel) (cs : List Nat) (s : State) : State :=
  offerAudit k { s with requests := s.requests.map fun r =>
    if r.car = k ∧ r.carrier ∈ cs ∧ r.stage = .barred then { r with stage := .listed } else r }

/-- AUDIT-CANCEL (R163). DESIGN CHOICE (log entry 77): the refusal with STATE in LOADING, which R163 states apart from its checks,
comes after the carousel's RANGE check and before the others. -/
def auditCancelRequest (kn c : Nat) (s : State) : State × Result :=
  match car? kn with
  | none => (s, .range)
  | some k =>
    if s.mgmt.cell = .loading then (s, .state)
    else if (s.stockCar k).isNone then (s, .state)
    else if s.carriersOf k ≤ c then (s, .range)
    else match s.auditReq k c with
      | none => (s, .unknown)
      | some r =>
        match r.stage with
        | .listed | .barred => (auditClearEntry k c (dropReq k c s), .done)
        | .queued =>
          let s1 := attendEnded s (auditRemoved k c s)
          (offerAudit k (auditClearEntry k c (dropReq k c s1)), .done)
        | .inProgress => (abandonSession k .unitRemoves s, .done)

/-! ## Halts and restart (R165) -/

/-- A session's idle timer is paused with the time it has left (R165). -/
def pauseSession (now : Nat) (x : Session) : Session :=
  match x.timer with
  | .running d => { x with timer := .paused (d - now) }
  | .paused _ | .stopped => x

/-- A paused idle timer runs on with its remaining time (R165). -/
def resumeSession (now : Nat) (x : Session) : Session :=
  match x.timer with
  | .paused n => { x with timer := .running (now + n) }
  | .running _ | .stopped => x

/-- The Audit Unit's records after CELL-RESTART (R165). -/
def restartAudits (s : State) : State := { s with requests := [], sessions := Vector.replicate 8 none }

end Sys2Proof.Machine
end

