-- ==== Sys2Proof/Machine/Records.lean ====
section
/-! DEFINITION. The records that RECORD-READ returns and the content of a CELL-STATUS reply, as bytes (R185, R186, R189,
11.2): each record's fields in the order of its table, each in the size its range needs. A field that its table gives only
"while" the record is in some state is there only then. -/

namespace Sys2Proof.Machine

/-! ## Stock records (11.2) -/

/-- The state and totals of a lot record: 0 FREE, 1 ACTIVE, 2 HELD. -/
def bLotState : LotState → List Byte
  | .active => b1 1
  | .held => b1 2

/-- A lot record, 19 bytes: LOT-WRITE's fields, the state and the three totals; a FREE record holds article code 0 and week
code year 0 week 1 (R1). -/
def bLot (n : Nat) : Option Lot → List Byte
  | some l =>
    b2 n ++ b4 l.article.toNat ++ bWeek l.week ++ b2 l.width ++ b1 l.rim ++ b1 l.mass ++ bLotState l.state ++ b2 l.onHand ++
      b2 l.reserved ++ b2 l.incoming
  | none =>
    b2 n ++ b4 0 ++ bWeek { year := 0, week := 1 } ++ b2 125 ++ b1 12 ++ b1 8 ++ b1 0 ++ b2 0 ++ b2 0 ++ b2 0

/-- A carrier record: bit 0 of its marks excluded, bit 1 double-stack, bit 2 OVERLOAD. -/
def bCarrier (s : State) (k : Carousel) (c : Nat) (x : Carrier) : List Byte :=
  b1 k.val ++ b1 c ++ b1 (carrierStateCode x.state) ++
    b1 (x.excluded.toNat + 2 * x.doubleStack.toNat + 4 * x.overload.toNat) ++ b1 x.unplaced ++ b1 x.unknown ++
    b2 (s.actualMass x.placements) ++
    bList (fun (p : Placement) => b2 p.lot ++ b1 p.onHand ++ b1 p.reserved ++ b1 p.incoming) x.placements

/-! ## Carousel records (Tables BL-1, CS-1 and CS-3) -/

/-- The balance record of a carousel: Table BL-1 without the mass vector (R25). -/
def bBalance (b : Balance) : List Byte :=
  b1 b.p ++ b1 (b.p / 2) ++ b3 b.soft ++ b3 b.hard ++ b3 b.total ++ b3 b.worst ++ b1 b.rotation ++
    b1 (speedCode b.speed) ++ bBool b.overbalance ++ bBool b.bidirectional ++ b1 b.start ++ b1 b.normalPitch ++ b1 b.slowPitch

/-- A task (Table CS-3): its kind, carrier, class and content (R66). -/
def bTask (t : Task) : List Byte :=
  b1 (taskKindCode t.kind) ++ b1 t.carrier ++ b1 t.cls ++
    match t.body with
    | .pick ps => bList (fun (p : Pick) => b2 p.res.place ++ b1 p.remaining ++ bBool p.struck) ps
    | .put lot n left st => b2 lot ++ b1 n ++ b1 left ++ b1 st.val
    | .audit blind => bBool blind

/-- The manual-claim record. -/
def bClaim (o : Option Claim) : List Byte :=
  bOpt (o.map (·.node)) ++ bList b1 ((o.map (·.carriers)).getD []) ++ bBool (o.any (·.all)) ++
    Config.timeField (o.bind (·.deadline))

/-- The sequencer record as R66 has it read back: the fields it names, the held list by its count alone. DESIGN CHOICE (log entry
71): the order is the one in which R66 names them, as R189 has it, and not that of Table CS-1. -/
def bSeq (q : Seq) : List Byte :=
  b1 (carStateCode q.state) ++ bOpt (q.fault.map causeCode) ++ bOpt (q.place.map (·.1.val)) ++ bOpt (q.place.map (·.2.val)) ++
    bOpt q.index ++ bOpt (q.window.map (·.1)) ++ bOpt (q.window.map (·.2)) ++ bClaim q.claim ++ bList bTask q.queue ++
    b2 q.held.length

/-- A carousel's record; the state alone while it is UNCONFIGURED (R186). -/
def bCarousel (s : State) (k : Carousel) : List Byte :=
  match s.bal k with
  | some b => bBalance b ++ bSeq (s.seq k)
  | none => b1 (carStateCode .unconfigured)

/-! ## Orders and reservations (11.2, Table OB-4) -/

/-- The allowed-lanes byte of an ORDER-ADD: bit 7 present, bits 0..3 the lanes. -/
def lanesByte : Option (List Nat) → Nat
  | none => 0
  | some l => 128 + (([0, 1, 2, 3].filter fun i => i ∈ l).map (2 ^ ·)).sum

/-- A line of an order read back. -/
def bLine (l : Line) : List Byte :=
  b4 l.article.toNat ++ b1 l.quantity ++ bOpt l.window ++ b1 l.reserved ++ b1 l.inTransit ++ b1 l.delivered ++
    bOpt (l.avoid.map (·.val)) ++ b1 (lineStateCode l.state) ++ bList b2 l.taken

/-- An order read back. -/
def bOrder (h : Nat) (o : Order) : List Byte :=
  b4 o.ref.toNat ++ b1 o.cls ++ b1 (lanesByte o.lanes) ++ b1 o.lines.length ++ b1 h ++ b1 (orderStateCode o.state) ++
    bComp o.comp ++ b6 o.seq ++ o.lines.flatMap bLine

/-- The reservation states, in the order of Table OB-4. -/
def resStateCode : ResState → Nat
  | .held => 0 | .queued => 1 | .presented => 2

/-- A reservation (Table OB-4); its struck mark is 1 when set (log entry 75). -/
def bReservation (r : Reservation) : List Byte :=
  b1 r.order ++ b1 r.line ++ b1 r.car.val ++ b1 r.carrier ++ b2 r.lot ++ b1 r.count ++ b1 (resStateCode r.state) ++
    bBool r.struck ++ Config.timeField r.expiry ++ b6 r.seq

/-! ## Stations (Tables PS-1, PA-1 and PA-2) -/

/-- A bay's curtain in the snapshot: broken, clear or unseen. -/
def bayCurtainCode : BayCurtain → Nat
  | .broken => 0 | .clear => 1 | .unseen => 2

/-- The grant: its carousel, its kind, absent, OFFERED or HELD, and the task view when HELD (R94). DESIGN CHOICE (log entry
70): the task view has the content that R99 gives it and the bytes that a PANEL-SHOW gives that content. -/
def bGrant (s : State) (x : Stn) : List Byte :=
  match x.grant with
  | .absent => bOpt none ++ b1 0
  | .offered k => b1 k.val ++ b1 1
  | .held k _ => b1 k.val ++ b1 2 ++ bView (s.showView x)

/-- The attention timer: stopped, running with its deadline, or suspended. -/
def bAttention : Attention → List Byte
  | .stopped => b1 0
  | .running d => b1 1 ++ Config.timeField (some d)
  | .suspended => b1 2

/-- The head waits, in the order of Table PS-1. -/
def waitHeadCode : HeadWait → Nat
  | .none => 0 | .conveyor => 1 | .planner => 2

/-- The accumulator (Table PA-1). -/
def bBatch (o : Option Batch) : List Byte :=
  bOpt2 (o.map (·.lot)) ++ bOpt (o.map (·.count)) ++ bOpt (o.map fun b => b.closing.toNat)

/-- The planner (Table PA-2), with its placed list oldest first (log entry 70). -/
def bPlanner (x : Stn) : List Byte :=
  bOpt2 (x.planning.map (·.lot)) ++ bOpt (x.planning.map (·.remainder)) ++ bOpt (x.planning.map (·.parts)) ++
    bOpt (x.planning.map (·.planned)) ++
    bList (fun (p : Part) => b1 p.car.val ++ b1 p.carrier ++ b2 p.lot ++ b1 p.count) x.waitList ++
    bList (fun (p : Placed) => b1 p.car.val ++ b1 p.carrier ++ b2 p.lot) x.placed ++ bBool x.roomWaiter

/-- A station's record, without its display (R94), with its accumulator and planner. DESIGN CHOICE (log entry 70): a scan entry
gives its reader kind and label, and the condition of the head stands in the lock alone; the ready marks are a counted list in
bay order. -/
def bStation (s : State) (x : Stn) : List Byte :=
  bBool x.configured ++ x.bays.toList.flatMap (fun o => bOpt (o.map (·.val))) ++ b1 x.putClass ++ b1 (modeCode x.mode) ++
    bBool x.opened ++ bBool x.panelLost ++ bKeys x.keys ++ x.curtains.toList.flatMap (fun c => b1 (bayCurtainCode c)) ++
    bList (fun (k : Carousel) => b1 k.val) x.attention ++ bList (fun (k : Carousel) => bBool x.ready[k]) x.cars ++
    bGrant s x ++ bAttention x.timer ++
    bList (fun (e : ScanEntry) => b1 (readerCode e.reader) ++ bLabel e.label) x.queue ++ bOpt (x.lock.map condCode) ++
    b1 (waitHeadCode x.wait) ++ bBool x.overrun ++ bList (fun (i : ScanItem) => bLabel i.label) x.group ++
    bBatch x.batch ++ bPlanner x

/-! ## Transit and lanes (Tables TL-1 to TL-3) -/

/-- A place of the in-transit list: its state, and the fields it has in that state. -/
def bPlace : Option Place → List Byte
  | none => b1 0
  | some (.held st) => b1 1 ++ b1 st.val
  | some (.entry h _ i lot week l c st d n cancelled) =>
    b1 2 ++ b1 h ++ b1 i ++ b2 lot ++ b2 week ++ b1 l.val ++ b1 c ++ b1 st.val ++ Config.timeField (some d) ++
      Config.countField n ++ bBool cancelled

/-- The lane states, in the order of Table TL-3. -/
def laneStateCode : LaneState → Nat
  | .empty => 0 | .seating => 1 | .identifying => 2 | .coupled => 3 | .releaseWait => 4 | .flushing => 5 | .releasing => 6
  | .closed => 7

/-- The sources of a cart's identity. -/
def cartSourceCode : CartSource → Nat
  | .tag => 0 | .host => 1

/-- A compartment (Table TL-2): its order only while it is not FREE. -/
def bCompartment (c : Comp) : List Byte :=
  b1 (compStateCode c.state) ++ (match c.order with | some o => b1 o.handle ++ b6 o.seq | none => [])

/-- A lane's record with its compartments; contacts made 0 or open 1, the latch LOCKED 0 or UNLOCKED 1. -/
def bLane (x : LaneRec) : List Byte :=
  bBool x.configured ++ b1 x.limit ++ b1 (laneStateCode x.state) ++ bBool (!x.input.contactA) ++ bBool (!x.input.contactB) ++
    bBool x.input.button ++ bBool x.controllerLost ++ bBool (!x.locked) ++ Config.timeField x.timer ++ bBool x.tagExpired ++
    bCart (x.cart.map (·.id)) ++ bOpt (x.cart.map (·.count)) ++ bOpt (x.cart.map fun c => cartSourceCode c.source) ++
    bList bCompartment x.comps

/-! ## Audits (Tables AU-1 and AU-2) -/

/-- The stages, in the order of Table AU-1. -/
def stageCode : Stage → Nat
  | .listed => 0 | .barred => 1 | .queued => 2 | .inProgress => 3

/-- An audit request. -/
def bAuditReq (r : AuditReq) : List Byte :=
  b1 r.car.val ++ b1 r.carrier ++ bBool r.blind ++ b1 r.cls ++ b1 (sourceCode r.source) ++ b1 r.abandons ++
    b1 (stageCode r.stage)

/-- The idle timer of a session: running with its deadline, paused with its remaining time, or stopped. The remaining time
lies within 0..9000 tenths of a second (R157), and so takes two bytes. DESIGN CHOICE: a part of a tenth counts as a whole one
(log entry 36). -/
def bIdle : IdleTimer → List Byte
  | .running d => b1 0 ++ Config.timeField (some d)
  | .paused n => b1 1 ++ b2 ((n + Config.tenth - 1) / Config.tenth)
  | .stopped => b1 2

/-- An audit session. -/
def bSession (k : Carousel) (x : Session) : List Byte :=
  b1 k.val ++ b1 x.carrier ++ bBool x.blind ++ bList (fun (e : Nat × Nat) => b2 e.1 ++ b1 e.2) x.tally ++ b1 x.unknown ++
    b1 x.unplaced ++ bIdle x.timer

/-! ## The ring and the timers -/

/-- A node-map entry: role, unit and mirror flag. -/
def bNode (n : Node) : List Byte := b1 (roleCode n.role) ++ b1 n.unit ++ bBool n.mirror

/-- Every value of Table MG-3, each in the size its range needs. -/
def bTimers (t : Timers) : List Byte :=
  b2 t.hold0 ++ b2 t.hold1 ++ b2 t.hold2 ++ b2 t.hold3 ++ b2 t.attention ++ b2 t.transit ++ b2 t.auditIdle ++
    b2 t.manualIdle ++ b1 t.settle ++ b2 t.tag ++ b1 t.latch ++ b1 t.round

/-! ## RECORD-READ (R186) -/

/-- The record that a kind and an index name, or the result that refuses it. -/
def State.record (s : State) (kind index : Nat) : Result × List Byte :=
  let high := index / 256
  let low := index % 256
  match kind with
  | 0 => if index < Config.lots then (.done, bLot index (s.lot index)) else (.range, [])
  | 1 =>
    match car? high with
    | none => (.range, [])
    | some k =>
      if 63 < low then (.range, [])
      else if (s.stockCar k).isNone then (.state, [])
      else match s.carrier k low with
        | some x => (.done, bCarrier s k low x)
        | none => (.range, [])
  | 2 => match car? index with
    | some k => (.done, bCarousel s k)
    | none => (.range, [])
  | 3 =>
    if index < Config.handles then
      match s.order index with
      | some o => (.done, bOrder index o)
      | none => (.unknown, [])
    else (.range, [])
  | 4 =>
    if index < Config.poolPlaces then (.done, ((s.reservation index).map bReservation).getD []) else (.range, [])
  | 5 => match stn? index with
    | some st => (.done, bStation s (s.stn st))
    | none => (.range, [])
  | 6 => if index < Config.transitPlaces then (.done, bPlace (s.place index)) else (.range, [])
  | 7 => match lane? index with
    | some l => (.done, bLane (s.lane l))
    | none => (.range, [])
  | 8 => if index = 0 then (.done, bList bAuditReq s.requests) else (.range, [])
  | 9 => match car? high with
    | some k => (.done, ((s.session k).map (bSession k)).getD [])
    | none => (.range, [])
  | 10 => if index < Config.nodes then (.done, bNode (s.node index)) else (.range, [])
  | 11 => if h : index < 8 then (.done, bList b1 (s.fe.groups[index])) else (.range, [])
  | 12 => if index = 0 then (.done, bTimers s.mgmt.timers) else (.range, [])
  | _ => (.range, [])

/-! ## CELL-STATUS (R185) -/

/-- The number of ENTRY places in the in-transit list. -/
def State.entries (s : State) : Nat :=
  (s.transit.places.filter fun e => match e.2 with | .entry .. => true | .held _ => false).length

/-- The content of a CELL-STATUS reply. -/
def State.status (s : State) : List Byte :=
  b1 (cellCode s.mgmt.cell) ++ b1 (ringCode s.fe.ring) ++ b1 s.own ++ b2 s.fe.damaged ++ bBool s.mgmt.dropped ++
    b1 s.mgmt.notices.length ++ b2 s.mgmt.noticeSeq ++ b2 s.book.orders.length ++ b2 s.book.pool.length ++ b1 s.entries ++
    b1 s.requests.length ++
    carousels.flatMap (fun k => b1 (carStateCode (s.seq k).state) ++ bOpt ((s.seq k).fault.map causeCode)) ++
    stationList.flatMap (fun st => bBool (s.stn st).opened ++ bBool (s.stn st).panelLost) ++
    laneList.flatMap (fun l => b1 (laneStateCode (s.lane l).state) ++ bBool (s.lane l).controllerLost)

end Sys2Proof.Machine
end

