-- ==== Sys2Proof/Machine/Management.lean ====
section
/-! DEFINITION. The operations of the Management Unit (chapter 10): taking a request and replying (R179), the configuration
writes (R180, R169, R175, R7, R33, R69, R141), the timer settings (R181), the cell state (R182 to R184), and notices on their
way out (R188). -/

namespace Sys2Proof.Machine

/-! ## Requests and replies (R172, R179) -/

/-- A management request as its frame arrives (R172). -/
def request (q : Req) (kind : Nat) (body : State → State × Answered) (s : State) : State :=
  receive q.hdr kind (fun d s =>
    match d with
    | .request => answerRequest q kind body (passFrame (takenHdr q.hdr) kind s)
    | d => redirect d q.hdr kind [] s) s

/-- A request whose reply carries a result alone. -/
def plain (body : State → State × Result) (s : State) : State × Answered :=
  let r := body s
  (r.1, { result := r.2, content := [] })

/-- A ready reply is offered; it leaves the reply list when the transmit queue takes it (R179). -/
def offerReply (s : State) : State :=
  match s.mgmt.replies with
  | [] => s
  | r :: rest =>
    let o := offer .management (.addr r.dest) (.reply r.kind r.tag r.result r.content) (s.modMgmt fun m => { m with replies := rest })
    match o.2 with
    | .queued => o.1
    | .full | .noNode => o.1.modMgmt fun m => { m with replies := r :: m.replies }

/-- The ready replies are offered in the order of their requests, at most `n` of them, until one is answered full. -/
def offerReplies : Nat → State → State
  | 0, s => s
  | n + 1, s =>
    let t := offerReply s
    if t.mgmt.replies.length < s.mgmt.replies.length then offerReplies n t else t

/-! ## Notices on their way out (R188) -/

/-- The head notice is offered to the gateway: a notice that is sent once more goes ahead of the queue. A notice leaves when
the transmit queue takes it; answered full or no node, it stays (R188). -/
def offerNotice (s : State) : State :=
  match s.mgmt.resend, s.mgmt.notices with
  | n :: rest, _ =>
    let o := offer .management (.node .gateway 0) (.notice n true) (s.modMgmt fun m => { m with resend := rest })
    (match o.2 with
     | .queued => o.1
     | .full | .noNode => o.1.modMgmt fun m => { m with resend := n :: m.resend })
  | [], n :: rest =>
    let o := offer .management (.node .gateway 0) (.notice n false) (s.modMgmt fun m => { m with notices := rest })
    (match o.2 with
     | .queued => o.1
     | .full | .noNode => o.1.modMgmt fun m => { m with notices := n :: m.notices })
  | [], [] => s

/-- The head notice is offered, after every ready reply (R188). -/
def sendNotice (s : State) : State :=
  let s := offerReplies s.mgmt.replies.length s
  if s.mgmt.replies = [] then offerNotice s else s

/-- The fate of a notice (R188). DESIGN CHOICE (log entry 79): of several notices that wait for their second sending, the one
whose fate was reported first goes first. -/
def noticeReturned (n : Notice) (second : Bool) (fate : Fate) (s : State) : State :=
  match fate, second with
  | .accepted, _ => s
  | .damaged, false | .lost, false => s.modMgmt fun m => { m with resend := m.resend ++ [n] }
  | .refused, _ | .damaged, true | .lost, true => s.modMgmt fun m => { m with dropped := true }

/-- A space report reaches the Management Unit: the HALT it keeps, its replies and its notices are offered again (R173,
R179, R183, R188). -/
def managementSpace (s : State) : State := sendNotice (reofferKept .management (fun _ s => s) s)

/-! ## Units in use (R180) -/

/-- A carousel is not in use while it is DISABLED or UNCONFIGURED. -/
def State.carIdle (s : State) (k : Carousel) : Bool := (s.seq k).state = .disabled || (s.seq k).state = .unconfigured

/-- A station is not in use while it is CLOSED or unconfigured. -/
def State.stnIdle (s : State) (st : Station) : Bool := !(s.stn st).serving

/-- A lane is not in use while it is EMPTY or CLOSED. -/
def State.laneIdle (s : State) (l : Lane) : Bool := (s.lane l).state = .empty || (s.lane l).state = .closed

/-- A role and unit belong to a unit not in use; SORTER and GATEWAY never pass, NONE and MAINT always do (R180). -/
def State.unitIdle (s : State) (role : Role) (unit : Nat) : Bool :=
  match role with
  | .drive => (car? unit).all s.carIdle
  | .panel | .openingReader | .inboundReader => (stn? unit).all s.stnIdle
  | .laneController | .laneReader => (lane? unit).all s.laneIdle
  | .none | .maint => true
  | .sorter | .gateway => false

/-! ## Configuration writes -/

/-- The entry that a node-map entry reads as while nothing has been written (R169). -/
def nodeDefault : Node := { role := .none, unit := 0, mirror := false }

/-- A node-map entry is written; one at its power-on value is not listed. -/
def writeNode (a : Nat) (n : Node) (t : Table Node) : Table Node := if n = nodeDefault then tdel a t else tput a n t

/-- Another entry already holds a role and unit (R169). -/
def State.nodeTaken (s : State) (a : Nat) (role : Role) (unit : Nat) : Bool :=
  s.fe.nodes.any fun e => !(e.1 == a) && e.2.role == role && e.2.unit == unit

/-- NODE-MAP-WRITE (R169, R180). A claimant whose address takes a role other than MAINT ends its claims (R90). -/
def nodeMapWriteRequest (a role unit : Nat) (mirror : Bool) (s : State) : State × Result :=
  match roleOfCode role with
  | none => (s, .range)
  | some r =>
    if 63 < a ∨ a = s.own ∨ roleUnits r ≤ unit then (s, .range)
    else if !(r = .none) && !(r = .maint) && s.nodeTaken a r unit then (s, .state)
    else if s.mgmt.cell ≠ .loading ∧ (s.unitIdle (s.node a).role (s.node a).unit && s.unitIdle r unit) = false then (s, .state)
    else
      let t := s.modFe fun e => { e with nodes := writeNode a { role := r, unit := unit, mirror := mirror } e.nodes }
      (if r = .maint then t else endClaimsOf a t, .done)

/-- A drive's carousel is not in use, for the G0 check; an address of no drive passes (R180). -/
def State.driveIdle (s : State) (a : Nat) : Bool :=
  if (s.node a).role = .drive then (car? (s.node a).unit).all s.carIdle else true

/-- GROUP-WRITE (R175, R180). -/
def groupWriteRequest (g : Nat) (members : List Nat) (s : State) : State × Result :=
  if h : g < 8 then
    if 16 < members.length ∨ (members.any fun a => decide (63 < a)) = true ∨ s.own ∈ members ∨ ¬ members.Nodup then (s, .range)
    else
      let old := s.fe.groups[g]
      let moved := (members.filter fun a => !(a ∈ old)) ++ (old.filter fun a => !(a ∈ members))
      if g = 0 ∧ s.mgmt.cell ≠ .loading ∧ moved.all s.driveIdle = false then (s, .state)
      else (s.modFe fun e => { e with groups := e.groups.set g members h }, .done)
  else (s, .range)

/-- The range checks of CAROUSEL-CONFIG-WRITE, those of the Stock Table Unit and those of the Balance Unit (R7, R33). -/
def carouselInRange (c : CarouselCfg) : Bool :=
  decide (c.p % 2 = 0 ∧ 8 ≤ c.p ∧ c.p ≤ 64 ∧ 40 ≤ c.shelf ∧ c.shelf ≤ 800 ∧ c.gap ≤ 50 ∧ 20 ≤ c.rated ∧ c.rated ≤ 2047 ∧
    c.soft ≤ 131071 ∧ c.hard ≤ 131071 ∧ c.soft ≤ c.hard)

/-- A write changes P of a configured carousel. -/
def State.changesP (s : State) (k : Carousel) (p : Nat) : Bool :=
  match s.stockCar k with
  | some car => !(car.carriers.length == p)
  | none => false

/-- The AUDIT tasks of a carousel whose P changes are handed back before the new carriers are created (R69, R156). -/
def handBackAudits (k : Carousel) (s : State) : State :=
  dropAudits k (s.modSeq k fun q => { q with queue := q.queue.filter fun t => !(t.kind = .audit) })

/-- CAROUSEL-CONFIG-WRITE: the Stock Table Unit, the Balance Unit and then the sequencer take their parts (R7, R33, R69,
R180). New carriers are excluded while the carousel is DISABLED (R10, R87). -/
def carouselConfigRequest (c : CarouselCfg) (s : State) : State × Result :=
  match car? c.carousel with
  | none => (s, .range)
  | some k =>
    if carouselInRange c = false then (s, .range)
    else if s.carIdle k = false then (s, .state)
    else if s.changesP k c.p = true ∧ (s.stockCar k).any StockCar.anyPlacement = true then (s, .busy)
    else
      let t := if s.changesP k c.p then handBackAudits k s else s
      let t := configureStock k c.p c.shelf c.gap c.rated (fun _ => (s.seq k).state = .disabled) t
      (configureSeq k (configureBalance k c t), .done)

/-- LANE-CONFIG-WRITE (R141, R180). -/
def laneConfigRequest (n : Nat) (configured : Bool) (limit : Nat) (s : State) : State × Result :=
  match lane? n with
  | none => (s, .range)
  | some l =>
    if limit < 1 ∨ 8 < limit then (s, .range)
    else if s.mgmt.cell ≠ .loading ∧ s.laneIdle l = false then (s, .state)
    else (configureLane l configured limit s, .done)

/-! ## Timer settings (R181) -/

/-- A value held within a range. -/
def clampTo (lo hi n : Nat) : Nat := max lo (min n hi)

/-- The attention time as held: 0 stays off. -/
def heldAttention (n : Nat) : Nat := if n = 0 then 0 else clampTo 50 2550 n

/-- The manual idle time as held: 0 stays unlimited. -/
def heldManual (n : Nat) : Nat := if n = 0 then 0 else if n ≤ 300 then 300 else if n ≤ 1200 then 1200 else 6000

/-- The timer settings after a TIMER-WRITE, and the value held; none for an unknown selector (Tables MG-3 and FC-4). -/
def writeTimer (t : Timers) (selector n : Nat) : Option (Timers × Nat) :=
  match selector with
  | 0 => some ({ t with hold0 := clampTo 100 36000 n }, clampTo 100 36000 n)
  | 1 => some ({ t with hold1 := clampTo 100 36000 n }, clampTo 100 36000 n)
  | 2 => some ({ t with hold2 := clampTo 100 36000 n }, clampTo 100 36000 n)
  | 3 => some ({ t with hold3 := clampTo 100 36000 n }, clampTo 100 36000 n)
  | 4 => some ({ t with attention := heldAttention n }, heldAttention n)
  | 5 => some ({ t with transit := clampTo 100 6000 n }, clampTo 100 6000 n)
  | 6 => some ({ t with auditIdle := clampTo 300 9000 n }, clampTo 300 9000 n)
  | 7 => some ({ t with manualIdle := heldManual n }, heldManual n)
  | 8 => some ({ t with settle := clampTo 5 100 n }, clampTo 5 100 n)
  | 9 => some ({ t with tag := clampTo 10 300 n }, clampTo 10 300 n)
  | 10 => some ({ t with latch := clampTo 5 100 n }, clampTo 5 100 n)
  | 11 => some ({ t with round := clampTo 1 50 n }, clampTo 1 50 n)
  | _ => none

/-- TIMER-WRITE (R181). -/
def timerWriteRequest (selector n : Nat) (s : State) : State × Answered :=
  match writeTimer s.mgmt.timers selector n with
  | some r => (s.modMgmt fun m => { m with timers := r.1 }, { result := .done, content := b2 r.2 })
  | none => (s, { result := .range, content := [] })

/-! ## The cell state (R182 to R184) -/

/-- What CELL-RUN needs: a GATEWAY entry, a configured carousel and a configured station (R182). -/
def State.mayRun (s : State) : Bool :=
  s.gateway.isSome && carousels.any (fun k => (s.stockCar k).isSome) && stationList.any fun st => (s.stn st).configured

/-- The expiry times and the paused idle timers move on when a halt ends (R54, R165). -/
def endHalt (s : State) : State :=
  let s := shiftExpiries (s.now - s.mgmt.haltedAt) s
  { s with sessions := s.sessions.map fun o => o.map (resumeSession s.now) }

/-- CELL-RUN is taken: the cell is RUNNING, and the change is handed to the blocks (R182). -/
def runCell (s : State) : State :=
  let s := if s.mgmt.cell = .halted then endHalt s else s
  let s := s.modMgmt fun m => { m with cell := .running }
  stationList.foldl (fun s st => stationRun st s) (carousels.foldl (fun s k => seqRun k s) s)

/-- CELL-RUN (R182). -/
def cellRunRequest (s : State) : State × Result :=
  if s.mgmt.cell = .running then (s, .done)
  else if s.mayRun then (runCell s, .done)
  else (s, .state)

/-- CELL-HALT is taken: a HALT to G0 is offered, the cell is HALTED, and the halt is handed to the blocks (R183). -/
def haltCell (s : State) : State :=
  let s := (sendOrKeep .management (.group 0) (.halt false) s).1
  let s := s.modMgmt fun m => { m with cell := .halted, haltedAt := s.now }
  let s := stationList.foldl (fun s st => stationHalt st s) (carousels.foldl (fun s k => seqHalt k s) s)
  { s with sessions := s.sessions.map fun o => o.map (pauseSession s.now) }

/-- CELL-HALT (R183). -/
def cellHaltRequest (s : State) : State × Result :=
  match s.mgmt.cell with
  | .loading => (s, .state)
  | .halted => (s, .done)
  | .running => (haltCell s, .done)

/-- The Frame Engine on CELL-RESTART (R177). -/
def restartFrames (s : State) : State :=
  s.modFe fun e => { e with queue := [], waiting := [], kept := [], outstanding := [] }

/-- A restore in progress starts afresh on CELL-RESTART (R177). -/
def restartRestore (s : State) : State := if s.fe.ring = .restoring then startQueries s else s

/-- Reports between blocks that a CELL-RESTART does not undo: they concern records that it keeps, or carry what arrived
from outside the part. DESIGN CHOICE (log entry 7): a PANEL-SHOW's return that waits goes too, and does not mark its panel LOST,
although the restart keeps the panel mark: it is the fate of a frame of before the restart, whose frames are gone. -/
def mailKept : Instr → Bool
  | .ringStateReport .. | .nodeNotAnswered .. | .curtainBroken .. | .curtainClear .. | .stationBayReport .. | .massReport ..
  | .speedClassReport .. | .latchReturn .. | .foreignCommand .. | .manualClaim .. | .access .. | .maintDriveFrame ..
  | .manualRelease .. | .driveStatus .. | .panelRecovery .. | .stationLabel .. | .laneArrival .. | .tagRead ..
  | .cartContacts .. | .laneControllerRecovery .. | .malformedRequest .. | .cellStatus .. | .cellRun .. | .cellHalt ..
  | .cellRestart .. | .nodeMapWrite .. | .groupWrite .. | .carouselConfigWrite .. | .stationConfigWrite ..
  | .laneConfigWrite .. | .timerWrite .. | .lotWrite .. | .lotDelete .. | .lotHold .. | .lotRelease .. | .carrierWrite ..
  | .recordRead .. | .orderAdd .. | .orderCancel .. | .orderClass .. | .orderResume .. | .carouselEnable ..
  | .carouselDisable .. | .windowSet .. | .auditRequest .. | .auditCancel .. | .scanClear .. | .lanePermit ..
  | .laneAssign .. | .laneClose .. | .laneOpen .. => true
  | .resetAssert | .powerOnReset .. | .clockLoss | .silenceTimerExpiry | .damagedFrameReceived .. | .forwardedFrame ..
  | .restoreRoundExpiry | .frameReturn .. | .roundDeadlineExpiry .. | .frameOffer .. | .frameWithdraw ..
  | .payloadReplace .. | .frameSend | .spaceReport .. | .manualIdleExpiry .. | .queryRoundExpiry .. | .moveReturn ..
  | .moveTimeout .. | .curtainSettleExpiry .. | .driveMissingReport .. | .newReservation .. | .putOffer .. | .auditOffer ..
  | .auditRequeue .. | .auditTaskReclass .. | .taskRemoveRequest .. | .pickNewCount .. | .pickDrop .. | .pickStruck ..
  | .taskClassReport .. | .pickTakenReport .. | .putTakenReport .. | .grant .. | .grantWithdrawal .. | .earlyConfirm ..
  | .auditAppliedReport .. | .stationStateReport .. | .placeReport .. | .auditPlaceReport .. | .reserve .. | .release ..
  | .commitPick .. | .commitPut .. | .planIncoming .. | .returnIncoming .. | .roomQuery .. | .auditMark .. | .auditClear ..
  | .auditLock .. | .auditUnlock .. | .auditApply .. | .exclude .. | .admitCarriers .. | .candidateTest ..
  | .balanceQuery .. | .travelPlan .. | .stockRiseReport .. | .eligibilityReport .. | .compartmentReceipt ..
  | .compartmentWithdrawal .. | .deliveryReport .. | .transitRemoval .. | .dispatchReport .. | .reservationJoined ..
  | .reservationPresented .. | .reservationWithdrawn .. | .commitReport .. | .reservationExpiry .. | .holdHandover ..
  | .carrierRelease .. | .auditTrim .. | .shortReport .. | .substitutionRequest .. | .substituteRelease .. | .readyReport ..
  | .notReadyReport .. | .grantAnswer .. | .taskEndReport .. | .grantWithdrawalReport .. | .attentionTimeout ..
  | .taskViewReport .. | .transitPlaceReport .. | .plannerRoomReport .. | .putTaskLeft .. | .panelShowReturn ..
  | .bayCurtainChange .. | .signOn .. | .signOff .. | .clearAccept .. | .clearReject .. | .recount .. | .short ..
  | .confirm .. | .batchEnd .. | .transitPlaceRequest .. | .placeGiveUp .. | .handOver .. | .divertReturn ..
  | .transitTimeout .. | .releaseButton .. | .laneSettleExpiry .. | .tagTimerExpiry .. | .waitingReport ..
  | .orderClassReport .. | .goneReport .. | .cancelReport .. | .completionReport .. | .receiptAnswer ..
  | .auditRequestRaised .. | .auditGranted .. | .tally .. | .auditConfirm .. | .auditIdleExpiry .. | .auditAbandonReport ..
  | .auditHandBack .. | .admitNotice .. | .noticeHanded .. | .noticeSend | .noticeFate .. | .replyOffer | .clockReturn
  | .statusQueryReturn .. | .haltReturn .. => false

/-- The carriers that stay excluded through a CELL-RESTART: those inside their carousel's restricted window (R24). -/
def State.keepsExcluded (s : State) (k : Carousel) (c : Nat) : Bool := inWindow (s.seq k).window c

/-- The Management Unit's own records on CELL-RESTART (R184). -/
def Management.restart (m : Management) : Management :=
  { m with cell := .loading, replies := [], notices := [], resend := [], noticeSeq := 0, dropped := false }

/-- Every block takes a CELL-RESTART (R184, Table MG-4). -/
def restartCell (s : State) : State :=
  let s := { s with mail := s.mail.filter mailKept }
  let s := restartBook (restartAudits (restartLanes (restartStock s.keepsExcluded (restartFrames s))))
  let s := { s with seqs := s.seqs.map Seq.restart, stations := s.stations.map Stn.restart }
  let s := restartBalance s
  let s := s.modMgmt Management.restart
  let s := stationList.foldl (fun s st => refresh st s) s
  restartRestore s

/-- CELL-STATUS: the status, and then the damaged-frame count and the DROPPED flag are cleared (R185). -/
def cellStatusRequest (s : State) : State × Answered :=
  ((s.modFe fun e => { e with damaged := 0 }).modMgmt fun m => { m with dropped := false },
    { result := .done, content := s.status })

/-- RECORD-READ (R186). -/
def recordReadRequest (kind index : Nat) (s : State) : State × Answered :=
  let r := s.record kind index
  (s, { result := r.1, content := r.2 })

/-- ORDER-ADD with the handle that its reply returns (R41). -/
def addOrder (ref : OrderRef) (cls : Nat) (lanes : Option (List Nat)) (lines : List LineReq) (s : State) : State × Answered :=
  let r := orderAddRequest ref cls lanes lines s
  (r.1, { result := r.2.1, content := r.2.2 })

end Sys2Proof.Machine
end

