-- ==== Sys2Proof/Machine/StationEvents.lean ====
section
/-! DEFINITION. The meanings of the reports, frames and keys that reach a Station Controller (chapters 5 and 6). A command
that ends a grant lets the station attend to what follows in the same step (R101). -/

namespace Sys2Proof.Machine

/-- A station's step, after which every station whose grant it ended attends to what follows. -/
def stnStep (s : State) (f : State → State) : Host.Outcome State Fault Refusal := carry s fun s => attendEnded s (f s)

/-- READY_REPORT (R100). -/
def execReadyReport (st : Station) (k : Carousel) (s : State) : Host.Outcome State Fault Refusal := stnStep s (takeReady st k)

/-- NOT_READY_REPORT (R100). -/
def execNotReadyReport (st : Station) (k : Carousel) (s : State) : Host.Outcome State Fault Refusal :=
  stnStep s (takeNotReady st k)

/-- GRANT_ANSWER (R100). -/
def execGrantAnswer (st : Station) (k : Carousel) (view : Option TaskView) (s : State) : Host.Outcome State Fault Refusal :=
  stnStep s (takeGrantAnswer st k view)

/-- TASK_END_REPORT: the task it names is the one that the station's HELD grant shows (R101). -/
def execTaskEndReport (st : Station) (k : Carousel) (carrier : Nat) (kind : TaskKind) (outcome : TaskOutcome) (s : State) :
    Host.Outcome State Fault Refusal :=
  stnStep s fun s =>
    if (s.stn st).holder.any (fun h => h.1 = k && h.2.carrier == carrier && viewKind h.2 == kind) then
      takeTaskEnd st k outcome s
    else s

/-- GRANT_WITHDRAWAL_REPORT (R101). -/
def execGrantWithdrawalReport (st : Station) (k : Carousel) (s : State) : Host.Outcome State Fault Refusal :=
  stnStep s (takeWithdrawalReport st k)

/-- ATTENTION_TIMEOUT (R102). -/
def execAttentionTimeout (st : Station) (s : State) : Host.Outcome State Fault Refusal := stnStep s (attentionExpired st)

/-- TASK_VIEW_REPORT (R115). -/
def execTaskViewReport (st : Station) (k : Carousel) (change : ViewChange) (s : State) : Host.Outcome State Fault Refusal :=
  stnStep s (takeViewReport st k change)

/-- TRANSIT_PLACE_REPORT (R104, R133). -/
def execTransitPlaceReport (st : Station) (s : State) : Host.Outcome State Fault Refusal := stnStep s (takePlaceFree st)

/-- PLANNER_ROOM_REPORT (R104, R123). -/
def execPlannerRoomReport (st : Station) (s : State) : Host.Outcome State Fault Refusal := stnStep s (takeRoom st)

/-- PLACE_REPORT: the planner offers its waiting parts, and the display follows (R129, R99). -/
def execPlaceReport (st : Station) (k : Carousel) (s : State) : Host.Outcome State Fault Refusal :=
  stnStep s fun s => refresh st (takePlaceReport st k s)

/-- PUT_TASK_LEFT (R130). -/
def execPutTaskLeft (st : Station) (k : Carousel) (carrier lot : Nat) (s : State) : Host.Outcome State Fault Refusal :=
  stnStep s (takePutLeft st k carrier lot)

/-- PANEL_SHOW_RETURN (R98, R99). -/
def execPanelShowReturn (st : Station) (fate : Fate) (s : State) : Host.Outcome State Fault Refusal :=
  stnStep s (panelReturned st fate)

/-- A PANEL-INPUT frame from the panel of a unit (R96, R98). -/
def panelOwner (input : PanelInput) (role : Role) (unit : Nat) (s : State) : State :=
  match role, stn? unit with
  | .panel, some st => takePanelInput st input s
  | _, _ => s

/-- PANEL_RECOVERY: a PANEL-INPUT frame whole, the first one after a loss among them (R98). -/
def execPanelRecovery (h : Hdr) (input : PanelInput) (s : State) : Host.Outcome State Fault Refusal :=
  stnStep s (fieldFrame h 10 (panelInputBytes input) (panelOwner input))

/-- BAY_CURTAIN_CHANGE: one bay's difference of a PANEL-INPUT frame (R96). -/
def execBayCurtainChange (st : Station) (b : Bay) (broken : Bool) (s : State) : Host.Outcome State Fault Refusal :=
  stnStep s (bayCurtainInput st b broken)

/-- SIGN_ON (R97). -/
def execSignOn (st : Station) (s : State) : Host.Outcome State Fault Refusal := stnStep s (pressKey st .signOn)

/-- SIGN_OFF (R97). -/
def execSignOff (st : Station) (s : State) : Host.Outcome State Fault Refusal := stnStep s (pressKey st .signOff)

/-- CLEAR_ACCEPT (R111). -/
def execClearAccept (st : Station) (s : State) : Host.Outcome State Fault Refusal := stnStep s (pressKey st .clearAccept)

/-- CLEAR_REJECT (R110). -/
def execClearReject (st : Station) (s : State) : Host.Outcome State Fault Refusal := stnStep s (pressKey st .clearReject)

/-- RECOUNT (R110). -/
def execRecount (st : Station) (s : State) : Host.Outcome State Fault Refusal := stnStep s (pressKey st .recount)

/-- SHORT (R114). -/
def execShort (st : Station) (s : State) : Host.Outcome State Fault Refusal := stnStep s (pressKey st .short)

/-- CONFIRM (R113). -/
def execConfirm (st : Station) (s : State) : Host.Outcome State Fault Refusal := stnStep s (pressKey st .confirm)

/-- BATCH_END (R122). -/
def execBatchEnd (st : Station) (s : State) : Host.Outcome State Fault Refusal := stnStep s (pressKey st .batchEnd)

/-- A LABEL frame from a reader of a unit: an opening or inbound reader's joins a scan queue (R103), a lane reader's is an
arrival (R136). -/
def labelOwner (label : Label) (role : Role) (unit : Nat) (s : State) : State :=
  match role with
  | .openingReader => (match stn? unit with | some st => takeLabel st .opening label s | none => s)
  | .inboundReader => (match stn? unit with | some st => takeLabel st .inbound label s | none => s)
  | .laneReader => (match lane? unit with | some l => takeArrival l label s | none => s)
  | .none | .drive | .panel | .laneController | .sorter | .gateway | .maint => s

/-- STATION_LABEL (R103). -/
def execStationLabel (h : Hdr) (label : Label) (s : State) : Host.Outcome State Fault Refusal :=
  stnStep s (fieldFrame h 11 (bLabel label) (labelOwner label))

end Sys2Proof.Machine
end

