-- ==== Sys2Proof/Machine/AuditEvents.lean ====
section
/-! DEFINITION. The meanings of the reports, tallies and expiries of the Audit Unit (chapter 8). -/

namespace Sys2Proof.Machine

/-- AUDIT_REQUEST_RAISED (R153, R154). -/
def execAuditRequestRaised (k : Carousel) (carrier : Nat) (blind : Bool) (cls : Class) (source : AuditSource) (s : State) :
    Host.Outcome State Fault Refusal :=
  stnStep s (raiseInternal k carrier blind cls source)

/-- AUDIT_PLACE_REPORT (R155). -/
def execAuditPlaceReport (k : Carousel) (s : State) : Host.Outcome State Fault Refusal := stnStep s (offerAudit k)

/-- AUDIT_GRANTED (R157). -/
def execAuditGranted (k : Carousel) (carrier : Nat) (s : State) : Host.Outcome State Fault Refusal :=
  stnStep s (takeAuditGranted k carrier)

/-- TALLY of a lot, or of an unknown label (R159). -/
def execTally (k : Carousel) (lot : Option Nat) (s : State) : Host.Outcome State Fault Refusal := stnStep s (takeTally k lot)

/-- AUDIT_CONFIRM (R160). -/
def execAuditConfirm (k : Carousel) (s : State) : Host.Outcome State Fault Refusal := stnStep s (confirmAudit k)

/-- AUDIT_IDLE_EXPIRY (R161). -/
def execAuditIdleExpiry (k : Carousel) (s : State) : Host.Outcome State Fault Refusal := stnStep s (sessionExpired k)

/-- AUDIT_ABANDON_REPORT: the sequencer has left PRESENTING for FAULT or MANUAL, and its task stands (R161, R162). -/
def execAuditAbandonReport (k : Carousel) (s : State) : Host.Outcome State Fault Refusal :=
  stnStep s (abandonSession k .stands)

/-- AUDIT_HAND_BACK (R156). -/
def execAuditHandBack (k : Carousel) (carrier : Option Nat) (s : State) : Host.Outcome State Fault Refusal :=
  stnStep s (takeHandBack k carrier)

/-- ADMIT_NOTICE (R155). -/
def execAdmitNotice (k : Carousel) (carriers : List Nat) (s : State) : Host.Outcome State Fault Refusal :=
  stnStep s (takeAdmit k carriers)

end Sys2Proof.Machine
end

