-- ==== Sys2Proof/Machine/Drives.lean ====
section
/-! DEFINITION. The meanings of the frames that concern drives, of the moves' events and of the curtains' (chapter 4). A
command that ends a station's grant lets that station attend to what follows in the same step (R101). -/

namespace Sys2Proof.Machine

/-- A sequencer's step, after which every station whose grant it ended attends to what follows. -/
def seqStep (s : State) (f : State → State) : Host.Outcome State Fault Refusal := carry s fun s => attendEnded s (f s)

/-- A foreign MOVE (kind 1) or JOG (kind 2) from a node that is not MAINT (R91, R171). -/
def takeForeign (h : Hdr) (kind : Nat) (s : State) : State :=
  receive h kind (fun d s =>
    match d with
    | .foreign k => takeForeignFrame k h kind s
    | d => redirect d h kind [] s) s

/-- FOREIGN_COMMAND (R171). -/
def execForeignCommand (h : Hdr) (jog : Bool) (s : State) : Host.Outcome State Fault Refusal :=
  carry s (takeForeign h (if jog then 2 else 1))

/-- A frame from a MAINT node to a drive is forwarded untouched and handed to the drive's sequencer (R171). -/
def maintFrame (h : Hdr) (kind : Nat) (act : Carousel → Nat → State → State) (s : State) : State :=
  receive h kind (fun d s =>
    match d with
    | .maint k => act k h.source (passFrame h kind s)
    | d => redirect d h kind [] s) s

/-- MANUAL_CLAIM (R88). -/
def execManualClaim (h : Hdr) (s : State) : Host.Outcome State Fault Refusal := seqStep s (maintFrame h 6 takeClaim)

/-- ACCESS (R89). -/
def execAccess (h : Hdr) (s : State) : Host.Outcome State Fault Refusal := seqStep s (maintFrame h 7 takeAccess)

/-- MAINT_DRIVE_FRAME (R89). -/
def execMaintDriveFrame (h : Hdr) (kind : Nat) (s : State) : Host.Outcome State Fault Refusal :=
  seqStep s (maintFrame h kind (maintAct kind))

/-- MANUAL_RELEASE (R90). -/
def execManualRelease (h : Hdr) (s : State) : Host.Outcome State Fault Refusal := seqStep s (maintFrame h 8 takeRelease)

/-- MANUAL_IDLE_EXPIRY (R90). -/
def execManualIdleExpiry (k : Carousel) (s : State) : Host.Outcome State Fault Refusal := seqStep s (manualIdleExpired k)

/-- A status from the drive of a unit (R67). -/
def driveOwner (m : Motion) (index target : Nat) (role : Role) (unit : Nat) (s : State) : State :=
  match role, car? unit with
  | .drive, some k => takeStatus k m index target s
  | _, _ => s

/-- DRIVE_STATUS (R67). -/
def execDriveStatus (h : Hdr) (m : Motion) (index target : Nat) (s : State) : Host.Outcome State Fault Refusal :=
  seqStep s (fieldFrame h 5 (statusBytes m index target) (driveOwner m index target))

/-- QUERY_ROUND_EXPIRY (R68). -/
def execQueryRoundExpiry (k : Carousel) (s : State) : Host.Outcome State Fault Refusal := seqStep s (queryExpired k)

/-- STATUS_QUERY_RETURN (R68, R79). -/
def execStatusQueryReturn (q : QueryId) (fate : Fate) (s : State) : Host.Outcome State Fault Refusal :=
  seqStep s (queryReturned q.car q.num fate)

/-- MOVE_RETURN (R79). -/
def execMoveReturn (k : Carousel) (fate : Fate) (s : State) : Host.Outcome State Fault Refusal :=
  seqStep s (moveReturned k fate)

/-- HALT_RETURN (R83). -/
def execHaltReturn (k : Carousel) (fate : Fate) (s : State) : Host.Outcome State Fault Refusal :=
  seqStep s (haltReturned k fate)

/-- MOVE_TIMEOUT (R80). -/
def execMoveTimeout (k : Carousel) (s : State) : Host.Outcome State Fault Refusal := seqStep s (moveTimedOut k)

/-- CURTAIN_BROKEN, by a broken or an unseen curtain (R81). -/
def execCurtainBroken (k : Carousel) (unseen : Bool) (s : State) : Host.Outcome State Fault Refusal :=
  seqStep s (curtainBreaks k unseen)

/-- CURTAIN_CLEAR (R81). -/
def execCurtainClear (k : Carousel) (s : State) : Host.Outcome State Fault Refusal := seqStep s (curtainClears k)

/-- CURTAIN_SETTLE_EXPIRY (R81). -/
def execCurtainSettleExpiry (k : Carousel) (s : State) : Host.Outcome State Fault Refusal := seqStep s (curtainSettles k)

/-- DRIVE_MISSING_REPORT (R83, R175). -/
def execDriveMissingReport (k : Carousel) (s : State) : Host.Outcome State Fault Refusal := seqStep s (driveMissing k)

/-- SPEED_CLASS_REPORT: a built MOVE that waits is planned again (R76). The class itself is read from the balance record. -/
def execSpeedClassReport (k : Carousel) (_speed : Speed) (s : State) : Host.Outcome State Fault Refusal :=
  seqStep s (speedReported k)

end Sys2Proof.Machine
end

