-- ==== Sys2Proof/Machine/LaneEvents.lean ====
section
/-! DEFINITION. The meanings of the requests, reports, frames and expiries of the Transit and Lane Unit (chapter 7). -/

namespace Sys2Proof.Machine

/-- TRANSIT_PLACE_REQUEST (R133). -/
def execTransitPlaceRequest (st : Station) (s : State) : Host.Outcome State Fault Refusal :=
  carry s fun s =>
    let r := askPlace st s
    r.1.ans (match r.2 with | some n => .place n | none => .full)

/-- PLACE_GIVE_UP (R133). -/
def execPlaceGiveUp (st : Station) (place : Nat) (s : State) : Host.Outcome State Fault Refusal :=
  carry s (givePlace st place)

/-- HAND_OVER (R134). -/
def execHandOver (st : Station) (place : Nat) (order : OrderName) (line lot week : Nat) (s : State) :
    Host.Outcome State Fault Refusal :=
  carry s (handOverPlace st place order.handle order.ref line lot week)

/-- DIVERT_RETURN (R135). -/
def execDivertReturn (label : Label) (l : Option Lane) (second : Bool) (fate : Fate) (s : State) :
    Host.Outcome State Fault Refusal :=
  carry s (divertReturned label l second fate)

/-- TRANSIT_TIMEOUT (R137). -/
def execTransitTimeout (place : Nat) (s : State) : Host.Outcome State Fault Refusal := carry s (transitExpired place)

/-- LANE_ARRIVAL (R136). -/
def execLaneArrival (h : Hdr) (label : Label) (s : State) : Host.Outcome State Fault Refusal :=
  carry s (fieldFrame h 11 (bLabel label) (labelOwner label))

/-- A TAG-READ frame from the lane reader of a unit (R142). -/
def tagOwner (cart : CartId) (count : Nat) (role : Role) (unit : Nat) (s : State) : State :=
  match role, lane? unit with
  | .laneReader, some l => takeTag l cart count s
  | _, _ => s

/-- TAG_READ (R142). -/
def execTagRead (h : Hdr) (cart : CartId) (count : Nat) (s : State) : Host.Outcome State Fault Refusal :=
  carry s (fieldFrame h 17 (tagBytes cart count) (tagOwner cart count))

/-- A LANE-INPUT frame from the lane controller of a unit (R141, R150). -/
def laneOwner (input : LaneInput) (role : Role) (unit : Nat) (s : State) : State :=
  match role, lane? unit with
  | .laneController, some l => takeLaneInput l input s
  | _, _ => s

/-- CART_CONTACTS (R142). -/
def execCartContacts (h : Hdr) (input : LaneInput) (s : State) : Host.Outcome State Fault Refusal :=
  carry s (fieldFrame h 12 (laneInputBytes input) (laneOwner input))

/-- RELEASE_BUTTON: the button goes from up to down (R144). -/
def execReleaseButton (l : Lane) (s : State) : Host.Outcome State Fault Refusal := carry s (momentaryRelease l)

/-- LANE_CONTROLLER_RECOVERY: a LANE-INPUT frame whole, the first one after a loss among them (R150). -/
def execLaneControllerRecovery (h : Hdr) (input : LaneInput) (s : State) : Host.Outcome State Fault Refusal :=
  carry s fun s => fieldFrame h 12 (laneInputBytes input) (laneOwner input) s

/-- LANE_SETTLE_EXPIRY (R142). -/
def execLaneSettleExpiry (l : Lane) (s : State) : Host.Outcome State Fault Refusal := carry s (laneSettled l)

/-- TAG_TIMER_EXPIRY (R142). -/
def execTagTimerExpiry (l : Lane) (s : State) : Host.Outcome State Fault Refusal := carry s (tagExpires l)

/-- LATCH_RETURN (R143). -/
def execLatchReturn (l : Lane) (lock second : Bool) (fate : Fate) (s : State) : Host.Outcome State Fault Refusal :=
  carry s (latchReturned l lock second fate)

/-- WAITING_REPORT (R138). -/
def execWaitingReport (order : OrderName) (seq : Nat) (cls : Class) (lanes : Option (List Nat)) (s : State) :
    Host.Outcome State Fault Refusal :=
  carry s (takeWaiting { handle := order.handle, seq := seq, ref := order.ref, cls := cls, lanes := lanes })

/-- ORDER_CLASS_REPORT (R138). -/
def execOrderClassReport (handle : Nat) (cls : Class) (s : State) : Host.Outcome State Fault Refusal :=
  carry s (takeOrderClass handle cls)

/-- GONE_REPORT (R138). -/
def execGoneReport (handle : Nat) (s : State) : Host.Outcome State Fault Refusal := carry s (takeGone handle)

/-- CANCEL_REPORT (R140). -/
def execCancelReport (handle : Nat) (picking : Bool) (s : State) : Host.Outcome State Fault Refusal :=
  carry s (takeCancel handle picking)

/-- COMPLETION_REPORT (R140). -/
def execCompletionReport (handle : Nat) (s : State) : Host.Outcome State Fault Refusal := carry s (takeCompletion handle)

/-- RECEIPT_ANSWER (R139). -/
def execReceiptAnswer (l : Lane) (comp handle seq : Nat) (accepted : Bool) (s : State) : Host.Outcome State Fault Refusal :=
  carry s (takeReceiptAnswer l comp handle seq accepted)

end Sys2Proof.Machine
end

