-- ==== Sys2Proof/Machine/Requests.lean ====
section
/-! DEFINITION. The meanings of the notice and reply events and of the management requests (chapter 10). A request that ends
a grant lets the station attend to what follows before the reply (R101). -/

namespace Sys2Proof.Machine

/-! ## Notices and replies -/

/-- NOTICE_HANDED (R187). -/
def execNoticeHanded (b : NoticeBody) (s : State) : Host.Outcome State Fault Refusal := carry s (handNotice b)

/-- NOTICE_SEND (R188). -/
def execNoticeSend (s : State) : Host.Outcome State Fault Refusal := carry s sendNotice

/-- NOTICE_FATE (R188). -/
def execNoticeFate (n : Notice) (second : Bool) (fate : Fate) (s : State) : Host.Outcome State Fault Refusal :=
  carry s (noticeReturned n second fate)

/-- REPLY_OFFER (R179). -/
def execReplyOffer (s : State) : Host.Outcome State Fault Refusal := carry s offerReply

/-! ## Requests -/

/-- A request's body, after which every station whose grant it ended attends to what follows. -/
def settled (body : State → State × Result) (s : State) : State × Answered :=
  let r := body s
  (attendEnded s r.1, { result := r.2, content := [] })

/-- MALFORMED_REQUEST: a kind that the part does not know, or a length that does not suit the kind (R179, R190). -/
def execMalformedRequest (q : Req) (kind : Nat) (s : State) : Host.Outcome State Fault Refusal :=
  carry s (request q kind (plain fun s => (s, .malformed)))

/-- CELL_STATUS (R185). -/
def execCellStatus (q : Req) (s : State) : Host.Outcome State Fault Refusal := carry s (request q 64 cellStatusRequest)

/-- CELL_RUN (R182). -/
def execCellRun (q : Req) (s : State) : Host.Outcome State Fault Refusal := carry s (request q 65 (settled cellRunRequest))

/-- CELL_HALT (R183). -/
def execCellHalt (q : Req) (s : State) : Host.Outcome State Fault Refusal := carry s (request q 66 (settled cellHaltRequest))

/-- CELL_RESTART (R184). -/
def execCellRestart (q : Req) (s : State) : Host.Outcome State Fault Refusal :=
  carry s (request q 67 (plain fun s => (restartCell s, .done)))

/-- NODE_MAP_WRITE (R169). -/
def execNodeMapWrite (q : Req) (addr role unit : Nat) (mirror : Bool) (s : State) : Host.Outcome State Fault Refusal :=
  carry s (request q 68 (settled (nodeMapWriteRequest addr role unit mirror)))

/-- GROUP_WRITE (R175). -/
def execGroupWrite (q : Req) (g : Nat) (members : List Nat) (s : State) : Host.Outcome State Fault Refusal :=
  carry s (request q 69 (plain (groupWriteRequest g members)))

/-- CAROUSEL_CONFIG_WRITE (R7, R33, R69). -/
def execCarouselConfigWrite (q : Req) (c : CarouselCfg) (s : State) : Host.Outcome State Fault Refusal :=
  carry s (request q 70 (settled (carouselConfigRequest c)))

/-- STATION_CONFIG_WRITE (R95). -/
def execStationConfigWrite (q : Req) (c : StationCfg) (s : State) : Host.Outcome State Fault Refusal :=
  carry s (request q 71 (settled (stationConfigRequest c)))

/-- LANE_CONFIG_WRITE (R141). -/
def execLaneConfigWrite (q : Req) (l : Nat) (configured : Bool) (limit : Nat) (s : State) :
    Host.Outcome State Fault Refusal :=
  carry s (request q 72 (plain (laneConfigRequest l configured limit)))

/-- TIMER_WRITE (R181). -/
def execTimerWrite (q : Req) (selector value : Nat) (s : State) : Host.Outcome State Fault Refusal :=
  carry s (request q 73 (timerWriteRequest selector value))

/-- LOT_WRITE (R3). -/
def execLotWrite (q : Req) (lot : Nat) (article : Article) (week : Week) (width rim mass : Nat) (s : State) :
    Host.Outcome State Fault Refusal :=
  carry s (request q 74 (plain (lotWriteRequest lot article week width rim mass)))

/-- LOT_DELETE (R4). -/
def execLotDelete (q : Req) (lot : Nat) (s : State) : Host.Outcome State Fault Refusal :=
  carry s (request q 75 (plain (lotDeleteRequest lot)))

/-- LOT_HOLD (R5). -/
def execLotHold (q : Req) (lot : Nat) (s : State) : Host.Outcome State Fault Refusal :=
  carry s (request q 76 (plain (lotHoldRequest lot)))

/-- LOT_RELEASE (R6). -/
def execLotRelease (q : Req) (lot : Nat) (s : State) : Host.Outcome State Fault Refusal :=
  carry s (request q 77 (plain (lotReleaseRequest lot)))

/-- CARRIER_WRITE (R13). -/
def execCarrierWrite (q : Req) (k carrier : Nat) (doubleStack disable : Bool) (list : List (Nat × Nat)) (s : State) :
    Host.Outcome State Fault Refusal :=
  carry s (request q 78 (settled (carrierWriteRequest k carrier doubleStack disable list)))

/-- RECORD_READ (R186). -/
def execRecordRead (q : Req) (kind index : Nat) (s : State) : Host.Outcome State Fault Refusal :=
  carry s (request q 79 (recordReadRequest kind index))

/-- ORDER_ADD (R41). -/
def execOrderAdd (q : Req) (ref : OrderRef) (cls : Nat) (lanes : Option (List Nat)) (lines : List LineReq) (s : State) :
    Host.Outcome State Fault Refusal :=
  carry s (request q 80 (addOrder ref cls lanes lines))

/-- ORDER_CANCEL (R43). -/
def execOrderCancel (q : Req) (handle : Nat) (s : State) : Host.Outcome State Fault Refusal :=
  carry s (request q 81 (plain (orderCancelRequest handle)))

/-- ORDER_CLASS (R44). -/
def execOrderClass (q : Req) (handle cls : Nat) (s : State) : Host.Outcome State Fault Refusal :=
  carry s (request q 82 (plain (orderClassRequest handle cls)))

/-- ORDER_RESUME (R45). -/
def execOrderResume (q : Req) (handle : Nat) (s : State) : Host.Outcome State Fault Refusal :=
  carry s (request q 83 (plain (orderResumeRequest handle)))

/-- CAROUSEL_ENABLE (R87). -/
def execCarouselEnable (q : Req) (k : Nat) (s : State) : Host.Outcome State Fault Refusal :=
  carry s (request q 84 (settled (enableRequest k)))

/-- CAROUSEL_DISABLE (R87). -/
def execCarouselDisable (q : Req) (k : Nat) (s : State) : Host.Outcome State Fault Refusal :=
  carry s (request q 85 (settled (disableRequest k)))

/-- WINDOW_SET (R86). -/
def execWindowSet (q : Req) (k : Nat) (bounds : Option (Nat × Nat)) (s : State) : Host.Outcome State Fault Refusal :=
  carry s (request q 86 (settled (windowSetRequest k bounds)))

/-- AUDIT_REQUEST (R154). -/
def execAuditRequest (q : Req) (k carrier : Nat) (blind : Bool) (cls : Nat) (s : State) : Host.Outcome State Fault Refusal :=
  carry s (request q 87 (settled (auditRequestRequest k carrier blind cls)))

/-- AUDIT_CANCEL (R163). -/
def execAuditCancel (q : Req) (k carrier : Nat) (s : State) : Host.Outcome State Fault Refusal :=
  carry s (request q 88 (settled (auditCancelRequest k carrier)))

/-- SCAN_CLEAR (R112). -/
def execScanClear (q : Req) (st action : Nat) (s : State) : Host.Outcome State Fault Refusal :=
  carry s (request q 89 (settled (scanClearRequest st action)))

/-- LANE_PERMIT (R144). -/
def execLanePermit (q : Req) (l : Nat) (s : State) : Host.Outcome State Fault Refusal :=
  carry s (request q 90 (plain (lanePermitRequest l)))

/-- LANE_ASSIGN (R142). -/
def execLaneAssign (q : Req) (l : Nat) (cart : CartId) (count : Nat) (s : State) : Host.Outcome State Fault Refusal :=
  carry s (request q 91 (plain (laneAssignRequest l cart count)))

/-- LANE_CLOSE (R148). -/
def execLaneClose (q : Req) (l : Nat) (s : State) : Host.Outcome State Fault Refusal :=
  carry s (request q 92 (plain (laneCloseRequest l)))

/-- LANE_OPEN (R148). -/
def execLaneOpen (q : Req) (l : Nat) (s : State) : Host.Outcome State Fault Refusal :=
  carry s (request q 93 (plain (laneOpenRequest l)))

end Sys2Proof.Machine
end

