-- ==== Sys2Proof/Machine/Ring.lean ====
section
/-! DEFINITION. The meanings of the Frame Engine's events and of the offers that blocks make to it (chapter 9). -/

namespace Sys2Proof.Machine

/-- SILENCE_TIMER_EXPIRY (R166). -/
def execSilenceTimerExpiry (s : State) : Host.Outcome State Fault Refusal := carry s silenceExpired

/-- A block takes a change of ring state (R92, R99, R166). -/
def takeRing (b : Block) (r : Ring) (s : State) : State :=
  match b with
  | .seq k => attendEnded s (seqRing k r s)
  | .station st => stationRing st r s
  | .transit | .management | .engine => s

/-- RING_STATE_REPORT (R166). -/
def execRingStateReport (b : Block) (r : Ring) (s : State) : Host.Outcome State Fault Refusal := carry s (takeRing b r)

/-- RESTORE_ROUND_EXPIRY (R167). -/
def execRestoreRoundExpiry (s : State) : Host.Outcome State Fault Refusal := carry s restoreExpired

/-- A block is told that its node did not answer the restore: a drive's carousel goes to FAULT, a panel or a lane controller
is LOST (R92, R98, R150, R167). -/
def nodeMissing (role : Role) (unit : Nat) (s : State) : State :=
  match role with
  | .drive => (match car? unit with | some k => attendEnded s (enterFault k .link s) | none => s)
  | .panel => (match stn? unit with | some st => attendEnded s (losePanel st s) | none => s)
  | .laneController =>
    (match lane? unit with | some l => loseController l s | none => s)
  | .none | .openingReader | .inboundReader | .laneReader | .sorter | .gateway | .maint => s

/-- NODE_NOT_ANSWERED (R167). -/
def execNodeNotAnswered (role : Role) (unit : Nat) (s : State) : Host.Outcome State Fault Refusal :=
  carry s (nodeMissing role unit)

/-- A frame that comes back to the part, intact or not (R170, R174); one of another source is disposed of by R170. -/
def takeReturn (h : Hdr) (kind : Nat) (intact : Bool) (s : State) : State :=
  if intact then
    receive h kind (fun d s =>
      match d with
      | .own => frameReturned h kind true s
      | d => attendEnded s (redirect d h kind [] s)) s
  else badFrame h kind s

/-- FRAME_RETURN (R174). -/
def execFrameReturn (h : Hdr) (kind : Nat) (intact : Bool) (s : State) : Host.Outcome State Fault Refusal :=
  carry s (takeReturn h kind intact)

/-- ROUND_DEADLINE_EXPIRY of the outstanding entry at position `i` (R174). -/
def execRoundDeadlineExpiry (i : Nat) (s : State) : Host.Outcome State Fault Refusal := carry s (roundExpired i)

/-- What a block does when its offer is answered no node: a query or a MOVE that no drive can take puts the carousel in FAULT
(R68), a panel counts as not answering (R98), and a lane controller counts as LOST (R143). -/
def offerUnheard (b : Block) (p : Payload) (s : State) : State :=
  match b, p with
  | .seq k, .move .. | .seq k, .statusQuery _ | .seq k, .halt _ => driveUnheard k p s
  | .station st, .panelShow _ => losePanel st s
  | _, p => laneUnheard p s

/-- A block's offer, its answer, and what the block does with a full or no-node answer (R173, R176). -/
def takeOffer (b : Block) (t : Target) (p : Payload) (s : State) : State :=
  let r := offer b t p s
  match r.2 with
  | .queued => r.1.ans .queued
  | .full => (match s.address t with | some d => handBack (frameTo b d p) r.1 | none => r.1).ans .full
  | .noNode => (attendEnded s (offerUnheard b p r.1)).ans .noNode

/-- FRAME_OFFER (R173). -/
def execFrameOffer (b : Block) (t : Target) (p : Payload) (s : State) : Host.Outcome State Fault Refusal :=
  carry s (takeOffer b t p)

/-- FRAME_WITHDRAW: a block asks for its frame of a kind to be withdrawn (R173). -/
def execFrameWithdraw (b : Block) (kind : Nat) (s : State) : Host.Outcome State Fault Refusal :=
  carry s fun s =>
    let r := withdrawFrame b kind s
    r.1.ans (if r.2 then .withdrawn else .gone)

/-- PAYLOAD_REPLACE: a block asks for the payload of its queued frame to be replaced (R173). -/
def execPayloadReplace (b : Block) (p : Payload) (s : State) : Host.Outcome State Fault Refusal :=
  carry s fun s =>
    let r := replacePayload b p s
    r.1.ans (if r.2 then .replaced else .gone)

/-- FRAME_SEND (R173). -/
def execFrameSend (s : State) : Host.Outcome State Fault Refusal := carry s sendHead

/-- A block takes a space report and offers what it kept again (R76, R99, R173, R179, R188). -/
def takeSpace (b : Block) (s : State) : State :=
  match b with
  | .seq k => attendEnded s (seqSpace k s)
  | .station st => stationSpace st (reofferKept (.station st) (fun _ s => s) s)
  | .management => managementSpace s
  | .transit => reofferKept .transit laneUnheard s
  | .engine => reofferKept .engine (fun _ s => s) s

/-- SPACE_REPORT (R173). -/
def execSpaceReport (b : Block) (s : State) : Host.Outcome State Fault Refusal := carry s (takeSpace b)

end Sys2Proof.Machine
end

