-- ==== Sys2Proof/Machine/Bytes.lean ====
section
/-! DEFINITION. Frames that arrive at the ring input as bytes (R168, R170, R190): a good frame that concerns a block is
carried out, at once and whole, as the row that it stands for. -/

namespace Sys2Proof.Machine

/-- The row that a good frame stands for, by its disposal (R170); none for a frame that is passed on. -/
def State.rowOf (s : State) (f : WireFrame) : Option Instr :=
  match s.disposal f.hdr f.kind with
  | .own => some (.frameReturn f.hdr f.kind true)
  | .request => some (managementCommand f.hdr f.kind f.payload)
  | .foreign _ => some (.foreignCommand f.hdr (f.kind == 2))
  | .maint _ => some (maintCommand f.hdr f.kind)
  | .field role _ _ => fieldCommand role f.hdr f.kind f.payload
  | .unasked | .other => none

/-- A management request carried out (R179); none for every other row. -/
def runRequest (c : Instr) (s : State) : Option (Host.Outcome State Fault Refusal) :=
  match c with
  | .cellStatus q => some (execCellStatus q s)
  | .cellRun q => some (execCellRun q s)
  | .cellHalt q => some (execCellHalt q s)
  | .cellRestart q => some (execCellRestart q s)
  | .nodeMapWrite q a r u m => some (execNodeMapWrite q a r u m s)
  | .groupWrite q g l => some (execGroupWrite q g l s)
  | .carouselConfigWrite q c => some (execCarouselConfigWrite q c s)
  | .stationConfigWrite q c => some (execStationConfigWrite q c s)
  | .laneConfigWrite q l c n => some (execLaneConfigWrite q l c n s)
  | .timerWrite q t v => some (execTimerWrite q t v s)
  | .lotWrite q n a w x r m => some (execLotWrite q n a w x r m s)
  | .lotDelete q n => some (execLotDelete q n s)
  | .lotHold q n => some (execLotHold q n s)
  | .lotRelease q n => some (execLotRelease q n s)
  | .carrierWrite q k c d x l => some (execCarrierWrite q k c d x l s)
  | .recordRead q k i => some (execRecordRead q k i s)
  | .orderAdd q r c l ls => some (execOrderAdd q r c l ls s)
  | .orderCancel q h => some (execOrderCancel q h s)
  | .orderClass q h c => some (execOrderClass q h c s)
  | .orderResume q h => some (execOrderResume q h s)
  | .carouselEnable q k => some (execCarouselEnable q k s)
  | .carouselDisable q k => some (execCarouselDisable q k s)
  | .windowSet q k b => some (execWindowSet q k b s)
  | .auditRequest q k c b p => some (execAuditRequest q k c b p s)
  | .auditCancel q k c => some (execAuditCancel q k c s)
  | .scanClear q n a => some (execScanClear q n a s)
  | .lanePermit q l => some (execLanePermit q l s)
  | .laneAssign q l c n => some (execLaneAssign q l c n s)
  | .laneClose q l => some (execLaneClose q l s)
  | .laneOpen q l => some (execLaneOpen q l s)
  | .malformedRequest q k => some (execMalformedRequest q k s)
  | _ => none

/-- A field, MAINT or returning frame carried out (R170, R171, R174); none for every other row. -/
def runFrame (c : Instr) (s : State) : Option (Host.Outcome State Fault Refusal) :=
  match c with
  | .driveStatus h m i t => some (execDriveStatus h m i t s)
  | .panelRecovery h i => some (execPanelRecovery h i s)
  | .stationLabel h l => some (execStationLabel h l s)
  | .cartContacts h i => some (execCartContacts h i s)
  | .laneArrival h l => some (execLaneArrival h l s)
  | .tagRead h c n => some (execTagRead h c n s)
  | .foreignCommand h j => some (execForeignCommand h j s)
  | .manualClaim h => some (execManualClaim h s)
  | .access h => some (execAccess h s)
  | .manualRelease h => some (execManualRelease h s)
  | .maintDriveFrame h k => some (execMaintDriveFrame h k s)
  | .frameReturn h k i => some (execFrameReturn h k i s)
  | _ => none

/-- A good frame passed on untouched, or, with its DAMAGED flag set, as R168 gives. -/
def passedOn (f : WireFrame) (s : State) : Host.Outcome State Fault Refusal :=
  carry s (receive f.hdr f.kind fun _ s => passFrame f.hdr f.kind s)

/-- Any frame of the ring as bytes: a bad one is counted and marked (R168), one that concerns a block is carried out as its
row, and every other good frame is passed on untouched (R170, R190). -/
def receiveBytes (f : WireFrame) (s : State) : Host.Outcome State Fault Refusal :=
  if frameGood f then
    match s.rowOf f with
    | some c => ((runRequest c s).or (runFrame c s)).getD (passedOn f s)
    | none => passedOn f s
  else carry s (badFrame f.hdr f.kind)

/-- DAMAGED_FRAME_RECEIVED: a frame whose check or length is bad (R168). -/
def execDamagedFrameReceived (f : WireFrame) (s : State) : Host.Outcome State Fault Refusal := receiveBytes f s

/-- FORWARDED_FRAME: a frame as bytes; a good one that concerns no block goes on untouched (R170). -/
def execForwardedFrame (f : WireFrame) (s : State) : Host.Outcome State Fault Refusal := receiveBytes f s

end Sys2Proof.Machine
end

