-- ==== Sys2Proof/Machine/OrderEvents.lean ====
section
/-! DEFINITION. The meanings of the reports that reach the Order Book (chapter 3). -/

namespace Sys2Proof.Machine

/-- STOCK_RISE_REPORT: every line of the article is resolved (R55). -/
def execStockRiseReport (article : Article) (s : State) : Host.Outcome State Fault Refusal :=
  carry s fun s => passAfter (s.linesWhere fun l => l.article = article) none s

/-- ELIGIBILITY_REPORT: every line whose need is above 0 is resolved (R55). The carrier it names is only its cause. -/
def execEligibilityReport (_k : Carousel) (_carrier : Nat) (s : State) : Host.Outcome State Fault Refusal :=
  carry s fun s => passAfter (s.linesWhere fun l => decide (0 < l.need)) none s

/-- COMPARTMENT_RECEIPT: the order takes its compartment or declines it, and the answer goes back to the lane (R42, R139). -/
def execCompartmentReceipt (handle seq : Nat) (l : Lane) (comp : Nat) (s : State) : Host.Outcome State Fault Refusal :=
  carry s fun s =>
    let r := takeReceipt handle seq l comp s
    r.1.ans (if r.2 then .accepted else .declined)

/-- COMPARTMENT_WITHDRAWAL (R46). -/
def execCompartmentWithdrawal (handle : Nat) (reason : Withdrawal) (s : State) : Host.Outcome State Fault Refusal :=
  carry s (takeWithdrawal handle reason)

/-- DELIVERY_REPORT (R47). The lot was charged to the line at its commit. -/
def execDeliveryReport (handle line _lot : Nat) (s : State) : Host.Outcome State Fault Refusal :=
  carry s (takeDelivery handle line)

/-- TRANSIT_REMOVAL (R48). -/
def execTransitRemoval (handle line week : Nat) (reason : RemovalReason) (s : State) : Host.Outcome State Fault Refusal :=
  carry s (takeRemoval handle line week reason)

/-- DISPATCH_REPORT (R49). -/
def execDispatchReport (handle : Nat) (l : Lane) (comp : Nat) (cart : CartId) (s : State) : Host.Outcome State Fault Refusal :=
  carry s (takeDispatch handle l comp cart)

/-- RESERVATION_JOINED (R51). -/
def execReservationJoined (r : ResId) (s : State) : Host.Outcome State Fault Refusal := carry s (resJoined r)

/-- RESERVATION_PRESENTED (R51). -/
def execReservationPresented (r : ResId) (s : State) : Host.Outcome State Fault Refusal := carry s (resPresented r)

/-- RESERVATION_WITHDRAWN (R51). -/
def execReservationWithdrawn (r : ResId) (s : State) : Host.Outcome State Fault Refusal := carry s (resWithdrawn r)

/-- COMMIT_REPORT (R53). -/
def execCommitReport (r : ResId) (k : Carousel) (carrier lot week : Nat) (s : State) : Host.Outcome State Fault Refusal :=
  carry s fun s =>
    let a := takeCommit r k carrier lot week s
    a.1.ans (match a.2 with | some (h, i, c) => .charged h i c | none => .none)

/-- RESERVATION_EXPIRY (R54). -/
def execReservationExpiry (place : Nat) (s : State) : Host.Outcome State Fault Refusal := carry s (resExpired place)

/-- HOLD_HANDOVER (R61). -/
def execHoldHandover (lot : Nat) (s : State) : Host.Outcome State Fault Refusal := carry s (takeHold lot)

/-- CARRIER_RELEASE (R61). -/
def execCarrierRelease (k : Carousel) (carriers : List Nat) (s : State) : Host.Outcome State Fault Refusal :=
  carry s (takeCarrierRelease k carriers)

/-- AUDIT_TRIM (R62). -/
def execAuditTrim (k : Carousel) (carrier lot target : Nat) (s : State) : Host.Outcome State Fault Refusal :=
  carry s fun s => let r := takeTrim k carrier lot target s; r.1.ans (.trimmed r.2)

/-- SHORT_REPORT (R63). -/
def execShortReport (r : ResId) (count : Nat) (s : State) : Host.Outcome State Fault Refusal := carry s (takeShort r count)

/-- SUBSTITUTION_REQUEST (R64). -/
def execSubstitutionRequest (r : ResId) (lot : Nat) (s : State) : Host.Outcome State Fault Refusal :=
  carry s fun s =>
    let a := takeSubstitution r lot s
    a.1.ans (match a.2 with | some x => .substitute x | none => .refused)

/-- SUBSTITUTE_RELEASE (R64). -/
def execSubstituteRelease (r : ResId) (s : State) : Host.Outcome State Fault Refusal := carry s (takeSubstituteRelease r)

end Sys2Proof.Machine
end

