-- ==== Sys2Proof/Machine/Reset.lean ====
section
/-! DEFINITION. The meanings of the events on the reset and clock pins (R191). -/

namespace Sys2Proof.Machine

/-- RESET_ASSERT: RESETN is low or a supply is out of range; no block holds state, and the part passes through its power-on
values (R191). The commands that wait outside the part, the time and the clock pin are not the part's state. -/
def execResetAssert (s : State) : Host.Outcome State Fault Refusal :=
  .next { State.powerOn s.strap with resetLow := true, clock := s.clock, now := s.now, pending := s.pending }

/-- POWER_ON_RESET: the straps are sampled and every block starts at its power-on values (R178, R191). -/
def execPowerOnReset (straps : BitVec 6) (s : State) : Host.Outcome State Fault Refusal :=
  .next { State.powerOn straps with clock := s.clock, now := s.now, pending := s.pending }

/-- CLOCK_LOSS: CLKIN is lost, and the ring output stops (R191). -/
def execClockLoss (s : State) : Host.Outcome State Fault Refusal :=
  .next { s with clock := false, out := [], answer := .none }

/-- CLOCK_RETURN: CLKIN is back, and the ring output with it; the ring then goes DOWN when the silence timer expires, unless
a frame arrives first (R191). Restore queries that wait for the clock are sent. -/
def execClockReturn (s : State) : Host.Outcome State Fault Refusal :=
  .next (resumeQueries { s with clock := true, out := [], answer := .none })

end Sys2Proof.Machine
end

