-- ==== Sys2Proof/Machine/StockEntries.lean ====
section
/-! DEFINITION. The meanings of the Stock Table Unit's entries and of the Balance Unit's reports and questions (chapters 1
and 2). The answer that the asking block is given stands in State's `answer`. -/

namespace Sys2Proof.Machine

/-- An entry answers taken or refused. -/
def takenOr (b : Bool) : Answer := if b then .taken else .refused

/-- RESERVE (R15). -/
def execReserve (k : Carousel) (carrier lot count : Nat) (s : State) : Host.Outcome State Fault Refusal :=
  carry s fun s => let r := reserveEntry k carrier lot count s; r.1.ans (.granted r.2)

/-- RELEASE (R16). -/
def execRelease (k : Carousel) (carrier lot count : Nat) (s : State) : Host.Outcome State Fault Refusal :=
  carry s fun s => let r := releaseEntry k carrier lot count s; r.1.ans (.returned r.2)

/-- COMMIT_PICK (R17). -/
def execCommitPick (k : Carousel) (carrier lot : Nat) (s : State) : Host.Outcome State Fault Refusal :=
  carry s fun s => let r := commitPickEntry k carrier lot s; r.1.ans (takenOr r.2)

/-- COMMIT_PUT (R18). -/
def execCommitPut (k : Carousel) (carrier lot : Nat) (s : State) : Host.Outcome State Fault Refusal :=
  carry s fun s => let r := commitPutEntry k carrier lot s; r.1.ans (takenOr r.2)

/-- PLAN_INCOMING (R19). -/
def execPlanIncoming (k : Carousel) (carrier lot count : Nat) (s : State) : Host.Outcome State Fault Refusal :=
  carry s fun s => let r := planIncomingEntry k carrier lot count s; r.1.ans (takenOr r.2)

/-- RETURN_INCOMING (R20). -/
def execReturnIncoming (k : Carousel) (carrier lot count : Nat) (s : State) : Host.Outcome State Fault Refusal :=
  carry s fun s => let r := returnIncomingEntry k carrier lot count s; r.1.ans (.returned r.2)

/-- ROOM_QUERY (R12). -/
def execRoomQuery (k : Carousel) (carrier lot count : Nat) (s : State) : Host.Outcome State Fault Refusal :=
  carry s fun s => s.ans (.room (s.roomQuery k carrier lot count))

/-- AUDIT_MARK (R21). -/
def execAuditMark (k : Carousel) (carrier : Nat) (s : State) : Host.Outcome State Fault Refusal :=
  carry s fun s => let r := auditMarkEntry k carrier s; r.1.ans (if r.2 then .marked else .refused)

/-- AUDIT_CLEAR (R21). -/
def execAuditClear (k : Carousel) (carrier : Nat) (s : State) : Host.Outcome State Fault Refusal :=
  carry s fun s => (auditClearEntry k carrier s).ans .cleared

/-- The answer to an audit-lock entry (R22). -/
def lockAnswer : LockAnswer → Answer
  | .locked => .locked | .refusedIncoming => .refusedIncoming | .refused => .refused

/-- AUDIT_LOCK (R22). -/
def execAuditLock (k : Carousel) (carrier : Nat) (s : State) : Host.Outcome State Fault Refusal :=
  carry s fun s => let r := auditLockEntry k carrier s; r.1.ans (lockAnswer r.2)

/-- AUDIT_UNLOCK (R22). -/
def execAuditUnlock (k : Carousel) (carrier : Nat) (s : State) : Host.Outcome State Fault Refusal :=
  carry s fun s => (auditUnlockEntry k carrier s).ans .unlocked

/-- AUDIT_APPLY (R23). -/
def execAuditApply (k : Carousel) (carrier : Nat) (tally : List (Nat × Nat)) (unknown unplaced : Nat) (s : State) :
    Host.Outcome State Fault Refusal :=
  carry s fun s =>
    let r := auditApplyEntry k carrier tally unknown unplaced s
    r.1.ans (match r.2 with | some v => .applied v | none => .refused)

/-- EXCLUDE (R10). -/
def execExclude (k : Carousel) (carriers : List Nat) (s : State) : Host.Outcome State Fault Refusal :=
  carry s fun s => (excludeEntry k carriers s).ans .done

/-- ADMIT (R10). -/
def execAdmitCarriers (k : Carousel) (carriers : List Nat) (s : State) : Host.Outcome State Fault Refusal :=
  carry s fun s => (admitEntry k carriers s).ans .done

/-- MASS_REPORT (R32). -/
def execMassReport (k : Carousel) (masses : List (Nat × Nat)) (s : State) : Host.Outcome State Fault Refusal :=
  carry s (takeMasses k masses)

/-- CANDIDATE_TEST (R34). -/
def execCandidateTest (k : Carousel) (carrier added : Nat) (s : State) : Host.Outcome State Fault Refusal :=
  carry s fun s => s.ans (match s.candidateTest k carrier added with | some c => .candidate c | none => .invalid)

/-- BALANCE_QUERY (R35). -/
def execBalanceQuery (k : Carousel) (carrier mass count : Nat) (s : State) : Host.Outcome State Fault Refusal :=
  carry s fun s => s.ans (match s.balanceQuery k carrier mass count with | some a => .balance a.1 a.2 | none => .invalid)

/-- The answer to a travel question (R37). -/
def travelAnswer : Travel → Answer
  | .invalid => .invalid | .there => .there | .plan p => .plan p

/-- TRAVEL_PLAN (R37). -/
def execTravelPlan (k : Carousel) (index target : Nat) (s : State) : Host.Outcome State Fault Refusal :=
  carry s fun s => s.ans (travelAnswer (s.travelPlan k index target))

end Sys2Proof.Machine
end

