-- ==== Sys2Proof/Machine/Tasks.lean ====
section
/-! DEFINITION. The meanings of what other blocks hand to a Carousel Sequencer: reservations, offers, task changes, grants
and their ends, and its station (chapter 4, R95). -/

namespace Sys2Proof.Machine

/-- The answer to an offer (R72). -/
def offerAnswer : OfferAnswer → Answer
  | .taken => .taken | .full => .full | .excluded => .excluded | .duplicate => .duplicate

/-- NEW_RESERVATION (R72); an IDLE carousel then chooses (R75). -/
def execNewReservation (k : Carousel) (r : ResId) (carrier count : Nat) (order : PickOrder) (s : State) :
    Host.Outcome State Fault Refusal :=
  seqStep s (takeNewReservation k r carrier count order)

/-- PUT_OFFER (R72). -/
def execPutOffer (k : Carousel) (carrier lot count : Nat) (cls : Class) (st : Station) (s : State) :
    Host.Outcome State Fault Refusal :=
  seqStep s fun s => let r := putOffered k carrier lot count cls st s; r.1.ans (offerAnswer r.2)

/-- AUDIT_OFFER (R72). -/
def execAuditOffer (k : Carousel) (carrier : Nat) (blind : Bool) (cls : Class) (s : State) :
    Host.Outcome State Fault Refusal :=
  seqStep s fun s => let r := auditOffered k carrier blind cls s; r.1.ans (offerAnswer r.2)

/-- AUDIT_REQUEUE (R157). -/
def execAuditRequeue (k : Carousel) (carrier : Nat) (s : State) : Host.Outcome State Fault Refusal :=
  seqStep s fun s => let r := auditRequeued k carrier s; r.1.ans (if r.2 then .moved else .removed)

/-- AUDIT_TASK_RECLASS (R153). -/
def execAuditTaskReclass (k : Carousel) (carrier : Nat) (cls : Class) (blind : Bool) (s : State) :
    Host.Outcome State Fault Refusal :=
  seqStep s (auditReclassed k carrier cls blind)

/-- TASK_REMOVE_REQUEST (R157). -/
def execTaskRemoveRequest (k : Carousel) (carrier : Nat) (s : State) : Host.Outcome State Fault Refusal :=
  seqStep s (auditRemoved k carrier)

/-- PICK_NEW_COUNT (R73). -/
def execPickNewCount (k : Carousel) (r : ResId) (new : NewCount) (s : State) : Host.Outcome State Fault Refusal :=
  seqStep s (takeNewCount k r new.count new.why)

/-- PICK_DROP (R73). -/
def execPickDrop (k : Carousel) (r : ResId) (s : State) : Host.Outcome State Fault Refusal := seqStep s (takeDrop k r)

/-- PICK_STRUCK (R73). -/
def execPickStruck (k : Carousel) (strike : Strike) (s : State) : Host.Outcome State Fault Refusal :=
  seqStep s (takeStrike k strike.res strike.why)

/-- TASK_CLASS_REPORT (R71). -/
def execTaskClassReport (k : Carousel) (handle : Nat) (cls : Class) (s : State) : Host.Outcome State Fault Refusal :=
  seqStep s (takeClass k handle cls)

/-- PICK_TAKEN_REPORT (R73). -/
def execPickTakenReport (k : Carousel) (r : ResId) (s : State) : Host.Outcome State Fault Refusal := seqStep s (pickTaken k r)

/-- PUT_TAKEN_REPORT (R108). -/
def execPutTakenReport (k : Carousel) (carrier : Nat) (s : State) : Host.Outcome State Fault Refusal :=
  seqStep s (putTaken k carrier)

/-- GRANT (R84). -/
def execGrant (k : Carousel) (s : State) : Host.Outcome State Fault Refusal := seqStep s (takeGrant k)

/-- GRANT_WITHDRAWAL (R85). -/
def execGrantWithdrawal (k : Carousel) (s : State) : Host.Outcome State Fault Refusal := seqStep s (withdrawGrant k)

/-- EARLY_CONFIRM (R85). -/
def execEarlyConfirm (k : Carousel) (s : State) : Host.Outcome State Fault Refusal :=
  seqStep s fun s => let r := confirmTask k s; r.1.ans (.remaining r.2)

/-- AUDIT_APPLIED_REPORT (R85). -/
def execAuditAppliedReport (k : Carousel) (carrier : Nat) (s : State) : Host.Outcome State Fault Refusal :=
  seqStep s (auditApplied k carrier)

/-- STATION_BAY_REPORT (R95). -/
def execStationBayReport (k : Carousel) (place : Option (Station × Bay)) (s : State) : Host.Outcome State Fault Refusal :=
  seqStep s (takePlace k place)

/-- STATION_STATE_REPORT (R75). -/
def execStationStateReport (k : Carousel) (opened : Bool) (s : State) : Host.Outcome State Fault Refusal :=
  seqStep s (takeStationState k opened)

end Sys2Proof.Machine
end

