-- ==== Sys2Proof/Machine/Dispatch.lean ====
section
/-! DEFINITION. The dispatch of commands: one arm per row of spec/opcode_table.json, in the table's order. -/

namespace Sys2Proof.Machine

def exec (i : Instr) (s : State) : Host.Outcome State Fault Refusal :=
  match i with
  | .resetAssert => Sys2Proof.Machine.execResetAssert s
  | .powerOnReset straps => Sys2Proof.Machine.execPowerOnReset straps s
  | .clockLoss => Sys2Proof.Machine.execClockLoss s
  | .silenceTimerExpiry => Sys2Proof.Machine.execSilenceTimerExpiry s
  | .ringStateReport b r => Sys2Proof.Machine.execRingStateReport b r s
  | .damagedFrameReceived f => Sys2Proof.Machine.execDamagedFrameReceived f s
  | .forwardedFrame f => Sys2Proof.Machine.execForwardedFrame f s
  | .restoreRoundExpiry => Sys2Proof.Machine.execRestoreRoundExpiry s
  | .nodeNotAnswered role unit => Sys2Proof.Machine.execNodeNotAnswered role unit s
  | .frameReturn h kind intact => Sys2Proof.Machine.execFrameReturn h kind intact s
  | .roundDeadlineExpiry n => Sys2Proof.Machine.execRoundDeadlineExpiry n s
  | .frameOffer b t p => Sys2Proof.Machine.execFrameOffer b t p s
  | .frameWithdraw b kind => Sys2Proof.Machine.execFrameWithdraw b kind s
  | .payloadReplace b p => Sys2Proof.Machine.execPayloadReplace b p s
  | .frameSend => Sys2Proof.Machine.execFrameSend s
  | .spaceReport b => Sys2Proof.Machine.execSpaceReport b s
  | .foreignCommand h jog => Sys2Proof.Machine.execForeignCommand h jog s
  | .manualClaim h => Sys2Proof.Machine.execManualClaim h s
  | .access h => Sys2Proof.Machine.execAccess h s
  | .maintDriveFrame h kind => Sys2Proof.Machine.execMaintDriveFrame h kind s
  | .manualRelease h => Sys2Proof.Machine.execManualRelease h s
  | .manualIdleExpiry k => Sys2Proof.Machine.execManualIdleExpiry k s
  | .driveStatus h m index target => Sys2Proof.Machine.execDriveStatus h m index target s
  | .queryRoundExpiry k => Sys2Proof.Machine.execQueryRoundExpiry k s
  | .moveReturn k fate => Sys2Proof.Machine.execMoveReturn k fate s
  | .moveTimeout k => Sys2Proof.Machine.execMoveTimeout k s
  | .curtainBroken k unseen => Sys2Proof.Machine.execCurtainBroken k unseen s
  | .curtainClear k => Sys2Proof.Machine.execCurtainClear k s
  | .curtainSettleExpiry k => Sys2Proof.Machine.execCurtainSettleExpiry k s
  | .driveMissingReport k => Sys2Proof.Machine.execDriveMissingReport k s
  | .speedClassReport k speed => Sys2Proof.Machine.execSpeedClassReport k speed s
  | .newReservation k r carrier count order => Sys2Proof.Machine.execNewReservation k r carrier count order s
  | .putOffer k carrier lot count cls st => Sys2Proof.Machine.execPutOffer k carrier lot count cls st s
  | .auditOffer k carrier blind cls => Sys2Proof.Machine.execAuditOffer k carrier blind cls s
  | .auditRequeue k carrier => Sys2Proof.Machine.execAuditRequeue k carrier s
  | .auditTaskReclass k carrier cls blind => Sys2Proof.Machine.execAuditTaskReclass k carrier cls blind s
  | .taskRemoveRequest k carrier => Sys2Proof.Machine.execTaskRemoveRequest k carrier s
  | .pickNewCount k r new => Sys2Proof.Machine.execPickNewCount k r new s
  | .pickDrop k r => Sys2Proof.Machine.execPickDrop k r s
  | .pickStruck k strike => Sys2Proof.Machine.execPickStruck k strike s
  | .taskClassReport k handle cls => Sys2Proof.Machine.execTaskClassReport k handle cls s
  | .pickTakenReport k r => Sys2Proof.Machine.execPickTakenReport k r s
  | .putTakenReport k carrier => Sys2Proof.Machine.execPutTakenReport k carrier s
  | .grant k => Sys2Proof.Machine.execGrant k s
  | .grantWithdrawal k => Sys2Proof.Machine.execGrantWithdrawal k s
  | .earlyConfirm k => Sys2Proof.Machine.execEarlyConfirm k s
  | .auditAppliedReport k carrier => Sys2Proof.Machine.execAuditAppliedReport k carrier s
  | .stationBayReport k place => Sys2Proof.Machine.execStationBayReport k place s
  | .stationStateReport k opened => Sys2Proof.Machine.execStationStateReport k opened s
  | .placeReport st k => Sys2Proof.Machine.execPlaceReport st k s
  | .auditPlaceReport k => Sys2Proof.Machine.execAuditPlaceReport k s
  | .reserve k carrier lot count => Sys2Proof.Machine.execReserve k carrier lot count s
  | .release k carrier lot count => Sys2Proof.Machine.execRelease k carrier lot count s
  | .commitPick k carrier lot => Sys2Proof.Machine.execCommitPick k carrier lot s
  | .commitPut k carrier lot => Sys2Proof.Machine.execCommitPut k carrier lot s
  | .planIncoming k carrier lot count => Sys2Proof.Machine.execPlanIncoming k carrier lot count s
  | .returnIncoming k carrier lot count => Sys2Proof.Machine.execReturnIncoming k carrier lot count s
  | .roomQuery k carrier lot count => Sys2Proof.Machine.execRoomQuery k carrier lot count s
  | .auditMark k carrier => Sys2Proof.Machine.execAuditMark k carrier s
  | .auditClear k carrier => Sys2Proof.Machine.execAuditClear k carrier s
  | .auditLock k carrier => Sys2Proof.Machine.execAuditLock k carrier s
  | .auditUnlock k carrier => Sys2Proof.Machine.execAuditUnlock k carrier s
  | .auditApply k carrier tally unknown unplaced => Sys2Proof.Machine.execAuditApply k carrier tally unknown unplaced s
  | .exclude k carriers => Sys2Proof.Machine.execExclude k carriers s
  | .admitCarriers k carriers => Sys2Proof.Machine.execAdmitCarriers k carriers s
  | .massReport k masses => Sys2Proof.Machine.execMassReport k masses s
  | .candidateTest k carrier added => Sys2Proof.Machine.execCandidateTest k carrier added s
  | .balanceQuery k carrier mass count => Sys2Proof.Machine.execBalanceQuery k carrier mass count s
  | .travelPlan k index target => Sys2Proof.Machine.execTravelPlan k index target s
  | .stockRiseReport article => Sys2Proof.Machine.execStockRiseReport article s
  | .eligibilityReport k carrier => Sys2Proof.Machine.execEligibilityReport k carrier s
  | .compartmentReceipt handle seq l comp => Sys2Proof.Machine.execCompartmentReceipt handle seq l comp s
  | .compartmentWithdrawal handle reason => Sys2Proof.Machine.execCompartmentWithdrawal handle reason s
  | .deliveryReport handle line lot => Sys2Proof.Machine.execDeliveryReport handle line lot s
  | .transitRemoval handle line week reason => Sys2Proof.Machine.execTransitRemoval handle line week reason s
  | .dispatchReport handle l comp cart => Sys2Proof.Machine.execDispatchReport handle l comp cart s
  | .reservationJoined r => Sys2Proof.Machine.execReservationJoined r s
  | .reservationPresented r => Sys2Proof.Machine.execReservationPresented r s
  | .reservationWithdrawn r => Sys2Proof.Machine.execReservationWithdrawn r s
  | .commitReport r k carrier lot week => Sys2Proof.Machine.execCommitReport r k carrier lot week s
  | .reservationExpiry place => Sys2Proof.Machine.execReservationExpiry place s
  | .holdHandover lot => Sys2Proof.Machine.execHoldHandover lot s
  | .carrierRelease k carriers => Sys2Proof.Machine.execCarrierRelease k carriers s
  | .auditTrim k carrier lot target => Sys2Proof.Machine.execAuditTrim k carrier lot target s
  | .shortReport r count => Sys2Proof.Machine.execShortReport r count s
  | .substitutionRequest r lot => Sys2Proof.Machine.execSubstitutionRequest r lot s
  | .substituteRelease r => Sys2Proof.Machine.execSubstituteRelease r s
  | .readyReport st k => Sys2Proof.Machine.execReadyReport st k s
  | .notReadyReport st k => Sys2Proof.Machine.execNotReadyReport st k s
  | .grantAnswer st k view => Sys2Proof.Machine.execGrantAnswer st k view s
  | .taskEndReport st k carrier kind outcome => Sys2Proof.Machine.execTaskEndReport st k carrier kind outcome s
  | .grantWithdrawalReport st k => Sys2Proof.Machine.execGrantWithdrawalReport st k s
  | .attentionTimeout st => Sys2Proof.Machine.execAttentionTimeout st s
  | .taskViewReport st k change => Sys2Proof.Machine.execTaskViewReport st k change s
  | .transitPlaceReport st => Sys2Proof.Machine.execTransitPlaceReport st s
  | .plannerRoomReport st => Sys2Proof.Machine.execPlannerRoomReport st s
  | .putTaskLeft st k carrier lot => Sys2Proof.Machine.execPutTaskLeft st k carrier lot s
  | .panelShowReturn st fate => Sys2Proof.Machine.execPanelShowReturn st fate s
  | .panelRecovery h input => Sys2Proof.Machine.execPanelRecovery h input s
  | .bayCurtainChange st b broken => Sys2Proof.Machine.execBayCurtainChange st b broken s
  | .signOn st => Sys2Proof.Machine.execSignOn st s
  | .signOff st => Sys2Proof.Machine.execSignOff st s
  | .clearAccept st => Sys2Proof.Machine.execClearAccept st s
  | .clearReject st => Sys2Proof.Machine.execClearReject st s
  | .recount st => Sys2Proof.Machine.execRecount st s
  | .short st => Sys2Proof.Machine.execShort st s
  | .confirm st => Sys2Proof.Machine.execConfirm st s
  | .batchEnd st => Sys2Proof.Machine.execBatchEnd st s
  | .stationLabel h label => Sys2Proof.Machine.execStationLabel h label s
  | .transitPlaceRequest st => Sys2Proof.Machine.execTransitPlaceRequest st s
  | .placeGiveUp st place => Sys2Proof.Machine.execPlaceGiveUp st place s
  | .handOver st place order line lot week => Sys2Proof.Machine.execHandOver st place order line lot week s
  | .divertReturn label l second fate => Sys2Proof.Machine.execDivertReturn label l second fate s
  | .transitTimeout place => Sys2Proof.Machine.execTransitTimeout place s
  | .laneArrival h label => Sys2Proof.Machine.execLaneArrival h label s
  | .tagRead h cart count => Sys2Proof.Machine.execTagRead h cart count s
  | .cartContacts h input => Sys2Proof.Machine.execCartContacts h input s
  | .releaseButton l => Sys2Proof.Machine.execReleaseButton l s
  | .laneControllerRecovery h input => Sys2Proof.Machine.execLaneControllerRecovery h input s
  | .laneSettleExpiry l => Sys2Proof.Machine.execLaneSettleExpiry l s
  | .tagTimerExpiry l => Sys2Proof.Machine.execTagTimerExpiry l s
  | .latchReturn l lock second fate => Sys2Proof.Machine.execLatchReturn l lock second fate s
  | .waitingReport order seq cls lanes => Sys2Proof.Machine.execWaitingReport order seq cls lanes s
  | .orderClassReport handle cls => Sys2Proof.Machine.execOrderClassReport handle cls s
  | .goneReport handle => Sys2Proof.Machine.execGoneReport handle s
  | .cancelReport handle picking => Sys2Proof.Machine.execCancelReport handle picking s
  | .completionReport handle => Sys2Proof.Machine.execCompletionReport handle s
  | .receiptAnswer l comp handle seq accepted => Sys2Proof.Machine.execReceiptAnswer l comp handle seq accepted s
  | .auditRequestRaised k carrier blind cls source => Sys2Proof.Machine.execAuditRequestRaised k carrier blind cls source s
  | .auditGranted k carrier => Sys2Proof.Machine.execAuditGranted k carrier s
  | .tally k lot => Sys2Proof.Machine.execTally k lot s
  | .auditConfirm k => Sys2Proof.Machine.execAuditConfirm k s
  | .auditIdleExpiry k => Sys2Proof.Machine.execAuditIdleExpiry k s
  | .auditAbandonReport k => Sys2Proof.Machine.execAuditAbandonReport k s
  | .auditHandBack k carrier => Sys2Proof.Machine.execAuditHandBack k carrier s
  | .admitNotice k carriers => Sys2Proof.Machine.execAdmitNotice k carriers s
  | .noticeHanded b => Sys2Proof.Machine.execNoticeHanded b s
  | .noticeSend => Sys2Proof.Machine.execNoticeSend s
  | .noticeFate n second fate => Sys2Proof.Machine.execNoticeFate n second fate s
  | .replyOffer => Sys2Proof.Machine.execReplyOffer s
  | .malformedRequest q kind => Sys2Proof.Machine.execMalformedRequest q kind s
  | .cellStatus q => Sys2Proof.Machine.execCellStatus q s
  | .cellRun q => Sys2Proof.Machine.execCellRun q s
  | .cellHalt q => Sys2Proof.Machine.execCellHalt q s
  | .cellRestart q => Sys2Proof.Machine.execCellRestart q s
  | .nodeMapWrite q addr role unit mirror => Sys2Proof.Machine.execNodeMapWrite q addr role unit mirror s
  | .groupWrite q g members => Sys2Proof.Machine.execGroupWrite q g members s
  | .carouselConfigWrite q c => Sys2Proof.Machine.execCarouselConfigWrite q c s
  | .stationConfigWrite q c => Sys2Proof.Machine.execStationConfigWrite q c s
  | .laneConfigWrite q l configured limit => Sys2Proof.Machine.execLaneConfigWrite q l configured limit s
  | .timerWrite q selector value => Sys2Proof.Machine.execTimerWrite q selector value s
  | .lotWrite q lot article week width rim mass => Sys2Proof.Machine.execLotWrite q lot article week width rim mass s
  | .lotDelete q lot => Sys2Proof.Machine.execLotDelete q lot s
  | .lotHold q lot => Sys2Proof.Machine.execLotHold q lot s
  | .lotRelease q lot => Sys2Proof.Machine.execLotRelease q lot s
  | .carrierWrite q k carrier doubleStack disable list => Sys2Proof.Machine.execCarrierWrite q k carrier doubleStack disable list s
  | .recordRead q kind index => Sys2Proof.Machine.execRecordRead q kind index s
  | .orderAdd q ref cls lanes lines => Sys2Proof.Machine.execOrderAdd q ref cls lanes lines s
  | .orderCancel q handle => Sys2Proof.Machine.execOrderCancel q handle s
  | .orderClass q handle cls => Sys2Proof.Machine.execOrderClass q handle cls s
  | .orderResume q handle => Sys2Proof.Machine.execOrderResume q handle s
  | .carouselEnable q k => Sys2Proof.Machine.execCarouselEnable q k s
  | .carouselDisable q k => Sys2Proof.Machine.execCarouselDisable q k s
  | .windowSet q k bounds => Sys2Proof.Machine.execWindowSet q k bounds s
  | .auditRequest q k carrier blind cls => Sys2Proof.Machine.execAuditRequest q k carrier blind cls s
  | .auditCancel q k carrier => Sys2Proof.Machine.execAuditCancel q k carrier s
  | .scanClear q st action => Sys2Proof.Machine.execScanClear q st action s
  | .lanePermit q l => Sys2Proof.Machine.execLanePermit q l s
  | .laneAssign q l cart count => Sys2Proof.Machine.execLaneAssign q l cart count s
  | .laneClose q l => Sys2Proof.Machine.execLaneClose q l s
  | .laneOpen q l => Sys2Proof.Machine.execLaneOpen q l s
  | .clockReturn => Sys2Proof.Machine.execClockReturn s
  | .statusQueryReturn q fate => Sys2Proof.Machine.execStatusQueryReturn q fate s
  | .haltReturn k fate => Sys2Proof.Machine.execHaltReturn k fate s

end Sys2Proof.Machine
end

