-- ==== Sys2Proof/Machine/Step.lean ====
section
/-! DEFINITION. One step of the part: the waiting command at the front, or, when none waits, the oldest report between
blocks, what the part does of its own accord, or a millisecond of time. -/

namespace Sys2Proof.Machine

/-- The event, with its time, if its time has come. -/
def State.dueAt (s : State) (deadline : Option Nat) (c : Instr) : Option Instr :=
  match deadline with
  | some d => if d ≤ s.now then some c else none
  | none => none

/-- The timers of the outstanding-frame list and of the restore (R167, R174). -/
def State.dueRing (s : State) : Option Instr :=
  match position (fun (o : Outstanding) => decide (o.deadline ≤ s.now)) s.fe.outstanding with
  | some i => some (.roundDeadlineExpiry i)
  | none => if s.fe.ring = .restoring then s.dueAt s.fe.restoreDeadline .restoreRoundExpiry else none

/-- The timers of a carousel (R68, R80, R81, R90, R161). -/
def State.dueCar (s : State) (k : Carousel) : Option Instr :=
  let q := s.seq k
  (s.dueAt (if q.curtain = .settling then q.settle else none) (.curtainSettleExpiry k)).or
    ((s.dueAt (if q.state = .moving ∨ q.state = .stopping then q.move.map (·.deadline) else none) (.moveTimeout k)).or
      ((s.dueAt ((firstDue q.queries).map (·.1)) (.queryRoundExpiry k)).or
        ((s.dueAt (q.claim.bind (·.deadline)) (.manualIdleExpiry k)).or
          (match s.session k with
           | some x => (match x.timer with
             | .running d => s.dueAt (some d) (.auditIdleExpiry k)
             | .paused _ | .stopped => none)
           | none => none))))

/-- The attention timer of a station (R102). -/
def State.dueStn (s : State) (st : Station) : Option Instr :=
  match (s.stn st).timer, (s.stn st).holder with
  | .running d, some _ => s.dueAt (some d) (.attentionTimeout st)
  | _, _ => none

/-- A reservation's expiry: not while the cell is HALTED, and not while it is PRESENTED or struck (R54). -/
def State.dueRes (s : State) : Table Reservation → Option Instr
  | [] => none
  | (p, r) :: rest =>
    (s.dueAt (if s.mgmt.cell = .halted ∨ r.state = .presented ∨ r.struck = true then none else r.expiry)
      (.reservationExpiry p)).or (s.dueRes rest)

/-- A transit entry's deadline (R137). -/
def State.dueTransit (s : State) : Table Place → Option Instr
  | [] => none
  | (n, .entry _ _ _ _ _ _ _ _ d _ _) :: rest => (s.dueAt (some d) (.transitTimeout n)).or (s.dueTransit rest)
  | (_, .held _) :: rest => s.dueTransit rest

/-- The timer of a lane (R142). -/
def State.dueLane (s : State) (l : Lane) : Option Instr :=
  match (s.lane l).state with
  | .seating => s.dueAt (s.lane l).timer (.laneSettleExpiry l)
  | .identifying => s.dueAt (s.lane l).timer (.tagTimerExpiry l)
  | .empty | .coupled | .releaseWait | .flushing | .releasing | .closed => none

/-- The first timer whose time has come. The silence timer is not among them: only the outside knows whether idle patterns
arrive (R166). -/
def State.dueTimer (s : State) : Option Instr :=
  s.dueRing.or ((carousels.findSome? s.dueCar).or ((stationList.findSome? s.dueStn).or
    ((s.dueRes s.book.pool).or ((s.dueTransit s.transit.places).or (laneList.findSome? s.dueLane)))))

/-- What the part does of its own accord: a frame is sent, a ready reply and then the head notice are offered, and a timer
whose time has come expires (R173, R179, R188). -/
def State.autonomous (s : State) : Option Instr :=
  if s.maySend = true ∧ s.fe.queue ≠ [] then some .frameSend
  else if s.mgmt.replies ≠ [] ∧ Block.management ∉ s.fe.waiting then some .replyOffer
  else if (s.mgmt.resend ≠ [] ∨ s.mgmt.notices ≠ []) ∧ s.mgmt.replies = [] ∧ s.gateway.isSome = true ∧
      Block.management ∉ s.fe.waiting then some .noticeSend
  else s.dueTimer

/-- One millisecond passes. -/
def State.tick (s : State) : State := { s with now := s.now + 1, out := [], answer := .none }

/-- The part on its own, when no command waits: in reset or without its clock it idles; otherwise it takes the oldest report
between blocks, or acts of its own accord, or lets a millisecond pass. -/
def ownStep (s : State) : Host.Outcome State Fault Refusal :=
  if s.resetLow = true ∨ s.clock = false then .next s
  else
    match s.mail with
    | c :: rest => exec c { s with mail := rest }
    | [] =>
      match s.autonomous with
      | some c => exec c s
      | none => .next s.tick

/-- One step: the command at the front of the queue is carried out; with none waiting the part acts on its own. -/
def step (s : State) : Host.Outcome State Fault Refusal :=
  match s.pending with
  | c :: rest => exec c { s with pending := rest }
  | [] => ownStep s

/-- The state with the command that a word spells put at the front of its queue; no row of the table gives bits, so that no
word spells a command. -/
def State.withFetchWord (s : State) (nbits w : Nat) : State :=
  match decodeTableWord nbits w with
  | some c => { s with pending := c :: s.pending }
  | none => s

end Sys2Proof.Machine
end

