-- ==== Sys2Proof/Safety.lean ====
section
/-! DEFINITION. What counts as a sound state of the part, in the terms the statements use: the laws L1 to L12 that the spec's
rules name, each as a predicate of State, the canonical form of every table, and the words in which the statements say what
a command finds and leaves. -/

namespace Sys2Proof

/-! ## Words for operands -/

/-- The commands of the pins, which the part takes even while RESETN is low (R191). -/
def Instr.pin : Instr → Bool
  | .resetAssert | .powerOnReset _ | .clockLoss | .clockReturn => true
  | _ => false

/-- A carousel whose fault touches no station's grant (R82): not UNCONFIGURED, MANUAL, DISABLED or FAULT, and not
PRESENTING. -/
def CarState.away : CarState → Bool
  | .unknown | .idle | .moving | .stopping | .ready => true
  | .unconfigured | .presenting | .manual | .fault | .disabled => false

end Sys2Proof

namespace Sys2Proof.Machine

/-! ## Canonical tables -/

/-- Every table by number is in its canonical form. -/
def State.tablesWf (s : State) : Bool :=
  twf s.lots && twf s.book.orders && twf s.book.pool && twf s.transit.places && twf s.fe.nodes

/-! ## Sound settings -/

/-- A balance record as R26 to R33 leave it: an even P of 8 to 64 with one clamped mass for each carrier, limits and times in
their ranges, and the figures that a recomputation of its mass vector gives. -/
def Balance.sound (b : Balance) : Bool :=
  decide (b = b.recompute ∧ b.masses.length = b.p ∧ (∀ m ∈ b.masses, m ≤ Config.massClamp) ∧ b.p % 2 = 0 ∧ 8 ≤ b.p ∧
    b.p ≤ 64 ∧ b.soft ≤ b.hard ∧ b.hard ≤ 131071 ∧ b.start ≤ 100 ∧ 1 ≤ b.normalPitch ∧ b.normalPitch ≤ 100 ∧
    1 ≤ b.slowPitch ∧ b.slowPitch ≤ 100)

/-- Every balance record is sound. -/
def State.balanceSound (s : State) : Prop := ∀ (k : Carousel) (b : Balance), s.bal k = some b → b.sound = true

/-- The timer settings lie in the ranges of Table MG-3 (R181). -/
def Timers.sound (t : Timers) : Bool :=
  [t.hold0, t.hold1, t.hold2, t.hold3].all (fun n => decide (100 ≤ n ∧ n ≤ 36000)) &&
    decide ((t.attention = 0 ∨ (50 ≤ t.attention ∧ t.attention ≤ 2550)) ∧ 100 ≤ t.transit ∧ t.transit ≤ 6000 ∧
      300 ≤ t.auditIdle ∧ t.auditIdle ≤ 9000 ∧ t.manualIdle ∈ [0, 300, 1200, 6000] ∧ 5 ≤ t.settle ∧ t.settle ≤ 100 ∧
      10 ≤ t.tag ∧ t.tag ≤ 300 ∧ 5 ≤ t.latch ∧ t.latch ≤ 100 ∧ 1 ≤ t.round ∧ t.round ≤ 50)

/-- The settings that requests write are in range: every node-map entry names an address of the ring other than the part's own
and a unit that its role has (R169), every group has at most 16 members, none of them twice and none the part itself (R175),
every lane limit is 1 to 8 (R141), and the timers are in their ranges (R181). -/
def State.settingsSound (s : State) : Prop :=
  (∀ e ∈ s.fe.nodes, e.1 ≤ 63 ∧ e.1 ≠ s.own ∧ e.2.unit < roleUnits e.2.role) ∧
    (∀ g ∈ s.fe.groups, g.length ≤ 16 ∧ g.Nodup ∧ ∀ a ∈ g, a ≤ 63 ∧ a ≠ s.own) ∧
    (∀ l : Lane, 1 ≤ (s.lane l).limit ∧ (s.lane l).limit ≤ 8) ∧ s.mgmt.timers.sound = true

/-! ## The laws -/

/-- The placements of a carousel, carrier by carrier. -/
def State.allPlacements (s : State) (k : Carousel) : List (List Placement) :=
  match s.stockCar k with
  | some car => car.carriers.map (·.placements)
  | none => []

/-- L1: for every placement, reserved is at most on-hand, and on-hand and incoming together at most 63 (R9). -/
def State.lawL1 (s : State) : Prop :=
  ∀ k : Carousel, ∀ ps ∈ s.allPlacements k, ∀ p ∈ ps, p.reserved ≤ p.onHand ∧ p.onHand + p.incoming ≤ 63

/-- The sum of a count over a lot's placements in the whole cell. -/
def State.sumOf (s : State) (lot : Nat) (f : Placement → Nat) : Nat :=
  (carousels.map fun k => ((s.allPlacements k).map fun ps => ((ps.filter fun p => p.lot = lot).map f).sum).sum).sum

/-- L2: a lot's totals are the sums over its placements, and its reserved total is the sum of the counts of the reservations
that name it (R1). -/
def State.lawL2 (s : State) : Prop :=
  ∀ n l, s.lot n = some l →
    l.onHand = s.sumOf n (·.onHand) ∧ l.reserved = s.sumOf n (·.reserved) ∧ l.incoming = s.sumOf n (·.incoming) ∧
      l.reserved = ((s.book.pool.filter fun e => e.2.lot = n && !e.2.struck).map fun e => e.2.count).sum

/-- L3: for every line, reserved, in transit and delivered together are at most the quantity (R40). -/
def State.lawL3 (s : State) : Prop :=
  ∀ e ∈ s.book.orders, ∀ l ∈ e.2.lines, l.reserved + l.inTransit + l.delivered ≤ l.quantity

/-- L4: an AUDIT-LOCKED carrier has no incoming tyres and is named by no PRESENTED reservation (R158). -/
def State.lawL4 (s : State) : Prop :=
  ∀ (k : Carousel) (c : Nat) (x : Carrier), s.carrier k c = some x → x.state = .auditLocked →
    (∀ p ∈ x.placements, p.incoming = 0) ∧
      ∀ e ∈ s.book.pool, e.2.car = k → e.2.carrier = c → e.2.struck = false → e.2.state ≠ .presented

/-- L5: a station's HELD grant belongs to one of its own carousels, which is PRESENTING (R100). -/
def State.lawL5 (s : State) : Prop :=
  ∀ (st : Station) (k : Carousel) (v : TaskView), (s.stn st).grant = .held k v →
    (s.stn st).has k = true ∧ (s.seq k).state = .presenting

/-- L6, in its state part: a carousel in MANUAL, DISABLED or FAULT has no move in flight and no built MOVE frame (R76). -/
def State.lawL6 (s : State) : Prop :=
  ∀ k : Carousel, (s.seq k).state = .manual ∨ (s.seq k).state = .disabled ∨ (s.seq k).state = .fault →
    (s.seq k).move = none ∧ (s.seq k).built = none

/-- L7: a carousel's speed class is SLOW when its worst imbalance exceeds the soft limit, and NORMAL otherwise (R30, R76). -/
def State.lawL7 (s : State) : Prop :=
  ∀ (k : Carousel) (b : Balance), s.bal k = some b → (b.speed = .slow ↔ b.soft < b.worst)

/-- L8: W ≤ T ≤ 131008 for every carousel (R29). -/
def State.lawL8 (s : State) : Prop :=
  ∀ (k : Carousel) (b : Balance), s.bal k = some b → b.worst ≤ b.total ∧ b.total ≤ 131008

/-- L9: every in-transit entry names a lane in COUPLED, RELEASE-WAIT or FLUSHING (R149). -/
def State.lawL9 (s : State) : Prop :=
  ∀ l : Lane, s.laneNamed l = true →
    (s.lane l).state = .coupled ∨ (s.lane l).state = .releaseWait ∨ (s.lane l).state = .flushing

/-- L10: an order, which its handle and its arrival sequence name, stands in at most one compartment of the cell (R149). -/
def State.lawL10 (s : State) : Prop :=
  ∀ (l m : Lane) (i j : Nat) (x y : Comp) (o o' : CompOrder), (s.lane l).comps[i]? = some x → (s.lane m).comps[j]? = some y →
    x.order = some o → y.order = some o' → o.handle = o'.handle → o.seq = o'.seq → l = m ∧ i = j

/-- L11: no queue holds two tasks of the same kind for the same carrier, and a carrier is named by at most one audit request
(R71, R164). -/
def State.lawL11 (s : State) : Prop :=
  (∀ k : Carousel, ((s.seq k).queue.map fun t => (t.kind, t.carrier)).Nodup) ∧
    (s.requests.map fun r => (r.car, r.carrier)).Nodup

/-- L12: no list is longer than the place the spec gives it: 512 reservations, 16 tasks, 8 scan entries, 64 transit places
(R50, R71, R103, R132). -/
def State.lawL12 (s : State) : Prop :=
  s.book.pool.length ≤ Config.poolPlaces ∧ (∀ k : Carousel, (s.seq k).queue.length ≤ Config.queueTasks) ∧
    (∀ st : Station, (s.stn st).queue.length ≤ Config.scanEntries) ∧ s.transit.places.length ≤ Config.transitPlaces

/-- The carrier records as R9, R13, R22 and R23 leave them: no lot stands twice on a carrier, its counts obey law L1, and a carrier
that is AUDIT-LOCKED has no incoming tyres (the stock's part of law L4). -/
def State.shelvesSound (s : State) : Prop :=
  ∀ (k : Carousel) (car : StockCar), s.stockCar k = some car → ∀ x ∈ car.carriers,
    (x.placements.map (·.lot)).Nodup ∧
    (∀ p ∈ x.placements, p.reserved ≤ p.onHand ∧ p.onHand + p.incoming ≤ 63) ∧
    (x.state = .auditLocked → ∀ p ∈ x.placements, p.incoming = 0)

/-- The tasks of every queue have numbers of their own, each below the next arrival (R71). -/
def State.tasksNumbered (s : State) : Prop :=
  ∀ k : Carousel, ((s.seq k).queue.map (·.num)).Nodup ∧ ∀ x ∈ (s.seq k).queue, x.num < (s.seq k).arrivals

/-- Carrier `c` of carousel `k` is a candidate for the put-away planner of station `i` (R124). -/
def State.putCandidate (s : State) (i : Station) (k : Carousel) (c : Nat) : Prop :=
  (∃ b : Bay, (s.stn i).bays[b] = some k) ∧
    ((s.seq k).state ≠ .unconfigured ∧ (s.seq k).state ≠ .manual ∧ (s.seq k).state ≠ .fault ∧ (s.seq k).state ≠ .disabled) ∧
    (∃ x, s.carrier k c = some x ∧ x.state = .normal ∧ x.excluded = false) ∧
    (∀ p ∈ (s.stn i).placed, ¬ (p.car = k ∧ p.carrier = c)) ∧ ∀ p ∈ (s.stn i).waitList, ¬ (p.car = k ∧ p.carrier = c)

/-- The figures of a candidate for `count` tyres of a lot (R125): the count `n` that fits, which the room query and the balance query
give, the imbalance `w` for it and the distance `d`; there are none when nothing fits. -/
def State.putFigures (s : State) (k : Carousel) (c lot count n w d : Nat) : Prop :=
  ∃ m f, s.balanceQuery k c (s.lotOr lot).mass count = some (m, f) ∧ n = min (s.roomQuery k c lot count) m ∧ 1 ≤ n ∧
    (n = m → w = f.worst) ∧
    (n ≠ m → (s.candidateTest k c (n * (s.lotOr lot).mass)).map (·.worst) = some w) ∧
    ((s.seq k).index = none → d = 64) ∧
    (∀ j, (s.seq k).index = some j →
      d = match s.travelPlan k j c with | .plan p => p.dist | .there => 0 | .invalid => 64)

/-- The keys by which candidates are ranked, first to last (R126): holding the lot, imbalance, distance, carousel, carrier. -/
def State.putRank (s : State) (k : Carousel) (c lot w d : Nat) : List Nat :=
  [if (s.carrier k c).any (fun x => (placementOf lot x.placements).isSome) = true then 0 else 1, w, d, k.val, c]

/-- Carrier `c` of carousel `k`, which takes `n` of `count` tyres of a lot, is the first candidate after ranking (R124 to R126). -/
def State.putChoice (s : State) (i : Station) (lot count : Nat) (k : Carousel) (c n : Nat) : Prop :=
  s.putCandidate i k c ∧ ∃ w d, s.putFigures k c lot count n w d ∧
    ∀ (k' : Carousel) (c' n' w' d' : Nat), s.putCandidate i k' c' → s.putFigures k' c' lot count n' w' d' →
      s.putRank k c lot w d ≤ s.putRank k' c' lot w' d'

/-- The bounds of lists that stand without their tables: a carrier is named by at most one audit request (L11), and no task
queue and no scan queue is longer than its place (L12). -/
def State.queuesBounded (s : State) : Prop :=
  (s.requests.map fun r => (r.car, r.carrier)).Nodup ∧ (∀ k : Carousel, (s.seq k).queue.length ≤ Config.queueTasks) ∧
    ∀ st : Station, (s.stn st).queue.length ≤ Config.scanEntries

/-- The bounds of the pool and of the in-transit list, whose tables are canonical: at most 512 reservations, and places 0..63
alone (L12). -/
def State.placesBounded (s : State) : Prop :=
  s.tablesWf = true ∧ s.book.pool.length ≤ Config.poolPlaces ∧ ∀ e ∈ s.transit.places, e.1 < Config.transitPlaces

/-! ## What a command finds -/

/-- The state with which a command begins: what the last one sent and answered is gone. -/
def State.begun (s : State) : State := { s with out := [], answer := .none }

/-- A good frame that arrives is acted on: the part is out of reset with its clock, the ring is not DOWN, so that the frame
begins no restore, and its DAMAGED flag is clear (R166, R168). -/
def State.takes (s : State) (h : Hdr) : Prop :=
  s.resetLow = false ∧ s.clock = true ∧ s.fe.ring ≠ .down ∧ h.flags.getLsbD 0 = false

/-- The state as a good frame is acted on: the silence timer runs again (R166). -/
def State.heard (s : State) : State := s.begun.modFe fun e => { e with silence := some (s.now + Config.silence) }

/-- A frame passes on. -/
def State.passing (s : State) (h : Hdr) (kind : Nat) : State := { s with out := s.out ++ [.passed h kind] }

/-- A management request is carried out: its frame is acted on and comes from a node that may ask, and a reply place is free
(R172, R179). -/
def State.asks (s : State) (q : Req) : Prop :=
  s.takes q.hdr ∧ s.disposal q.hdr 0 = .request ∧ s.mgmt.replies.length < Config.replies

/-- The state in which a request is carried out: its frame has been forwarded with answer bit 0 set (R172). -/
def State.asked (s : State) (q : Req) (kind : Nat) : State := s.heard.passing (takenHdr q.hdr) kind

/-- A reply with a result, and with returned content when the result is DONE, has joined the reply list (R179). -/
def State.replied (s : State) (q : Req) (kind : Nat) (r : Result) (content : List Byte) : State :=
  s.modMgmt fun m =>
    { m with replies := m.replies ++ [{ dest := q.hdr.source, kind := kind, tag := q.tag, result := r, content := content }] }

/-- The state with a DONE reply without content. -/
def State.doneTo (s : State) (q : Req) (kind : Nat) : State := s.replied q kind .done []

/-! ## What a command leaves -/

/-- A notice is the last of those waiting, as one handed to a notice queue with room is (R187). -/
def State.noticed (s : State) (b : NoticeBody) (t : State) : Prop :=
  t.mgmt = { s.mgmt with notices := s.mgmt.notices ++ [{ seq := s.mgmt.noticeSeq, body := b }],
                         noticeSeq := (s.mgmt.noticeSeq + 1) % 65536 }

/-- Every carousel but `k` is as it was. -/
def State.othersKept (s : State) (k : Carousel) (t : State) : Prop := ∀ j : Carousel, j ≠ k → t.seq j = s.seq j

/-- Every station but `i` is as it was. -/
def State.stationsKept (s : State) (i : Station) (t : State) : Prop := ∀ j : Station, j ≠ i → t.stn j = s.stn j

/-- Every lane but `l` is as it was. -/
def State.lanesKept (s : State) (l : Lane) (t : State) : Prop := ∀ m : Lane, m ≠ l → t.lane m = s.lane m

/-- Nothing has changed but the ring's records, the carousels, the notices, the reports handed to other blocks, and the
answer and output of the command. -/
def State.onlyCarousels (s t : State) : Prop :=
  t = { s with fe := t.fe, seqs := t.seqs, mgmt := { s.mgmt with notices := t.mgmt.notices, noticeSeq := t.mgmt.noticeSeq,
                                                                  dropped := t.mgmt.dropped },
               mail := t.mail, out := t.out, answer := t.answer }

/-- Every query but the one numbered `n` stands at carousel `k` (R68). -/
def State.withoutQuery (s : State) (k : Carousel) (n : Nat) : State :=
  s.modSeq k fun q => { q with queries := q.queries.filter fun x => x.num ≠ n }

/-- A status has been taken with the queries of carousel `k` (R68). -/
def State.queriesAnswered (s : State) (k : Carousel) : State :=
  s.modSeq k fun q => { q with queries := answeredQueries q.queries }

/-- Carousel `k` has entered FAULT with a cause, nothing else of the carousels has changed, and a CAROUSEL-FAULT notice with the
cause, the current index and the state it left has been handed to a notice queue with room (R82). -/
def State.faulted (s : State) (k : Carousel) (cause : FaultCause) (t : State) : Prop :=
  t.seq k = { s.seq k with state := .fault, fault := some cause, move := none, built := none, current := none,
                           short := 0 } ∧ s.othersKept k t ∧
    (s.mgmt.notices.length < 64 → s.noticed (.carouselFault k cause (s.seq k).index (s.seq k).state) t)

/-- Nothing has changed but the lot totals, the stock records, the reports handed to other blocks and the answer. -/
def State.onlyStock (s t : State) : Prop :=
  t = { s.begun with lots := t.lots, stock := t.stock, mail := t.mail, answer := t.answer }

/-- Carrier `c` of carousel `k` stands as `y`, with the OVERLOAD mark that its actual mass gives (R11); every other carrier
and the carousel's geometry are as they were. -/
def State.restocked (s : State) (k : Carousel) (c : Nat) (y : Carrier) (t : State) : Prop :=
  ∃ car, s.stockCar k = some car ∧
    let z := { y with overload := decide (car.rated < s.actualMass y.placements) }
    t.stock = (s.setStock k (some { car with carriers := car.carriers.set c z })).stock

/-- The excluded marks of the carriers `cs` of carousel `k` are set or cleared, and nothing else of the stock has changed but the
OVERLOAD marks, recomputed from what stands on those carriers (R10). -/
def State.reMarked (s : State) (k : Carousel) (cs : List Nat) (mark : Bool) (t : State) : Prop :=
  (∀ car, s.stockCar k = some car → ∀ d, t.carrier k d = (s.carrier k d).map fun x => if d ∈ cs then
    { x with excluded := mark, overload := decide (car.rated < s.actualMass x.placements) } else x) ∧
    (∀ j : Carousel, j ≠ k → t.stockCar j = s.stockCar j) ∧ t.lots = s.lots

/-- The record of lot `n` is changed by `f`, and every other lot is as it was. -/
def State.retotalled (s : State) (n : Nat) (f : Lot → Lot) (t : State) : Prop :=
  t.lot n = (s.lot n).map f ∧ ∀ m : Nat, m ≠ n → t.lot m = s.lot m

/-- The placements with the counts of one lot changed by `f`, that placement being gone when its three counts are zero
(R9). -/
def countsChanged (lot : Nat) (f : Placement → Placement) (ps : List Placement) : List Placement :=
  (ps.map fun p => if p.lot = lot then f p else p).filter fun p =>
    decide (p.lot ≠ lot ∨ 0 < p.onHand ∨ 0 < p.reserved ∨ 0 < p.incoming)

/-- The order under handle `h` stands as `o`, and nothing else of the Order Book has changed. -/
def State.orderIs (s : State) (h : Nat) (o : Order) (t : State) : Prop :=
  t.order h = some o ∧ (∀ n : Nat, n ≠ h → t.order n = s.order n) ∧ t.book = { s.book with orders := t.book.orders }

/-- The order under handle `h` has left the table, and nothing else of the Order Book has changed. -/
def State.orderGone (s : State) (h : Nat) (t : State) : Prop :=
  t.order h = none ∧ (∀ n : Nat, n ≠ h → t.order n = s.order n) ∧ t.book = { s.book with orders := t.book.orders }

/-- Pool place `p` holds what is given, and every other place is as it was. -/
def State.placeHolds (s : State) (p : Nat) (r : Option Reservation) (t : State) : Prop :=
  t.reservation p = r ∧ ∀ n : Nat, n ≠ p → t.reservation n = s.reservation n

/-- Nothing has changed but what a resolution of lines can change: the stock, the Order Book, the notices and the reports
handed to other blocks, which only grow; with the time, which an expiry may have moved on, and the answer. -/
def State.onlyOrders (s t : State) : Prop :=
  t = { s.begun with now := t.now, lots := t.lots, stock := t.stock, book := t.book, mgmt := t.mgmt, mail := t.mail,
                     answer := t.answer } ∧ s.mail <+: t.mail

/-- A station with nothing in its scan queue: no lock stands, its head waits for nothing, and its attention timer is neither
suspended nor running without a grant (R102). -/
def Stn.atRest (x : Stn) : Prop :=
  x.queue = [] ∧ x.lock = none ∧ x.wait = .none ∧ x.timer ≠ .suspended ∧ (x.holder = none → x.timer = .stopped)

/-- Station `i` stands as `y`, its display apart, which follows its records (R99), and every other station is as it was. -/
def State.stationIs (s : State) (i : Station) (y : Stn) (t : State) : Prop :=
  t.stn i = { y with display := (t.stn i).display } ∧ s.stationsKept i t

/-- A frame has been offered to a transmit queue with room (R173). -/
def State.framed (s : State) (b : Block) (a : Nat) (p : Payload) : State :=
  s.modFe fun e => { e with queue := joinQueue (frameTo b a p) e.queue }

/-- The controller of lane `l` is LOST: its LOCK and UNLOCK frames have left the transmit queue, with a space report to every
waiting block where there was one, and the frames kept for it are given up (R150, R173). -/
def State.controllerGone (s : State) (l : Lane) : State :=
  let waits := s.fe.queue.any (isLatchOf l)
  ((s.modFe fun e => { e with queue := e.queue.filter fun f => !isLatchOf l f,
                              kept := e.kept.filter fun f => !isLatchOf l f,
                              waiting := if waits = true then [] else e.waiting }).postAll
    (if waits = true then s.fe.waiting.map .spaceReport else [])).modLane l fun x => { x with controllerLost := true }

/-- A MOVE may be sent to carousel `k`: the cell is RUNNING, the ring UP, its station OPEN with its panel PRESENT, and its curtain
CLEAR (R75, R98). -/
def State.mayMove (s : State) (k : Carousel) : Prop :=
  s.mgmt.cell = .running ∧ s.fe.ring = .up ∧ (s.seq k).curtain = .clear ∧
    ∃ p, (s.seq k).place = some p ∧ (s.stn p.1).configured = true ∧ (s.stn p.1).opened = true ∧ (s.stn p.1).panelLost = false

/-- A key press acts: the station is configured, its panel is PRESENT, and the snapshot shows the key up (R96). -/
def State.keyActs (s : State) (i : Station) (key : Key) : Prop :=
  s.resetLow = false ∧ (s.stn i).configured = true ∧ (s.stn i).panelLost = false ∧ key.isDown (s.stn i).keys = false

/-- Carousel `k` presents task `x` under the HELD grant of station `i`, whose view is `v`: nothing waits in the held list, the scan
queue or the group buffer, the notice mode is EVERY, and the notice queue has room. -/
def State.presents (s : State) (k : Carousel) (i : Station) (x : Task) (v : TaskView) : Prop :=
  s.resetLow = false ∧ (s.seq k).state = .presenting ∧ (s.seq k).currentTask = some x ∧ (s.seq k).held = [] ∧
    s.grantedBy k = some i ∧ (s.stn i).grant = .held k v ∧ (s.stn i).group = [] ∧ (s.stn i).mode = .every ∧
    (s.stn i).queue = [] ∧ s.mgmt.notices.length < 64

/-- Task `y` is the PICK task that the unfinished live picks of task `x` form when CONFIRM ends its presentation: it has the next
arrival number and the lowest class among the orders of its picks (R71, R85). -/
def State.restOfPicks (s : State) (k : Carousel) (x y : Task) : Prop :=
  ∃ ps cls, x.body = .pick ps ∧
    y = { num := (s.seq k).arrivals, cls := cls, carrier := x.carrier, body := .pick (ps.filter (·.opened)) } ∧
    (∃ p ∈ ps, p.opened = true ∧ p.cls = cls) ∧ ∀ p ∈ ps, p.opened = true → cls ≤ p.cls

/-- Lane `l` stands as `y`, and every other lane is as it was. -/
def State.laneIs (s : State) (l : Lane) (y : LaneRec) (t : State) : Prop := t.lane l = y ∧ s.lanesKept l t

/-- The place of the in-transit list is FREE, every other as it was, and the stations that waited for one are told (R133). -/
def State.placeFree (s : State) (n : Nat) (t : State) : Prop :=
  t.place n = none ∧ (∀ m : Nat, m ≠ n → t.place m = s.place m) ∧
    t.transit = { s.transit with places := t.transit.places, waitStations := [] }

/-- A reply as it joins the reply list (R179). -/
def replyTo (q : Req) (kind : Nat) (r : Result) (content : List Byte) : Reply :=
  { dest := q.hdr.source, kind := kind, tag := q.tag, result := r, content := content }

/-- The grant that carousel `k` held at station `i` has ended, with the sequencer then as `q`; every other carousel and station is as
it was. -/
def State.grantOver (s : State) (k : Carousel) (i : Station) (q : Seq) (t : State) : Prop :=
  t.seq k = q ∧ s.othersKept k t ∧ (t.stn i).holder = none ∧ s.stationsKept i t

/-- A sequencer as the end of its only task leaves it: IDLE, with nothing in its queue (R85). -/
def Seq.emptied (q : Seq) : Seq := { q with state := .idle, queue := [], current := none, built := none, short := 0 }

/-- A sequencer READY with the first of the tasks `y :: rest` of its queue, whose carrier stands at the opening (R75, R84). -/
def Seq.readyWith (q : Seq) (y : Task) (rest : List Task) : Seq :=
  { q with state := .ready, queue := y :: rest, current := some y.num, move := none, built := none, short := 0 }

/-- What CONFIRM of a PICK task leaves (R85, R113): the carousel, with its index at the carrier, is READY with the new task `y`, the
task's unfinished live picks are reported withdrawn, and the grant has ended with TASK-DONE, outcome CONFIRMED. -/
def State.confirmedPick (s : State) (k : Carousel) (i : Station) (x y : Task) (v : TaskView) (t : State) : Prop :=
  s.grantOver k i { (s.seq k).readyWith y [] with arrivals := (s.seq k).arrivals + 1 } t ∧
    (∀ p ∈ x.picks, p.opened = true → .reservationWithdrawn p.res ∈ t.mail) ∧
    s.noticed (.taskDone i k v.carrier .pick .confirmed) t ∧
    t = { s.begun with seqs := t.seqs, stations := t.stations, fe := t.fe, mail := t.mail, mgmt := t.mgmt, answer := t.answer }

/-- A request has been answered DONE, without content, behind the replies that wait (R179). -/
def State.answeredDone (s : State) (q : Req) (kind : Nat) (t : State) : Prop :=
  t.mgmt.replies = s.mgmt.replies ++ [replyTo q kind .done []]

/-- A notice with body `b` is among those waiting. -/
def State.hasNotice (t : State) (b : NoticeBody) : Prop := ∃ n ∈ t.mgmt.notices, n.body = b

end Sys2Proof.Machine
end

