-- ==== Sys2Proof/Certificates/Slice0/Obligations.lean ====
section
/-! DEFINITION. The statements for the provers: what the part's commands and events do, by the numbered rules of the spec,
with what each leaves unchanged, and the invariants that every step keeps. -/

open Sys2Proof Sys2Proof.Machine

/-! ## Steps, pins and the ring -/

/-- The command at the front of the queue is carried out with the queue's rest, and its outcome is the step's. The queue of
commands, first in and first out, and its being taken before the reports between blocks are the model's choice (log entries 1
and 2); that a command is carried out whole is the spec's (1.3). -/
def Obligations.StepTakesFront : Prop :=
  ∀ (c : Instr) (rest : List Instr) (s : State), s.pending = c :: rest → step s = exec c { s with pending := rest }

/-- With no command waiting the part acts on its own, in the order that log entries 2 and 3 give (the model's choice): it
idles while RESETN is low or the clock is lost, else takes the oldest report between blocks, else acts of its own accord,
else lets a millisecond pass. -/
def Obligations.StepOnItsOwn : Prop :=
  ∀ s : State, s.pending = [] →
    ((s.resetLow = true ∨ s.clock = false) → step s = .next s) ∧
    (s.resetLow = false → s.clock = true →
      (∀ c rest, s.mail = c :: rest → step s = exec c { s with mail := rest }) ∧
      (s.mail = [] →
        (∀ c, s.autonomous = some c → step s = exec c s) ∧
        (s.autonomous = none → step s = .next { s with now := s.now + 1, out := [], answer := .none })))

/-- The commands of the pins (R178, R191): reset passes every block through its power-on values, the rising edge samples the
straps, the loss and return of the clock stop and start the ring output, and while RESETN is low nothing else is taken.
That the commands which wait, the time and the clock's pin stand outside the part's state is the model's choice (log entry
5). -/
def Sys2Proof.Claims.PinCommands : Prop :=
  ∀ (s : State) (straps : BitVec 6),
    exec (.powerOnReset straps) s =
      .next { State.powerOn straps with clock := s.clock, now := s.now, pending := s.pending } ∧
    exec .resetAssert s =
      .next { State.powerOn s.strap with resetLow := true, clock := s.clock, now := s.now, pending := s.pending } ∧
    exec .clockLoss s = .next { s.begun with clock := false } ∧
    (s.queriesWait = false → exec .clockReturn s = .next { s.begun with clock := true }) ∧
    ∀ c : Instr, c.pin = false → s.resetLow = true → exec c s = .next s

/-- What a power-on reset leaves (R178, R191): the strap address, the cell LOADING, the timers at the defaults of Table MG-3,
no reply, notice, lot, order, reservation, place, audit request or node, every carousel UNCONFIGURED, every station CLOSED,
every lane EMPTY and the ring DOWN. -/
def Sys2Proof.Claims.PowerOnValues : Prop :=
  ∀ (s : State) (straps : BitVec 6), ∃ t, exec (.powerOnReset straps) s = .next t ∧
    t.own = straps.toNat ∧ t.resetLow = false ∧ t.fe.ring = .down ∧ t.fe.nodes = [] ∧ (∀ g : Fin 8, t.fe.groups[g] = []) ∧
    t.fe.queue = [] ∧ t.fe.outstanding = [] ∧ t.fe.damaged = 0 ∧
    t.mgmt.cell = .loading ∧ t.mgmt.replies = [] ∧ t.mgmt.notices = [] ∧ t.mgmt.noticeSeq = 0 ∧ t.mgmt.dropped = false ∧
    t.mgmt.timers.hold0 = 1200 ∧ t.mgmt.timers.hold1 = 3000 ∧ t.mgmt.timers.hold2 = 6000 ∧ t.mgmt.timers.hold3 = 12000 ∧
    t.mgmt.timers.attention = 300 ∧ t.mgmt.timers.transit = 1200 ∧ t.mgmt.timers.auditIdle = 1800 ∧
    t.mgmt.timers.manualIdle = 1200 ∧ t.mgmt.timers.settle = 20 ∧ t.mgmt.timers.tag = 50 ∧ t.mgmt.timers.latch = 30 ∧
    t.mgmt.timers.round = 5 ∧
    t.lots = [] ∧ t.book.orders = [] ∧ t.book.pool = [] ∧ t.transit.places = [] ∧ t.transit.waiting = [] ∧ t.requests = [] ∧
    (∀ k : Carousel, t.stockCar k = none ∧ t.bal k = none ∧ t.session k = none ∧ (t.seq k).state = .unconfigured ∧
      (t.seq k).queue = [] ∧ (t.seq k).held = [] ∧ (t.seq k).index = none ∧ (t.seq k).curtain = .unseen) ∧
    (∀ i : Station, (t.stn i).configured = false ∧ (t.stn i).serving = false ∧ (t.stn i).grant = .absent ∧
      (t.stn i).queue = [] ∧ (t.stn i).batch = none ∧ (t.stn i).putClass = 1) ∧
    ∀ l : Lane, (t.lane l).configured = false ∧ (t.lane l).state = .empty ∧ (t.lane l).limit = 8 ∧ (t.lane l).comps = []

/-- The pins and what a power-on reset leaves (R178, R191). -/
def Obligations.ResetAndClock : Prop :=
  Claims.PinCommands ∧ Claims.PowerOnValues

/-- SILENCE_TIMER_EXPIRY (R166): in UP or RESTORING, and no earlier than the time to which the last frame set the timer (log entry
4), the ring goes DOWN, the outstanding-frame list and the restore are emptied while the transmit queue stays, and every block
but the Frame Engine is handed the change; in DOWN nothing changes. -/
def Sys2Proof.Claims.SilencePutsRingDown : Prop :=
  ∀ s : State, s.resetLow = false →
    (s.fe.ring ≠ .down → ∃ t, exec .silenceTimerExpiry s = .next t ∧
      t.fe = { s.fe with ring := .down, silence := none, outstanding := [], restore := [], restoreDeadline := none } ∧
      t.now = max s.now (s.fe.silence.getD 0) ∧ s.mail <+: t.mail ∧ (∀ b : Block, b ≠ .engine → .ringStateReport b .down ∈ t.mail) ∧
      t = { s.begun with now := t.now, fe := t.fe, mail := t.mail }) ∧
    (s.fe.ring = .down → exec .silenceTimerExpiry s = .next s.begun)

/-- FORWARDED_FRAME and DAMAGED_FRAME_RECEIVED (R166, R168, R170): a good frame of no concern to the part passes on
untouched; one whose check or length is bad passes on with its DAMAGED flag set and is counted, up to 65535; in DOWN such a
frame is counted and not passed on. Each restarts the silence timer of 20 ms. -/
def Obligations.PassingFrames : Prop :=
  ∀ (s : State) (f : WireFrame), s.resetLow = false → s.clock = true →
    s.heard = { s.begun with fe := { s.fe with silence := some (s.now + 20) } } ∧
    (frameGood f = true → s.takes f.hdr → s.disposal f.hdr f.kind = .other →
      exec (.forwardedFrame f) s = .next (s.heard.passing f.hdr f.kind)) ∧
    (frameGood f = false → f.hdr.source ≠ s.own →
      (s.fe.ring ≠ .down → exec (.damagedFrameReceived f) s =
        .next ((s.heard.modFe fun e => { e with damaged := min (e.damaged + 1) 65535 }).passing
          { f.hdr with flags := f.hdr.flags ||| 1#8 } f.kind)) ∧
      (s.fe.ring = .down → exec (.damagedFrameReceived f) s =
        .next (s.heard.modFe fun e => { e with damaged := min (e.damaged + 1) 65535 })))

/-- The first good frame in DOWN puts the ring in RESTORING, and the nodes to be asked for their status are listed in address
order (R166, R167); with none to ask the ring is UP at once. The silence timer of 20 ms starts with the frame. -/
def Sys2Proof.Claims.GoodFrameStartsRestore : Prop :=
  ∀ (s : State) (f : WireFrame), s.resetLow = false → s.clock = true → s.fe.ring = .down → frameGood f = true →
    f.hdr.flags.getLsbD 0 = false → s.disposal f.hdr f.kind = .other →
    ∃ t, exec (.forwardedFrame f) s = .next t ∧ t.out.getLast? = some (.passed f.hdr f.kind) ∧
      t.fe.silence = some (s.now + 20) ∧
      (restoreNodes s ≠ [] → t.fe.ring = .restoring ∧ t.fe.restore = (restoreNodes s).map (fun a => (a, false)) ∧
        t.fe.outstanding.map (·.frame.dest) = s.fe.outstanding.map (·.frame.dest) ++ restoreNodes s) ∧
      (restoreNodes s = [] → t.fe.ring = .up)

/-- FRAME_RETURN and ROUND_DEADLINE_EXPIRY of a unicast frame while the ring is UP (R174): the intact return of the oldest
outstanding frame takes it out of the list, ACCEPTED when its answer bit is set and REFUSED otherwise; one that comes back
damaged is counted and takes the oldest entry; one that does not come back in its round time is LOST. -/
def Sys2Proof.Claims.OwnFrameFates : Prop :=
  ∀ (s : State) (o : Outstanding), s.resetLow = false → s.fe.ring = .up → o.frame.dest < 64 →
    (∀ (rest : List Outstanding) (h : Hdr), s.fe.outstanding = o :: rest → h.source = s.own → h.flags.getLsbD 0 = false →
      h.dest = o.frame.dest →
      exec (.frameReturn h (payloadKind o.frame.payload) true) s =
        .next (((s.heard.modFe fun e => { e with outstanding := rest }).postAll
          (fateReport o.frame (if h.answer.getLsbD 0 then .accepted else .refused))))) ∧
    (∀ (rest : List Outstanding) (h : Hdr) (kind : Nat), s.fe.outstanding = o :: rest → h.source = s.own →
      exec (.frameReturn h kind false) s =
        .next (((s.heard.modFe fun e => { e with outstanding := rest, damaged := min (e.damaged + 1) 65535 }).postAll
          (fateReport o.frame .damaged)))) ∧
    (∀ i : Nat, s.fe.outstanding[i]? = some o →
      exec (.roundDeadlineExpiry i) s =
        .next ((((s.begun.reach o.deadline).modFe fun e => { e with outstanding := e.outstanding.eraseIdx i }).postAll
          (fateReport o.frame .lost))))

/-- FRAME_RETURN of a frame behind the head of the outstanding-frame list (R174): an intact return first reports every older
entry LOST, in order, then its own, and leaves the later ones; one that matches no entry is discarded. -/
def Sys2Proof.Claims.OtherReturns : Prop :=
  ∀ (s : State) (h : Hdr) (kind : Nat), s.resetLow = false → s.fe.ring = .up → h.source = s.own →
    h.flags.getLsbD 0 = false →
    (∀ (i : Nat) (m : Outstanding), s.fe.outstanding[i]? = some m → m.frame.dest = h.dest →
      payloadKind m.frame.payload = kind → h.dest < 64 →
      (∀ o ∈ s.fe.outstanding.take i, o.frame.dest < 64 ∧ entryIs h.dest kind o = false) →
      exec (.frameReturn h kind true) s = .next ((s.heard.modFe fun e =>
          { e with outstanding := e.outstanding.drop (i + 1) }).postAll
        ((s.fe.outstanding.take i).flatMap (fun o => fateReport o.frame .lost) ++
          fateReport m.frame (if h.answer.getLsbD 0 then .accepted else .refused)))) ∧
    ((∀ o ∈ s.fe.outstanding, entryIs h.dest kind o = false) → exec (.frameReturn h kind true) s = .next s.heard)

/-- FRAME_RETURN and ROUND_DEADLINE_EXPIRY of the part's own group frame (R175): it is ACCEPTED when every member's bit is set
and REFUSED otherwise, each member whose bit is clear being reported missing, before it, to the sequencer of its drive; a
damaged return or an expiry reports every member missing. A frame to G0 names the drives outside G0 missing as well. A missing
member of another role brings no report: one of role NONE, GATEWAY, SORTER or MAINT by R175, and a panel, a reader or a lane
controller because the report has no effect at its owner (log entry 68, DEDUCED). The members, their roles and their units are
those that the group and the node map hold when the frame is reported (log entry 78, DESIGN CHOICE: they may have been written
since the frame was sent). -/
def Sys2Proof.Claims.GroupFrames : Prop :=
  ∀ (s : State) (g : Fin 8) (o : Outstanding) (rest : List Outstanding), s.resetLow = false → s.fe.ring = .up →
    s.fe.outstanding = o :: rest → o.frame.dest = 64 + g.val →
    let outside : List Nat := if g = 0 then drivesOutside s s.fe.groups[g] else []
    (∀ h : Hdr, h.source = s.own → h.flags.getLsbD 0 = false → h.dest = o.frame.dest →
      let missing := ((s.fe.groups[g].zipIdx.filter fun e => !h.answer.getLsbD e.2).map (·.1))
      exec (.frameReturn h (payloadKind o.frame.payload) true) s = .next ((s.heard.modFe fun e =>
          { e with outstanding := rest }).postAll
        ((missing ++ outside).flatMap (missingReport s) ++
          fateReport o.frame (if missing = [] then .accepted else .refused)))) ∧
    (∀ (h : Hdr) (kind : Nat), h.source = s.own →
      exec (.frameReturn h kind false) s = .next ((s.heard.modFe fun e =>
          { e with outstanding := rest, damaged := min (e.damaged + 1) 65535 }).postAll
        ((s.fe.groups[g] ++ outside).flatMap (missingReport s) ++ fateReport o.frame .damaged))) ∧
    exec (.roundDeadlineExpiry 0) s = .next (((s.begun.reach o.deadline).modFe fun e => { e with outstanding := rest }).postAll
      ((s.fe.groups[g] ++ outside).flatMap (missingReport s) ++ fateReport o.frame .lost)) ∧
    (∀ a k, (s.node a).role = .drive → (s.node a).unit = k.val → missingReport s a = [.driveMissingReport k]) ∧
    ∀ a, (s.node a).role ≠ .drive → missingReport s a = []

/-- The fates of the part's own frames (R174, R175). -/
def Obligations.FatesOfFrames : Prop :=
  Claims.OwnFrameFates ∧ Claims.OtherReturns ∧ Claims.GroupFrames

/-- RESTORE_ROUND_EXPIRY (R167): the owners of the nodes that have not answered are told first, then every block that the
ring is UP. The owner told is that of the role and unit which the node map holds when the restore ends (log entry 78, DESIGN
CHOICE: the map may have been written since the restore began). -/
def Sys2Proof.Claims.RestoreEnds : Prop :=
  ∀ (s : State) (d : Nat), s.resetLow = false → s.fe.ring = .restoring → s.fe.restoreDeadline = some d →
    exec .restoreRoundExpiry s =
      .next (((s.begun.reach d).modFe fun e => { e with ring := .up, restore := [], restoreDeadline := none }).postAll
        (((s.fe.restore.filter fun e => !e.2).map fun e => .nodeNotAnswered (s.node e.1).role (s.node e.1).unit) ++
          ringReports .up))

/-- The three ring states and the ways between them (R166, R167). -/
def Obligations.RingStates : Prop :=
  Claims.SilencePutsRingDown ∧ Claims.GoodFrameStartsRestore ∧ Claims.RestoreEnds

/-- FRAME_OFFER (R173): with room in the transmit queue an URGENT frame joins behind the URGENT frames already there and a
NORMAL frame joins at the end; a full queue of no NORMAL frame, or a NORMAL frame, is answered full and its block waits, a query,
a DIVERT, and a MOVE of a carousel without a move in flight being kept by the block; a
DIVERT to a role and unit that the node map does not hold is answered no node and is not kept (log entry 19). -/
def Sys2Proof.Claims.FrameOffers : Prop :=
  ∀ (s : State) (b : Block) (t : Target) (p : Payload), s.resetLow = false →
    (∀ d, s.address t = some d → s.fe.queue.length < 32 →
      exec (.frameOffer b t p) s = .next ((s.begun.modFe fun e => { e with queue :=
        (if payloadUrgent p then e.queue.takeWhile (·.urgent) ++ frameTo b d p :: e.queue.dropWhile (·.urgent)
         else e.queue ++ [frameTo b d p]) }).ans .queued)) ∧
    (∀ d v, s.address t = some d → 32 ≤ s.fe.queue.length → s.fe.queue.getLast? = some v →
      (payloadUrgent p = false ∨ v.urgent = true) →
      ∃ u, exec (.frameOffer b t p) s = .next u ∧ u.answer = .full ∧ u.fe.queue = s.fe.queue ∧ b ∈ u.fe.waiting ∧
        (payloadKind p = 4 ∨ payloadKind p = 18 ∨ (payloadKind p = 1 ∧ ∃ k, b = .seq k ∧ (s.seq k).move = none) →
          u.fe.kept = s.fe.kept ++ [frameTo b d p])) ∧
    (∀ l x, s.address t = none →
      exec (.frameOffer .transit t (.divert l x false)) s = .next (s.begun.ans .noNode))

/-- FRAME_WITHDRAW and PAYLOAD_REPLACE (R173): a frame still in the queue is removed, with a space report to every waiting
block, or takes the new payload in its place; a frame that has gone answers so and nothing changes. -/
def Sys2Proof.Claims.FrameWithdrawals : Prop :=
  ∀ (s : State) (b : Block), s.resetLow = false →
    (∀ kind, s.fe.queue.any (isFrameOf b kind) = true →
      exec (.frameWithdraw b kind) s = .next ((((s.begun.modFe fun e =>
        { e with queue := dropFirst (isFrameOf b kind) e.queue, waiting := [] }).postAll
          (s.fe.waiting.map .spaceReport))).ans .withdrawn)) ∧
    (∀ kind, s.fe.queue.any (isFrameOf b kind) = false → exec (.frameWithdraw b kind) s = .next (s.begun.ans .gone)) ∧
    (∀ p : Payload, s.fe.queue.any (isFrameOf b (payloadKind p)) = true →
      exec (.payloadReplace b p) s = .next ((s.begun.modFe fun e =>
        { e with queue := modFirst (isFrameOf b (payloadKind p)) (fun f => { f with payload := p }) e.queue }).ans .replaced)) ∧
    (∀ p : Payload, s.fe.queue.any (isFrameOf b (payloadKind p)) = false →
      exec (.payloadReplace b p) s = .next (s.begun.ans .gone))

/-- FRAME_SEND and SPACE_REPORT (R173, R174): the head frame leaves when the ring is UP, the clock is there and fewer than 32
frames are outstanding; it goes out as bytes, is outstanding for a round time, and every waiting block is given a space
report. On its report the conveyor offers the frame it kept, to the node that the map then holds for it (R169); a DIVERT that
finds none is dropped (log entry 19). -/
def Sys2Proof.Claims.FrameSending : Prop :=
  ∀ s : State, s.resetLow = false →
    (∀ f rest, s.fe.queue = f :: rest → s.fe.ring = .up → s.clock = true → s.fe.outstanding.length < 32 →
      exec .frameSend s = .next ((State.modFe { s.begun with out := [.own (ownFrame s.own f)] } fun e =>
        { e with queue := rest, waiting := [],
                 outstanding := e.outstanding ++ [{ frame := f, deadline := s.now + s.mgmt.timers.round }] }).postAll
        (s.fe.waiting.map .spaceReport))) ∧
    ((s.fe.queue = [] ∨ s.fe.ring ≠ .up ∨ s.clock = false ∨ 32 ≤ s.fe.outstanding.length) →
      exec .frameSend s = .next s.begun) ∧
    (∀ f d, s.fe.kept = [f] → f.block = .transit → s.addressNow f = some d → s.fe.queue.length < 32 →
      exec (.spaceReport .transit) s =
        .next (s.begun.modFe fun e => { e with kept := [], queue := joinQueue { f with dest := d } e.queue })) ∧
    (∀ f label l second, s.fe.kept = [f] → f.block = .transit → f.payload = .divert label l second →
      s.addressNow f = s.nodeOf .sorter 0 ∧ (s.nodeOf .sorter 0 = none →
        exec (.spaceReport .transit) s = .next (s.begun.modFe fun e => { e with kept := [] }))) ∧
    (s.fe.kept = [] → exec (.spaceReport .transit) s = .next s.begun)

/-- FRAME_OFFER of an URGENT frame to a full queue whose newest frame is NORMAL (R173): that frame is pushed out and handed back
as though its offer had found the queue full, the URGENT frame takes its place behind the other URGENT frames, every waiting
block is given a space report, and the block of the frame pushed out waits. A MOVE is kept by its carousel, IDLE again
(R76), one of a carousel without a move in flight is kept as it is, a PANEL-SHOW's content waits (R99), a reply and a notice head
their lists again (R179, R188; that they head them is log entry 40, DESIGN CHOICE), a query and a DIVERT are kept. -/
def Sys2Proof.Claims.PushedOut : Prop :=
  ∀ (s : State) (b : Block) (t : Target) (p : Payload) (d : Nat) (v : TxFrame), s.resetLow = false → s.address t = some d →
    32 ≤ s.fe.queue.length → s.fe.queue.getLast? = some v → payloadUrgent p = true → v.urgent = false →
    ∃ u, exec (.frameOffer b t p) s = .next u ∧ u.answer = .queued ∧
      u.fe.queue = s.fe.queue.dropLast.takeWhile (·.urgent) ++ frameTo b d p :: s.fe.queue.dropLast.dropWhile (·.urgent) ∧
      u.fe.waiting = [v.block] ∧ u.mail = s.mail ++ s.fe.waiting.map .spaceReport ∧
      (payloadKind v.payload = 4 ∨ payloadKind v.payload = 18 ∨
          (payloadKind v.payload = 1 ∧ ∃ k, v.block = .seq k ∧ (s.seq k).move = none) →
        u = { s.begun with fe := { s.fe with queue := u.fe.queue, waiting := u.fe.waiting, kept := s.fe.kept ++ [v] },
                           mail := u.mail, answer := .queued }) ∧
      (∀ c i, v.payload = .panelShow c → v.block = .station i →
        u = { s.begun.modStn i fun x => { x with display := { x.display with waiting := some c } } with
                fe := { s.fe with queue := u.fe.queue, waiting := u.fe.waiting }, mail := u.mail, answer := .queued }) ∧
      (∀ kind tag r content, v.payload = .reply kind tag r content →
        u.mgmt = { s.mgmt with replies :=
          { dest := v.dest, kind := kind, tag := tag, result := r, content := content } :: s.mgmt.replies }) ∧
      (∀ n, v.payload = .notice n false →
        u.mgmt = { s.mgmt with notices := n :: s.mgmt.notices }) ∧
      (∀ dir dist target speed k m, v.payload = .move dir dist target speed → v.block = .seq k → (s.seq k).move = some m →
        u.seq k = { s.seq k with
          state := .idle, move := none,
          built := some { target := target, dir := dir, dist := dist, speed := speed, timeout := m.timeout,
                          resent := if m.resent = true then some m.deadline else none } })

/-- FRAME_OFFER to a role and unit that the node map does not hold (R173): nothing is queued and the offer is answered no node.
A query, a MOVE or the HALT that answers a missing report then puts its carousel in FAULT with cause LINK (R68; log entry 19,
DEDUCED), here a carousel without a grant, and the query is settled; a PANEL-SHOW marks the panel of a CLOSED station LOST (R98), where no content waits
any more (log entry 67, DESIGN CHOICE); and a latch frame marks its lane controller LOST (R143), whose latch frames leave the
transmit queue (R150; log entry 31, DEDUCED). An offer of a LANE-SHOW, a READ-REQUEST, a DIVERT, a reply, a notice or a HALT that
answers no missing report changes nothing else (log entry 19). -/
def Sys2Proof.Claims.NoNodeAnswers : Prop :=
  ∀ (s : State) (t : Target), s.resetLow = false → s.address t = none →
    (∀ b p, payloadKind p = 15 ∨ payloadKind p = 16 ∨ payloadKind p = 18 ∨ payloadKind p = 96 ∨ payloadKind p = 97 →
      exec (.frameOffer b t p) s = .next (s.begun.ans .noNode)) ∧
    (∀ b, exec (.frameOffer b t (.halt false)) s = .next (s.begun.ans .noNode)) ∧
    (∀ k p, payloadKind p = 1 ∨ p = .halt true → (s.seq k).state.away = true →
      ∃ u, exec (.frameOffer (.seq k) t p) s = .next u ∧ u.answer = .noNode ∧ s.faulted k .link u ∧ s.onlyCarousels u) ∧
    (∀ k n, (s.seq k).state.away = true → ∃ u, exec (.frameOffer (.seq k) t (.statusQuery n)) s = .next u ∧ u.answer = .noNode ∧
      (s.withoutQuery k n).faulted k .link u ∧ s.onlyCarousels u) ∧
    (∀ i c, (s.stn i).opened = false → (s.stn i).panelLost = false → s.fe.queue.any (isFrameOf (.station i) 9) = false →
      exec (.frameOffer (.station i) t (.panelShow c)) s = .next (((s.begun.modStn i fun x => x.panelGone).postAll
        ((s.stn i).cars.map fun k => .curtainBroken k true)).ans .noNode)) ∧
    ∀ b l pulse second p, p = .lock l second ∨ p = .unlock l pulse second →
      exec (.frameOffer b t p) s = .next ((s.begun.controllerGone l).ans .noNode)

/-- SPACE_REPORT (R76, R99, R169, R173, R179, R188): a sequencer without a built MOVE offers the query or HALT it kept to the drive
that the node map then holds, and goes to FAULT with cause LINK where it holds none for a query (R68); a MOVE that it kept without
a move in flight is offered in IDLE while a move is allowed, and discarded otherwise (log entry 52, DEDUCED); a station whose
content waits offers its present content; the Management Unit offers its replies and then its head notice. -/
def Sys2Proof.Claims.SpaceReports : Prop :=
  ∀ s : State, s.resetLow = false →
    (∀ k f, s.fe.kept = [f] → f.block = .seq k → (∃ n, f.payload = .statusQuery n) ∨ (∃ b, f.payload = .halt b) →
        (s.seq k).built = none →
      (∀ d, s.nodeOf .drive k.val = some d → s.fe.queue.length < 32 → exec (.spaceReport (.seq k)) s =
        .next (s.begun.modFe fun e => { e with kept := [], queue := joinQueue { f with dest := d } e.queue })) ∧
      (∀ n, s.nodeOf .drive k.val = none → f.payload = .statusQuery n → (s.seq k).state.away = true →
        ∃ t, exec (.spaceReport (.seq k)) s = .next t ∧ (s.withoutQuery k n).faulted k .link t ∧ t.fe.kept = [] ∧
          s.onlyCarousels t)) ∧
    (∀ k f dir dist target speed, s.fe.kept = [f] → f.block = .seq k → f.payload = .move dir dist target speed →
      (s.seq k).built = none →
      (∀ d, (s.seq k).state = .idle → s.mayMove k → s.nodeOf .drive k.val = some d → s.fe.queue.length < 32 →
        s.addressNow f = some d ∧ exec (.spaceReport (.seq k)) s =
          .next (s.begun.modFe fun e => { e with kept := [], queue := joinQueue { f with dest := d } e.queue })) ∧
      ((s.seq k).state ≠ .idle ∨ ¬ s.mayMove k →
        exec (.spaceReport (.seq k)) s = .next (s.begun.modFe fun e => { e with kept := [] }))) ∧
    (∀ i, s.fe.kept = [] →
      ((s.stn i).display.waiting = none → exec (.spaceReport (.station i)) s = .next s.begun) ∧
      (∀ c a, (s.stn i).display.waiting = some c → (s.stn i).configured = true → (s.stn i).panelLost = false →
        s.nodeOf .panel i.val = some a → s.fe.queue.any (isFrameOf (.station i) 9) = false → s.fe.queue.length < 32 →
        exec (.spaceReport (.station i)) s = .next ((s.begun.framed (.station i) a (.panelShow (s.content i))).modStn i fun x =>
          { x with display := { sent := some (s.content i), waiting := none } }))) ∧
    (∀ r n g, s.fe.kept = [] → s.mgmt.replies = [r] → s.mgmt.resend = [] → s.mgmt.notices = [n] → s.gateway = some g →
      s.fe.queue.length < 31 →
      exec (.spaceReport .management) s = .next (((s.begun.framed .management r.dest (.reply r.kind r.tag r.result r.content)).framed
        .management g (.notice n false)).modMgmt fun m => { m with replies := [], notices := [] })) ∧
    (s.fe.kept = [] → s.mgmt.replies = [] → s.mgmt.resend = [] → s.mgmt.notices = [] →
      exec (.spaceReport .management) s = .next s.begun)

/-- The transmit queue (R173, R174). -/
def Obligations.TransmitQueue : Prop :=
  Claims.FrameOffers ∧ Claims.FrameWithdrawals ∧ Claims.FrameSending ∧ Claims.PushedOut ∧ Claims.NoNodeAnswers ∧ Claims.SpaceReports


/-! ## Drives, moves and curtains -/

/-- NODE_NOT_ANSWERED (R92, R98, R150, R167): a drive that did not answer the restore puts its carousel in FAULT with cause
LINK, a lane controller's mark becomes LOST and its latch frames leave the transmit queue (log entry 31, DEDUCED), and the panel
of a CLOSED station becomes LOST with its curtains unseen, where no content waits any more (log entry 67, DESIGN CHOICE). -/
def Sys2Proof.Claims.UnansweredNodes : Prop :=
  ∀ s : State, s.resetLow = false →
    (∀ k : Carousel, (s.seq k).state.away = true → ∃ t, exec (.nodeNotAnswered .drive k.val) s = .next t ∧
      s.faulted k .link t ∧ s.onlyCarousels t) ∧
    (∀ l : Lane, exec (.nodeNotAnswered .laneController l.val) s =
      .next (s.begun.controllerGone l)) ∧
    (∀ i : Station, (s.stn i).opened = false → (s.stn i).panelLost = false →
      s.fe.queue.any (isFrameOf (.station i) 9) = false →
      exec (.nodeNotAnswered .panel i.val) s = .next ((s.begun.modStn i fun x => x.panelGone).postAll
        ((s.stn i).cars.map fun k => .curtainBroken k true)))

/-- RING_STATE_REPORT (R92, R99, R166): when the ring goes DOWN a MOVING or STOPPING carousel becomes UNKNOWN with its move,
its timeout and its current task cleared and its queue kept; one that is READY, PRESENTING, MANUAL, FAULT, DISABLED or
UNKNOWN stays as it is. Of every carousel's queries those that neither wait to be sent nor have returned are dropped (log entry 20,
DEDUCED). Transit and Management records do not change. -/
def Sys2Proof.Claims.RingDownAtCarousels : Prop :=
  ∀ (s : State) (k : Carousel), s.resetLow = false →
    ((s.seq k).state = .moving ∨ (s.seq k).state = .stopping → ∃ t, exec (.ringStateReport (.seq k) .down) s = .next t ∧
      (t.seq k).state = .unknown ∧ (t.seq k).move = none ∧ (t.seq k).built = none ∧ (t.seq k).current = none ∧
      (t.seq k).short = 0 ∧ (t.seq k).queue = (s.seq k).queue ∧ (t.seq k).held = (s.seq k).held ∧
      (t.seq k).index = (s.seq k).index ∧ (t.seq k).curtain = (s.seq k).curtain ∧
      (t.seq k).queries = (s.seq k).queries.filter (s.queryStands k) ∧ s.othersKept k t ∧ s.onlyCarousels t) ∧
    ((s.seq k).state = .ready ∨ (s.seq k).state = .presenting ∨ (s.seq k).state = .manual ∨ (s.seq k).state = .fault ∨
        (s.seq k).state = .disabled ∨ (s.seq k).state = .unknown →
      exec (.ringStateReport (.seq k) .down) s =
        .next (s.begun.modSeq k fun q => { q with queries := q.queries.filter (s.queryStands k) })) ∧
    exec (.ringStateReport .transit .down) s = .next s.begun ∧
    exec (.ringStateReport .management .down) s = .next s.begun

/-- RING_STATE_REPORT, beside a ring that goes DOWN under a moving carousel (R75, R92, R99): an UNCONFIGURED carousel loses only the
queries that are out; an IDLE one keeps its current task and discards a built MOVE; RESTORING and UP change no carousel
that is not IDLE. A station sends its latest content when the ring is UP, once it has sent one, and takes no other state. -/
def Sys2Proof.Claims.RingStateAtBlocks : Prop :=
  ∀ s : State, s.resetLow = false →
    (∀ k, (s.seq k).state = .unconfigured → exec (.ringStateReport (.seq k) .down) s =
      .next (s.begun.modSeq k fun q => { q with queries := q.queries.filter (s.queryStands k) })) ∧
    (∀ k x, (s.seq k).state = .idle → (s.seq k).currentTask = some x → s.presentable k x = true →
      (s.seq k).index ≠ some x.carrier → s.fe.ring = .down →
      exec (.ringStateReport (.seq k) .down) s = .next (s.begun.modSeq k fun q =>
        { q with built := none, queries := q.queries.filter (s.queryStands k) })) ∧
    (∀ k r, r ≠ .down → (s.seq k).state ≠ .idle → exec (.ringStateReport (.seq k) r) s = .next s.begun) ∧
    (∀ i r, r ≠ .up → exec (.ringStateReport (.station i) r) s = .next s.begun) ∧
    (∀ i, (s.stn i).latest = none ∨ (s.stn i).configured = false ∨ (s.stn i).panelLost = true →
      exec (.ringStateReport (.station i) .up) s = .next s.begun) ∧
    (∀ i a, (s.stn i).latest ≠ none → (s.stn i).configured = true → (s.stn i).panelLost = false →
      s.nodeOf .panel i.val = some a → s.fe.queue.any (isFrameOf (.station i) 9) = false → s.fe.queue.length < 32 →
      exec (.ringStateReport (.station i) .up) s = .next ((s.begun.framed (.station i) a (.panelShow (s.content i))).modStn i
        fun x => { x with display := { sent := some (s.content i), waiting := none } }))

/-- A restore is answered (R167): a DRIVE-STATUS, a PANEL-INPUT or a LANE-INPUT that is taken in RESTORING marks its node answered,
here from a carousel in FAULT, an unconfigured station and an unconfigured lane, whose records it changes as their own rules
give; the last one ends the restore, and every block is handed that the ring is UP. -/
def Sys2Proof.Claims.RestoreAnswers : Prop :=
  ∀ (s : State) (h : Hdr), s.takes h → s.fe.ring = .restoring →
    let marked := s.fe.restore.map fun x => if x.1 = h.source then (x.1, true) else x
    let ends (u t : State) : Prop :=
      (marked.all (·.2) = true → t =
        (u.modFe fun e => { e with ring := .up, restore := [], restoreDeadline := none }).postAll (ringReports .up)) ∧
      (marked.all (·.2) = false → t = u.modFe fun e => { e with restore := marked })
    (∀ k index target, s.disposal h 5 = .field .drive k.val false → (s.seq k).state = .fault → index < s.carriersOf k →
      ∃ t, exec (.driveStatus h .still index target) s = .next t ∧
        ends ((s.heard.queriesAnswered k).modSeq k fun q => { q with index := some index }) t) ∧
    (∀ i input, s.disposal h 10 = .field .panel i.val false → (s.stn i).configured = false →
      ∃ t, exec (.panelRecovery h input) s = .next t ∧ ends s.heard t) ∧
    (∀ l input, s.disposal h 12 = .field .laneController l.val false → (s.lane l).configured = false →
      input.button = (s.lane l).input.button → s.transit.waiting = [] →
      ∃ t, exec (.laneControllerRecovery h input) s = .next t ∧
        ends (s.heard.setLane l { s.lane l with input := input, controllerLost := false }) t)

/-- What nodes that do not answer, and changes of the ring's state, do to the blocks; and how a restore is answered (R92, R98, R99, R143, R166, R167). -/
def Obligations.RingLoss : Prop :=
  Claims.UnansweredNodes ∧ Claims.RingDownAtCarousels ∧ Claims.RingStateAtBlocks ∧ Claims.RestoreAnswers

/-- FOREIGN_COMMAND (R91, R171): a MOVE or JOG to a drive from a node that is neither the part nor a MAINT node is absorbed,
and a FOREIGN-COMMAND notice carries the carousel, the source and the frame kind; no carousel changes. -/
def Sys2Proof.Claims.ForeignCommandsAbsorbed : Prop :=
  ∀ (s : State) (h : Hdr) (jog : Bool) (k : Carousel), s.takes h →
    s.disposal h (if jog then 2 else 1) = .foreign k → s.mgmt.notices.length < 64 →
    ∃ t, exec (.foreignCommand h jog) s = .next t ∧ s.noticed (.foreignCommand k h.source (if jog then 2 else 1)) t ∧
      t = { s.heard with mgmt := t.mgmt }

/-- MANUAL_CLAIM (R88): from every state other than UNCONFIGURED, DISABLED and MANUAL (here: one in which no grant stands)
the carousel enters MANUAL with a claim record that names the claimant, with no carriers, ALL clear and the idle timer
started; its move, timeout, current task and fault cause are cleared and its queue is kept; the frame passes on and the
notice MANUAL-ENTERED is handed. UNCONFIGURED and DISABLED carousels ignore it. -/
def Sys2Proof.Claims.ManualClaims : Prop :=
  ∀ (s : State) (h : Hdr) (k : Carousel), s.takes h → s.disposal h 6 = .maint k →
    (((s.seq k).state.away = true ∨ (s.seq k).state = .fault) → s.mgmt.notices.length < 64 →
      ∃ t, exec (.manualClaim h) s = .next t ∧
        t.seq k = { s.seq k with state := .manual, fault := none, move := none, built := none, current := none, short := 0,
                                 claim := some { node := h.source, carriers := [], all := false, deadline := s.idleDeadline } } ∧
        s.othersKept k t ∧ s.noticed (.manualEntered k h.source (s.seq k).index) t ∧ t.out = [.passed h 6] ∧
        s.onlyCarousels t) ∧
    (((s.seq k).state = .unconfigured ∨ (s.seq k).state = .disabled) →
      exec (.manualClaim h) s = .next (s.heard.passing h 6))

/-- ACCESS and MAINT_DRIVE_FRAME (R89): while the carousel is MANUAL a frame from the claimant passes on and restarts the
idle timer; an ACCESS records the current index in the carrier list (once; past 8 carriers, or with no index, it sets ALL). -/
def Sys2Proof.Claims.ClaimantFrames : Prop :=
  ∀ (s : State) (h : Hdr) (k : Carousel) (c : Claim), s.takes h → (s.seq k).state = .manual → (s.seq k).claim = some c →
    c.node = h.source →
    (s.disposal h 7 = .maint k →
      exec (.access h) s = .next ((s.heard.passing h 7).modSeq k fun q =>
        { q with claim := some { c.access q.index with deadline := s.idleDeadline } })) ∧
    (∀ kind, kind ≠ 6 → kind ≠ 7 → kind ≠ 8 → s.disposal h kind = .maint k →
      exec (.maintDriveFrame h kind) s = .next ((s.heard.passing h kind).modSeq k fun q =>
        { q with claim := some { c with deadline := s.idleDeadline } })) ∧
    (∀ i, i ∉ c.carriers → c.carriers.length < 8 → (c.access (some i)).carriers = c.carriers ++ [i] ∧
      (c.access (some i)).all = c.all) ∧
    (∀ i, i ∈ c.carriers → c.access (some i) = c) ∧
    (∀ i, i ∉ c.carriers → 8 ≤ c.carriers.length → (c.access (some i)).all = true) ∧
    (c.access none).all = true

/-- MANUAL_RELEASE and MANUAL_IDLE_EXPIRY (R90): the claim ends, an audit request of source MANUAL is raised for each carrier
of its list in order (for every carrier when ALL is set), MANUAL-EXITED is handed, and the carousel becomes UNKNOWN with a
query to its drive when the ring is UP. -/
def Sys2Proof.Claims.ManualExits : Prop :=
  ∀ (s : State) (k : Carousel) (c : Claim) (d : Nat), (s.seq k).state = .manual → (s.seq k).claim = some c → s.fe.ring = .up →
    s.nodeOf .drive k.val = some d → s.fe.queue.length < 32 → s.mgmt.notices.length < 64 →
    let raised : List Instr := (if c.all then List.range (s.carriersOf k) else c.carriers).map fun i =>
      .auditRequestRaised k i true 1 .manual
    let left : Seq := Seq.ask false { s.seq k with state := .unknown, fault := none, move := none, built := none, current := none,
                                                   short := 0, claim := none }
    (∀ h : Hdr, s.takes h → s.disposal h 8 = .maint k → h.source = c.node →
      ∃ t, exec (.manualRelease h) s = .next t ∧ t.seq k = left ∧ s.othersKept k t ∧ t.mail = s.mail ++ raised ∧
        s.noticed (.manualExited k false c.carriers c.all (s.seq k).index) t ∧ t.out = [.passed h 8] ∧
        t.fe.queue = s.fe.queue ++ [frameTo (.seq k) d (.statusQuery (s.seq k).asked)] ∧ s.onlyCarousels t) ∧
    (∀ e, s.resetLow = false → c.deadline = some e →
      ∃ t, exec (.manualIdleExpiry k) s = .next t ∧ t.seq k = left ∧ s.othersKept k t ∧ t.mail = s.mail ++ raised ∧
        s.noticed (.manualExited k true c.carriers c.all (s.seq k).index) t ∧ t.now = max s.now e ∧
        t.fe.queue = s.fe.queue ++ [frameTo (.seq k) d (.statusQuery (s.seq k).asked)] ∧ s.onlyCarousels { t with now := s.now })

/-- Manual control of a carousel: foreign commands, claims, the claimant's frames, release and idle exit (R88 to R91, R171). -/
def Obligations.ManualControl : Prop :=
  Claims.ForeignCommandsAbsorbed ∧ Claims.ManualClaims ∧ Claims.ClaimantFrames ∧ Claims.ManualExits

/-- DRIVE_STATUS in motion, from a drive that is not mirrored while the ring is UP (R67, R78): a STILL at the target of a MOVING
carousel whose current task stands completes the move: the index is recorded, the move and its timeout are cleared, the
short-move count is 0, the carousel is READY with its task and its station is told. A MOVING status toward the target records
the index only (log entry 17). Either answers the queries that stand (R68). -/
def Sys2Proof.Claims.MoveCompletes : Prop :=
  ∀ (s : State) (h : Hdr) (k : Carousel) (mv : Move) (x : Task), s.takes h → s.fe.ring = .up →
    s.disposal h 5 = .field .drive k.val false → (s.seq k).state = .moving → (s.seq k).move = some mv →
    (s.seq k).currentTask = some x → mv.target < s.carriersOf k →
    (∀ target, exec (.driveStatus h .still mv.target target) s =
      .next (((s.heard.queriesAnswered k).modSeq k fun q =>
          { q with state := .ready, index := some mv.target, current := some x.num, move := none, built := none,
                   short := 0 }).postAll
        ((s.stationOf k).toList.map fun i => .readyReport i k))) ∧
    (∀ index, index < s.carriersOf k →
      exec (.driveStatus h .moving index mv.target) s =
        .next ((s.heard.queriesAnswered k).modSeq k fun q => { q with index := some index }))

/-- DRIVE_STATUS of a drive in trouble (R67, R82): a FAULTED status puts the carousel in FAULT with cause DRIVE, and an index
of P or more with cause INDEX, from every state but UNCONFIGURED, MANUAL, DISABLED and FAULT (here: one in which no grant
stands); an UNCONFIGURED carousel ignores a status, and a MANUAL, DISABLED or FAULT one records the index
alone, with an index of P or more nothing. A status that is not discarded answers the queries that stand (R68; log entry 18,
DEDUCED). -/
def Sys2Proof.Claims.DriveFaults : Prop :=
  ∀ (s : State) (h : Hdr) (k : Carousel) (m : Motion) (index target : Nat), s.takes h → s.fe.ring = .up →
    s.disposal h 5 = .field .drive k.val false →
    ((s.seq k).state.away = true → s.carriersOf k ≤ index → ∃ t, exec (.driveStatus h m index target) s = .next t ∧
      (s.queriesAnswered k).faulted k .index t ∧ s.onlyCarousels t) ∧
    ((s.seq k).state.away = true → index < s.carriersOf k → ∃ t, exec (.driveStatus h .faulted index target) s = .next t ∧
      (t.seq k).state = .fault ∧ (t.seq k).fault = some .drive ∧ (t.seq k).index = some index ∧ (t.seq k).move = none ∧
      (t.seq k).current = none ∧ (t.seq k).queue = (s.seq k).queue ∧ (t.seq k).queries = answeredQueries (s.seq k).queries ∧
      s.othersKept k t ∧ s.onlyCarousels t ∧
      (s.mgmt.notices.length < 64 → s.noticed (.carouselFault k .drive (some index) (s.seq k).state) t)) ∧
    ((s.seq k).state = .unconfigured → exec (.driveStatus h m index target) s = .next s.heard) ∧
    ((s.seq k).state = .manual ∨ (s.seq k).state = .disabled ∨ (s.seq k).state = .fault →
      (index < s.carriersOf k → exec (.driveStatus h m index target) s =
        .next ((s.heard.queriesAnswered k).modSeq k fun q => { q with index := some index })) ∧
      (s.carriersOf k ≤ index → exec (.driveStatus h m index target) s = .next s.heard))

/-- DRIVE_STATUS and MOVE_RETURN of a move that does not go as planned (R67, R68, R70, R77 to R79): a STILL short of the target
plans the move again toward the current task's carrier, or leaves the carousel IDLE with its task while no move is allowed,
and a second one in a row is a FAULT with cause SHORT, also while no move is allowed (log entry 88, DESIGN CHOICE); a MOVING status
toward another target is halted (log entry 17). A STOPPING carousel that is STILL is IDLE, and keeps its current task only after a curtain; an UNKNOWN one that is STILL is
IDLE. A carousel at rest that moves, or stands elsewhere, has lost its position and is UNKNOWN with a query. A MOVE returned
DAMAGED or LOST asks the drive for its status outside MOVING too, and one returned REFUSED outside MOVING and STOPPING changes
nothing (log entry 20). Every status answers the queries that stand, and a new one joins them (R68). In MOVING no query that a
DAMAGED or LOST MOVE asked for has returned yet here. -/
def Sys2Proof.Claims.DriveMotion : Prop :=
  ∀ (s : State) (h : Hdr) (k : Carousel) (index d : Nat), s.takes h → s.fe.ring = .up →
    s.disposal h 5 = .field .drive k.val false → index < s.carriersOf k → s.nodeOf .drive k.val = some d →
    s.fe.queue.length < 32 →
    let at_ (f : Seq → Seq) : State := (s.heard.queriesAnswered k).modSeq k fun q => f { q with index := some index }
    (∀ mv x, (s.seq k).state = .moving → (s.seq k).move = some mv → (s.seq k).currentTask = some x → index ≠ mv.target →
      (∀ y ∈ (s.seq k).queries, y.afterMove = true → y.deadline = none) →
      (∀ p target, (s.seq k).short = 0 → s.mayMove k → s.travelPlan k index x.carrier = .plan p →
        exec (.driveStatus h .still index target) s = .next ((s.heard.modFe fun e =>
            { e with queue := e.queue ++ [frameTo (.seq k) d (.move p.dir p.dist x.carrier p.speed)] }).modSeq k fun q =>
          { q with index := some index, queries := answeredQueries q.queries, current := some x.num, short := 1, built := none,
                   move := some { target := x.carrier, dir := p.dir, dist := p.dist, speed := p.speed, timeout := p.timeout,
                                  deadline := s.now + p.timeout * 100, resent := false, stop := none } })) ∧
      (∀ target, (s.seq k).short = 0 → ¬ s.mayMove k → s.mgmt.cell = .running → s.presentable k x = true →
        index ≠ x.carrier → exec (.driveStatus h .still index target) s =
          .next (at_ fun q => { q with state := .idle, move := none, built := none, short := 1 })) ∧
      (∀ target, (s.seq k).short ≠ 0 → ∃ t, exec (.driveStatus h .still index target) s = .next t ∧
        (at_ id).faulted k .short t ∧ s.onlyCarousels t) ∧
      (∀ target, target ≠ mv.target → exec (.driveStatus h .moving index target) s =
        .next ((s.heard.framed (.seq k) d (.halt false)).modSeq k fun q =>
          { q with index := some index, queries := answeredQueries q.queries, state := .stopping, move := some { mv with stop := some .other } }))) ∧
    (∀ mv target, (s.seq k).state = .stopping → (s.seq k).move = some mv →
      exec (.driveStatus h .moving index target) s = .next (at_ id) ∧
      (∀ x, mv.stop = some .curtain → (s.seq k).curtain ≠ .clear → s.mgmt.cell = .running → (s.seq k).currentTask = some x →
        s.presentable k x = true → index ≠ x.carrier → exec (.driveStatus h .still index target) s =
          .next (at_ fun q => { q with state := .idle, move := none, built := none })) ∧
      (mv.stop ≠ some .curtain → (s.seq k).queue.find? (s.presentable k) = none →
        exec (.driveStatus h .still index target) s =
          .next (at_ fun q => { q with state := .idle, move := none, built := none, current := none, short := 0 }))) ∧
    (∀ target, (s.seq k).state = .unknown →
      exec (.driveStatus h .moving index target) s = .next (at_ id) ∧
      ((s.seq k).queue.find? (s.presentable k) = none → exec (.driveStatus h .still index target) s =
        .next (at_ fun q => { q with state := .idle, move := none, built := none, current := none, short := 0 }))) ∧
    (∀ m target, (s.seq k).state = .idle ∨ (s.seq k).state = .ready →
      (m = .moving ∨ (m = .still ∧ (s.seq k).index ≠ some index)) →
      exec (.driveStatus h m index target) s = .next ((s.heard.modFe fun e =>
          { e with queue := e.queue ++ [frameTo (.seq k) d (.statusQuery (s.seq k).asked)] }).postAll
            (if (s.seq k).state = .ready then (s.stationOf k).toList.map (fun i => .notReadyReport i k) else []) |>.modSeq k fun q =>
          Seq.ask false { q with state := .unknown, index := some index, fault := none, move := none, built := none,
                                 current := none, short := 0, queries := answeredQueries q.queries })) ∧
    (∀ target, (s.seq k).state = .idle ∨ (s.seq k).state = .ready ∨ (s.seq k).state = .presenting →
      (s.seq k).index = some index → exec (.driveStatus h .still index target) s = .next (at_ id)) ∧
    (∀ fate, fate = .damaged ∨ fate = .lost → (s.seq k).state ≠ .moving → (s.seq k).state ≠ .unconfigured →
      exec (.moveReturn k fate) s = .next ((s.begun.modFe fun e =>
        { e with queue := e.queue ++ [frameTo (.seq k) d (.statusQuery (s.seq k).asked)] }).modSeq k (Seq.ask false))) ∧
    ((s.seq k).state ≠ .moving → (s.seq k).state ≠ .stopping → exec (.moveReturn k .refused) s = .next s.begun)

/-- DRIVE_STATUS of a MOVING carousel after a DAMAGED or LOST MOVE, whose STATUS-QUERY is out (R78, R79), by the table of R79 once
the query's return has started the round time: MOVING toward the target, the move goes on; toward another, it is halted with stop
cause OTHER; STILL at the target, it is complete; STILL elsewhere, it is planned again and sent once more with its deadline
unchanged and the resent mark set, or, while no move is allowed, the carousel is IDLE with its task, and with the mark set it is a
FAULT with cause LINK. A STILL status before the query's return is taken by R78, and the query counts as answered, as every other
query that stands does (log entry 18, DEDUCED). -/
def Sys2Proof.Claims.MoveAnswers : Prop :=
  ∀ (s : State) (h : Hdr) (k : Carousel) (mv : Move) (x : Task) (index d : Nat), s.takes h →
    s.fe.ring = .up → s.disposal h 5 = .field .drive k.val false → index < s.carriersOf k → s.nodeOf .drive k.val = some d →
    s.fe.queue.length < 32 → (s.seq k).state = .moving → (s.seq k).move = some mv → (s.seq k).currentTask = some x →
    mv.target < s.carriersOf k → (∃ y ∈ (s.seq k).queries, y.afterMove = true) →
    let returned : Prop := ∃ y ∈ (s.seq k).queries, y.afterMove = true ∧ y.deadline ≠ none
    let at_ (j : Nat) (f : Seq → Seq) : State := (s.heard.queriesAnswered k).modSeq k fun q => f { q with index := some j }
    let sends (p : Plan) (short due : Nat) (resent : Bool) : State := ((s.heard.queriesAnswered k).modFe fun e =>
        { e with queue := e.queue ++ [frameTo (.seq k) d (.move p.dir p.dist x.carrier p.speed)] }).modSeq k fun q =>
      { q with index := some index, current := some x.num, short := short, built := none,
               move := some { target := x.carrier, dir := p.dir, dist := p.dist, speed := p.speed, timeout := p.timeout,
                              deadline := due, resent := resent, stop := none } }
    let fails (cause : FaultCause) : Prop := ∀ target, ∃ t, exec (.driveStatus h .still index target) s = .next t ∧
      (at_ index id).faulted k cause t ∧ s.onlyCarousels t
    (∀ target, exec (.driveStatus h .still mv.target target) s =
      .next ((at_ mv.target fun q => { q with state := .ready, current := some x.num, move := none, built := none,
                                              short := 0 }).postAll ((s.stationOf k).toList.map fun i => .readyReport i k))) ∧
    (returned →
      exec (.driveStatus h .moving index mv.target) s = .next (at_ index id) ∧
      (∀ target, target ≠ mv.target → exec (.driveStatus h .moving index target) s =
        .next (((s.heard.queriesAnswered k).framed (.seq k) d (.halt false)).modSeq k fun q =>
          { q with index := some index, state := .stopping, move := some { mv with stop := some .other } })) ∧
      (index ≠ mv.target → mv.resent = false →
        (∀ p target, s.mayMove k → s.travelPlan k index x.carrier = .plan p →
          exec (.driveStatus h .still index target) s = .next (sends p (s.seq k).short mv.deadline true)) ∧
        (∀ target, ¬ s.mayMove k → s.mgmt.cell = .running → s.presentable k x = true → index ≠ x.carrier →
          exec (.driveStatus h .still index target) s =
            .next (at_ index fun q => { q with state := .idle, move := none, built := none }))) ∧
      (index ≠ mv.target → mv.resent = true → fails .link)) ∧
    (¬ returned →
      (index ≠ mv.target → (s.seq k).short = 0 → ∀ p target, s.mayMove k → s.travelPlan k index x.carrier = .plan p →
        exec (.driveStatus h .still index target) s = .next (sends p 1 (s.now + p.timeout * 100) false)) ∧
      (index ≠ mv.target → (s.seq k).short ≠ 0 → fails .short))

/-- Drive statuses, the answer to the query after a damaged or lost MOVE among them, and the returns of MOVE frames outside MOVING
(R67, R68, R70, R77 to R79, R82, R91). -/
def Obligations.DriveStatuses : Prop :=
  Claims.MoveCompletes ∧ Claims.DriveFaults ∧ Claims.DriveMotion ∧ Claims.MoveAnswers

/-- STATUS_QUERY_RETURN and QUERY_ROUND_EXPIRY (R68): each query is judged by the return of its own frame, here numbered `n`, and no
other query's record changes. One that is ACCEPTED is answered within the round time that its return starts; one REFUSED, DAMAGED
or LOST, or without a status in that time, puts the carousel in FAULT with cause LINK, unless it is MANUAL or DISABLED (or
UNCONFIGURED, or in FAULT already) by then; one with a status taken since it was handed over ends quietly. The expiry is that of the
query whose round time ends before every other's. A status settles the queries that have returned and marks every other one
answered (log entry 18, DEDUCED). -/
def Sys2Proof.Claims.QueryFates : Prop :=
  (∀ (qs : List Query) (y : Query), y ∈ answeredQueries qs ↔ ∃ x ∈ qs, x.deadline = none ∧ y = { x with answered := true }) ∧
  ∀ (s : State) (k : Carousel) (n : Nat), s.resetLow = false →
    let spared : Prop := (s.seq k).state = .manual ∨ (s.seq k).state = .disabled ∨ (s.seq k).state = .unconfigured ∨
      (s.seq k).state = .fault
    let timed (x : Query) : Query := if x.num = n then { x with deadline := some (s.now + s.mgmt.timers.round) } else x
    exec (.statusQueryReturn { car := k, num := n } .accepted) s =
      .next (s.begun.modSeq k fun q => { q with queries := q.queries.map timed }) ∧
    (∀ fate, fate ≠ .accepted →
      ((s.seq k).state.away = true → ∃ t, exec (.statusQueryReturn { car := k, num := n } fate) s = .next t ∧
        (s.withoutQuery k n).faulted k .link t ∧ s.onlyCarousels t) ∧
      (spared → exec (.statusQueryReturn { car := k, num := n } fate) s = .next (s.begun.withoutQuery k n))) ∧
    (∀ x d, x ∈ (s.seq k).queries → x.deadline = some d →
      (∀ y ∈ (s.seq k).queries, y ≠ x → ∀ e, y.deadline = some e → d < e) →
      (x.answered = true ∨ spared → exec (.queryRoundExpiry k) s = .next ((s.begun.reach d).withoutQuery k x.num)) ∧
      (x.answered = false → (s.seq k).state.away = true → ∃ t, exec (.queryRoundExpiry k) s = .next t ∧
        (s.withoutQuery k x.num).faulted k .link t ∧ t.now = max s.now d ∧ s.onlyCarousels { t with now := s.now }))

/-- MOVE_RETURN, MOVE_TIMEOUT and HALT_RETURN (R79, R80, R83): an ACCEPTED MOVE goes on; a REFUSED one puts a MOVING or STOPPING
carousel in FAULT with cause DRIVE; a DAMAGED or LOST one asks the drive for its status; the timeout puts it in FAULT with
cause TIMEOUT, after an urgent HALT when it was MOVING; the HALT that answers a missing report puts a STOPPING carousel in
FAULT with cause LINK unless it is ACCEPTED. -/
def Sys2Proof.Claims.MoveFates : Prop :=
  ∀ (s : State) (k : Carousel) (mv : Move) (d : Nat), s.resetLow = false → (s.seq k).move = some mv →
    s.nodeOf .drive k.val = some d → s.fe.queue.length < 32 →
    (exec (.moveReturn k .accepted) s = .next s.begun) ∧
    ((s.seq k).state = .moving ∨ (s.seq k).state = .stopping →
      ∃ t, exec (.moveReturn k .refused) s = .next t ∧ s.faulted k .drive t ∧ s.onlyCarousels t) ∧
    (∀ fate, fate = .damaged ∨ fate = .lost → (s.seq k).state = .moving →
      exec (.moveReturn k fate) s = .next ((s.begun.modFe fun e =>
        { e with queue := e.queue ++ [frameTo (.seq k) d (.statusQuery (s.seq k).asked)] }).modSeq k (Seq.ask true))) ∧
    ((s.seq k).state = .moving → ∃ t, exec (.moveTimeout k) s = .next t ∧ s.faulted k .timeout t ∧ t.now = max s.now mv.deadline ∧
      frameTo (.seq k) d (.halt false) ∈ t.fe.queue ∧ s.onlyCarousels { t with now := s.now }) ∧
    ((s.seq k).state = .stopping → ∃ t, exec (.moveTimeout k) s = .next t ∧ s.faulted k .timeout t ∧
      t.now = max s.now mv.deadline ∧ s.onlyCarousels { t with now := s.now }) ∧
    ((s.seq k).state = .stopping → exec (.haltReturn k .accepted) s = .next s.begun ∧
      ∀ fate, fate ≠ .accepted → ∃ t, exec (.haltReturn k fate) s = .next t ∧ s.faulted k .link t ∧ s.onlyCarousels t)

/-- The fates of the frames to a drive (R68, R79). -/
def Obligations.DriveFrameFates : Prop :=
  Claims.QueryFates ∧ Claims.MoveFates

/-- CURTAIN_BROKEN, CURTAIN_CLEAR and CURTAIN_SETTLE_EXPIRY (R77, R81): a broken curtain of a MOVING carousel whose MOVE frame
has left the part sends an urgent HALT and makes it STOPPING with cause CURTAIN; in a state other than MOVING and IDLE it is
recorded alone. A clear curtain settles for 1 s before it counts as CLEAR, here of a carousel that is not IDLE. -/
def Sys2Proof.Claims.Curtains : Prop :=
  ∀ (s : State) (k : Carousel), s.resetLow = false →
    (∀ d mv, (s.seq k).state = .moving → (s.seq k).move = some mv → s.fe.queue.any (isFrameOf (.seq k) 1) = false →
      s.nodeOf .drive k.val = some d → s.fe.queue.length < 32 → ∀ unseen,
      exec (.curtainBroken k unseen) s = .next ((s.begun.modFe fun e =>
        { e with queue := joinQueue (frameTo (.seq k) d (.halt false)) e.queue }).modSeq k fun q =>
          { q with state := .stopping, curtain := if unseen then .unseen else .broken, settle := none,
                   move := some { mv with stop := some .curtain } })) ∧
    ((s.seq k).state ≠ .moving → (s.seq k).state ≠ .idle → ∀ unseen,
      exec (.curtainBroken k unseen) s = .next (s.begun.modSeq k fun q =>
        { q with curtain := if unseen then .unseen else .broken, settle := none })) ∧
    ((s.seq k).curtain = .broken ∨ (s.seq k).curtain = .unseen →
      exec (.curtainClear k) s = .next (s.begun.modSeq k fun q =>
        { q with curtain := .settling, settle := some (s.now + 1000) })) ∧
    (∀ d, (s.seq k).curtain = .settling → (s.seq k).settle = some d → (s.seq k).state ≠ .idle →
      exec (.curtainSettleExpiry k) s = .next ((s.begun.reach d).modSeq k fun q => { q with curtain := .clear, settle := none }))

/-- DRIVE_MISSING_REPORT and SPEED_CLASS_REPORT (R83, R76): a STOPPING carousel whose drive is missing from the answer of the
HALT to G0 sends a HALT of its own, and with no drive in the node map goes to FAULT with cause LINK (log entry 19, DEDUCED); in
any other state the report changes nothing. A speed class that changes while no built MOVE frame waits changes no move; a built
frame that waits is discarded and planned again, with the class that the Balance Unit then holds, while a move is allowed
(R76). -/
def Sys2Proof.Claims.MissingDrives : Prop :=
  ∀ (s : State) (k : Carousel), s.resetLow = false →
    (∀ d, (s.seq k).state = .stopping → s.nodeOf .drive k.val = some d → s.fe.queue.length < 32 →
      exec (.driveMissingReport k) s = .next (s.begun.modFe fun e =>
        { e with queue := joinQueue (frameTo (.seq k) d (.halt true)) e.queue })) ∧
    ((s.seq k).state = .stopping → s.nodeOf .drive k.val = none →
      ∃ t, exec (.driveMissingReport k) s = .next t ∧ s.faulted k .link t ∧ s.onlyCarousels t) ∧
    ((s.seq k).state ≠ .stopping → exec (.driveMissingReport k) s = .next s.begun) ∧
    (∀ speed, (s.seq k).built = none → exec (.speedClassReport k speed) s = .next s.begun) ∧
    (∀ speed m x j, (s.seq k).state = .idle → (s.seq k).built = some m → (s.seq k).currentTask = some x →
      s.presentable k x = true → (s.seq k).index = some j → j ≠ x.carrier →
      (¬ s.mayMove k → exec (.speedClassReport k speed) s = .next (s.begun.modSeq k fun q => { q with built := none })) ∧
      (∀ p d, s.mayMove k → s.travelPlan k j x.carrier = .plan p → s.nodeOf .drive k.val = some d → s.fe.queue.length < 32 →
        exec (.speedClassReport k speed) s = .next ((s.begun.modFe fun e =>
          { e with queue := e.queue ++ [frameTo (.seq k) d (.move p.dir p.dist x.carrier p.speed)] }).modSeq k fun q =>
            { q with state := .moving, built := none,
                     move := some { target := x.carrier, dir := p.dir, dist := p.dist, speed := p.speed, timeout := p.timeout,
                                    deadline := m.resent.getD (s.now + p.timeout * 100), resent := m.resent.isSome,
                                    stop := none } })))

/-- The carousel curtains and drives that a group frame did not reach (R81, R175). -/
def Obligations.CurtainsAndHalts : Prop :=
  Claims.Curtains ∧ Claims.MissingDrives


/-! ## Tasks of a carousel -/

/-- NEW_RESERVATION (R71, R72): a reservation for a carrier whose PICK task (not the granted one) holds fewer than 8 picks joins it,
and where the lowest class among the orders of its live picks is then another the task goes to the place that its class and
arrival number give; with no PICK task for the carrier and fewer than 16 tasks a new PICK task of the order's class is placed by
R71; in both cases it is reported joined; otherwise it joins the end of the held list. The carousel here is not IDLE, so that no
choice follows. -/
def Sys2Proof.Claims.NewReservations : Prop :=
  ∀ (s : State) (k : Carousel) (r : ResId) (a c n : Nat) (cls : Sys2Proof.Class), s.resetLow = false → (s.seq k).state ≠ .idle →
    let new : Pick := { res := r, order := a, cls := cls, remaining := n, struck := false }
    (∀ x ps y low, (s.seq k).taskFor .pick c = some x → x.body = .pick ps → ps.length < 8 → (s.seq k).isGranted x = false →
      y = { x with body := .pick (ps ++ [new]) } → (∃ p ∈ ps ++ [new], p.struck = false ∧ p.cls = low) →
      (∀ p ∈ ps ++ [new], p.struck = false → low ≤ p.cls) →
      exec (.newReservation k r c n ⟨a, cls⟩) s = .next ((s.begun.modSeq k fun q =>
        { q with queue := (if low = x.cls then q.queue.map fun u => if u.num = x.num then y else u
                           else placeTask { y with cls := low } (withoutTask x.num q.queue)) }).post (.reservationJoined r))) ∧
    ((s.seq k).taskFor .pick c = none → (s.seq k).queue.length < 16 →
      exec (.newReservation k r c n ⟨a, cls⟩) s = .next ((s.begun.modSeq k fun q =>
        { q with arrivals := q.arrivals + 1,
                 queue := placeTask { num := q.arrivals, cls := cls, carrier := c, body := .pick [new] } q.queue }).post
        (.reservationJoined r))) ∧
    (((s.seq k).taskFor .pick c = none ∧ 16 ≤ (s.seq k).queue.length) ∨
        (∃ x, (s.seq k).taskFor .pick c = some x ∧ 8 ≤ x.picks.length) →
      exec (.newReservation k r c n ⟨a, cls⟩) s = .next (s.begun.modSeq k fun q =>
        { q with held := q.held ++ [{ res := r, order := a, carrier := c, count := n, cls := cls }] }))

/-- PUT_OFFER and AUDIT_OFFER to a carousel that is not IDLE (R72): an offer for an excluded carrier or on a DISABLED carousel is
answered EXCLUDED, as is one for a carrier that does not exist (log entry 23, DEDUCED), a second PUT task for a carrier
DUPLICATE, as is a second AUDIT task (R71; the answer is log entry 84, DEDUCED), and an offer to a queue of 16 tasks FULL, each
changing nothing; any other offer is placed and answered taken. -/
def Sys2Proof.Claims.TaskOffers : Prop :=
  ∀ (s : State) (k : Carousel) (c lot n : Nat) (cls : Sys2Proof.Class) (i : Station) (blind : Bool), s.resetLow = false →
    (s.seq k).state ≠ .idle →
    (s.closedTo k c = true → exec (.putOffer k c lot n cls i) s = .next (s.begun.ans .excluded) ∧
      exec (.auditOffer k c blind cls) s = .next (s.begun.ans .excluded)) ∧
    (s.closedTo k c = false → ((s.seq k).taskFor .put c).isSome = true →
      exec (.putOffer k c lot n cls i) s = .next (s.begun.ans .duplicate)) ∧
    (s.closedTo k c = false → ((s.seq k).taskFor .audit c).isSome = true →
      exec (.auditOffer k c blind cls) s = .next (s.begun.ans .duplicate)) ∧
    (s.closedTo k c = false → (s.seq k).taskFor .put c = none → 16 ≤ (s.seq k).queue.length →
      exec (.putOffer k c lot n cls i) s = .next (s.begun.ans .full)) ∧
    (s.closedTo k c = false → (s.seq k).taskFor .audit c = none → 16 ≤ (s.seq k).queue.length →
      exec (.auditOffer k c blind cls) s = .next (s.begun.ans .full)) ∧
    (s.closedTo k c = false → (s.seq k).taskFor .put c = none → (s.seq k).queue.length < 16 →
      exec (.putOffer k c lot n cls i) s = .next ((s.begun.modSeq k fun q =>
        { q with arrivals := q.arrivals + 1,
                 queue := placeTask { num := q.arrivals, cls := cls, carrier := c, body := .put lot n n i } q.queue }).ans .taken)) ∧
    (s.closedTo k c = false → (s.seq k).taskFor .audit c = none → (s.seq k).queue.length < 16 →
      exec (.auditOffer k c blind cls) s = .next ((s.begun.modSeq k fun q =>
        { q with arrivals := q.arrivals + 1,
                 queue := placeTask { num := q.arrivals, cls := cls, carrier := c, body := .audit blind } q.queue }).ans .taken))

/-- The queue's order (R71): a queue in order of class and, within a class, of arrival number stays so when a PICK or PUT task
is placed in it with a number above those that stand there, and holds that task with those that stood there. -/
def Sys2Proof.Claims.QueueOrder : Prop :=
  ∀ (x : Task) (q : List Task), x.kind ≠ .audit → q.Pairwise (fun a b => Task.behind a b = true) → (∀ y ∈ q, y.num < x.num) →
    (placeTask x q).Pairwise (fun a b => Task.behind a b = true) ∧ (placeTask x q).Perm (x :: q)

/-- An AUDIT task whose carrier's PUT task stands later than its own place by class and arrival is placed directly behind that
PUT task (R72). -/
def Sys2Proof.Claims.AuditBehindPut : Prop :=
  ∀ (x y : Task) (before after : List Task), x.kind = .audit → y.kind = .put → y.carrier = x.carrier →
    (∀ z ∈ before, Task.is .put x.carrier z = false) →
    (∃ z ∈ before ++ [y], Task.behind x z = true) →
    placeTask x (before ++ y :: after) = before ++ y :: x :: after

/-- The order of a task queue, and the one departure from it (R71, R72). -/
def Obligations.TaskQueueOrder : Prop :=
  Claims.QueueOrder ∧ Claims.AuditBehindPut

/-- The choice of an IDLE carousel (R75, R76), through STATION_STATE_REPORT of its open station: with no presentable task it stays
IDLE without a current task; with its index at the first presentable task's carrier it becomes READY with it in every cell
state but LOADING; otherwise, when a move is allowed, the MOVE frame of the travel plan is queued and the carousel is MOVING
toward it, with the timeout of the plan; when none is, it stays IDLE and no task is current. A task is presentable unless it is a
PICK task of an AUDIT-LOCKED carrier. -/
def Obligations.TaskChoice : Prop :=
  ∀ (s : State) (k : Carousel) (i : Station), s.resetLow = false → (s.seq k).state = .idle → (s.seq k).current = none →
    (s.seq k).built = none → s.stationOf k = some i →
    ((s.seq k).queue.find? (s.presentable k) = none →
      exec (.stationStateReport k true) s = .next (s.begun.modSeq k fun q => { q with short := 0 })) ∧
    (∀ x, s.presentable k x = true ↔ (x.kind = .pick → s.carrierState k x.carrier ≠ some .auditLocked)) ∧
    (∀ x, (s.seq k).queue.find? (s.presentable k) = some x → (s.seq k).taskNum x.num = some x →
      ((s.seq k).index = some x.carrier → s.mgmt.cell ≠ .loading →
        exec (.stationStateReport k true) s = .next ((s.begun.modSeq k fun q =>
          { q with state := .ready, current := some x.num, move := none, short := 0 }).post (.readyReport i k))) ∧
      (∀ j, (s.seq k).index = some j → j ≠ x.carrier → ¬ s.mayMove k →
        exec (.stationStateReport k true) s = .next (s.begun.modSeq k fun q => { q with short := 0 })) ∧
      (∀ j p d, (s.seq k).index = some j → j ≠ x.carrier → s.mayMove k → s.travelPlan k j x.carrier = .plan p →
        s.nodeOf .drive k.val = some d → s.fe.queue.length < 32 →
        exec (.stationStateReport k true) s = .next ((s.begun.modFe fun e =>
          { e with queue := e.queue ++ [frameTo (.seq k) d (.move p.dir p.dist x.carrier p.speed)] }).modSeq k fun q =>
            { q with state := .moving, current := some x.num, short := 0,
                     move := some { target := x.carrier, dir := p.dir, dist := p.dist, speed := p.speed, timeout := p.timeout,
                                    deadline := s.now + p.timeout * 100, resent := false, stop := none } })))

/-- STATION_BAY_REPORT (R66, R95): the carousel records its station and bay, and one without a station counts its curtain as
unseen (log entry 22, DEDUCED). -/
def Sys2Proof.Claims.StationBays : Prop :=
  ∀ (s : State) (k : Carousel) (i : Station) (b : Bay), s.resetLow = false → (s.seq k).state ≠ .idle →
    exec (.stationBayReport k (some (i, b))) s = .next (s.begun.modSeq k fun q => { q with place := some (i, b) }) ∧
    exec (.stationBayReport k none) s =
      .next (s.begun.modSeq k fun q => { q with place := none, curtain := .unseen, settle := none })

/-- PICK_NEW_COUNT, PICK_DROP, PICK_STRUCK and PICK_TAKEN_REPORT (R73) for a reservation that no task holds: its entry of the
held list takes the new count, which is the smaller of the reported one and that of the reservation while it is in the pool
(log entry 12), or leaves the list. -/
def Sys2Proof.Claims.HeldListChanges : Prop :=
  ∀ (s : State) (k : Carousel) (r : ResId) (n m : Nat) (why : Cause), s.resetLow = false → (s.seq k).taskOf r = none →
    ((∃ x, s.resOf r = some x ∧ m = min n x.count) ∨ (s.resOf r = none ∧ m = n)) →
    exec (.pickNewCount k r ⟨n, why⟩) s = .next (s.begun.modSeq k fun q =>
      { q with held := q.held.map fun e => if e.res = r then { e with count := m } else e }) ∧
    exec (.pickDrop k r) s = .next (s.begun.modSeq k fun q => { q with held := q.held.filter fun i => !(i.res = r) }) ∧
    exec (.pickStruck k ⟨r, why⟩) s = .next (s.begun.modSeq k fun q => { q with held := q.held.filter fun i => !(i.res = r) }) ∧
    exec (.pickTakenReport k r) s = .next s.begun

/-- PICK_NEW_COUNT, PICK_STRUCK and PICK_TAKEN_REPORT on a pick of the granted task (R73, R111, R114, R115), while another open pick
keeps the task: the remaining count changes (log entry 12), or the struck mark is set, and the view of the station that holds the
grant follows in the same step, also when another count reached the pick before. A pick that an ACCEPT struck is shown as
substituted and one that a SHORT struck as short; any other strike shows "do not pick", with the message. The task keeps its
class and its place, since no pick joins or leaves it (R71; log entry 80, DEDUCED). -/
def Sys2Proof.Claims.GrantedPickChanges : Prop :=
  ∀ (s : State) (k : Carousel) (r : ResId) (y : Reservation) (n : Nat) (i : Station) (x : Task) (ps : List Pick) (v : TaskView)
    (vs : List ViewPick) (why : Cause), s.resetLow = false →
    s.resOf r = some y → (s.seq k).taskOf r = some x → (s.seq k).granted = some x → x.body = .pick ps →
    s.grantedBy k = some i → (s.stn i).grant = .held k v → v.body = .pick vs →
    ((s.seq k).queue.map (·.num)).Nodup →
    (∃ p ∈ ps, p.res ≠ r ∧ p.opened = true) →
    let with_ (f : Pick → Pick) : Seq := { s.seq k with
      queue := (s.seq k).queue.map fun u => if u.num = x.num then { x with body := .pick (modPick r f ps) } else u }
    let shows (c : Instr) (f : Pick → Pick) (g : ViewPick → ViewPick) (m : Option Message) : Prop :=
      ∃ t, exec c s = .next t ∧ t.seq k = with_ f ∧ s.othersKept k t ∧
        s.stationIs i { s.stn i with
          grant := .held k { v with body := .pick (vs.map fun p => if p.res = r then g p else p) }, message := m } t ∧
        s.mail <+: t.mail ∧ t = { s.begun with seqs := t.seqs, stations := t.stations, fe := t.fe, mail := t.mail }
    shows (.pickNewCount k r ⟨n, why⟩) (fun p => { p with remaining := min n y.count })
      (fun p => { p with remaining := min n y.count, shorted := (if why = .short then false else p.shorted),
                         mark := (if p.mark = .finished ∧ min n y.count ≠ 0 then .opened
                                  else if p.mark = .opened ∧ min n y.count = 0 then .finished else p.mark) })
      (s.stn i).message ∧
    shows (.pickStruck k ⟨r, .accept⟩) (fun p => { p with struck := true }) (fun p => { p with mark := .substituted })
      (s.stn i).message ∧
    shows (.pickStruck k ⟨r, .short⟩) (fun p => { p with struck := true }) (fun p => { p with mark := .short })
      (s.stn i).message ∧
    shows (.pickStruck k ⟨r, .other⟩) (fun p => { p with struck := true }) (fun p => { p with mark := .doNotPick })
      (if vs.any (fun p => p.res = r) = true then some .doNotPick else (s.stn i).message) ∧
    exec (.pickTakenReport k r) s =
      .next (s.begun.modSeq k fun _ => with_ fun p => { p with remaining := p.remaining - 1 })

/-- PUT_TAKEN_REPORT (R85, R108): one tyre fewer remains on the carrier's PUT task while more than one did. -/
def Sys2Proof.Claims.PutTaken : Prop :=
  ∀ (s : State) (k : Carousel) (c lot n m : Nat) (i : Station) (x : Task), s.resetLow = false →
    (s.seq k).taskFor .put c = some x → x.body = .put lot n m i → 2 ≤ m →
    exec (.putTakenReport k c) s = .next (s.begun.modSeq k fun q => { q with queue := q.queue.map fun u =>
      if u.num = x.num then { x with body := .put lot n (m - 1) i } else u })

/-- The counts of held reservations, picks and puts as tyres are taken, reduced and struck (R52, R72, R73). -/
def Obligations.PicksAndPuts : Prop :=
  Claims.HeldListChanges ∧ Claims.GrantedPickChanges ∧ Claims.PutTaken

/-- AUDIT_REQUEUE, AUDIT_TASK_RECLASS, TASK_REMOVE_REQUEST and AUDIT_APPLIED_REPORT on an AUDIT task that is not current, of a
carousel that is not IDLE (R85, R153, R157, R163): with a PUT task for its carrier it is placed again by R72 with its arrival
number and answered as moved; a merged request's class and blind flag place it again by class and arrival number, and behind that PUT task when it stood
behind it; a removal takes it out of a queue whose
held list is empty, and the place that frees is reported. -/
def Sys2Proof.Claims.AuditTaskChanges : Prop :=
  ∀ (s : State) (k : Carousel) (c : Nat) (x : Task), s.resetLow = false → (s.seq k).state ≠ .idle →
    (s.seq k).taskFor .audit c = some x → (s.seq k).current ≠ some x.num →
    (((s.seq k).taskFor .put c).isSome = true →
      exec (.auditRequeue k c) s = .next ((s.begun.modSeq k fun q =>
        { q with queue := placeTask x (withoutTask x.num q.queue) }).ans .moved)) ∧
    (∀ (cls : Sys2Proof.Class) (blind : Bool) (y : Task), y = { x with cls := cls, body := .audit blind } →
      exec (.auditTaskReclass k c cls blind) s = .next (s.begun.modSeq k fun q =>
        let rest := withoutTask x.num q.queue
        { q with queue := if behindPut x q.queue then placeTask y rest else insertAt (placeByClass y rest) y rest })) ∧
    ((s.seq k).held = [] → (withoutTask x.num (s.seq k).queue).length < 16 →
      let t := (s.begun.modSeq k fun q => { q with queue := withoutTask x.num q.queue }).postAll
        ((s.stationOf k).toList.map (fun i => .placeReport i k) ++ [.auditPlaceReport k])
      exec (.taskRemoveRequest k c) s = .next t ∧ exec (.auditAppliedReport k c) s = .next t)

/-- GRANT and GRANT_ANSWER (R84, R100): a READY carousel with a current task accepts the grant that its station OFFERs: it is
PRESENTING, the owner of its task is told, the station HOLDs its view and the attention timer runs; nothing changes but the
carousel, its station, the display's frame and the reports. The station's scan queue is empty here and no lock stands. -/
def Sys2Proof.Claims.GrantAccepted : Prop :=
  ∀ (s : State) (k : Carousel) (i : Station) (x : Task), s.resetLow = false →
    (∀ l : Station, (s.stn l).offeree = some k ↔ l = i) → (s.seq k).state = .ready → (s.seq k).currentTask = some x →
    (s.stn i).queue = [] → (s.stn i).lock = none → s.mgmt.timers.attention ≠ 0 →
    ∀ c : Instr, c = .grant k ∨ c = .grantAnswer i k (some (s.taskView k x)) →
    ∃ t, exec c s = .next t ∧ t.seq k = { s.seq k with state := .presenting } ∧ s.othersKept k t ∧
      (s.mail ++ grantedReports k x) <+: t.mail ∧
      (t.stn i).grant = .held k (s.taskView k x) ∧
      (t.stn i).timer = .running (s.now + s.mgmt.timers.attention * 100) ∧ (t.stn i).queue = [] ∧ s.stationsKept i t ∧
      t = { s.begun with seqs := t.seqs, stations := t.stations, fe := t.fe, mail := t.mail }

/-- GRANT_WITHDRAWAL, GRANT_WITHDRAWAL_REPORT and ATTENTION_TIMEOUT (R85, R101, R102): a PRESENTING carousel returns to READY and keeps its current task,
each live unfinished pick is reported withdrawn, and its station HOLDs no grant; a PUT or AUDIT task stays in the queue as it
stands. The station's scan queue and group buffer are empty here, and no reservation waits in the held list. -/
def Sys2Proof.Claims.GrantWithdrawn : Prop :=
  ∀ (s : State) (k : Carousel) (i : Station) (x : Task) (v : TaskView), s.resetLow = false →
    (s.seq k).state = .presenting → (s.seq k).currentTask = some x → (s.seq k).held = [] →
    ((s.seq k).queue.map (·.num)).Nodup →
    s.grantedBy k = some i → (s.stn i).grant = .held k v → (s.stn i).group = [] → (s.stn i).queue = [] →
    ∀ c : Instr, c = .grantWithdrawal k ∨ c = .grantWithdrawalReport i k ∨
        (c = .attentionTimeout i ∧ ∃ d, (s.stn i).timer = .running d) →
    ∃ t, exec c s = .next t ∧ (t.seq k).state = .ready ∧ (t.seq k).current = some x.num ∧
      (∀ p ∈ x.picks, p.opened = true → .reservationWithdrawn p.res ∈ t.mail) ∧
      (x.kind ≠ .pick → t.seq k = { s.seq k with state := .ready }) ∧ s.othersKept k t ∧
      (t.stn i).holder = none ∧ (t.stn i).timer = .stopped ∧ (t.stn i).ready = (s.stn i).ready ∧ s.stationsKept i t ∧
      (c ≠ .attentionTimeout i → t.now = s.now) ∧
      (∀ d, c = .attentionTimeout i → (s.stn i).timer = .running d → t.now = max s.now d) ∧
      t = { s.begun with now := t.now, seqs := t.seqs, stations := t.stations, fe := t.fe, mail := t.mail }

/-- A grant's start and its withdrawal (R84, R85, R100, R102, R117). -/
def Obligations.Grants : Prop :=
  Claims.GrantAccepted ∧ Claims.GrantWithdrawn

/-- EARLY_CONFIRM and TASK_END_REPORT of a granted PUT task (R85, R101, R113): the task leaves the queue, the station's grant
ends with TASK-DONE, and the carousel, with nothing else to do, is IDLE without a current task; an early confirm gives the
remaining count back by return-incoming and answers it. -/
def Sys2Proof.Claims.PutTaskEnds : Prop :=
  ∀ (s : State) (k : Carousel) (i : Station) (x : Task) (v : TaskView) (lot n m : Nat) (j : Station), s.resetLow = false →
    (s.seq k).state = .presenting → (s.seq k).currentTask = some x → (s.seq k).queue = [x] → x.body = .put lot n m j →
    (s.seq k).held = [] → s.grantedBy k = some i → (s.stn i).grant = .held k v → (s.stn i).group = [] →
    (s.stn i).mode = .every → (s.stn i).queue = [] → s.mgmt.notices.length < 64 →
    (∃ t, exec (.earlyConfirm k) s = .next t ∧ t.answer = .remaining m ∧ (t.seq k).state = .idle ∧ (t.seq k).queue = [] ∧
      (t.seq k).current = none ∧ s.othersKept k t ∧ (t.stn i).holder = none ∧ s.stationsKept i t ∧
      t.lots = (returnIncomingEntry k x.carrier lot m s).1.lots ∧
      t.stock = (returnIncomingEntry k x.carrier lot m s).1.stock ∧
      s.noticed (.taskDone i k v.carrier (viewKind v) .confirmed) t) ∧
    (∀ outcome, ∃ t, exec (.taskEndReport i k v.carrier (viewKind v) outcome) s = .next t ∧ (t.seq k).state = .idle ∧
      (t.seq k).queue = [] ∧ (t.seq k).current = none ∧ s.othersKept k t ∧ (t.stn i).holder = none ∧ s.stationsKept i t ∧
      t.lots = s.lots ∧ t.stock = s.stock ∧ s.noticed (.taskDone i k v.carrier (viewKind v) outcome) t)

/-- EARLY_CONFIRM of a granted PICK task (R85, R113), alone in its queue: its unfinished live picks form a new PICK task with the
next arrival number and are reported withdrawn, the old task leaves the queue, the grant ends with TASK-DONE, outcome CONFIRMED,
and the carousel, whose index is at the carrier of the new task and that carrier not AUDIT-LOCKED, is READY with it. Nothing is
given back, so that the count answered is 0. -/
def Sys2Proof.Claims.PickTaskEnds : Prop :=
  ∀ (s : State) (k : Carousel) (i : Station) (x y : Task) (v : TaskView) (vs : List ViewPick), s.presents k i x v →
    (s.seq k).queue = [x] → v.body = .pick vs → s.restOfPicks k x y → x.num < (s.seq k).arrivals →
    (s.seq k).index = some x.carrier → s.carrierState k x.carrier ≠ some .auditLocked → s.mgmt.cell ≠ .loading →
    ∃ t, exec (.earlyConfirm k) s = .next t ∧ t.answer = .remaining 0 ∧ s.confirmedPick k i x y v t

/-- The ends of tasks, and the changes of AUDIT tasks (R73, R85, R101, R113, R154, R162). -/
def Obligations.TaskEnds : Prop :=
  Claims.AuditTaskChanges ∧ Claims.PutTaskEnds ∧ Claims.PickTaskEnds

/-- TASK_CLASS_REPORT where no task holds a pick of the order (R44), or the handle is free: a held entry of the order, which its
arrival sequence names, takes the new class, and nothing else changes. -/
def Sys2Proof.Claims.TaskClasses : Prop :=
  ∀ (s : State) (k : Carousel) (h : Nat) (cls : Sys2Proof.Class), s.resetLow = false → (s.seq k).state ≠ .idle →
    (s.order h = none → exec (.taskClassReport k h cls) s = .next s.begun) ∧
    (∀ o, s.order h = some o → (∀ x ∈ (s.seq k).queue, ∀ p ∈ x.picks, p.order ≠ o.seq) →
      exec (.taskClassReport k h cls) s = .next (s.begun.modSeq k fun q => { q with held := q.held.map fun e =>
        if e.order = o.seq then { e with cls := cls } else e }))

/-- TASK_CLASS_REPORT with one PICK task that holds picks of the order (R44, R71): they take the new class, finished ones too (log
entry 80, DEDUCED); the task's class is the lowest among the orders of its live picks, and where that is another class the task
goes to the place that its class and arrival number give; a held entry of the order takes the new class. -/
def Sys2Proof.Claims.PickClasses : Prop :=
  ∀ (s : State) (k : Carousel) (h : Nat) (cls low : Sys2Proof.Class) (o : Order) (x y : Task) (ps : List Pick),
    s.resetLow = false → (s.seq k).state ≠ .idle → s.order h = some o →
    (s.seq k).queue.filter (fun x => x.picks.any fun p => p.order = o.seq) = [x] → x.body = .pick ps →
    ((s.seq k).queue.map (·.num)).Nodup →
    let qs := ps.map fun p => if p.order = o.seq then { p with cls := cls } else p
    (∃ p ∈ qs, p.struck = false ∧ p.cls = low) → (∀ p ∈ qs, p.struck = false → low ≤ p.cls) →
    y = { x with body := .pick qs } →
    exec (.taskClassReport k h cls) s = .next (s.begun.modSeq k fun q =>
      { q with queue := (if low = x.cls then q.queue.map fun u => if u.num = x.num then y else u
                         else placeTask { y with cls := low } (withoutTask x.num q.queue)),
               held := q.held.map fun e => if e.order = o.seq then { e with cls := cls } else e })

/-- PICK_DROP, PICK_STRUCK and the last PICK_TAKEN_REPORT of a pick of a task that is not granted (R71, R73, R74): the pick leaves
its task, which stands while another live unfinished one is left in it; the task's class is then the lowest among the orders of
the rest, and where that is another class the task goes to the place that its class and arrival number give. The last pick takes
the task with it, and the place that frees is reported. No reservation waits in the held list here, and the task is not the
current one. -/
def Sys2Proof.Claims.QueuedPickDrops : Prop :=
  ∀ (s : State) (k : Carousel) (r : ResId) (x : Task) (c : Instr) (why : Cause), s.resetLow = false →
    (s.seq k).taskOf r = some x → (s.seq k).current ≠ some x.num → (s.seq k).state ≠ .idle → (s.seq k).held = [] →
    (s.seq k).queue.length ≤ 16 → ((s.seq k).queue.map (·.num)).Nodup → x.kind = .pick →
    c = .pickDrop k r ∨ c = .pickStruck k ⟨r, why⟩ ∨ (c = .pickTakenReport k r ∧ ∀ p ∈ x.picks, p.res = r → p.remaining ≤ 1) →
    let left := x.picks.filter fun p => !(p.res = r) && p.opened
    let told := (s.stationOf k).toList.map (fun i => .placeReport i k) ++ [.auditPlaceReport k]
    (left = [] → exec c s = .next ((s.begun.modSeq k fun q => { q with queue := withoutTask x.num q.queue }).postAll told)) ∧
    ∀ cls : Sys2Proof.Class, (∃ p ∈ left, p.cls = cls) → (∀ p ∈ left, cls ≤ p.cls) →
      exec c s = .next ((s.begun.modSeq k fun q =>
        { q with queue :=
            (if cls = x.cls then q.queue.map fun u => if u.num = x.num then { x with body := .pick left } else u
             else placeTask { x with cls := cls, body := .pick left } (withoutTask x.num q.queue)) }).postAll
        (if (s.seq k).queue.length < 16 then told else []))

/-- What joins a carousel's held list and task queue, what a class report and a drop change there, and a carousel's place at a station (R44, R66, R70 to R74). -/
def Obligations.TasksJoinQueues : Prop :=
  Claims.NewReservations ∧ Claims.TaskOffers ∧ Claims.StationBays ∧ Claims.TaskClasses ∧ Claims.PickClasses ∧ Claims.QueuedPickDrops


/-! ## The Stock Table Unit's entries -/

/-- RESERVE and RELEASE (R15, R16): a NORMAL carrier outside every exclusion grants an ACTIVE lot's free tyres up to the count
asked, and a release gives back what is reserved up to the count, in every carrier state; the placement's and the lot's
reserved counts move together, an emptied placement goes, and neither entry makes a report. In every other case the answer
is 0 and nothing changes. -/
def Obligations.Reservations : Prop :=
  ∀ (s : State) (k : Carousel) (c lot count : Nat) (x : Carrier), s.resetLow = false → s.carrier k c = some x →
    (x.placements.map (·.lot)).Nodup →
    (∀ p, placementOf lot x.placements = some p →
      (∀ g, g = min count (p.onHand - p.reserved) → 0 < g → x.state = .normal → x.excluded = false → s.lotActive lot = true →
        ∃ t, exec (.reserve k c lot count) s = .next t ∧ t.answer = .granted g ∧ t.mail = s.mail ∧
          s.restocked k c { x with placements := countsChanged lot (fun q => { q with reserved := q.reserved + g }) x.placements } t ∧
          s.retotalled lot (fun l => { l with reserved := l.reserved + g }) t ∧ s.onlyStock t) ∧
      (∀ g, g = min count p.reserved → 0 < g →
        ∃ t, exec (.release k c lot count) s = .next t ∧ t.answer = .returned g ∧ t.mail = s.mail ∧
          s.restocked k c { x with placements := countsChanged lot (fun q => { q with reserved := q.reserved - g }) x.placements } t ∧
          s.retotalled lot (fun l => { l with reserved := l.reserved - g }) t ∧ s.onlyStock t) ∧
      (count = 0 ∨ p.onHand ≤ p.reserved ∨ x.state ≠ .normal ∨ x.excluded = true ∨ s.lotActive lot = false →
        exec (.reserve k c lot count) s = .next (s.begun.ans (.granted 0))) ∧
      (count = 0 ∨ p.reserved = 0 → exec (.release k c lot count) s = .next (s.begun.ans (.returned 0)))) ∧
    (placementOf lot x.placements = none →
      exec (.reserve k c lot count) s = .next (s.begun.ans (.granted 0)) ∧
      exec (.release k c lot count) s = .next (s.begun.ans (.returned 0)))

/-- COMMIT_PICK and COMMIT_PUT (R17, R18): in a NORMAL, AUDIT-PENDING or UNVERIFIED carrier a commit-pick takes one reserved tyre
off the shelf and a commit-put sets one incoming tyre on it, the lot totals follow, and a mass report is made, with a
stock-rise report for a put of an ACTIVE lot. A carrier that is AUDIT-LOCKED or DISABLED refuses both, as does a placement
that is absent or has nothing reserved, or incoming. -/
def Obligations.Commits : Prop :=
  ∀ (s : State) (k : Carousel) (c lot : Nat) (x : Carrier), s.resetLow = false → s.carrier k c = some x →
    (x.placements.map (·.lot)).Nodup → 0 < (s.lotOr lot).mass →
    (∀ p, placementOf lot x.placements = some p → x.serves = true →
      (1 ≤ p.reserved → p.reserved ≤ p.onHand → ∃ t ps,
        ps = countsChanged lot (fun q => { q with onHand := q.onHand - 1, reserved := q.reserved - 1 }) x.placements ∧
        exec (.commitPick k c lot) s = .next t ∧ t.answer = .taken ∧
        t.mail = s.mail ++ [.massReport k [(c, min (s.actualMass ps) 2047)]] ∧ s.restocked k c { x with placements := ps } t ∧
        s.retotalled lot (fun l => { l with onHand := l.onHand - 1, reserved := l.reserved - 1 }) t ∧ s.onlyStock t) ∧
      (1 ≤ p.incoming → ∃ t ps,
        ps = countsChanged lot (fun q => { q with onHand := q.onHand + 1, incoming := q.incoming - 1 }) x.placements ∧
        exec (.commitPut k c lot) s = .next t ∧ t.answer = .taken ∧
        t.mail = s.mail ++ [.massReport k [(c, min (s.actualMass ps) 2047)]] ++
          (if s.lotActive lot = true then [.stockRiseReport (s.labelOf lot).article] else []) ∧
        s.restocked k c { x with placements := ps } t ∧
        s.retotalled lot (fun l => { l with onHand := l.onHand + 1, incoming := l.incoming - 1 }) t ∧ s.onlyStock t)) ∧
    (x.state = .auditLocked ∨ x.state = .disabled ∨ reservedOf lot x.placements = 0 →
      exec (.commitPick k c lot) s = .next (s.begun.ans .refused)) ∧
    (x.state = .auditLocked ∨ x.state = .disabled ∨ incomingOf lot x.placements = 0 →
      exec (.commitPut k c lot) s = .next (s.begun.ans .refused))

/-- ROOM_QUERY and PLAN_INCOMING (R12, R19): the query answers the greatest count up to the one asked for which the room test
passes; planning books the whole count on a NORMAL carrier outside every exclusion, for an ACTIVE lot with room for it, on
the lot's placement or on a new one, without a report, and is refused in every other case, changing nothing. That the query
answers 0 for a carrier which does not exist is log entry 64 (DESIGN CHOICE). -/
def Sys2Proof.Claims.PutBookings : Prop :=
  ∀ (s : State) (k : Carousel) (c lot count : Nat), s.resetLow = false →
    (∃ n, exec (.roomQuery k c lot count) s = .next (s.begun.ans (.room n)) ∧ n ≤ count ∧
      (1 ≤ n → s.roomTest k c lot n = true) ∧ ∀ m, n < m → m ≤ count → s.roomTest k c lot m = false) ∧
    (∀ x, s.carrier k c = some x → (x.placements.map (·.lot)).Nodup → 1 ≤ count →
      (x.state = .normal → x.excluded = false → s.lotActive lot = true → s.roomTest k c lot count = true →
        ∃ t ps, exec (.planIncoming k c lot count) s = .next t ∧ t.answer = .taken ∧ t.mail = s.mail ∧
          (∀ p, placementOf lot x.placements = some p →
            ps = x.placements.map fun q => if q.lot = lot then { q with incoming := q.incoming + count } else q) ∧
          (placementOf lot x.placements = none →
            ps = x.placements ++ [{ lot := lot, onHand := 0, reserved := 0, incoming := count }]) ∧
          s.restocked k c { x with placements := ps } t ∧
          s.retotalled lot (fun l => { l with incoming := l.incoming + count }) t ∧ s.onlyStock t) ∧
      (x.state ≠ .normal ∨ x.excluded = true ∨ s.lotActive lot = false ∨ s.roomTest k c lot count = false →
        exec (.planIncoming k c lot count) s = .next (s.begun.ans .refused)))

/-- The room test (R12), which PLAN_INCOMING and ROOM_QUERY use: of `n` more tyres of a lot it passes when the lot has a placement or
the carrier a free slot, the lot's on-hand and incoming tyres come to 63 at most, the lengths that the placements then occupy,
with pitch ceil((width + gap) / 5) and two tyres high where the flag, the width and the rim allow it, fit the shelf, and the
planned mass is at most the rated load. -/
def Sys2Proof.Claims.RoomTests : Prop :=
  ∀ (s : State) (k : Carousel) (c lot n : Nat) (car : StockCar) (x : Carrier), s.stockCar k = some car → s.carrier k c = some x →
    (x.placements.map (·.lot)).Nodup → 1 ≤ n →
    let ceil (a b : Nat) : Nat := (a + b - 1) / b
    let pitch (l : Lot) : Nat := ceil (l.width + car.gap) 5
    let stack (l : Lot) : Nat := if x.doubleStack = true ∧ l.width ≤ 205 ∧ l.rim ≤ 17 then 2 else 1
    let occupied (p : Placement) : Nat := ceil (p.onHand + p.incoming) (stack (s.lotOr p.lot)) * pitch (s.lotOr p.lot)
    let has : Prop := ∃ p ∈ x.placements, p.lot = lot
    let booked : List Placement :=
      if has then x.placements.map fun p => if p.lot = lot then { p with incoming := p.incoming + n } else p
      else x.placements ++ [{ lot := lot, onHand := 0, reserved := 0, incoming := n }]
    s.roomTest k c lot n = true ↔
      (has ∨ x.placements.length < 4) ∧ (∀ p ∈ booked, p.lot = lot → p.onHand + p.incoming ≤ 63) ∧
        (booked.map occupied).sum ≤ car.shelf ∧
        (booked.map fun p => (p.onHand + p.incoming) * (s.lotOr p.lot).mass).sum ≤ car.rated

/-- The room test, the room query and plan-incoming (R12, R19). -/
def Obligations.PlannedPuts : Prop :=
  Claims.PutBookings ∧ Claims.RoomTests

/-- RETURN_INCOMING (R20): the placement's incoming count and the lot's incoming total each fall by the smaller of the count and
the incoming count, in every carrier state; an emptied placement is removed, nothing changes without a placement of the lot,
the count returned is answered and no report is made. -/
def Obligations.ReturnIncoming : Prop :=
  ∀ (s : State) (k : Carousel) (c lot count : Nat) (x : Carrier), s.resetLow = false → s.carrier k c = some x →
    (x.placements.map (·.lot)).Nodup →
    (∀ p g, placementOf lot x.placements = some p → g = min count p.incoming →
      (0 < g → ∃ t, exec (.returnIncoming k c lot count) s = .next t ∧ t.answer = .returned g ∧ t.mail = s.mail ∧
        s.restocked k c { x with placements := countsChanged lot (fun q => { q with incoming := q.incoming - g }) x.placements } t ∧
        s.retotalled lot (fun l => { l with incoming := l.incoming - g }) t ∧ s.onlyStock t) ∧
      (g = 0 → exec (.returnIncoming k c lot count) s = .next (s.begun.ans (.returned 0)))) ∧
    (placementOf lot x.placements = none → exec (.returnIncoming k c lot count) s = .next (s.begun.ans (.returned 0)))

/-- AUDIT_MARK, AUDIT_CLEAR, AUDIT_LOCK and AUDIT_UNLOCK (R21, R22): each carries its carrier from the one state to the next
that the rules give it, keeping its placements, counts and marks, and leaves a carrier in another state as it is; a cleared
carrier that is not excluded is reported as eligible. -/
def Sys2Proof.Claims.AuditStates : Prop :=
  ∀ (s : State) (k : Carousel) (c : Nat) (x : Carrier), s.resetLow = false → s.carrier k c = some x →
    (x.placements.map (·.lot)).Nodup →
    let becomes (c' : Instr) (st : CarrierState) (a : Answer) (reports : List Instr) : Prop :=
      ∃ t, exec c' s = .next t ∧ t.answer = a ∧ t.mail = s.mail ++ reports ∧ s.restocked k c { x with state := st } t ∧
        t.lots = s.lots ∧ s.onlyStock t
    (x.state = .normal ∨ x.state = .unverified → becomes (.auditMark k c) .auditPending .marked []) ∧
    (x.state = .auditPending ∨ x.state = .auditLocked → exec (.auditMark k c) s = .next (s.begun.ans .marked)) ∧
    (x.state = .disabled → exec (.auditMark k c) s = .next (s.begun.ans .refused)) ∧
    (x.state = .auditPending → becomes (.auditClear k c) .normal .cleared
      (if x.excluded = true then [] else [.eligibilityReport k c])) ∧
    (x.state ≠ .auditPending → exec (.auditClear k c) s = .next (s.begun.ans .cleared)) ∧
    (x.state = .auditPending → (∀ p ∈ x.placements, p.incoming = 0) → becomes (.auditLock k c) .auditLocked .locked []) ∧
    (x.state = .auditPending → (∃ p ∈ x.placements, 0 < p.incoming) →
      exec (.auditLock k c) s = .next (s.begun.ans .refusedIncoming)) ∧
    (x.state ≠ .auditPending → exec (.auditLock k c) s = .next (s.begun.ans .refused)) ∧
    (x.state = .auditLocked → becomes (.auditUnlock k c) .auditPending .unlocked []) ∧
    (x.state ≠ .auditLocked → exec (.auditUnlock k c) s = .next (s.begun.ans .unlocked))

/-- AUDIT_APPLY (R23): each placement takes its tallied count up to 63, or goes when it is not tallied; the tallied lots that had
none, each named once and counted, one that is FREE among them (log entry 69, DESIGN CHOICE), take the free slots in tally order,
and those that find none join the unplaced count whole, as the excess over 63 and the tally's own count do; both counts hold at
255, the carrier is UNVERIFIED with either count and NORMAL without, and the variance is answered, the old placements' lots first
(log entry 81, DESIGN CHOICE: R23 gives the lots no order). A carrier not AUDIT-LOCKED, and a reserved count above what the apply
gives, refuse it. -/
def Sys2Proof.Claims.AuditApplied : Prop :=
  ∀ (s : State) (k : Carousel) (c unknown unplaced : Nat) (tally : List (Nat × Nat)) (x : Carrier), s.resetLow = false →
    s.carrier k c = some x → (x.placements.map (·.lot)).Nodup → (∀ p ∈ x.placements, p.incoming = 0) →
    let given (lot : Nat) : Nat := min (tallyOf lot tally) 63
    let fresh := tally.filter fun e => (placementOf e.1 x.placements).isNone
    let stays := (x.placements.map fun p => { p with onHand := given p.lot }).filter fun p => decide (0 < p.onHand)
    let placed := fresh.take (4 - stays.length)
    let excess := ((tally.filter fun e => (placementOf e.1 x.placements).isSome).map fun e => e.2 - 63).sum +
      (placed.map fun e => e.2 - 63).sum + ((fresh.drop (4 - stays.length)).map (·.2)).sum + unplaced
    (x.state = .auditLocked → (∀ p ∈ x.placements, p.reserved ≤ given p.lot) →
      (fresh.map (·.1)).Nodup → (∀ e ∈ fresh, 1 ≤ e.2) →
      ∃ t y, exec (.auditApply k c tally unknown unplaced) s = .next t ∧ s.restocked k c y t ∧
        y.placements = stays ++ placed.map (fun e => { lot := e.1, onHand := min e.2 63, reserved := 0, incoming := 0 }) ∧
        y.unplaced = min excess 255 ∧ y.unknown = min unknown 255 ∧
        y.state = (if excess = 0 ∧ unknown = 0 then .normal else .unverified) ∧ y.excluded = x.excluded ∧
        y.doubleStack = x.doubleStack ∧
        t.answer = .applied (x.placements.map (fun p => { lot := p.lot, before := p.onHand, after := given p.lot, released := 0 }) ++
          fresh.map fun e => { lot := e.1, before := 0, after := onHandOf e.1 y.placements, released := 0 }) ∧
        t.mail = s.mail ++
          (if s.actualMass x.placements = s.actualMass y.placements then []
           else [.massReport k [(c, min (s.actualMass y.placements) 2047)]]) ++
          ((y.placements.filter fun p => decide (onHandOf p.lot x.placements < p.onHand) && s.lotActive p.lot).map
            fun p => .stockRiseReport (s.labelOf p.lot).article) ++
          (if y.state = .normal ∧ x.excluded = false then [.eligibilityReport k c] else []) ∧
        (∀ n, t.lot n = (s.lot n).map fun l =>
          { l with onHand := l.onHand + onHandOf n y.placements - onHandOf n x.placements }) ∧
        s.onlyStock t) ∧
    (x.state ≠ .auditLocked ∨ (∃ p ∈ x.placements, given p.lot < p.reserved) →
      exec (.auditApply k c tally unknown unplaced) s = .next (s.begun.ans .refused))

/-- The audit states of a carrier and the apply of a count (R21 to R23). -/
def Obligations.CarrierAudits : Prop :=
  Claims.AuditStates ∧ Claims.AuditApplied

/-- EXCLUDE and ADMIT (R10, R14): the excluded marks of the carriers named are set, or cleared, whatever their states, and every
carrier that an admit makes able to take new reservations is reported in order. That one which does not exist is passed over is
log entry 64 (DESIGN CHOICE). -/
def Obligations.Exclusions : Prop :=
  ∀ (s : State) (k : Carousel) (cs : List Nat) (car : StockCar), s.resetLow = false → s.stockCar k = some car → cs.Nodup →
    (∀ x ∈ car.carriers, (x.placements.map (·.lot)).Nodup) →
    let marked (e : Bool) (t : State) : Prop :=
      (∀ d, t.carrier k d = (s.carrier k d).map fun x => if d ∈ cs then
        { x with excluded := e, overload := decide (car.rated < s.actualMass x.placements) } else x) ∧
      (∀ j : Carousel, j ≠ k → t.stockCar j = s.stockCar j) ∧ t.lots = s.lots ∧ t.answer = .done ∧ s.onlyStock t
    (∃ t, exec (.exclude k cs) s = .next t ∧ marked true t ∧ t.mail = s.mail) ∧
    (∃ t, exec (.admitCarriers k cs) s = .next t ∧ marked false t ∧
      t.mail = s.mail ++ (cs.filter fun d => (s.carrier k d).any fun x => decide (x.state = .normal) && x.excluded).map
        (.eligibilityReport k))

/-! ## The Balance Unit -/

/-- The arithmetic of imbalance (R27 to R29): over the half-rotations 0 to H - 1 of a mass vector, W is the greatest imbalance
D_r, the worst rotation is the smallest r whose D_r is W, and W is at most T. -/
def Sys2Proof.Claims.WorstImbalance : Prop :=
  ∀ m : List Nat, 2 ≤ m.length →
    let h := m.length / 2
    (∀ r, r < h → imbalanceAt m h r ≤ worstImbalance m) ∧ worstRotation m < h ∧
      imbalanceAt m h (worstRotation m) = worstImbalance m ∧
      (∀ r, r < worstRotation m → imbalanceAt m h r < worstImbalance m) ∧ worstImbalance m ≤ totalMass m

/-- MASS_REPORT (R26, R30 to R32): the masses named are written, each held at 2047, the record is recomputed, and a change of
speed class is reported to the carousel's sequencer, as a change of the OVERBALANCE flag is noticed. That an entry which names a
carrier of P or more writes nothing is log entry 64 (DESIGN CHOICE). -/
def Obligations.MassReports : Prop :=
  ∀ (s : State) (k : Carousel) (ms : List (Nat × Nat)) (b : Balance), s.resetLow = false → s.bal k = some b →
    ∃ t n, exec (.massReport k ms) s = .next t ∧ t.bal k = some n ∧ (∀ j : Carousel, j ≠ k → t.bal j = s.bal j) ∧
      n = { b with masses := n.masses, total := n.masses.sum, worst := worstImbalance n.masses,
                   rotation := worstRotation n.masses, speed := n.speed, overbalance := n.overbalance } ∧
      n.masses = ms.foldl (fun v e => v.set e.1 (min e.2 2047)) b.masses ∧
      (n.speed = .normal ↔ n.worst ≤ b.soft) ∧ (n.overbalance = true ↔ b.hard < n.worst) ∧
      t.mail = s.mail ++ (if n.speed = b.speed then [] else [.speedClassReport k n.speed]) ∧
      (n.overbalance = b.overbalance → t.mgmt = s.mgmt) ∧
      (n.overbalance ≠ b.overbalance → s.mgmt.notices.length < 64 →
        s.noticed (.balance k n.overbalance n.worst n.rotation n.total) t) ∧
      t = { s.begun with balance := t.balance, mail := t.mail, mgmt := t.mgmt }

/-- CANDIDATE_TEST and BALANCE_QUERY (R34, R35): the test compares the worst imbalance of the clamped planned masses with the
added mass against the hard limit and against that without it; the query answers the greatest count up to the one asked
whose test passes, with its figures, or 0 with those of one tyre. Neither changes anything. That a count of 0 is answered so, and
that an added mass outside 8..2560 or a unit mass outside 8..160 is taken like any other, is log entry 64 (DESIGN CHOICE). -/
def Sys2Proof.Claims.BalanceAnswers : Prop :=
  ∀ (s : State) (k : Carousel) (c added mass count : Nat) (b : Balance) (car : StockCar) (x : Carrier), s.resetLow = false →
    s.bal k = some b → s.stockCar k = some car → s.carrier k c = some x →
    let planned := car.carriers.map fun y => min (s.plannedMass y.placements) 2047
    let figures (added : Nat) : Candidate :=
      let m := planned.set c (min (s.plannedMass x.placements + added) 2047)
      { pass := decide (worstImbalance m ≤ b.hard ∨ worstImbalance m < worstImbalance planned), worst := worstImbalance m,
        rotation := worstRotation m, planned := worstImbalance planned, total := m.sum }
    exec (.candidateTest k c added) s = .next (s.begun.ans (.candidate (figures added))) ∧
    ∃ n, exec (.balanceQuery k c mass count) s = .next (s.begun.ans (.balance n (figures (max n 1 * mass)))) ∧ n ≤ count ∧
      (1 ≤ n → (figures (n * mass)).pass = true) ∧ ∀ i, n < i → i ≤ count → (figures (i * mass)).pass = false

/-- The counts that pass the balance query run from 1 upward without a gap (R35): a count that passes makes every smaller one
pass. For a carrier of P or more and a unit mass outside 8..160 it is the model's (log entry 64, DESIGN CHOICE). -/
def Sys2Proof.Claims.PassingCountsRun : Prop :=
  ∀ (s : State) (k : Carousel) (hard c mass n i : Nat), (s.candidateWith k hard c (n * mass)).pass = true → 1 ≤ i → i ≤ n →
    (s.candidateWith k hard c (i * mass)).pass = true

/-- The arithmetic of imbalance (R27 to R29, R35). -/
def Obligations.ImbalanceArithmetic : Prop :=
  Claims.WorstImbalance ∧ Claims.PassingCountsRun

/-- TRAVEL_PLAN (R37, R38): an index or target outside the carousel is invalid, a target at the opening is there, and any other
gives the direction, distance, speed class, estimate and timeout; a tie of the two ways goes FORWARD. Nothing changes. -/
def Sys2Proof.Claims.TravelPlans : Prop :=
  ∀ (s : State) (k : Carousel) (i t : Nat), s.resetLow = false →
    (s.bal k = none → exec (.travelPlan k i t) s = .next (s.begun.ans .invalid)) ∧
    ∀ b, s.bal k = some b →
      (b.p ≤ i ∨ b.p ≤ t → exec (.travelPlan k i t) s = .next (s.begun.ans .invalid)) ∧
      (i < b.p → t = i → exec (.travelPlan k i t) s = .next (s.begun.ans .there)) ∧
      (∀ f r d dir e, i < b.p → t < b.p → t ≠ i → f = (t + b.p - i) % b.p → r = (i + b.p - t) % b.p →
        (b.bidirectional = true → f ≤ r → d = f ∧ dir = Dir.forward) → (b.bidirectional = true → r < f → d = r ∧ dir = .reverse) →
        (b.bidirectional = false → d = f ∧ dir = .forward) →
        e = min (b.start + d * (if b.speed = .normal then b.normalPitch else b.slowPitch)) 6000 →
        exec (.travelPlan k i t) s = .next (s.begun.ans
          (.plan { dir := dir, dist := d, speed := b.speed, estimate := e, timeout := 2 * e + 50 })))

/-- The questions that the Balance Unit answers (R34, R35, R37, R38). -/
def Obligations.BalanceQuestions : Prop :=
  Claims.BalanceAnswers ∧ Claims.TravelPlans


/-! ## The Order Book -/

/-- STOCK_RISE_REPORT and ELIGIBILITY_REPORT (R55, R57 to R60) for one line to resolve, without a window, of a PICKING order and
one placement with free tyres: the smaller of the need and the free count is reserved there, a HELD reservation with the next
creation sequence and the hold time of the order's class takes the lowest free place (log entry 65, DESIGN CHOICE) and is handed
to its sequencer with the order, by its arrival sequence, and its class. With no candidate lot the line, left WAITING, is noticed once as waiting. -/
def Sys2Proof.Claims.LineAnswers : Prop :=
  ∀ (s : State) (h i : Nat) (o : Order) (l : Line), s.resetLow = false → s.order h = some o → o.lines[i]? = some l →
    o.state = .picking → l.window = none → l.avoid = none → 0 < l.need → s.book.freed = false →
    ∀ c : Instr, (c = .stockRiseReport l.article ∧ s.linesWhere (fun x => x.article = l.article) = [(h, i)]) ∨
        (∃ k' c', c = .eligibilityReport k' c' ∧ s.linesWhere (fun x => decide (0 < x.need)) = [(h, i)]) →
    (∀ k d lot week x p g, s.candidates l.article none none = [{ lot := lot, week := week, avail := g }] →
      s.freePlacements lot none none = [{ car := k, carrier := d, count := g }] → s.carrier k d = some x →
      (x.placements.map (·.lot)).Nodup → placementOf lot x.placements = some p → p.onHand - p.reserved = g → 0 < g → x.takesNew = true → s.lotActive lot = true →
      findLive h i k d lot s.book.pool = none → s.book.pool.length < 512 →
      ∃ t q n y, exec c s = .next t ∧ q = tfree 0 s.book.pool ∧ n = min g l.need ∧
        y = { l with reserved := l.reserved + n } ∧ t.order h = some { o with lines := o.lines.set i y.settled } ∧
        t.reservation q = some
          { order := h, line := i, car := k, carrier := d, lot := lot, count := n, state := .held, struck := false,
            expiry := some (s.now + s.mgmt.timers.hold o.cls * 100), seq := s.book.creations, substitute := false } ∧
        t.book.creations = s.book.creations + 1 ∧ t.lots = (reserveEntry k d lot n s).1.lots ∧
        t.stock = (reserveEntry k d lot n s).1.stock ∧ t.mgmt = s.mgmt ∧
        t.mail = s.mail ++ [.newReservation k { place := q, seq := s.book.creations } d n ⟨o.seq, o.cls⟩] ∧ s.onlyOrders t) ∧
    (s.candidates l.article none none = [] →
      (l.state = .waiting → l.waitingReported = false → s.mgmt.notices.length < 64 →
        ∃ t, exec c s = .next t ∧
          s.orderIs h { o with lines := o.lines.set i { l with waitingReported := true } } t ∧
          s.noticed (.lineWaiting h o.ref i l.article l.need .noStock) t ∧ t = { s.begun with book := t.book, mgmt := t.mgmt }) ∧
      (l.state ≠ .waiting ∨ l.waitingReported = true → exec c s = .next s.begun))

/-- How much a line without a window takes, and of which lots (R57, R58), through STOCK_RISE_REPORT and ELIGIBILITY_REPORT for one
line to resolve, with room in the pool: the smaller of its need and of what its candidate lots have free, its avoid carousel left
out; where that leaves nothing, the carousel counts and the mark is cleared. No lot is drawn on before every older one is
exhausted, and no carousel avoided is. A line left WAITING with nothing free is noticed once. The lot table is one that lists
each number once and in order, as every step keeps it (TablesKept). -/
def Sys2Proof.Claims.LineAmounts : Prop :=
  ∀ (s : State) (h i : Nat) (o : Order) (l : Line), s.resetLow = false → s.order h = some o → o.lines[i]? = some l →
    o.state = .picking → l.window = none → 0 < l.need → s.book.freed = false → twf s.book.pool = true →
    twf s.lots = true → s.book.pool.length + l.need ≤ 512 →
    ∀ c : Instr, (c = .stockRiseReport l.article ∧ s.linesWhere (fun x => x.article = l.article) = [(h, i)]) ∨
        (∃ k' c', c = .eligibilityReport k' c' ∧ s.linesWhere (fun x => decide (0 < x.need)) = [(h, i)]) →
    let total (a : Option Carousel) : Nat := ((s.candidates l.article a none).map (·.avail)).sum
    ∀ a : Option Carousel, a = (if total l.avoid = 0 then none else l.avoid) →
    (0 < total a → ∃ t, exec c s = .next t ∧
      t.line h i = some { l with reserved := l.reserved + min l.need (total a), avoid := a, waitingReported := false } ∧
      (∀ p, t.reservation p ≠ s.reservation p → ∃ y, t.reservation p = some y ∧ y.order = h ∧ y.line = i ∧ some y.car ≠ a ∧
        s.lotActive y.lot = true ∧ (s.labelOf y.lot).article = l.article ∧
        ∀ e ∈ s.candidates l.article a none, e.week < s.lotWeek y.lot ∨ (e.week = s.lotWeek y.lot ∧ e.lot < y.lot) →
          t.available e.lot a none = 0) ∧
      t.mgmt = s.mgmt ∧ s.onlyOrders t) ∧
    (total a = 0 → l.state = .waiting → s.mgmt.notices.length < 64 → ∃ t, exec c s = .next t ∧
      s.orderIs h { o with lines := o.lines.set i { l with avoid := none, waitingReported := true } } t ∧
      (l.waitingReported = false → s.noticed (.lineWaiting h o.ref i l.article l.need .noStock) t) ∧
      (l.waitingReported = true → t.mgmt = s.mgmt) ∧ t = { s.begun with book := t.book, mgmt := t.mgmt })

/-- A line with a set window (R58, R60), the same way: with the weeks of its taken list and of its reservations in reach, the
oldest candidate lot from which the window's lots cover the need anchors it, the whole need is reserved, and every tyre of it
lies in the window; with no such anchor nothing is reserved, and a line WAITING is noticed, with reason NO-WINDOW where a candidate
lot has free tyres and NO-STOCK where none has. The lot table lists each number once and in order here too. -/
def Sys2Proof.Claims.LineWindows : Prop :=
  ∀ (s : State) (h i w : Nat) (o : Order) (l : Line), s.resetLow = false → s.order h = some o → o.lines[i]? = some l →
    o.state = .picking → l.window = some w → l.avoid = none → 0 < l.need → s.book.freed = false → twf s.book.pool = true →
    twf s.lots = true → s.book.pool.length + l.need ≤ 512 →
    ∀ c : Instr, (c = .stockRiseReport l.article ∧ s.linesWhere (fun x => x.article = l.article) = [(h, i)]) ∨
        (∃ k' c', c = .eligibilityReport k' c' ∧ s.linesWhere (fun x => decide (0 < x.need)) = [(h, i)]) →
    let lots := s.candidates l.article none none
    let bound := l.taken ++ (s.book.pool.filter fun e => decide (e.2.order = h) && decide (e.2.line = i)).map fun e =>
      s.lotWeek e.2.lot
    let fits (x : Nat) : Prop := (∀ b ∈ bound, x ≤ b ∧ b ≤ x + w) ∧
      l.need ≤ ((lots.filter fun e => decide (x ≤ e.week) && decide (e.week ≤ x + w)).map (·.avail)).sum
    (∀ a ∈ lots, fits a.week → (∀ e ∈ lots, fits e.week → a.week ≤ e.week) → ∃ t, exec c s = .next t ∧
      t.line h i = some { l with reserved := l.reserved + l.need, waitingReported := false } ∧
      (∀ p, t.reservation p ≠ s.reservation p → ∃ y, t.reservation p = some y ∧ y.order = h ∧ y.line = i ∧
        s.lotActive y.lot = true ∧ (s.labelOf y.lot).article = l.article ∧ a.week ≤ s.lotWeek y.lot ∧
        s.lotWeek y.lot ≤ a.week + w) ∧
      t.mgmt = s.mgmt ∧ s.onlyOrders t) ∧
    ((∀ e ∈ lots, ¬ fits e.week) →
      (l.state = .waiting → l.waitingReported = false → s.mgmt.notices.length < 64 → ∃ t, exec c s = .next t ∧
        s.orderIs h { o with lines := o.lines.set i { l with waitingReported := true } } t ∧
        s.noticed (.lineWaiting h o.ref i l.article l.need
          (if (∃ e ∈ lots, 0 < e.avail) then .noWindow else .noStock)) t ∧ t = { s.begun with book := t.book, mgmt := t.mgmt }) ∧
      (l.state ≠ .waiting ∨ l.waitingReported = true → exec c s = .next s.begun))

/-- Where a line without a window is reserved (R59), the same way: a placement on which the line has a live reservation enlarges
it, one that a substitution made among them (log entry 65, DESIGN CHOICE: R64 has it stand in no task), with a fresh expiry time
unless it is PRESENTED, and its sequencer is told the new count; of two placements of one lot the one
whose carousel has the shorter task queue is asked first, and the other for what is still needed, each in the lowest place
free (log entry 65). -/
def Sys2Proof.Claims.LinePlacements : Prop :=
  ∀ (s : State) (h i : Nat) (o : Order) (l : Line), s.resetLow = false → s.order h = some o → o.lines[i]? = some l →
    o.state = .picking → l.window = none → l.avoid = none → 0 < l.need → s.book.freed = false → twf s.book.pool = true →
    ∀ (c : Instr) (lot week n : Nat), (c = .stockRiseReport l.article ∧ s.linesWhere (fun x => x.article = l.article) = [(h, i)]) ∨
        (∃ k' c', c = .eligibilityReport k' c' ∧ s.linesWhere (fun x => decide (0 < x.need)) = [(h, i)]) →
    s.candidates l.article none none = [{ lot := lot, week := week, avail := n }] →
    (∀ k d g p r, s.freePlacements lot none none = [{ car := k, carrier := d, count := g }] → 0 < g →
      s.reservation p = some r → findLive h i k d lot s.book.pool = some (p, r) →
      ∃ t m, exec c s = .next t ∧ m = min g l.need ∧ s.placeHolds p (some { r with
          count := r.count + m,
          expiry := if r.state = .presented then none else some (s.now + s.mgmt.timers.hold o.cls * 100) }) t ∧
        t.line h i = some { l with reserved := l.reserved + m, waitingReported := false } ∧
        t.lots = (reserveEntry k d lot m s).1.lots ∧ t.stock = (reserveEntry k d lot m s).1.stock ∧ t.mgmt = s.mgmt ∧
        t.book.creations = s.book.creations ∧
        t.mail = s.mail ++ [.pickNewCount k { place := p, seq := r.seq } ⟨r.count + m, .other⟩] ∧ s.onlyOrders t) ∧
    (∀ a b x y, s.freePlacements lot none none = [a, b] → 0 < a.count → 0 < b.count →
      ((s.seq a.car).queue.length ≤ (s.seq b.car).queue.length → x = a ∧ y = b) →
      ((s.seq b.car).queue.length < (s.seq a.car).queue.length → x = b ∧ y = a) →
      x.count < l.need → findLive h i a.car a.carrier lot s.book.pool = none → findLive h i b.car b.carrier lot s.book.pool = none →
      s.book.pool.length + 2 ≤ 512 →
      let new (z : Free) (m seq : Nat) : Reservation :=
        { order := h, line := i, car := z.car, carrier := z.carrier, lot := lot, count := m, state := .held, struck := false,
          expiry := some (s.now + s.mgmt.timers.hold o.cls * 100), seq := seq, substitute := false }
      ∃ t m p q, exec c s = .next t ∧ m = min y.count (l.need - x.count) ∧ p = tfree 0 s.book.pool ∧
        q = tfree 0 (tput p (new x x.count s.book.creations) s.book.pool) ∧
        t.reservation p = some (new x x.count s.book.creations) ∧ t.reservation q = some (new y m (s.book.creations + 1)) ∧
        (∀ n, n ≠ p → n ≠ q → t.reservation n = s.reservation n) ∧ t.book.creations = s.book.creations + 2 ∧
        t.line h i = some { l with reserved := l.reserved + x.count + m, waitingReported := false } ∧ t.mgmt = s.mgmt ∧
        t.mail = s.mail ++ [.newReservation x.car { place := p, seq := s.book.creations } x.carrier x.count ⟨o.seq, o.cls⟩,
                            .newReservation y.car { place := q, seq := s.book.creations + 1 } y.carrier m ⟨o.seq, o.cls⟩] ∧
        s.onlyOrders t)

/-- The full pool (R56, R60), the same way: a line without a reservation to enlarge finds no place, reserves nothing, sets the
pool-full mark and, where it is WAITING, is noticed with reason POOL-FULL; one with a window that got a part of its need before
the pool was full gives it back, with a lot table that lists each number once and in order. When a reservation then leaves the
pool, as one of count 1 does at its COMMIT_REPORT, the mark is cleared and a pass over every line with a need follows, as an
eligibility report starts it. -/
def Sys2Proof.Claims.FullPool : Prop :=
  ∀ (s : State), s.resetLow = false → s.book.freed = false → twf s.book.pool = true →
    (∀ (h i : Nat) (o : Order) (l : Line), s.order h = some o → o.lines[i]? = some l →
      o.state = .picking → l.avoid = none → 0 < l.need → s.mgmt.notices.length < 64 →
      (∀ e ∈ s.book.pool, e.2.order ≠ h ∨ e.2.line ≠ i) →
      ∀ c : Instr, (c = .stockRiseReport l.article ∧ s.linesWhere (fun x => x.article = l.article) = [(h, i)]) ∨
          (∃ k' c', c = .eligibilityReport k' c' ∧ s.linesWhere (fun x => decide (0 < x.need)) = [(h, i)]) →
      let stops (t : State) : Prop := t.book.poolFull = true ∧ (∀ p, t.reservation p = s.reservation p) ∧
        t.order h = some { o with lines := o.lines.set i { l with waitingReported := decide (l.state = .waiting) } } ∧
        (l.state = .waiting → l.waitingReported = false →
          s.noticed (.lineWaiting h o.ref i l.article l.need .poolFull) t) ∧
        (l.state ≠ .waiting ∨ l.waitingReported = true → t.mgmt = s.mgmt)
      (l.waitingReported = true → l.state = .waiting) →
      (l.window = none → 512 ≤ s.book.pool.length → (∃ e ∈ s.candidates l.article none none, 0 < e.avail) →
        ∃ t, exec c s = .next t ∧ stops t ∧ t = { s.begun with book := t.book, mgmt := t.mgmt }) ∧
      (∀ w a, l.window = some w → twf s.lots = true → s.book.pool.length = 511 → a ∈ s.candidates l.article none none → l.taken = [] →
        (∀ e ∈ s.candidates l.article none none, a.week ≤ e.week ∧ e.week ≤ a.week + w) →
        l.need ≤ ((s.candidates l.article none none).map (·.avail)).sum →
        (∀ e ∈ s.candidates l.article none none, ∀ f ∈ s.freePlacements e.lot none none, f.count < l.need) →
        (∀ (k : Carousel) (car : StockCar), s.stockCar k = some car → ∀ x ∈ car.carriers, (x.placements.map (·.lot)).Nodup) →
        ∃ t, exec c s = .next t ∧ stops t ∧ s.onlyOrders t)) ∧
    (∀ r k c lot week x o l, s.resOf r = some x → x.count = 1 → x.substitute = false → s.book.poolFull = true →
      s.order x.order = some o → o.lines[x.line]? = some l → o.leaving = false →
      ∃ t u v y, exec (.commitReport r k c lot week) s = .next t ∧ t.answer = .charged x.order x.line o.comp ∧
        y = { l with reserved := l.reserved - 1, inTransit := l.inTransit + 1, taken := l.taken ++ [week] } ∧
        u = { s.begun with book := u.book } ∧
        u.book = { s.book with orders := u.book.orders, pool := u.book.pool, poolFull := false } ∧
        u.order x.order = some { o with lines := o.lines.set x.line y.settled } ∧
        (∀ n, n ≠ x.order → u.order n = s.order n) ∧ s.placeHolds r.place none u ∧
        exec (.eligibilityReport k c) u = .next v ∧ t = { v with answer := t.answer })

/-- The resolution of a line: what it takes, from which lots, within its window and onto which placements, and the full pool (R55 to R60). -/
def Obligations.LinesResolve : Prop :=
  Claims.LineAnswers ∧ Claims.LineAmounts ∧ Claims.LineWindows ∧ Claims.LinePlacements ∧ Claims.FullPool

/-- COMPARTMENT_RECEIPT and COMPARTMENT_WITHDRAWAL (R42, R46): an OPEN order whose arrival sequence matches takes the compartment
and is PICKING; it answers, and its lines are then resolved; every other receipt is declined and changes nothing, that of an order
that is only waiting to leave the table among them (log entry 16, DEDUCED). A flush puts a PICKING order, here without a live
reservation, back to OPEN and has it wait again; a lost cart suspends a PICKING or COMPLETE order and takes a CANCELLED one
out of the table; any other withdrawal changes nothing. -/
def Obligations.Compartments : Prop :=
  ∀ (s : State) (h seq comp : Nat) (l : Lane), s.resetLow = false →
    (∀ o, s.order h = some o → o.seq = seq → o.state = .opened → o.leaving = false →
      ∃ t u, exec (.compartmentReceipt h seq l comp) s = .next t ∧ t.answer = .accepted ∧
        t.order h = some u ∧ u.state = .picking ∧ u.comp = some (l, comp) ∧
        u = { o with state := .picking, comp := some (l, comp), lines := u.lines } ∧
        (s.mail ++ [.receiptAnswer l comp h seq true]) <+: t.mail ∧ s.onlyOrders t ∧
        (s.book.freed = false → (∀ x ∈ o.lines, x.need = 0) → s.orderIs h { o with state := .picking, comp := some (l, comp) } t ∧
          t = { s.begun with book := t.book, mail := s.mail ++ [.receiptAnswer l comp h seq true], answer := .accepted })) ∧
    ((∀ o, s.order h = some o → o.seq ≠ seq ∨ o.state ≠ .opened ∨ o.leaving = true) →
      exec (.compartmentReceipt h seq l comp) s =
        .next ((s.begun.post (.receiptAnswer l comp h seq false)).ans .declined)) ∧
    (s.order h = none → ∀ reason, exec (.compartmentWithdrawal h reason) s = .next s.begun) ∧
    (∀ o, s.order h = some o → s.livePlaces (fun r => r.order = h) = [] → s.book.freed = false →
      (o.state = .picking → ∃ t, exec (.compartmentWithdrawal h .flush) s = .next t ∧
        s.orderIs h { o with state := .opened, comp := none } t ∧
        t = { s.begun with book := t.book, mail := s.mail ++ [.waitingReport ⟨h, o.ref⟩ o.seq o.cls o.lanes] }) ∧
      (o.state = .picking ∨ o.state = .complete → ∃ t, exec (.compartmentWithdrawal h .lost) s = .next t ∧
        s.orderIs h { o with state := .suspended, comp := none } t ∧ t = { s.begun with book := t.book }) ∧
      (o.state = .cancelled → s.struckLeft h = false → twf s.book.orders = true →
        ∃ t, exec (.compartmentWithdrawal h .lost) s = .next t ∧ s.orderGone h t ∧ t = { s.begun with book := t.book }) ∧
      (o.state ≠ .picking → exec (.compartmentWithdrawal h .flush) s = .next s.begun) ∧
      (o.state = .opened ∨ o.state = .suspended → exec (.compartmentWithdrawal h .lost) s = .next s.begun))

/-- DELIVERY_REPORT, TRANSIT_REMOVAL and DISPATCH_REPORT (R47 to R49): a tyre of a line moves from in transit to delivered, or out
of the line with its week; an order whose lines are then all delivered is COMPLETE in its compartment, or leaves the table
when it is OPEN, and keeps its state in every other, so that a CANCELLED one never becomes COMPLETE; a COMPLETE or CANCELLED
order leaves the table when its cart begins its release, unless a struck reservation of it remains. Each is noticed and reported
as the rules say, and an order not in the table changes nothing. The reports name the order by its handle, whichever order holds
it then (log entry 85, DESIGN CHOICE). -/
def Obligations.TransitReports : Prop :=
  ∀ (s : State) (h i lot week comp : Nat) (m : Lane) (cart : CartId), s.resetLow = false →
    (s.order h = none → exec (.deliveryReport h i lot) s = .next s.begun ∧
      (∀ reason, exec (.transitRemoval h i week reason) s = .next s.begun) ∧
      exec (.dispatchReport h m comp cart) s = .next s.begun) ∧
    ∀ o, s.order h = some o →
      (∀ l, o.lines[i]? = some l → 1 ≤ l.inTransit →
        (∀ l' u, l' = { l with inTransit := l.inTransit - 1, delivered := l.delivered + 1 } →
          u = { o with lines := o.lines.set i l'.settled } →
          (u.allDelivered = false → ∃ t, exec (.deliveryReport h i lot) s = .next t ∧ s.orderIs h u t ∧
            t = { s.begun with book := t.book }) ∧
          (u.allDelivered = true → o.state ≠ .picking → o.state ≠ .opened → ∃ t, exec (.deliveryReport h i lot) s = .next t ∧
            s.orderIs h u t ∧ t = { s.begun with book := t.book }) ∧
          (u.allDelivered = true → o.state = .picking → s.mgmt.notices.length < 64 →
            ∃ t, exec (.deliveryReport h i lot) s = .next t ∧ s.orderIs h { u with state := .complete } t ∧
              s.noticed (.orderComplete h o.ref o.comp) t ∧
              t = { s.begun with book := t.book, mgmt := t.mgmt, mail := s.mail ++ [.completionReport h] }) ∧
          (u.allDelivered = true → o.state = .opened → o.leaving = false → s.struckLeft h = false →
            twf s.book.orders = true → ∃ t, exec (.deliveryReport h i lot) s = .next t ∧ s.orderGone h t ∧
              t.mgmt = (handNotices [.orderComplete h o.ref none, .orderDispatched h o.ref none none .opened] s).mgmt ∧
              t = { s.begun with book := t.book, mgmt := t.mgmt, mail := s.mail ++ [.goneReport h] })) ∧
        (∀ l' u, l' = { l with inTransit := l.inTransit - 1, taken := l.taken.erase week } →
          u = { o with lines := o.lines.set i l'.settled } →
          (∃ t, exec (.transitRemoval h i week .cart) s = .next t ∧ s.orderIs h u t ∧ t = { s.begun with book := t.book }) ∧
          (o.state ≠ .picking → s.book.freed = false → ∃ t, exec (.transitRemoval h i week .timeout) s = .next t ∧
            s.orderIs h u t ∧ t = { s.begun with book := t.book }) ∧
          ∃ t, exec (.transitRemoval h i week .timeout) s = .next t ∧ s.onlyOrders t)) ∧
      (o.state = .complete ∨ o.state = .cancelled → s.mgmt.notices.length < 64 → twf s.book.orders = true →
        ∃ t, exec (.dispatchReport h m comp cart) s = .next t ∧
          (s.struckLeft h = false → s.orderGone h t) ∧ (s.struckLeft h = true → s.orderIs h { o with leaving := true } t) ∧
          s.noticed (.orderDispatched h o.ref (some (m, comp)) (some cart) o.state) t ∧
          t = { s.begun with book := t.book, mgmt := t.mgmt }) ∧
      (o.state ≠ .complete → o.state ≠ .cancelled → exec (.dispatchReport h m comp cart) s = .next s.begun)

/-- RESERVATION_JOINED, RESERVATION_PRESENTED, RESERVATION_WITHDRAWN and COMMIT_REPORT (R51, R53, R54): a reservation is QUEUED when
its task joins a queue, PRESENTED without an expiry when its carrier is presented, and QUEUED again with a fresh expiry when
it is withdrawn; a commit moves one tyre of it from the line's reserved to its in-transit count with the lot's week, and one
left with no count leaves the pool. A report that names no reservation of the pool changes nothing, a commit apart, which is
charged to the placement's newest reservation and its sequencer told. -/
def Obligations.ReservationReports : Prop :=
  ∀ (s : State) (r : ResId) (k : Carousel) (c lot week : Nat), s.resetLow = false →
    (s.resOf r = none → exec (.reservationJoined r) s = .next s.begun ∧ exec (.reservationPresented r) s = .next s.begun ∧
      exec (.reservationWithdrawn r) s = .next s.begun ∧
      (newestOf k c lot s.book.pool = none → exec (.commitReport r k c lot week) s = .next s.begun)) ∧
    (∀ x, s.resOf r = some x →
      let becomes (c' : Instr) (y : Reservation) : Prop := ∃ t, exec c' s = .next t ∧ s.placeHolds r.place (some y) t ∧
        t = { s.begun with book := { s.book with pool := t.book.pool } }
      (x.state = .held → becomes (.reservationJoined r) { x with state := .queued }) ∧
      (x.state ≠ .held → becomes (.reservationJoined r) x) ∧
      becomes (.reservationPresented r) { x with state := .presented, expiry := none } ∧
      (x.state = .presented → x.struck = false → becomes (.reservationWithdrawn r)
        { x with state := .queued, expiry := some (s.now + s.mgmt.timers.hold (((s.order x.order).map (·.cls)).getD 0) * 100) }) ∧
      (x.state = .presented → x.struck = true → becomes (.reservationWithdrawn r) { x with state := .queued, expiry := none }) ∧
      (x.state ≠ .presented → becomes (.reservationWithdrawn r) x)) ∧
    ∀ p x o l, ((s.resOf r = some x ∧ p = r.place) ∨ (s.resOf r = none ∧ newestOf k c lot s.book.pool = some (p, x))) →
      s.reservation p = some x → twf s.book.pool = true → x.substitute = false → s.order x.order = some o →
      o.lines[x.line]? = some l → o.leaving = false → s.book.poolFull = false → s.book.freed = false →
      ∃ t y, exec (.commitReport r k c lot week) s = .next t ∧ t.answer = .charged x.order x.line o.comp ∧
        y = { l with reserved := l.reserved - 1, inTransit := l.inTransit + 1, taken := l.taken ++ [week] } ∧
        t.order x.order = some { o with lines := o.lines.set x.line y.settled } ∧
        (x.count = 1 → s.placeHolds p none t) ∧ (2 ≤ x.count → s.placeHolds p (some { x with count := x.count - 1 }) t) ∧
        (s.resOf r = some x → t.mail = s.mail) ∧
        (s.resOf r = none → x.count = 1 → t.mail = s.mail ++ [.pickDrop x.car { place := p, seq := x.seq }]) ∧
        (s.resOf r = none → 2 ≤ x.count →
          t.mail = s.mail ++ [.pickNewCount x.car { place := p, seq := x.seq } ⟨x.count - 1, .other⟩]) ∧
        t = { s.begun with book := { s.book with orders := t.book.orders, pool := t.book.pool }, mail := t.mail,
                           answer := t.answer }

/-- RESERVATION_EXPIRY, HOLD_HANDOVER, CARRIER_RELEASE and SHORT_REPORT (R52, R54, R61, R63): a live reservation that has expired,
that names the lot held, that stands on a carrier named, or whose whole count was found missing, is no longer live: it has left
the pool, or stays struck; its sequencer is told a strike, which says whether a SHORT is its cause, or a drop where it was not
PRESENTED, and an expiry is noticed. A report that finds no such reservation changes nothing. -/
def Sys2Proof.Claims.LiveReleases : Prop :=
  ∀ (s : State), s.resetLow = false → s.book.freed = false →
    (∀ p x, s.reservation p = some x → x.struck = false → x.substitute = false → 1 ≤ x.count → twf s.book.pool = true →
      x.seq < s.book.creations →
      ∀ c : Instr, (c = .holdHandover x.lot ∨ (∃ cs, x.carrier ∈ cs ∧ c = .carrierRelease x.car cs) ∨
          (∃ n, c = .shortReport { place := p, seq := x.seq } n ∧ x.state = .presented ∧ x.count ≤ n) ∨
          (c = .reservationExpiry p ∧ x.expiry ≠ none ∧ s.mgmt.cell ≠ .halted ∧ x.state ≠ .presented)) →
      ∃ t, exec c s = .next t ∧ (∀ y, t.resOf { place := p, seq := x.seq } = some y → y.struck = true) ∧
        (.pickStruck x.car ⟨{ place := p, seq := x.seq }, match c with | .shortReport _ _ => .short | _ => .other⟩ ∈ t.mail ∨
          (x.state ≠ .presented ∧ .pickDrop x.car { place := p, seq := x.seq } ∈ t.mail)) ∧
        (∀ d, c = .reservationExpiry p → x.expiry = some d → t.now = max s.now d ∧
          (s.mgmt.notices.length < 64 → ∃ e ∈ t.mgmt.notices, ∃ g, e.body = .reservationExpired x.order
            (s.orderRef x.order) x.line x.car x.carrier x.lot g)) ∧
        (c ≠ .reservationExpiry p → t.now = s.now) ∧ s.onlyOrders t) ∧
    (∀ lot, s.livePlaces (fun r => r.lot = lot) = [] → exec (.holdHandover lot) s = .next s.begun) ∧
    (∀ k cs, s.livePlaces (fun r => r.car = k && r.carrier ∈ cs) = [] → exec (.carrierRelease k cs) s = .next s.begun) ∧
    (∀ r n, (∀ x, s.resOf r = some x → x.struck = true ∨ x.state ≠ .presented) → exec (.shortReport r n) s = .next s.begun) ∧
    (∀ p, (∀ x, s.reservation p = some x →
        x.expiry = none ∨ s.mgmt.cell = .halted ∨ x.state = .presented ∨ x.struck = true) →
      exec (.reservationExpiry p) s = .next s.begun)

/-- AUDIT_TRIM, SUBSTITUTION_REQUEST and SUBSTITUTE_RELEASE (R62, R64): a trim to a count above what is reserved answers what is
reserved; one below it tells the newest reservation's sequencer its count less the excess, and answers the target. A
substitution is allowed for an ACTIVE lot with a free tyre on the same carrier, that one NORMAL and not excluded, when a line with
a window keeps it over the scanned lot's week, its taken list and its reservations less the one tyre, and there is room in the
pool (log entry 14, DESIGN CHOICE). It reserves one tyre of the scanned lot
there as a PRESENTED reservation of its own, in the lowest free place (log entry 65), releases one of the old, and
answers the new one; any other is refused. A substitution's reservation is released whole on request, and another is left. -/
def Sys2Proof.Claims.TrimsAndSubstitutions : Prop :=
  ∀ (s : State), s.resetLow = false → s.book.freed = false →
    let weeks (x : Reservation) (place lot : Nat) (l : Line) : List Nat := s.lotWeek lot :: l.taken ++
      (s.book.pool.filter fun e => decide (e.2.order = x.order) && decide (e.2.line = x.line) &&
        !(decide (e.1 = place) && decide (e.2.count ≤ 1))).map fun e => s.lotWeek e.2.lot
    let allowed (x : Reservation) (place lot : Nat) : Prop := s.lotActive lot = true ∧ s.book.pool.length < 512 ∧
      (∃ z p, s.carrier x.car x.carrier = some z ∧ z.state = .normal ∧ z.excluded = false ∧
        placementOf lot z.placements = some p ∧ p.reserved < p.onHand) ∧
      ∃ l, s.line x.order x.line = some l ∧ ∀ w, l.window = some w →
        ∀ a ∈ weeks x place lot l, ∀ b ∈ weeks x place lot l, a ≤ b + w
    (∀ k c lot target, s.reservedAt k c lot ≤ target →
      exec (.auditTrim k c lot target) s = .next (s.begun.ans (.trimmed (s.reservedAt k c lot)))) ∧
    (∀ k c lot target p rest x e, s.trimOrder k c lot = p :: rest → s.reservation p = some x → x.substitute = false →
      x.car = k → x.carrier = c → x.lot = lot → e = s.reservedAt k c lot - target → 0 < e → e < x.count →
      (∀ z, s.carrier k c = some z → (z.placements.map (·.lot)).Nodup) →
      ∃ t, exec (.auditTrim k c lot target) s = .next t ∧ t.answer = .trimmed target ∧
        .pickNewCount k { place := p, seq := x.seq } ⟨x.count - e, .other⟩ ∈ t.mail ∧ s.onlyOrders t) ∧
    (∀ r lot, (∀ x, s.resOf r = some x → x.struck = true ∨ x.state ≠ .presented ∨ ¬ allowed x r.place lot) →
      exec (.substitutionRequest r lot) s = .next (s.begun.ans .refused)) ∧
    (∀ r lot x o l q y, s.resOf r = some x → x.struck = false → x.state = .presented → x.substitute = false → 1 ≤ x.count →
      allowed x r.place lot → lot ≠ x.lot → 1 ≤ s.reservedAt x.car x.carrier x.lot →
      (∀ z, s.carrier x.car x.carrier = some z → (z.placements.map (·.lot)).Nodup) →
      twf s.book.pool = true → s.book.poolFull = false → s.order x.order = some o → o.leaving = false →
      o.lines[x.line]? = some l → 1 ≤ l.reserved → q = tfree 0 s.book.pool →
      y = (releaseEntry x.car x.carrier x.lot 1 (reserveEntry x.car x.carrier lot 1 s).1).1 →
      ∃ t, exec (.substitutionRequest r lot) s = .next t ∧ t.answer = .substitute { place := q, seq := s.book.creations } ∧
        t.reservation q = some
          { order := x.order, line := x.line, car := x.car, carrier := x.carrier, lot := lot, count := 1, state := .presented,
            struck := false, expiry := none, seq := s.book.creations, substitute := true } ∧
        (x.count = 1 → t.reservation r.place = none ∧ t.mail = s.mail ++ [.pickStruck x.car ⟨{ place := r.place, seq := x.seq }, .accept⟩]) ∧
        (2 ≤ x.count → t.reservation r.place = some { x with count := x.count - 1 } ∧
          t.mail = s.mail ++ [.pickNewCount x.car { place := r.place, seq := x.seq } ⟨x.count - 1, .accept⟩]) ∧
        (∀ n, n ≠ q → n ≠ r.place → t.reservation n = s.reservation n) ∧ t.lots = y.lots ∧ t.stock = y.stock ∧
        (t.line x.order x.line).map (·.reserved) = some l.reserved ∧ t.mgmt = s.mgmt ∧ s.onlyOrders t) ∧
    (∀ r, (∀ x, s.resOf r = some x → x.substitute = false ∨ x.struck = true) →
      exec (.substituteRelease r) s = .next s.begun) ∧
    (∀ r x, s.resOf r = some x → x.substitute = true → x.struck = false → 1 ≤ x.count → twf s.book.pool = true →
      x.seq < s.book.creations →
      ∃ t, exec (.substituteRelease r) s = .next t ∧ (∀ y, t.resOf r = some y → y.struck = true) ∧ s.onlyOrders t)

/-- HOLD_HANDOVER and RESERVATION_EXPIRY of the one live reservation concerned, of an order that is not PICKING, so that no pass
follows (R52, R54): the stock gives back what it holds reserved there, the line's reserved count falls by that, and a
reservation given back whole leaves the pool, its sequencer being told a strike when it is PRESENTED and a drop otherwise; what
the stock did not give back stays, struck, and its sequencer is told a strike. An expiry marks the line to avoid the
carousel, and its notice carries the count released. AUDIT_TRIM cuts the newest reservation of the placement by the excess
(R62). -/
def Sys2Proof.Claims.ReleaseCounts : Prop :=
  ∀ (s : State) (p : Nat) (x : Reservation) (o : Order) (l : Line), s.resetLow = false → s.reservation p = some x →
    x.struck = false → x.substitute = false → twf s.book.pool = true → s.book.poolFull = false → s.book.freed = false →
    s.order x.order = some o → o.lines[x.line]? = some l → o.state ≠ .picking → o.leaving = false → 1 ≤ x.count →
    let gives (n : Nat) : State × Nat := releaseEntry x.car x.carrier x.lot n s
    let line (n : Nat) (a : Option Carousel) : Line := { l with reserved := l.reserved - (gives n).2, avoid := a }
    let leaves (a : Option Carousel) (t : State) : Prop :=
      t.order x.order = some { o with lines := o.lines.set x.line (line x.count a).settled } ∧
      t.lots = (gives x.count).1.lots ∧ t.stock = (gives x.count).1.stock ∧
      ((gives x.count).2 = x.count → s.placeHolds p none t ∧ t.mail = (gives x.count).1.mail ++
        [if x.state = .presented then .pickStruck x.car ⟨{ place := p, seq := x.seq }, .other⟩
         else .pickDrop x.car { place := p, seq := x.seq }]) ∧
      ((gives x.count).2 < x.count →
        s.placeHolds p (some { x with count := x.count - (gives x.count).2, struck := true, expiry := none }) t ∧
        t.mail = (gives x.count).1.mail ++ [.pickStruck x.car ⟨{ place := p, seq := x.seq }, .other⟩])
    (s.livePlaces (fun r => r.lot = x.lot) = [p] → ∃ t, exec (.holdHandover x.lot) s = .next t ∧ leaves l.avoid t ∧
      t = { s.begun with lots := t.lots, stock := t.stock, book := t.book, mail := t.mail }) ∧
    (∀ d, x.expiry = some d → s.mgmt.cell ≠ .halted → x.state ≠ .presented → s.mgmt.notices.length < 64 →
      ∃ t, exec (.reservationExpiry p) s = .next t ∧ leaves (some x.car) t ∧ t.now = max s.now d ∧
        s.noticed (.reservationExpired x.order o.ref x.line x.car x.carrier x.lot (gives x.count).2) t ∧
        t = { s.begun with now := t.now, lots := t.lots, stock := t.stock, book := t.book, mail := t.mail, mgmt := t.mgmt }) ∧
    (∀ target n rest, s.trimOrder x.car x.carrier x.lot = p :: rest → n = s.reservedAt x.car x.carrier x.lot - target →
      0 < n → n < x.count → (∀ z, s.carrier x.car x.carrier = some z → (z.placements.map (·.lot)).Nodup) →
      ∃ t, exec (.auditTrim x.car x.carrier x.lot target) s = .next t ∧ t.answer = .trimmed target ∧
        s.placeHolds p (some { x with count := x.count - n }) t ∧ t.lots = (gives n).1.lots ∧ t.stock = (gives n).1.stock ∧
        t.order x.order = some { o with lines := o.lines.set x.line (line n l.avoid).settled } ∧
        t.mail = (gives n).1.mail ++ [.pickNewCount x.car { place := p, seq := x.seq } ⟨x.count - n, .other⟩])

/-- Releases, trims and substitutions of live reservations (R52, R54, R61 to R64). -/
def Obligations.Releases : Prop :=
  Claims.LiveReleases ∧ Claims.TrimsAndSubstitutions ∧ Claims.ReleaseCounts


/-! ## The Station Controllers -/

/-- READY_REPORT and NOT_READY_REPORT (R100) at a station with an empty scan queue: the carousel's ready mark is set or cleared,
and an OPEN station of a RUNNING cell without a grant offers one to the first carousel of its attention list that is marked
ready, which goes to the list's end. -/
def Sys2Proof.Claims.ReadyMarks : Prop :=
  ∀ (s : State) (i : Station) (k : Carousel) (b : Bool) (c : Instr), s.resetLow = false → (s.stn i).atRest →
    (c = .readyReport i k ∧ b = true) ∨ (c = .notReadyReport i k ∧ b = false) →
    let ready' := (s.stn i).ready.set k.val b k.isLt
    ∃ t, exec c s = .next t ∧
      (∀ j, (s.stn i).attention.find? (fun j => ready'[j]) = some j → (s.stn i).serving = true → s.mgmt.cell = .running →
        (s.stn i).grant = .absent →
        s.stationIs i { s.stn i with ready := ready', grant := .offered j,
                                     attention := (s.stn i).attention.filter (fun l => !(l = j)) ++ [j] } t ∧
          (s.mail ++ [.grant j]) <+: t.mail) ∧
      ((s.stn i).attention.find? (fun j => ready'[j]) = none ∨ (s.stn i).serving = false ∨ s.mgmt.cell ≠ .running ∨
          (s.stn i).grant ≠ .absent →
        s.stationIs i { s.stn i with ready := ready' } t ∧ s.mail <+: t.mail) ∧
      t = { s.begun with stations := t.stations, fe := t.fe, mail := t.mail }

/-- TRANSIT_PLACE_REPORT, PLANNER_ROOM_REPORT and PUT_TASK_LEFT (R104, R123, R130): a report of space ends the head's wait for
it and is nothing to a station that does not wait for it, nor is the head evaluated while the cell is not RUNNING; a PUT task
that has left its queue leaves the placed list. -/
def Sys2Proof.Claims.SpaceForStations : Prop :=
  ∀ (s : State) (i : Station) (k : Carousel) (c lot : Nat), s.resetLow = false →
    ((s.stn i).wait ≠ .conveyor → exec (.transitPlaceReport i) s = .next s.begun) ∧
    ((s.stn i).wait ≠ .planner → exec (.plannerRoomReport i) s = .next s.begun) ∧
    (∀ c', (c' = .transitPlaceReport i ∧ (s.stn i).wait = .conveyor) ∨ (c' = .plannerRoomReport i ∧ (s.stn i).wait = .planner) →
      s.mgmt.cell ≠ .running → (s.stn i).queue ≠ [] →
      ∃ t, exec c' s = .next t ∧ s.stationIs i { s.stn i with
          wait := .none, timer := (if (s.stn i).holder.isSome = true then .suspended else .stopped) } t ∧
        s.mail <+: t.mail ∧ t = { s.begun with stations := t.stations, fe := t.fe, mail := t.mail }) ∧
    exec (.putTaskLeft i k c lot) s = .next (s.begun.modStn i fun x =>
      { x with placed := x.placed.filter fun p => !(p = { car := k, carrier := c, lot := lot }) })

/-- Ready marks and room for a station's waiting work (R100, R104, R123, R128, R133). -/
def Obligations.StationReadiness : Prop :=
  Claims.ReadyMarks ∧ Claims.SpaceForStations

/-- STATION_LABEL (R103 to R105, R107, R116, R120): a label joins the scan queue of an OPEN station, a ninth sets the overrun flag,
and a CLOSED station takes none. In a RUNNING cell an opening label locks the queue without a grant, here in the notice mode
NONE, and, noticed, under a PICK grant when no lot has its article; one for an AUDIT grant is handed to the audit, and an
inbound label of an ACTIVE lot starts a batch and clears the message (log entry 27). One that matches a pick of the view takes
a place of the in-transit list, commits a tyre, moves it to the line's in-transit count and the place to an entry for the
order's compartment with a DIVERT, counts the pick down and is noticed. -/
def Sys2Proof.Claims.StationLabels : Prop :=
  ∀ (s : State) (h : Hdr) (label : Label) (i : Station) (role : Role) (reader : Reader), s.takes h → s.fe.ring = .up →
    (role = .openingReader ∧ reader = .opening) ∨ (role = .inboundReader ∧ reader = .inbound) →
    s.disposal h 11 = .field role i.val false →
    let e : ScanEntry := { reader := reader, label := label }
    let kept (t : State) : Prop := t = { s.heard with stations := t.stations, fe := t.fe, mail := t.mail } ∧ s.mail <+: t.mail
    ((s.stn i).serving = false → exec (.stationLabel h label) s = .next s.heard) ∧
    ((s.stn i).serving = true →
      (8 ≤ (s.stn i).queue.length → ∃ t, exec (.stationLabel h label) s = .next t ∧
        s.stationIs i { s.stn i with overrun := true } t ∧ kept t) ∧
      ((s.stn i).queue.length < 8 → s.mgmt.cell ≠ .running → ∃ t, exec (.stationLabel h label) s = .next t ∧
        s.stationIs i { s.stn i with queue := (s.stn i).queue ++ [e],
                                     timer := (if (s.stn i).holder.isSome = true then .suspended else .stopped) } t ∧ kept t) ∧
      ((s.stn i).atRest → s.mgmt.cell = .running →
        (reader = .opening → (s.stn i).grant = .absent → (s.stn i).nextReady = none → (s.stn i).mode = .none →
          ∃ t, exec (.stationLabel h label) s = .next t ∧ s.stationIs i { s.stn i with queue := [e], lock := some .noTask } t ∧
            kept t) ∧
        (∀ k v ps, reader = .opening → (s.stn i).grant = .held k v → v.body = .pick ps →
          (∀ x ∈ s.lots, x.2.article ≠ label.article) → (s.stn i).mode ≠ .none → s.mgmt.notices.length < 64 →
          ∃ t, exec (.stationLabel h label) s = .next t ∧
            s.stationIs i { s.stn i with queue := [e], lock := some .unknown, timer := .suspended } t ∧
            s.noticed (.scanException i .unknown label .opening (some (k, v.carrier, .pick))) t ∧
            t = { s.heard with stations := t.stations, fe := t.fe, mail := t.mail, mgmt := t.mgmt } ∧ s.mail <+: t.mail) ∧
        (∀ k v blind, reader = .opening → (s.stn i).grant = .held k v → v.body = .audit blind →
          ∃ t, exec (.stationLabel h label) s = .next t ∧
            s.stationIs i { s.stn i with overrun := false, timer := s.attentionStart } t ∧
            .tally k ((s.lotOf label).map (·.1)) ∈ t.mail ∧ kept t) ∧
        (∀ n l, reader = .inbound → (s.stn i).grant = .absent → (s.stn i).nextReady = none → s.lotOf label = some (n, l) →
          l.state = .active → (s.stn i).batch = none →
          ∃ t, exec (.stationLabel h label) s = .next t ∧
            s.stationIs i { s.stn i with overrun := false, message := none,
                                         batch := some { lot := n, count := 1, closing := false } } t ∧ kept t) ∧
        (∀ k v ps p n l x o li m q comp a y qs, reader = .opening → (s.stn i).grant = .held k v → v.body = .pick ps →
          s.lotOf label = some (p.lot, l) → l.state = .active → ps.find? (fun r => r.lot = p.lot && viewOpen r) = some p →
          n = tfree 0 s.transit.places → n < 64 → s.pickTakes k v.carrier p.lot = true →
          s.resOf p.res = some x → 2 ≤ x.count → s.order x.order = some o → o.lines[x.line]? = some li →
          s.holding x.order = some (m, q, comp) → (s.lane m).state = .coupled → s.nodeOf .sorter 0 = some a →
          s.fe.queue.length < 32 → (s.stn i).mode = .every → s.mgmt.notices.length < 64 →
          (s.seq k).taskOf p.res = some y → (s.seq k).granted = some y → y.body = .pick qs →
          ((s.seq k).queue.map (·.num)).Nodup → (∃ z ∈ qs, z.res ≠ p.res ∧ z.opened = true) →
          ∃ t z, exec (.stationLabel h label) s = .next t ∧
            z = { li with reserved := li.reserved - 1, inTransit := li.inTransit + 1, taken := li.taken ++ [s.lotWeek p.lot] } ∧
            t.order x.order = some { o with lines := o.lines.set x.line z.settled } ∧
            t.reservation p.res.place = some { x with count := x.count - 1 } ∧
            t.lots = (commitPickEntry k v.carrier p.lot s).1.lots ∧ t.stock = (commitPickEntry k v.carrier p.lot s).1.stock ∧
            t.place n = some (.entry x.order o.ref x.line p.lot (s.lotWeek p.lot) m q i (s.now + s.mgmt.timers.transit * 100)
              s.transit.created (decide (comp.state = .cancelled))) ∧
            frameTo .transit a (.divert (s.labelOf p.lot) (some m) false) ∈ t.fe.queue ∧
            s.stationIs i { s.stn i with grant := .held k (takeViewPick p.res v), timer := s.attentionStart, message := none,
                                         overrun := false } t ∧
            t.seq k = { s.seq k with queue := (s.seq k).queue.map fun u => if u.num = y.num then
              { y with body := .pick (modPick p.res (fun r => { r with remaining := r.remaining - 1 }) qs) } else u } ∧
            s.othersKept k t ∧
            s.noticed (.pickTaken i k [{ carrier := v.carrier, order := some (x.order, o.ref, x.line), lot := p.lot,
                                         label := label }]) t ∧
            t.lanes = s.lanes ∧ t.sessions = s.sessions ∧ t.requests = s.requests)))

/-- STATION_LABEL from the opening reader under a PUT grant (R106, R108, R116): a label of the granted lot while tyres remain
commits a tyre to the shelf, counts the put down at the station and in its task, starts the attention timer again and is
noticed; the last one ends the task, with its own notice and TASK-DONE, and the carousel, with nothing else to do, is IDLE. -/
def Sys2Proof.Claims.PutScans : Prop :=
  ∀ (s : State) (h : Hdr) (label : Label) (i : Station) (k : Carousel) (v : TaskView) (lot n : Nat) (l : Lot) (y : Task)
    (z cnt m : Nat) (j : Station) (e : State), s.takes h → s.fe.ring = .up → s.disposal h 11 = .field .openingReader i.val false →
    (s.stn i).serving = true → (s.stn i).atRest → s.mgmt.cell = .running → (s.stn i).grant = .held k v →
    v.body = .put lot n → s.lotOf label = some (lot, l) → commitPutEntry k v.carrier lot s = (e, true) →
    (s.stn i).mode = .every → s.mgmt.notices.length < 63 → (s.seq k).taskFor .put v.carrier = some y →
    y.body = .put z cnt m j → ((s.seq k).queue.map (·.num)).Nodup →
    let taken : NoticeBody := .putTaken i k [{ carrier := v.carrier, order := none, lot := lot, label := label }]
    (2 ≤ n → 2 ≤ m → ∃ t, exec (.stationLabel h label) s = .next t ∧
      s.stationIs i { s.stn i with grant := .held k { v with body := .put lot (n - 1) }, timer := s.attentionStart,
                                   message := none, overrun := false } t ∧
      t.seq k = { s.seq k with queue := (s.seq k).queue.map fun u =>
        if u.num = y.num then { y with body := .put z cnt (m - 1) j } else u } ∧ s.othersKept k t ∧
      s.noticed taken t ∧ e.mail <+: t.mail ∧
      t = { s.heard with lots := e.lots, stock := e.stock, seqs := t.seqs, stations := t.stations, fe := t.fe, mgmt := t.mgmt,
                         mail := t.mail }) ∧
    (1 ≤ n → m = 1 → (s.seq k).state = .presenting → (s.seq k).currentTask = some y → (s.seq k).queue = [y] →
      (s.seq k).held = [] → s.grantedBy k = some i → (s.stn i).group = [] →
      (∀ q : Carousel, q ≠ k → (s.stn i).ready[q] = false) →
      ∃ t, exec (.stationLabel h label) s = .next t ∧ (t.seq k).state = .idle ∧ (t.seq k).queue = [] ∧
        (t.seq k).current = none ∧ s.othersKept k t ∧ (t.stn i).grant = .absent ∧ (t.stn i).queue = [] ∧ s.stationsKept i t ∧
        t.mgmt = (handNotices [taken, .taskDone i k v.carrier .put .finished] s).mgmt ∧
        t = { s.heard with lots := e.lots, stock := e.stock, seqs := t.seqs, stations := t.stations, fe := t.fe, mgmt := t.mgmt,
                           mail := t.mail })

/-- STATION_LABEL that locks a scan queue (R105, R106, R109, R116): under a PICK grant a label of a HELD lot locks it HELD, one of a
lot whose picks are all finished or struck OVER-COUNT, one of an open pick's article but another lot WRONG-LOT, and any other of a
known article WRONG-ARTICLE; under a PUT grant an unknown article locks it UNKNOWN, a HELD lot other than the granted one HELD,
the granted lot with none remaining OVER-COUNT, another lot of its article WRONG-LOT, and any other WRONG-ARTICLE; without a
grant it is NO-TASK. The lock is noticed in every mode but NONE. -/
def Sys2Proof.Claims.ScanLocks : Prop :=
  ∀ (s : State) (h : Hdr) (label : Label) (i : Station), s.takes h → s.fe.ring = .up →
    s.disposal h 11 = .field .openingReader i.val false → (s.stn i).serving = true → (s.stn i).atRest →
    s.mgmt.cell = .running →
    let known : Prop := ∃ e ∈ s.lots, e.2.article = label.article
    let locks (c : Cond) (held : Option (Carousel × Nat × TaskKind)) : Prop :=
      let y : Stn := { s.stn i with queue := [{ reader := .opening, label := label }], lock := some c,
                                    timer := (if held.isSome = true then .suspended else .stopped) }
      ((s.stn i).mode = .none → ∃ t, exec (.stationLabel h label) s = .next t ∧ s.stationIs i y t ∧
        t = { s.heard with stations := t.stations, fe := t.fe, mail := t.mail } ∧ s.mail <+: t.mail) ∧
      ((s.stn i).mode ≠ .none → s.mgmt.notices.length < 64 → ∃ t, exec (.stationLabel h label) s = .next t ∧ s.stationIs i y t ∧
        s.noticed (.scanException i c label .opening held) t ∧
        t = { s.heard with stations := t.stations, fe := t.fe, mail := t.mail, mgmt := t.mgmt } ∧ s.mail <+: t.mail)
    ((s.stn i).grant = .absent → (s.stn i).nextReady = none → locks .noTask none) ∧
    (∀ k v ps, (s.stn i).grant = .held k v → v.body = .pick ps → known →
      let held := some (k, v.carrier, TaskKind.pick)
      (∀ n l, s.lotOf label = some (n, l) →
        (l.state = .held → locks .held held) ∧
        (l.state = .active → (∃ p ∈ ps, p.lot = n) → (∀ p ∈ ps, p.lot = n → p.mark ≠ .opened ∨ p.remaining = 0) →
          locks .overCount held)) ∧
      ((∀ n l, s.lotOf label = some (n, l) → l.state = .active ∧ ∀ p ∈ ps, p.lot ≠ n) →
        ((∃ p ∈ ps, viewOpen p = true ∧ (s.labelOf p.lot).article = label.article) → locks .wrongLot held) ∧
        ((∀ p ∈ ps, viewOpen p = true → (s.labelOf p.lot).article ≠ label.article) → locks .wrongArticle held))) ∧
    (∀ k v lot n, (s.stn i).grant = .held k v → v.body = .put lot n →
      let held := some (k, v.carrier, TaskKind.put)
      (¬ known → locks .unknown held) ∧
      (∀ r l, known → s.lotOf label = some (r, l) →
        (l.state = .held → r ≠ lot ∨ n = 0 → locks .held held) ∧
        (l.state = .active → r = lot → n = 0 → locks .overCount held)) ∧
      (known → (∀ r l, s.lotOf label = some (r, l) → l.state = .active ∧ r ≠ lot) →
        ((s.labelOf lot).article = label.article → locks .wrongLot held) ∧
        ((s.labelOf lot).article ≠ label.article → locks .wrongArticle held)))

/-- Labels that the readers of a station read (R103 to R109, R116, R120). -/
def Obligations.Scans : Prop :=
  Claims.StationLabels ∧ Claims.PutScans ∧ Claims.ScanLocks

/-- SIGN_ON, SIGN_OFF, CLEAR_REJECT and RECOUNT (R96, R97, R110): a sign-on opens a closed station and a sign-off closes an open
one, here without a grant, emptying its queue, lock, wait and batch, and each tells the station's carousels; a reject clears
the lock with its entry, a recount of an opening entry under a grant asks for an audit of the granted carrier as well, and
the attention timer starts again. A station already open, one not open, or a queue without a lock leaves all as it is. -/
def Sys2Proof.Claims.StationKeys : Prop :=
  ∀ (s : State) (i : Station),
    (s.keyActs i .signOn → (s.stn i).opened = false → (s.stn i).atRest → (s.stn i).nextReady = none →
      ∃ t, exec (.signOn i) s = .next t ∧ s.stationIs i { s.stn i with opened := true } t ∧
        (s.mail ++ (s.stn i).cars.map fun k => .stationStateReport k true) <+: t.mail ∧
        t = { s.begun with stations := t.stations, fe := t.fe, mail := t.mail }) ∧
    (s.keyActs i .signOn → (s.stn i).opened = true → exec (.signOn i) s = .next s.begun) ∧
    (s.keyActs i .signOff → (s.stn i).opened = true → (s.stn i).grant = .absent → (s.stn i).planning = none →
      ∃ t, exec (.signOff i) s = .next t ∧
        s.stationIs i { s.stn i with opened := false, queue := [], lock := none, wait := .none, overrun := false,
                                     timer := .stopped, batch := none, roomWaiter := false } t ∧
        (s.mail ++ (s.stn i).cars.map fun k => .stationStateReport k false) <+: t.mail ∧
        t = { s.begun with stations := t.stations, fe := t.fe, mail := t.mail }) ∧
    (s.keyActs i .signOff → (s.stn i).opened = false → exec (.signOff i) s = .next s.begun) ∧
    (∀ c key reports, (c = .clearReject i ∧ key = Key.clearReject) ∨ (c = .recount i ∧ key = Key.recount) →
      s.keyActs i key →
      ((s.stn i).serving = false ∨ (s.stn i).lock = none → exec c s = .next s.begun) ∧
      (∀ k v e cond, (s.stn i).serving = true → (s.stn i).lock = some cond → (s.stn i).grant = .held k v →
        (s.stn i).queue = [e] →
        reports = (if c = .recount i ∧ e.reader = .opening then [.auditRequestRaised k v.carrier false (s.grantedClass k v) .recount] else []) →
        ∃ t, exec c s = .next t ∧
          s.stationIs i { s.stn i with queue := [], lock := none, overrun := false, timer := s.attentionStart } t ∧
          (s.mail ++ reports) <+: t.mail ∧ t = { s.begun with stations := t.stations, fe := t.fe, mail := t.mail }))

/-- SHORT, CONFIRM and BATCH_END (R113, R114, R122, R127): under a PICK grant SHORT reports the first open pick short and asks
for an audit, marking the pick, the first that no SHORT has marked yet (log entry 28, DEDUCED); CONFIRM under an AUDIT grant
confirms the audit; both start the attention timer again, and both ask for the scans to be finished while a scan waits or a lock
stands, which R113 says of CONFIRM alone (log entry 28, DESIGN CHOICE, for SHORT); without a grant neither shows anything, with
scans waiting either (log entry 28). BATCH-END closes a batch while the planner is full, and otherwise hands it to the planner,
which refuses a batch of a lot that is not ACTIVE as HELD. -/
def Sys2Proof.Claims.TaskKeys : Prop :=
  ∀ (s : State) (i : Station), (s.stn i).serving = true →
    (∀ k v p, s.keyActs i .short → (s.stn i).grant = .held k v → shortPick v = some p → (s.stn i).queue = [] →
      (s.stn i).lock = none →
      exec (.short i) s = .next ((s.begun.modStn i fun x =>
          { x with grant := .held k (markShorted p.res v), timer := s.attentionStart }).postAll
        [.shortReport p.res p.remaining, .auditRequestRaised k v.carrier false 0 .short])) ∧
    (s.keyActs i .short → (s.stn i).holder = none → exec (.short i) s = .next s.begun) ∧
    (∀ k v blind, s.keyActs i .confirm → (s.stn i).grant = .held k v → v.body = .audit blind → (s.stn i).queue = [] →
      (s.stn i).lock = none →
      exec (.confirm i) s = .next ((s.begun.modStn i fun x => { x with timer := s.attentionStart }).post (.auditConfirm k))) ∧
    (s.keyActs i .confirm → (s.stn i).holder = none → exec (.confirm i) s = .next s.begun) ∧
    (∀ k v ps c key, (c = .short i ∧ key = Key.short) ∨ (c = .confirm i ∧ key = Key.confirm) → s.keyActs i key →
      (s.stn i).grant = .held k v → v.body = .pick ps → (s.stn i).queue ≠ [] ∨ (s.stn i).lock ≠ none →
      ∃ t, exec c s = .next t ∧ s.stationIs i { s.stn i with message := some .finishScans } t ∧ s.mail <+: t.mail ∧
        t = { s.begun with stations := t.stations, fe := t.fe, mail := t.mail }) ∧
    (∀ b, s.keyActs i .batchEnd → (s.stn i).batch = some b → b.closing = false →
      ((s.stn i).plannerFull = true → ∃ t, exec (.batchEnd i) s = .next t ∧
        s.stationIs i { s.stn i with batch := some { b with closing := true } } t ∧ s.mail <+: t.mail ∧
        t = { s.begun with stations := t.stations, fe := t.fe, mail := t.mail }) ∧
      ((s.stn i).plannerFull = false → s.lotActive b.lot = false → 1 ≤ b.count → s.mgmt.notices.length < 64 →
        ∃ t, exec (.batchEnd i) s = .next t ∧ s.stationIs i { s.stn i with batch := none, message := some .noSpace } t ∧
          s.noticed (.putRefused i b.lot (s.labelOf b.lot) b.count 0 b.count .held) t ∧ s.mail <+: t.mail ∧
          t = { s.begun with stations := t.stations, fe := t.fe, mail := t.mail, mgmt := t.mgmt }))

/-- CONFIRM under a PICK or a PUT grant (R85, R113), with the scan queue empty and no lock: a PICK task's unfinished live picks form
a new PICK task, with which the carousel is READY, and a PUT task's remaining count goes back by return-incoming, the task leaves
the queue and the carousel, with nothing else to do, is IDLE; either grant ends with TASK-DONE, outcome CONFIRMED. -/
def Sys2Proof.Claims.ConfirmKeys : Prop :=
  ∀ (s : State) (k : Carousel) (i : Station) (x : Task) (v : TaskView), s.presents k i x v → s.keyActs i .confirm →
    (s.stn i).serving = true → (s.stn i).lock = none → (s.seq k).queue = [x] →
    (∀ y vs, v.body = .pick vs → s.restOfPicks k x y → x.num < (s.seq k).arrivals → (s.seq k).index = some x.carrier →
      s.carrierState k x.carrier ≠ some .auditLocked → s.mgmt.cell ≠ .loading →
      ∃ t, exec (.confirm i) s = .next t ∧ t.answer = .none ∧ s.confirmedPick k i x y v t) ∧
    (∀ lot n m j vl vn, v.body = .put vl vn → x.body = .put lot n m j →
      ∃ t, exec (.confirm i) s = .next t ∧ s.grantOver k i (s.seq k).emptied t ∧
        t.lots = (returnIncomingEntry k x.carrier lot m s).1.lots ∧
        t.stock = (returnIncomingEntry k x.carrier lot m s).1.stock ∧ .putTaskLeft j k x.carrier lot ∈ t.mail ∧
        s.noticed (.taskDone i k v.carrier .put .confirmed) t ∧
        t = { s.begun with lots := t.lots, stock := t.stock, seqs := t.seqs, stations := t.stations, fe := t.fe, mail := t.mail,
                           mgmt := t.mgmt })

/-- CLEAR_ACCEPT (R111): without a WRONG-LOT lock of an opening entry that the grant allows to substitute, the panel shows that
it is not allowed, and with no transit place that the conveyor is full; otherwise the pick's reservation gives a tyre up for one
of the scanned lot, that tyre is committed and handed over on the place, and the lock is cleared with its entry. The Order
Book's reports to the carousel, here those of the cut alone, are taken in the same step (log entry 6, DESIGN CHOICE): its remaining count is that of the
reservation, or it is struck and shown as substituted when the reservation is gone, and a task without an open pick then ends.
-/
def Sys2Proof.Claims.AcceptClears : Prop :=
  ∀ (s : State) (i : Station), s.keyActs i .clearAccept → (s.stn i).serving = true → (s.stn i).lock ≠ none →
    (s.acceptAllowed i = none → ∃ t, exec (.clearAccept i) s = .next t ∧
      s.stationIs i { s.stn i with message := some .notAllowed } t ∧ s.mail <+: t.mail ∧
      t = { s.begun with stations := t.stations, fe := t.fe, mail := t.mail }) ∧
    (∀ a, s.acceptAllowed i = some a → 64 ≤ tfree 0 s.transit.places → ∃ t, exec (.clearAccept i) s = .next t ∧
      s.stationIs i { s.stn i with message := some .conveyorFull } t ∧ s.mail <+: t.mail ∧ i ∈ t.transit.waitStations ∧
      t = { s.begun with stations := t.stations, fe := t.fe, mail := t.mail,
                         transit := { s.transit with waitStations := t.transit.waitStations } }) ∧
    (∀ e k v p lot n b r x m q comp y ps vs, s.acceptAllowed i = some (e, k, v, p, lot) → (s.stn i).queue = [e] →
      n = tfree 0 s.transit.places → n < 64 → s.book.poolFull = false → s.book.freed = false →
      s.resOf p.res = some x → x.substitute = false → lot ≠ x.lot → 1 ≤ x.count → 1 ≤ s.reservedAt x.car x.carrier x.lot →
      takeSubstitution p.res lot s = (b, some r) → b.pickTakes k v.carrier lot = true →
      s.holding x.order = some (m, q, comp) → (s.lane m).state = .coupled → (s.order x.order).any (fun o => !o.leaving) = true →
      twf s.book.pool = true → x.car = k → (∀ c ∈ s.mail, orderReport k c = false) →
      s.grantedBy k = some i → (s.seq k).taskOf p.res = some y → (s.seq k).granted = some y → y.body = .pick ps →
      v.body = .pick vs → ((s.seq k).queue.map (·.num)).Nodup →
      ∃ t, exec (.clearAccept i) s = .next t ∧ (t.stn i).lock = none ∧ (t.stn i).queue = [] ∧ (t.stn i).overrun = false ∧
        s.stationsKept i t ∧ s.othersKept k t ∧
        t.stock = (commitPickEntry k v.carrier lot b).1.stock ∧ t.lots = (commitPickEntry k v.carrier lot b).1.lots ∧
        t.reservation r.place = none ∧
        t.place n = some (.entry x.order (s.orderRef x.order) x.line lot (s.lotWeek lot) m q i (s.now + s.mgmt.timers.transit * 100)
          s.transit.created (decide (comp.state = .cancelled))) ∧
        t.lanes = s.lanes ∧ t.sessions = s.sessions ∧ t.requests = s.requests ∧
        ((∃ z ∈ ps, z.res ≠ p.res ∧ z.opened = true) ∨ 2 ≤ x.count →
          (t.stn i).timer = s.attentionStart ∧
          t.seq k = { s.seq k with queue := (s.seq k).queue.map fun u => if u.num = y.num then { y with body := .pick (ps.map fun z =>
            if z.res = p.res then (if x.count = 1 then { z with struck := true } else { z with remaining := x.count - 1 })
            else z) } else u } ∧
          ∃ ws, (t.stn i).grant = .held k { v with body := .pick ws } ∧ ∀ w ∈ ws, w.res = p.res →
            (x.count = 1 → w.mark = .substituted) ∧ (2 ≤ x.count → w.remaining = x.count - 1)) ∧
        (x.count = 1 → (∀ z ∈ ps, z.res ≠ p.res → z.opened = false) → (s.seq k).queue = [y] → (s.seq k).held = [] →
          (t.seq k).state = .idle ∧ (t.seq k).queue = [] ∧ (t.seq k).current = none ∧ (t.stn i).holder = none))

/-- BATCH_END of an OPEN batch of an ACTIVE lot with the planner not full (R122, R124 to R128): the first candidate after
ranking is booked with what fits of the batch, and the part is offered to its carousel, here one that is not IDLE. Taken, it is
a PUT task of the station's class and joins the placed list at its end (log entry 70, DESIGN CHOICE); FULL, it joins the wait list
with its booking and with its own count as its planned count (log entry 66, DESIGN CHOICE). A batch that fits whole ends; a remainder that finds no other candidate, and a batch that finds none, is refused NO-SPACE with its notice. -/
def Sys2Proof.Claims.PutPlans : Prop :=
  ∀ (s : State) (i : Station) (b : Batch), s.keyActs i .batchEnd → (s.stn i).serving = true → (s.stn i).batch = some b →
    b.closing = false → (s.stn i).planning = none → (s.stn i).waitList.length < 4 → s.lotActive b.lot = true → 1 ≤ b.count →
    s.mgmt.notices.length < 64 →
    ((∀ (k : Carousel) (c n w d : Nat), s.putCandidate i k c → ¬ s.putFigures k c b.lot b.count n w d) →
      ∃ t, exec (.batchEnd i) s = .next t ∧ s.stationIs i { s.stn i with batch := none, message := some .noSpace } t ∧
        s.noticed (.putRefused i b.lot (s.labelOf b.lot) b.count 0 b.count .noSpace) t ∧ s.mail <+: t.mail ∧
        t = { s.begun with stations := t.stations, fe := t.fe, mail := t.mail, mgmt := t.mgmt }) ∧
    ∀ (k : Carousel) (c n : Nat) (x : Carrier), s.putChoice i b.lot b.count k c n → s.carrier k c = some x →
      (x.placements.map (·.lot)).Nodup → (s.seq k).taskFor .put c = none → (s.seq k).state ≠ .idle →
      let ps : List Placement :=
        if (placementOf b.lot x.placements).isSome = true then
          x.placements.map fun p => if p.lot = b.lot then { p with incoming := p.incoming + n } else p
        else x.placements ++ [{ lot := b.lot, onHand := 0, reserved := 0, incoming := n }]
      let booked (t : State) : Prop := s.restocked k c { x with placements := ps } t ∧
        s.retotalled b.lot (fun l => { l with incoming := l.incoming + n }) t ∧ s.mail <+: t.mail
      let tasked (t : State) : Prop := s.othersKept k t ∧ t.seq k = { s.seq k with
        arrivals := (s.seq k).arrivals + 1,
        queue := placeTask { num := (s.seq k).arrivals, cls := (s.stn i).putClass, carrier := c,
                             body := .put b.lot n n i } (s.seq k).queue }
      let placed := (s.stn i).placed ++ [{ car := k, carrier := c, lot := b.lot }]
      ((s.seq k).queue.length < 16 → n = b.count → ∃ t, exec (.batchEnd i) s = .next t ∧ booked t ∧ tasked t ∧
        s.stationIs i { s.stn i with batch := none, placed := placed } t ∧
        t = { s.begun with lots := t.lots, stock := t.stock, seqs := t.seqs, stations := t.stations, fe := t.fe,
                           mail := t.mail }) ∧
      ((s.seq k).queue.length < 16 → n < b.count → (∀ (k' : Carousel) (c' : Nat), s.putCandidate i k' c' → k' = k ∧ c' = c) →
        ∃ t, exec (.batchEnd i) s = .next t ∧ booked t ∧ tasked t ∧
          s.stationIs i { s.stn i with batch := none, placed := placed, message := some .noSpace } t ∧
          s.noticed (.putRefused i b.lot (s.labelOf b.lot) b.count n (b.count - n) .noSpace) t ∧
          t = { s.begun with lots := t.lots, stock := t.stock, seqs := t.seqs, stations := t.stations, fe := t.fe,
                             mail := t.mail, mgmt := t.mgmt }) ∧
      (16 ≤ (s.seq k).queue.length → n = b.count → ∃ t, exec (.batchEnd i) s = .next t ∧ booked t ∧
        s.stationIs i { s.stn i with batch := none, waitList := (s.stn i).waitList ++
          [{ car := k, carrier := c, lot := b.lot, count := n, whole := b.count, planned := n }] } t ∧
        t = { s.begun with lots := t.lots, stock := t.stock, stations := t.stations, fe := t.fe, mail := t.mail })

/-- The keys of a panel (R96, R97, R107 to R115, R118, R121, R122), and the put that a batch's end plans (R124 to R128). -/
def Obligations.PanelKeys : Prop :=
  Claims.StationKeys ∧ Claims.TaskKeys ∧ Claims.ConfirmKeys ∧ Claims.AcceptClears ∧ Claims.PutPlans

/-- TASK_VIEW_REPORT and PLACE_REPORT (R115, R128, R129): a report of the granted PICK task adds a pick, changes a count, strikes a
pick, with its message where it is not its own ACCEPT's or SHORT's (R111, R114), or drops it from the view, the count shown being
at most what the reservation then has in the pool (log entry 12, DEDUCED); one for another carousel is nothing. A place report has
the planner offer its waiting part, which becomes a PUT task and joins the placed list at its end (log entry 70, DESIGN CHOICE). -/
def Sys2Proof.Claims.ViewsAndParts : Prop :=
  ∀ (s : State) (i : Station) (k : Carousel), s.resetLow = false →
    ((∀ v, (s.stn i).grant ≠ .held k v) → ∀ c, exec (.taskViewReport i k c) s = .next s.begun) ∧
    (∀ v ps, (s.stn i).grant = .held k v → v.body = .pick ps →
      let shows (c : ViewChange) (qs : List ViewPick) (m : Option Message) : Prop :=
        ∃ t, exec (.taskViewReport i k c) s = .next t ∧
          s.stationIs i { s.stn i with grant := .held k { v with body := .pick qs }, message := m } t ∧ s.mail <+: t.mail ∧
          t = { s.begun with stations := t.stations, fe := t.fe, mail := t.mail }
      (∀ p x, s.resOf p.res = some x → shows (.newPick p)
        (ps.filter (fun q => !(q.res = p.res)) ++ [{ p with remaining := min p.remaining x.count }]) (s.stn i).message) ∧
      (∀ r n why x, s.resOf r = some x → 1 ≤ min n x.count → shows (.newCount r n why) (ps.map fun p => if p.res = r then
        { p with remaining := min n x.count, shorted := if why = .short then false else p.shorted,
                 mark := if p.mark = .finished then .opened else p.mark } else p)
        (s.stn i).message) ∧
      (∀ r, (∃ p ∈ ps, p.res = r) → shows (.struck r .other)
        (ps.map fun p => if p.res = r then { p with mark := .doNotPick } else p) (some .doNotPick)) ∧
      (∀ r, shows (.struck r .accept) (ps.map fun p => if p.res = r then { p with mark := .substituted } else p)
          (s.stn i).message ∧
        shows (.struck r .short) (ps.map fun p => if p.res = r then { p with mark := .short } else p) (s.stn i).message) ∧
      (∀ r, shows (.dropped r) (ps.filter fun p => !(p.res = r)) (s.stn i).message)) ∧
    (∀ p, (s.stn i).waitList = [p] → p.car = k → (s.stn i).planning = none → s.closedTo k p.carrier = false →
      (s.seq k).taskFor .put p.carrier = none → (s.seq k).queue.length < 16 → (s.seq k).state ≠ .idle →
      ∃ t, exec (.placeReport i k) s = .next t ∧
        s.stationIs i { s.stn i with waitList := [],
                                     placed := (s.stn i).placed ++ [{ car := k, carrier := p.carrier, lot := p.lot }] } t ∧
        t.seq k = { s.seq k with
          arrivals := (s.seq k).arrivals + 1,
          queue := placeTask { num := (s.seq k).arrivals, cls := (s.stn i).putClass, carrier := p.carrier,
                               body := .put p.lot p.count p.count i } (s.seq k).queue } ∧
        s.othersKept k t ∧ s.mail <+: t.mail ∧
        t = { s.begun with stations := t.stations, seqs := t.seqs, fe := t.fe, mail := t.mail })

/-- PANEL_SHOW_RETURN, PANEL_RECOVERY and BAY_CURTAIN_CHANGE (R96, R98, R99): an accepted return changes nothing, a damaged one has
the current content sent once more, while the panel is PRESENT, and a refused or lost one marks the panel of a closed station
LOST, with its keys up, its curtains unseen and no content waiting (log entry 67, DESIGN CHOICE), and tells its carousels; the
first input frame after a loss makes it PRESENT with the frame's keys and curtains; a bay's change is stored and told to the
bay's carousel. -/
def Sys2Proof.Claims.Panels : Prop :=
  ∀ (s : State) (i : Station),
    (s.resetLow = false →
      exec (.panelShowReturn i .accepted) s = .next s.begun ∧
      ((s.stn i).configured = false ∨ (s.stn i).panelLost = true → exec (.panelShowReturn i .damaged) s = .next s.begun) ∧
      (∀ a, (s.stn i).configured = true → (s.stn i).panelLost = false → s.nodeOf .panel i.val = some a →
        s.fe.queue.any (isFrameOf (.station i) 9) = false → s.fe.queue.length < 32 →
        exec (.panelShowReturn i .damaged) s = .next ((s.begun.framed (.station i) a (.panelShow (s.content i))).modStn i fun x =>
          { x with display := { sent := some (s.content i), waiting := none } })) ∧
      (∀ fate, fate = .refused ∨ fate = .lost →
        ((s.stn i).panelLost = true → exec (.panelShowReturn i fate) s = .next s.begun) ∧
        ((s.stn i).panelLost = false → (s.stn i).opened = false → s.fe.queue.any (isFrameOf (.station i) 9) = false →
          exec (.panelShowReturn i fate) s = .next ((s.begun.modStn i fun x => x.panelGone).postAll
            ((s.stn i).cars.map fun k => .curtainBroken k true)))) ∧
      (∀ (b : Bay) (broken : Bool) (new : BayCurtain), new = (if broken = true then .broken else .clear) →
        (s.stn i).configured = true → (s.stn i).panelLost = false →
        ((s.stn i).curtains[b] = new → exec (.bayCurtainChange i b broken) s = .next s.begun) ∧
        ((s.stn i).curtains[b] ≠ new → exec (.bayCurtainChange i b broken) s =
          .next ((s.begun.modStn i fun x => { x with curtains := x.curtains.set b.val new b.isLt }).postAll
            (match (s.stn i).bays[b] with
             | some k => [if broken = true then .curtainBroken k false else .curtainClear k]
             | none => []))))) ∧
    (∀ (h : Hdr) (input : PanelInput), s.takes h → s.fe.ring = .up → s.disposal h 10 = .field .panel i.val false →
      (s.stn i).configured = true → (s.stn i).panelLost = true → (s.stn i).opened = false → (s.stn i).atRest →
      ∃ t, exec (.panelRecovery h input) s = .next t ∧
        s.stationIs i { s.stn i with panelLost := false, keys := input.keys,
                                     curtains := input.broken.map fun b => if b = true then .broken else .clear } t ∧
        s.mail <+: t.mail ∧ t = { s.heard with stations := t.stations, fe := t.fe, mail := t.mail })

/-- The content of a display (R99): the light of the bay that holds the granted carousel; the granted task's view, with a PICK
task's picks, a PUT task's lot and remaining count, and an AUDIT task's placements, whose counts a blind audit does not show;
without a grant, waiting while the station serves and closed otherwise; and the lock, the request to scan again after an
overrun, or the transient message. -/
def Sys2Proof.Claims.DisplayContent : Prop :=
  ∀ (s : State) (i : Station),
    (∀ k v, (s.stn i).grant = .held k v →
      (s.content i).light = [0, 1, 2, 3].find? (fun b : Bay => (s.stn i).bays[b] = some k) ∧
      (∀ ps, v.body = .pick ps → (s.content i).view = .pick v.carrier (ps.map fun p =>
        { article := (s.labelOf p.lot).article, week := (s.labelOf p.lot).week, remaining := p.remaining, mark := p.mark })) ∧
      (∀ lot n, v.body = .put lot n →
        (s.content i).view = .put v.carrier (s.labelOf lot).article (s.labelOf lot).week n) ∧
      (∀ x blind, v.body = .audit blind → s.carrier k v.carrier = some x →
        (s.content i).view = .audit v.carrier (x.placements.map fun p =>
          { article := (s.labelOf p.lot).article, week := (s.labelOf p.lot).week,
            onHand := if blind = true then none else some p.onHand }))) ∧
    ((∀ k v, (s.stn i).grant ≠ .held k v) → (s.content i).light = none ∧
      (s.content i).view = if (s.stn i).serving = true then .waiting else .closed) ∧
    (s.content i).message = (match (s.stn i).lock with
      | some c => some (.locked c)
      | none => if (s.stn i).overrun = true then some .rescan else (s.stn i).message)

/-- When a display is sent (R98, R99, R115), through TASK_VIEW_REPORT at the station that holds the carousel's PICK grant, whose
view takes the change: a content that is the latest already is not sent; a new one replaces the content of a PANEL-SHOW that is
still queued, joins the transmit queue, or waits while the queue is full; while the panel is LOST none is sent. The view of a
station that holds another grant or none does not change. -/
def Sys2Proof.Claims.DisplaySent : Prop :=
  ∀ (s : State) (i : Station) (k : Carousel) (c : ViewChange), s.resetLow = false →
    ((∀ v, (s.stn i).grant ≠ .held k v) → exec (.taskViewReport i k c) s = .next s.begun) ∧
    (∀ v ps u new, (s.stn i).grant = .held k v → v.body = .pick ps →
      u = s.begun.modStn i (fun x => { x with
        grant := .held k (changeView (s.viewNow c) v),
        message := (if showsStrike c v = true then some .doNotPick else x.message) }) →
      new = u.content i →
      ((s.stn i).configured = false ∨ (s.stn i).panelLost = true ∨ (s.stn i).latest = some new →
        exec (.taskViewReport i k c) s = .next u) ∧
      ((s.stn i).configured = true → (s.stn i).panelLost = false → (s.stn i).latest ≠ some new →
        (s.fe.queue.any (isFrameOf (.station i) 9) = true → exec (.taskViewReport i k c) s =
          .next ((u.modFe fun e => { e with
            queue := modFirst (isFrameOf (.station i) 9) (fun f => { f with payload := .panelShow new }) e.queue }).modStn i
              fun x => { x with display := { sent := some new, waiting := none } })) ∧
        (∀ a, s.fe.queue.any (isFrameOf (.station i) 9) = false → s.nodeOf .panel i.val = some a →
          (s.fe.queue.length < 32 → exec (.taskViewReport i k c) s =
            .next ((u.framed (.station i) a (.panelShow new)).modStn i fun x =>
              { x with display := { sent := some new, waiting := none } })) ∧
          (32 ≤ s.fe.queue.length → ∃ t, exec (.taskViewReport i k c) s = .next t ∧ .station i ∈ t.fe.waiting ∧
            t.fe.queue = s.fe.queue ∧ (t.stn i).display = { (s.stn i).display with waiting := some new } ∧
            t = { u with stations := t.stations, fe := { s.fe with waiting := t.fe.waiting } }))))

/-- Where a display starts afresh or falls silent (R98, R115, R118): the loss of a CLOSED station's panel withdraws a PANEL-SHOW
that is still queued (log entry 67, DESIGN CHOICE); the strike of a task's last open pick puts the message on the panel and ends
the task; and a CELL-RESTART sends each station with its panel PRESENT the waiting or the closed view (that it is sent although
the panel may show it already is log entry 29, DEDUCED; that a transient message is gone with the restart is log entry 27,
DESIGN CHOICE). -/
def Sys2Proof.Claims.DisplayRestarts : Prop :=
  ∀ s : State, s.resetLow = false →
    (∀ i, (s.stn i).opened = false → (s.stn i).panelLost = false → s.fe.queue.any (isFrameOf (.station i) 9) = true →
      exec (.panelShowReturn i .lost) s = .next ((((s.begun.modFe fun e =>
        { e with queue := e.queue.filter fun f => !isFrameOf (.station i) 9 f, waiting := [] }).postAll
          (s.fe.waiting.map .spaceReport)).modStn i fun x => x.panelGone).postAll
            ((s.stn i).cars.map fun k => .curtainBroken k true))) ∧
    (∀ k r i x p v w, (s.seq k).state = .presenting → (s.seq k).currentTask = some x → (s.seq k).queue = [x] →
      x.body = .pick [p] → p.res = r → p.struck = false → 0 < p.remaining → (s.seq k).held = [] → s.grantedBy k = some i →
      (s.stn i).grant = .held k v → v.body = .pick [w] → w.res = r → (s.stn i).mode = .every →
      (s.stn i).group = [] → (s.stn i).queue = [] → s.mgmt.notices.length < 64 →
      ∃ t, exec (.pickStruck k ⟨r, .other⟩) s = .next t ∧ (t.seq k).state = .idle ∧ (t.seq k).queue = [] ∧ (t.seq k).current = none ∧
        s.othersKept k t ∧ (t.stn i).message = some .doNotPick ∧ (t.stn i).holder = none ∧ s.stationsKept i t ∧
        s.noticed (.taskDone i k v.carrier .pick .finished) t) ∧
    (∀ q, s.asks q → ∃ t, exec (.cellRestart q) s = .next t ∧
      ∀ i a, (s.stn i).configured = true → (s.stn i).panelLost = false → s.nodeOf .panel i.val = some a →
        frameTo (.station i) a (.panelShow { light := none, view := (if (s.stn i).opened = true then .waiting else .closed),
                                             message := none }) ∈ t.fe.queue)

/-- The task view, the planner's wait list, the panel and what it is sent (R96, R98, R99, R115, R118, R123, R129). -/
def Obligations.ViewsAndPanels : Prop :=
  Claims.ViewsAndParts ∧ Claims.Panels ∧ Claims.DisplayContent ∧ Claims.DisplaySent ∧ Claims.DisplayRestarts


/-! ## The Transit and Lane Unit -/

/-- TRANSIT_PLACE_REQUEST, PLACE_GIVE_UP and HAND_OVER (R132 to R134): a station is given the lowest FREE place, HELD for it, or
waits for one; a place given back is FREE and the waiting stations are told; a place handed over becomes the entry of a tyre
for the order's compartment, with its deadline and a DIVERT to the lane, or, when no coupled cart holds the order, is freed
with a DIVERT to no lane, a removal report and a TRANSIT-LOST notice, which carries the order's reference (R39) and neither lane nor
compartment, a FLUSHING lane's not either (log entry 66, DESIGN CHOICE). The hand-over brings the reference, and the entry keeps it
(log entry 74, DESIGN CHOICE). A place not HELD for the station changes nothing. -/
def Sys2Proof.Claims.TransitPlaces : Prop :=
  ∀ (s : State) (i : Station) (n h line lot week : Nat) (ref : OrderRef), s.resetLow = false → twf s.transit.places = true →
    (∀ m, m = tfree 0 s.transit.places →
      (m < 64 → exec (.transitPlaceRequest i) s =
        .next ((s.begun.modTransit fun t => { t with places := tput m (.held i) t.places }).ans (.place m))) ∧
      (64 ≤ m → exec (.transitPlaceRequest i) s = .next ((s.begun.modTransit fun t =>
        { t with waitStations := if i ∈ t.waitStations then t.waitStations else t.waitStations ++ [i] }).ans .full))) ∧
    (s.place n ≠ some (.held i) → exec (.placeGiveUp i n) s = .next s.begun ∧
      exec (.handOver i n ⟨h, ref⟩ line lot week) s = .next s.begun) ∧
    (s.place n = some (.held i) →
      (∃ t, exec (.placeGiveUp i n) s = .next t ∧ s.placeFree n t ∧
        t = { s.begun with transit := t.transit, mail := s.mail ++ s.transit.waitStations.map .transitPlaceReport }) ∧
      ∀ a, s.nodeOf .sorter 0 = some a → s.fe.queue.length < 32 →
        (∀ l c comp, s.holding h = some (l, c, comp) → (s.lane l).state = .coupled ∨ (s.lane l).state = .releaseWait →
          exec (.handOver i n ⟨h, ref⟩ line lot week) s = .next ((s.begun.modTransit fun t =>
            { t with created := t.created + 1,
                     places := tput n (.entry h ref line lot week l c i (s.now + s.mgmt.timers.transit * 100) t.created
                       (decide (comp.state = .cancelled))) t.places }).framed .transit a
                         (.divert (s.labelOf lot) (some l) false))) ∧
        ((s.holding h = none ∨ ∃ l c comp, s.holding h = some (l, c, comp) ∧ (s.lane l).state ≠ .coupled ∧
            (s.lane l).state ≠ .releaseWait) → s.mgmt.notices.length < 64 →
          ∃ t, exec (.handOver i n ⟨h, ref⟩ line lot week) s = .next t ∧ s.placeFree n t ∧
            t.fe = (s.framed .transit a (.divert (s.labelOf lot) none false)).fe ∧
            t.mail = s.mail ++ s.transit.waitStations.map .transitPlaceReport ++ [.transitRemoval h line week .timeout] ∧
            s.noticed (.transitLost h ref line lot none i true) t ∧
            t = { s.begun with transit := t.transit, fe := t.fe, mail := t.mail, mgmt := t.mgmt }))

/-- DIVERT_RETURN, TRANSIT_TIMEOUT and LANE_ARRIVAL (R135 to R137): a DIVERT damaged or lost is sent once more and no more; an
entry at its deadline is freed with a removal report and a TRANSIT-LOST notice, which carries the reference of the entry's order
(R39), also when that has left the table or its handle names another order by then (log entry 74); a label seen at its lane frees the oldest
entry it matches with a delivery report and shows its compartment, or that a cancelled order's tyre goes back, and one that
matches none is noticed as STRAY and shown as rejected. The lanes are not FLUSHING here. -/
def Sys2Proof.Claims.TransitEnds : Prop :=
  ∀ (s : State), twf s.transit.places = true →
    (∀ label l second fate, s.resetLow = false →
      (second = true ∨ fate = .accepted ∨ fate = .refused → exec (.divertReturn label l second fate) s = .next s.begun) ∧
      (∀ a, second = false → fate = .damaged ∨ fate = .lost → s.nodeOf .sorter 0 = some a → s.fe.queue.length < 32 →
        exec (.divertReturn label l second fate) s = .next (s.begun.framed .transit a (.divert label l true)))) ∧
    (∀ n h ref line lot week l c i d q x, s.resetLow = false → s.place n = some (.entry h ref line lot week l c i d q x) →
      (s.lane l).state ≠ .flushing → s.mgmt.notices.length < 64 →
      ∃ t, exec (.transitTimeout n) s = .next t ∧ s.placeFree n t ∧ t.now = max s.now d ∧
        s.noticed (.transitLost h ref line lot (some (l, c)) i false) t ∧
        t = { s.begun with now := t.now, transit := t.transit, mgmt := t.mgmt, mail :=
              s.mail ++ s.transit.waitStations.map .transitPlaceReport ++ [.transitRemoval h line week .timeout] }) ∧
    (∀ n, s.resetLow = false → (s.place n = none ∨ ∃ i, s.place n = some (.held i)) →
      exec (.transitTimeout n) s = .next s.begun) ∧
    (∀ h label l a, s.takes h → s.fe.ring = .up → s.disposal h 11 = .field .laneReader l.val false →
      s.nodeOf .laneController l.val = some a → s.fe.queue.length < 32 → (s.lane l).state ≠ .flushing →
      (∀ n o ref line lot week c i d q x, s.arriving l label = some (n, .entry o ref line lot week l c i d q x) →
        ∃ t, exec (.laneArrival h label) s = .next t ∧ s.placeFree n t ∧
          t.fe = (s.heard.framed .transit a (.laneShow l (if x = true then .giveBack else .compartment c))).fe ∧
          t = { s.heard with transit := t.transit, fe := t.fe, mail :=
                s.mail ++ s.transit.waitStations.map .transitPlaceReport ++ [.deliveryReport o line lot] }) ∧
      (s.arriving l label = none → s.mgmt.notices.length < 64 → ∃ t, exec (.laneArrival h label) s = .next t ∧
        s.noticed (.stray l label) t ∧ t = { s.heard.framed .transit a (.laneShow l .reject) with mgmt := t.mgmt }))

/-- The in-transit list: places, hand-overs, diverts, arrivals and timeouts (R132 to R137). -/
def Obligations.TransitList : Prop :=
  Claims.TransitPlaces ∧ Claims.TransitEnds

/-- TAG_READ, CART_CONTACTS, LANE_CONTROLLER_RECOVERY and RELEASE_BUTTON (R141 to R144, R146, R147, R150): a tag couples the cart
of an IDENTIFYING lane with FREE compartments up to the limit and a LOCK; contacts made seat a cart in an EMPTY lane and
contacts opened empty a SEATING, IDENTIFYING or RELEASING one, or lose a coupled cart, whose orders are withdrawn, here
without a tyre in transit, with a notice of each order's handle and reference (R39) and an UNLOCK; the first
input frame of a LOST controller makes it PRESENT; the button asks for the release of a COUPLED cart, which goes to
FLUSHING and RELEASING at once when no compartment works, and unlocks an IDENTIFYING or RELEASING lane. -/
def Sys2Proof.Claims.LaneInputs : Prop :=
  ∀ (s : State) (l : Lane) (a : Nat), s.nodeOf .laneController l.val = some a → s.fe.queue.length < 32 →
    (∀ h cart count, s.takes h → s.fe.ring = .up → s.disposal h 17 = .field .laneReader l.val false →
      ((s.lane l).state ≠ .identifying ∨ count = 0 ∨ 8 < count → exec (.tagRead h cart count) s = .next s.heard) ∧
      ((s.lane l).state = .identifying → 1 ≤ count → count ≤ 8 →
        (s.lane l).controllerLost = false → s.transit.waiting = [] →
        exec (.tagRead h cart count) s = .next ((s.heard.framed .transit a (.lock l false)).modLane l fun x =>
          { x with state := .coupled, timer := none, cart := some { id := cart, count := count, source := .tag },
                   comps := List.replicate (min count x.limit) freeComp, locked := true }))) ∧
    (∀ h input c, s.takes h → s.fe.ring = .up → s.disposal h 12 = .field .laneController l.val false →
      c = .cartContacts h input ∨ c = .laneControllerRecovery h input → s.transit.waiting = [] →
      input.button = (s.lane l).input.button →
      let fresh : LaneRec := { s.lane l with input := input, controllerLost := false }
      ((s.lane l).configured = false ∨ (s.lane l).state = .closed ∨
          (input.contactA = (s.lane l).input.contactA ∧ input.contactB = (s.lane l).input.contactB) →
        exec c s = .next (s.heard.setLane l fresh)) ∧
      ((s.lane l).configured = true → (s.lane l).state = .empty →
        (s.lane l).input.contactA ≠ input.contactA ∨ (s.lane l).input.contactB ≠ input.contactB →
        input.contactA = true → input.contactB = true →
        exec c s = .next (s.heard.setLane l
          { fresh with state := .seating, timer := some (s.now + s.mgmt.timers.settle * 100) })) ∧
      ((s.lane l).configured = true → (s.lane l).input.contactA = true → input.contactA = false → input.contactB = false →
        ((s.lane l).state = .seating ∨ (s.lane l).state = .identifying ∨ (s.lane l).state = .releasing →
          exec c s = .next (s.heard.setLane l { fresh with state := .empty, timer := none, cart := none, comps := [] })) ∧
        ((s.lane l).state = .coupled → s.laneNamed l = false → s.mgmt.notices.length < 64 →
          (∀ o ∈ (s.lane l).orders, ∀ e ∈ s.transit.places, e.2.ofOrder o = false) →
          (∀ m : Lane, m ≠ l → (s.lane m).state ≠ .flushing) → (s.lane l).controllerLost = false →
          ∃ t, exec c s = .next t ∧ s.noticed (.cartLost l (s.lane l).cartId
              ((s.lane l).comps.filterMap fun x => x.order.map fun o => (o.handle, o.ref)) 0) t ∧
            t = { ((s.heard.postAll ((s.lane l).orders.map fun o => .compartmentWithdrawal o .lost)).framed .transit a
                    (.unlock l s.mgmt.timers.latch false)).setLane l
                    { fresh with state := .empty, timer := none, cart := none, comps := [], locked := false } with
                  mgmt := t.mgmt }))) ∧
    (s.resetLow = false → (s.lane l).configured = true → (s.lane l).controllerLost = false →
      (s.lane l).input.button = false →
      ((s.lane l).state = .identifying ∨ (s.lane l).state = .releasing → exec (.releaseButton l) s =
        .next ((s.begun.framed .transit a (.unlock l s.mgmt.timers.latch false)).modLane l fun x =>
          { x with locked := false })) ∧
      ((s.lane l).state = .coupled → s.mgmt.notices.length < 64 → ∃ t, exec (.releaseButton l) s = .next t ∧
        s.noticed (.cartReleaseRequest l (s.lane l).cartId
          ((s.lane l).comps.filterMap fun x => x.order.map fun o => (o.handle, o.ref, x.state))) t ∧
        ((∃ c ∈ (s.lane l).comps, c.working = true) → s.laneIs l { s.lane l with state := .releaseWait } t ∧
          t = { s.begun with lanes := t.lanes, mgmt := t.mgmt }) ∧
        ((∀ c ∈ (s.lane l).comps, c.working = false) → s.laneNamed l = false →
          s.laneIs l { s.lane l with state := .releasing, locked := false } t ∧
          t = { (s.begun.framed .transit a (.unlock l s.mgmt.timers.latch false)).postAll
                  (dispatchReports l (s.lane l).cartId 0 (s.lane l).comps) with lanes := t.lanes, mgmt := t.mgmt })) ∧
      ((s.lane l).state = .empty ∨ (s.lane l).state = .seating ∨ (s.lane l).state = .releaseWait ∨
          (s.lane l).state = .flushing ∨ (s.lane l).state = .closed → exec (.releaseButton l) s = .next s.begun))

/-- LANE_SETTLE_EXPIRY, TAG_TIMER_EXPIRY and LATCH_RETURN (R142, R143, R150): a cart that has settled is asked for its tag and
the lane is IDENTIFYING; a tag time that ends is noticed as CART-UNREAD; a LOCK or UNLOCK that failed is sent once more, and a
second failure marks the controller LOST, whose latch frames leave the transmit queue (log entry 31, DEDUCED). The frame sent once
more sets the record of the latch, also where the opposite has been commanded since, and an UNLOCK then carries the latch pulse time
as it is set at that time (log entry 82, DESIGN CHOICE). An expiry without
its timer, or an accepted latch, changes nothing. -/
def Sys2Proof.Claims.LaneTimers : Prop :=
  ∀ (s : State) (l : Lane), s.resetLow = false →
    (∀ d a, (s.lane l).state = .seating → (s.lane l).timer = some d → s.nodeOf .laneReader l.val = some a →
      s.fe.queue.length < 32 →
      exec (.laneSettleExpiry l) s = .next (((s.begun.reach d).framed .transit a (.readRequest l)).modLane l fun x =>
        { x with state := .identifying, tagExpired := false, timer := some (max s.now d + s.mgmt.timers.tag * 100) })) ∧
    ((s.lane l).state ≠ .seating ∨ (s.lane l).timer = none → exec (.laneSettleExpiry l) s = .next s.begun) ∧
    (∀ d, (s.lane l).state = .identifying → (s.lane l).timer = some d → s.mgmt.notices.length < 64 →
      ∃ t, exec (.tagTimerExpiry l) s = .next t ∧ s.noticed (.cartUnread l) t ∧
        t = { (s.begun.reach d).modLane l (fun x => { x with tagExpired := true, timer := none }) with mgmt := t.mgmt }) ∧
    ((s.lane l).state ≠ .identifying ∨ (s.lane l).timer = none → exec (.tagTimerExpiry l) s = .next s.begun) ∧
    (∀ lock second fate,
      (fate = .accepted → exec (.latchReturn l lock second fate) s = .next s.begun) ∧
      (fate ≠ .accepted → second = true →
        exec (.latchReturn l lock second fate) s = .next (s.begun.controllerGone l)) ∧
      (∀ a, fate ≠ .accepted → second = false → (s.lane l).controllerLost = false →
        s.nodeOf .laneController l.val = some a → s.fe.queue.length < 32 →
        exec (.latchReturn l lock second fate) s = .next ((s.begun.framed .transit a
          (if lock = true then .lock l true else .unlock l s.mgmt.timers.latch true)).modLane l fun x =>
            { x with locked := lock })))

/-- The lane machine: tags, contacts and the release button, timers and latch frames (R141 to R147, R150). -/
def Obligations.LaneMachine : Prop :=
  Claims.LaneInputs ∧ Claims.LaneTimers

/-- WAITING_REPORT, ORDER_CLASS_REPORT and GONE_REPORT (R138, R139): a waiting order takes its place in the waiting list by class
and arrival sequence, a new class places it again and a gone order leaves the list; while one lane alone is COUPLED, the
first order that it admits is given its first FREE compartment, which is PENDING for it, and its receipt goes to the Order
Book. -/
def Sys2Proof.Claims.WaitingOrders : Prop :=
  ∀ (s : State) (h seq : Nat) (ref : OrderRef) (cls : Sys2Proof.Class) (lanes : Option (List Nat)), s.resetLow = false →
    let w : Waiting := { handle := h, seq := seq, ref := ref, cls := cls, lanes := lanes }
    exec (.goneReport h) s =
      .next (s.begun.modTransit fun t => { t with waiting := t.waiting.filter fun x => !(x.handle == h) }) ∧
    ((∀ l : Lane, (s.lane l).state ≠ .coupled) →
      exec (.waitingReport ⟨h, ref⟩ seq cls lanes) s = .next (s.begun.modTransit fun t =>
        { t with waiting := insertBy waitsBefore w (t.waiting.filter fun x => !(x.handle == h)) }) ∧
      (∀ x, s.transit.waiting.find? (fun x => x.handle = h) = some x →
        exec (.orderClassReport h cls) s = .next (s.begun.modTransit fun t =>
          { t with waiting := insertBy waitsBefore { x with cls := cls } (t.waiting.filter fun y => !(y.handle == h)) })) ∧
      (s.transit.waiting.find? (fun x => x.handle = h) = none → exec (.orderClassReport h cls) s = .next s.begun)) ∧
    (∀ l c, (∀ m : Lane, (s.lane m).state = .coupled ↔ m = l) → (s.lane l).controllerLost = false →
      position (fun x => decide (x.state = .free)) (s.lane l).comps = some c → s.transit.waiting = [] → w.admits l = true →
      exec (.waitingReport ⟨h, ref⟩ seq cls lanes) s = .next ((s.begun.modLane l fun x =>
        { x with comps := x.comps.set c { state := .pending, order := some { handle := h, seq := seq, ref := ref } } }).post (.compartmentReceipt h seq l c)))

/-- CANCEL_REPORT, COMPLETION_REPORT and RECEIPT_ANSWER (R139, R140): a cancelled order's entries are marked and a waiting one
leaves the list, or its PICKING compartment becomes CANCELLED; a complete order's becomes COMPLETE; a PENDING compartment
becomes PICKING when the Order Book accepts, and FREE when it declines. An answer for another order changes nothing. The lane
has no release waiting here. -/
def Sys2Proof.Claims.CompartmentChanges : Prop :=
  ∀ (s : State) (h seq c : Nat) (ref : OrderRef) (l : Lane), s.resetLow = false →
    let marked (t : Transit) : Table Place := tmap (fun _ p => p.cancel h) t.places
    exec (.cancelReport h false) s = .next (s.begun.modTransit fun t =>
      { t with places := marked t, waiting := t.waiting.filter fun x => !(x.handle == h) }) ∧
    (s.holding h = none → exec (.cancelReport h true) s = .next (s.begun.modTransit fun t => { t with places := marked t }) ∧
      exec (.completionReport h) s = .next s.begun) ∧
    (∀ comp, s.holding h = some (l, c, comp) → (s.lane l).state ≠ .releaseWait →
      (comp.state = .picking →
        exec (.cancelReport h true) s = .next ((s.begun.modTransit fun t => { t with places := marked t }).modLane l fun x =>
          { x with comps := x.comps.set c { comp with state := .cancelled } }) ∧
        exec (.completionReport h) s = .next (s.begun.modLane l fun x =>
          { x with comps := x.comps.set c { comp with state := .complete } })) ∧
      (comp.state ≠ .picking → exec (.completionReport h) s = .next s.begun)) ∧
    (∀ accepted, (∀ r, (s.lane l).comps[c]? ≠ some { state := .pending, order := some { handle := h, seq := seq, ref := r } }) →
      exec (.receiptAnswer l c h seq accepted) s = .next s.begun) ∧
    ((s.lane l).comps[c]? = some { state := .pending, order := some { handle := h, seq := seq, ref := ref } } →
      exec (.receiptAnswer l c h seq true) s = .next (s.begun.modLane l fun x =>
        { x with comps := x.comps.set c { state := .picking, order := some { handle := h, seq := seq, ref := ref } } }) ∧
      ((∀ m : Lane, (s.lane m).state ≠ .coupled) ∨ s.transit.waiting = [] → exec (.receiptAnswer l c h seq false) s =
        .next (s.begun.modLane l fun x => { x with comps := x.comps.set c { state := .free, order := none } })))

/-- The waiting list and the compartments (R138 to R140). -/
def Obligations.Assignment : Prop :=
  Claims.WaitingOrders ∧ Claims.CompartmentChanges


/-! ## The Audit Unit -/

/-- AUDIT_REQUEST_RAISED, AUDIT_PLACE_REPORT, ADMIT_NOTICE and AUDIT_HAND_BACK (R152 to R156): a request for a carrier already in
the list is merged into it, one that finds the list full is dropped with a notice, one for a DISABLED carrier is nothing, and
any other marks the carrier and is LISTED; while no task of its carousel stands, the oldest LISTED request is offered and is
QUEUED once its AUDIT task is taken, or with the AUDIT task that stands for its carrier (log entry 84, DESIGN CHOICE). An admitted
carrier's BARRED request is LISTED again, a task handed back for an excluded carrier bars its request, a hand-back for a carrier
whose AUDIT task stands, which concerns one that has gone, changes nothing (R164; log entry 84, DEDUCED), and a carousel given up
whole loses its requests with a notice each. -/
def Obligations.AuditRequests : Prop :=
  ∀ (s : State) (k : Carousel) (c : Nat) (blind : Bool) (cls : Sys2Proof.Class) (src : AuditSource), s.resetLow = false →
    (∀ r, s.auditReq k c = some r → r.stage ≠ .queued → exec (.auditRequestRaised k c blind cls src) s =
      .next { s.begun with
        requests := modFirst (AuditReq.is k c) (fun u => { u with blind := r.blind || blind, cls := min r.cls cls }) s.requests }) ∧
    (s.auditReq k c = none → 32 ≤ s.requests.length →
      exec (.auditRequestRaised k c blind cls src) s = .next (handNotice (.auditDropped k c src) s.begun)) ∧
    (∀ x, s.auditReq k c = none → s.requests.length < 32 → s.carrier k c = some x →
      (x.placements.map (·.lot)).Nodup →
      let r : AuditReq := { car := k, carrier := c, blind := blind, cls := cls, source := src, abandons := 0, stage := .listed }
      (x.state = .disabled → exec (.auditRequestRaised k c blind cls src) s = .next s.begun) ∧
      (x.state = .normal → s.taskStanding k = true → ∃ t, exec (.auditRequestRaised k c blind cls src) s = .next t ∧
        s.restocked k c { x with state := .auditPending } t ∧
        t = { s.begun with stock := t.stock, requests := s.requests ++ [r] }) ∧
      (x.state = .normal → x.excluded = false → s.taskStanding k = false → s.nextAudit k = none →
        (s.seq k).state ≠ .disabled → (s.seq k).state ≠ .idle → (s.seq k).taskFor .audit c = none → (s.seq k).queue.length < 16 →
        ∃ t, exec (.auditRequestRaised k c blind cls src) s = .next t ∧
          s.restocked k c { x with state := .auditPending } t ∧
          (∀ y : Task, y = { num := (s.seq k).arrivals, cls := cls, carrier := c, body := .audit blind } →
            t.seq k = { s.seq k with arrivals := (s.seq k).arrivals + 1, queue := placeTask y (s.seq k).queue }) ∧
          s.othersKept k t ∧
          t = { s.begun with stock := t.stock, seqs := t.seqs, requests := s.requests ++ [{ r with stage := .queued }] })) ∧
    (s.taskStanding k = true ∨ s.nextAudit k = none → exec (.auditPlaceReport k) s = .next s.begun) ∧
    (∀ r, s.taskStanding k = false → s.nextAudit k = some r → s.closedTo k r.carrier = false → (s.seq k).state ≠ .idle →
      (((s.seq k).taskFor .audit r.carrier).isSome = true → exec (.auditPlaceReport k) s = .next { s.begun with
        requests := modFirst (AuditReq.is k r.carrier) (fun r => { r with stage := .queued }) s.requests }) ∧
      ((s.seq k).taskFor .audit r.carrier = none → (s.seq k).queue.length < 16 → exec (.auditPlaceReport k) s =
        .next { (s.begun.modSeq k fun q =>
            { q with arrivals := q.arrivals + 1,
                     queue := placeTask { num := q.arrivals, cls := r.cls, carrier := r.carrier, body := .audit r.blind } q.queue })
          with requests := modFirst (AuditReq.is k r.carrier) (fun r => { r with stage := .queued }) s.requests }) ∧
      ((s.seq k).taskFor .audit r.carrier = none → 16 ≤ (s.seq k).queue.length →
        exec (.auditPlaceReport k) s = .next s.begun)) ∧
    (∀ cs, s.taskStanding k = true → exec (.admitNotice k cs) s = .next { s.begun with requests := s.requests.map fun r =>
      if r.car = k ∧ r.carrier ∈ cs ∧ r.stage = .barred then { r with stage := .listed } else r }) ∧
    (∀ r, s.requests = [r] → r.car = k → r.carrier = c → r.stage = .queued → (s.seq k).taskFor .audit c = none →
      s.closedTo k c = true →
      exec (.auditHandBack k (some c)) s = .next { s.begun with requests := [{ r with stage := .barred }] }) ∧
    (s.auditReq k c = none ∨ ((s.seq k).taskFor .audit c).isSome = true →
      exec (.auditHandBack k (some c)) s = .next s.begun) ∧
    (∃ t, exec (.auditHandBack k none) s = .next t ∧ t.session k = none ∧
      (∀ j : Carousel, j ≠ k → t.session j = s.session j) ∧ t.requests = s.requests.filter (fun r => decide (r.car ≠ k)) ∧
      t.mgmt = (handNotices ((s.requests.filter fun r => decide (r.car = k)).map fun r =>
        .auditDropped k r.carrier r.source) s).mgmt ∧
      t = { s.begun with sessions := t.sessions, requests := t.requests, mgmt := t.mgmt })

/-- AUDIT_GRANTED, TALLY and AUDIT_ABANDON_REPORT (R157, R159, R161, R162): a granted task whose carrier locks starts a session
with an empty tally, the station's view taking its blind flag, and one granted again goes on with it, its idle timer starting again
(log entry 76, DESIGN CHOICE: R157 says that too, and that the session resumes with the timer as it stands); one refused for
incoming tyres ends its grant and goes behind its carrier's PUT task, with which the carousel at that carrier is READY, or, with
no PUT task, leaves the queue and is LISTED again; one refused otherwise leaves the queue and the list with an AUDIT-ABANDONED
notice, and one without a request leaves the queue; a tally counts its lot, a
ninth lot as unplaced or an unknown label, each up to 255, and starts the idle timer again; a first abandonment unlocks the
carrier, ends the session and puts the request, with its task standing and of the request's class and blind flag, at the list's
head. -/
def Obligations.AuditCounts : Prop :=
  ∀ (s : State) (k : Carousel), s.resetLow = false →
    (∀ c r x, s.auditReq k c = some r → s.auditHeld k c = true → s.carrier k c = some x →
      (x.placements.map (·.lot)).Nodup → r.stage = .queued → s.session k = none → x.state = .auditPending →
      (∀ p ∈ x.placements, p.incoming = 0) →
      ∃ t, exec (.auditGranted k c) s = .next t ∧ s.restocked k c { x with state := .auditLocked } t ∧
        t.requests = modFirst (AuditReq.is k c) (fun r => { r with stage := .inProgress }) s.requests ∧
        t.session k = some { carrier := r.carrier, blind := r.blind, tally := [], unknown := 0, unplaced := 0,
                             timer := s.sessionTimer } ∧
        (∀ j : Carousel, j ≠ k → t.session j = s.session j) ∧
        (∀ i v, s.grantedBy k = some i → (s.stn i).grant = .held k v →
          ∃ w, s.stationIs i { s.stn i with grant := .held k w } t ∧ w.carrier = c ∧ w.body = .audit r.blind) ∧
        (s.grantedBy k = none → t.stations = s.stations) ∧ s.mail <+: t.mail ∧
        t = { s.begun with stock := t.stock, requests := t.requests, sessions := t.sessions, stations := t.stations, fe := t.fe,
                           mail := t.mail }) ∧
    (∀ c r x, s.auditReq k c = some r → s.auditHeld k c = true → r.stage = .inProgress → s.session k = some x →
      exec (.auditGranted k c) s = .next (s.begun.setSession k (some { x with timer := s.sessionTimer }))) ∧
    (∀ i x v c blind, s.presents k i x v → x.body = .audit blind → x.carrier = c →
      let kept (t : State) : Prop := t = { s.begun with seqs := t.seqs, stations := t.stations, fe := t.fe, mail := t.mail,
                                                        requests := t.requests, mgmt := t.mgmt }
      ((s.seq k).queue = [x] → s.auditReq k c = none → ∃ t, exec (.auditGranted k c) s = .next t ∧
        s.grantOver k i (s.seq k).emptied t ∧ t.requests = s.requests ∧ t.mgmt = s.mgmt ∧ kept t) ∧
      (∀ r z, s.auditReq k c = some r → r.stage = .queued → s.session k = none → s.carrier k c = some z →
        (z.state = .auditPending → (∃ p ∈ z.placements, 0 < p.incoming) →
          (∀ y lot n m j, (s.seq k).queue = [x, y] ∨ (s.seq k).queue = [y, x] → y.num ≠ x.num → y.carrier = c →
            y.body = .put lot n m j → (s.seq k).index = some c → s.mgmt.cell ≠ .loading →
            ∃ t, exec (.auditGranted k c) s = .next t ∧ s.grantOver k i ((s.seq k).readyWith y [x]) t ∧
              t.requests = s.requests ∧ t.mgmt = s.mgmt ∧ kept t) ∧
          ((s.seq k).queue = [x] → s.requests = [r] → ∃ t, exec (.auditGranted k c) s = .next t ∧
            s.grantOver k i (s.seq k).emptied t ∧ t.requests = [{ r with stage := .listed }] ∧ t.mgmt = s.mgmt ∧ kept t)) ∧
        (z.state ≠ .auditPending → (s.seq k).queue = [x] → s.requests = [r] → ∃ t, exec (.auditGranted k c) s = .next t ∧
          s.grantOver k i (s.seq k).emptied t ∧ t.requests = [] ∧ s.noticed (.auditAbandoned k c r.source) t ∧ kept t))) ∧
    (s.session k = none → (∀ lot, exec (.tally k lot) s = .next s.begun) ∧
      exec (.auditAbandonReport k) s = .next s.begun ∧ exec (.auditConfirm k) s = .next s.begun ∧
      exec (.auditIdleExpiry k) s = .next s.begun) ∧
    (∀ x, s.session k = some x →
      let counts (lot : Option Nat) (y : Session) : Prop :=
        exec (.tally k lot) s = .next (s.begun.setSession k (some { y with timer := s.sessionTimer }))
      counts none { x with unknown := min (x.unknown + 1) 255 } ∧
      (∀ lot, (∃ e ∈ x.tally, e.1 = lot) → counts (some lot)
        { x with tally := x.tally.map fun e => if e.1 = lot then (e.1, min (e.2 + 1) 255) else e }) ∧
      (∀ lot, (∀ e ∈ x.tally, e.1 ≠ lot) → x.tally.length < 8 → counts (some lot) { x with tally := x.tally ++ [(lot, 1)] }) ∧
      (∀ lot, (∀ e ∈ x.tally, e.1 ≠ lot) → 8 ≤ x.tally.length →
        counts (some lot) { x with unplaced := min (x.unplaced + 1) 255 }) ∧
      (∀ r z, s.auditReq k x.carrier = some r → r.abandons = 0 → s.carrier k x.carrier = some z → z.state = .auditLocked →
        (z.placements.map (·.lot)).Nodup →
        (∀ u, (s.seq k).taskFor .audit x.carrier = some u → u.cls = r.cls ∧ u.body = .audit r.blind) →
        ∃ t, exec (.auditAbandonReport k) s = .next t ∧ s.restocked k x.carrier { z with state := .auditPending } t ∧
          t.session k = none ∧ (∀ j : Carousel, j ≠ k → t.session j = s.session j) ∧
          t.requests = { r with abandons := 1, stage := .queued } :: dropFirst (AuditReq.is k x.carrier) s.requests ∧
          t = { s.begun with stock := t.stock, requests := t.requests, sessions := t.sessions }))

/-- AUDIT_CONFIRM and AUDIT_IDLE_EXPIRY (R160, R161) of the one request, under the grant of its station with no scan waiting and
nothing reserved on the carrier: a confirmed count is applied to the carrier with its AUDIT-RESULT notice, and a second
abandonment by the idle timer unlocks and clears the carrier with an AUDIT-ABANDONED notice; either way the session, the
request, the task and the station's grant end and the carousel is IDLE. -/
def Obligations.AuditEnds : Prop :=
  ∀ (s : State) (k : Carousel) (i : Station) (x : Task) (v : TaskView) (y : Session) (r : AuditReq) (z : Carrier) (blind : Bool),
    s.resetLow = false → (s.seq k).state = .presenting → (s.seq k).currentTask = some x → (s.seq k).queue = [x] →
    x.body = .audit blind → (s.seq k).held = [] → s.grantedBy k = some i → (s.stn i).grant = .held k v →
    (s.stn i).group = [] → (s.stn i).queue = [] → s.session k = some y → y.carrier = x.carrier → s.requests = [r] →
    r.car = k → r.carrier = x.carrier → s.carrier k x.carrier = some z → z.state = .auditLocked →
    (z.placements.map (·.lot)).Nodup → (∀ p ∈ z.placements, p.reserved = 0) → s.mgmt.notices.length < 64 →
    let ended (t : State) : Prop := t.session k = none ∧ (∀ j : Carousel, j ≠ k → t.session j = s.session j) ∧ t.requests = [] ∧
      (t.seq k).state = .idle ∧ (t.seq k).queue = [] ∧ (t.seq k).current = none ∧ s.othersKept k t ∧
      (t.stn i).holder = none ∧ s.stationsKept i t ∧ t.book = s.book
    (∀ w, w = auditApplyEntry k x.carrier y.tally y.unknown y.unplaced s →
      ∃ t d u, exec (.auditConfirm k) s = .next t ∧ ended t ∧ t.lots = w.1.lots ∧ t.stock = w.1.stock ∧
        w.2 = some d ∧ w.1.carrier k x.carrier = some u ∧
        t.hasNotice (.auditResult k x.carrier r.source y.blind u.state u.unplaced u.unknown d)) ∧
    (∀ e, y.timer = .running e → 1 ≤ r.abandons →
      ∃ t, exec (.auditIdleExpiry k) s = .next t ∧ ended t ∧ t.now = max s.now e ∧
        t.carrierState k x.carrier = some .normal ∧ t.hasNotice (.auditAbandoned k x.carrier r.source))

/-! ## The Management Unit -/

/-- NOTICE_HANDED, NOTICE_SEND, NOTICE_FATE, REPLY_OFFER and MALFORMED_REQUEST (R179, R187, R188): a notice joins the queue with the
next sequence number, a full queue drops it, or for a fault's notice the newest that is none; the head notice and the oldest
reply go to the transmit queue, a ready reply before the head notice; a notice lost or damaged on its first sending is kept to be
sent once more, behind those that already wait for that (log entry 79, DESIGN CHOICE), and goes ahead of the queue, and any other
that fails sets the DROPPED flag; an offer answered full keeps the notice or reply, the unit waiting for space, and so does one
answered no node; a malformed request is answered so, and one that finds no reply place is discarded. -/
def Obligations.NoticesAndReplies : Prop :=
  ∀ (s : State), s.resetLow = false →
    (∀ b, (s.mgmt.notices.length < 64 → ∃ t, exec (.noticeHanded b) s = .next t ∧ s.noticed b t ∧
        t = { s.begun with mgmt := t.mgmt }) ∧
      (64 ≤ s.mgmt.notices.length → noticeFaultGroup b = false ∨ (∀ n ∈ s.mgmt.notices, noticeFaultGroup n.body = true) →
        exec (.noticeHanded b) s = .next (s.begun.modMgmt fun m =>
          { m with noticeSeq := (m.noticeSeq + 1) % 65536, dropped := true })) ∧
      (∀ before n after, s.mgmt.notices = before ++ n :: after → 64 ≤ s.mgmt.notices.length → noticeFaultGroup b = true →
        noticeFaultGroup n.body = false → (∀ m ∈ after, noticeFaultGroup m.body = true) →
        exec (.noticeHanded b) s = .next (s.begun.modMgmt fun m =>
          { m with notices := before ++ after ++ [{ seq := m.noticeSeq, body := b }],
                   noticeSeq := (m.noticeSeq + 1) % 65536, dropped := true }))) ∧
    (s.mgmt.replies = [] → s.mgmt.resend = [] →
      (s.mgmt.notices = [] → exec .noticeSend s = .next s.begun) ∧
      (∀ n rest g, s.mgmt.notices = n :: rest → s.nodeOf .gateway 0 = some g → s.fe.queue.length < 32 →
        exec .noticeSend s = .next ((s.begun.modMgmt fun m => { m with notices := rest }).framed .management g (.notice n false)))) ∧
    (∀ n rest g, s.mgmt.replies = [] → s.mgmt.resend = n :: rest → s.nodeOf .gateway 0 = some g → s.fe.queue.length < 32 →
      exec .noticeSend s = .next ((s.begun.modMgmt fun m => { m with resend := rest }).framed .management g (.notice n true))) ∧
    (∀ r n rest g, s.mgmt.replies = [r] → s.mgmt.resend = [] → s.mgmt.notices = n :: rest → s.nodeOf .gateway 0 = some g →
      s.fe.queue.length < 31 → exec .noticeSend s = .next ((((s.begun.modMgmt fun m =>
        { m with replies := [], notices := rest }).framed .management r.dest (.reply r.kind r.tag r.result r.content)).framed
          .management g (.notice n false)))) ∧
    (32 ≤ s.fe.queue.length →
      let waits : State := s.begun.modFe fun e =>
        { e with waiting := if .management ∈ e.waiting then e.waiting else e.waiting ++ [.management] }
      (s.mgmt.replies ≠ [] → exec .replyOffer s = .next waits ∧ exec .noticeSend s = .next waits) ∧
      ((s.nodeOf .gateway 0).isSome = true → s.mgmt.resend ≠ [] ∨ s.mgmt.notices ≠ [] → exec .noticeSend s = .next waits)) ∧
    (s.mgmt.replies = [] → s.nodeOf .gateway 0 = none → exec .noticeSend s = .next s.begun) ∧
    (∀ n second fate,
      (fate = .accepted → exec (.noticeFate n second fate) s = .next s.begun) ∧
      (fate = .damaged ∨ fate = .lost → second = false →
        exec (.noticeFate n second fate) s = .next (s.begun.modMgmt fun m => { m with resend := m.resend ++ [n] })) ∧
      (fate = .refused ∨ (fate ≠ .accepted ∧ second = true) →
        exec (.noticeFate n second fate) s = .next (s.begun.modMgmt fun m => { m with dropped := true }))) ∧
    (s.mgmt.replies = [] → exec .replyOffer s = .next s.begun) ∧
    (∀ r rest, s.mgmt.replies = r :: rest → s.fe.queue.length < 32 →
      exec .replyOffer s = .next ((s.begun.modMgmt fun m => { m with replies := rest }).framed .management r.dest
        (.reply r.kind r.tag r.result r.content))) ∧
    (∀ q kind, s.takes q.hdr → s.disposal q.hdr 0 = .request →
      (s.mgmt.replies.length < 16 →
        exec (.malformedRequest q kind) s = .next ((s.asked q kind).replied q kind .malformed [])) ∧
      (16 ≤ s.mgmt.replies.length → exec (.malformedRequest q kind) s = .next ((s.asked q kind).ans .discarded)))

/-- CELL_STATUS, CELL_RUN, CELL_HALT and CELL_RESTART (R182 to R185, R83, R117, R165): the status is answered and then the
damaged count and DROPPED flag are cleared; a run needs a gateway, a carousel and a station, puts the carousels that it finds at
rest into UNKNOWN, clears the stations' ready marks and moves the expiry times on by the halt (log entry 58, DEDUCED); a halt
sends HALT to group 0, ends every grant and pauses the audit sessions: a MOVING carousel is STOPPING with cause HALT, or, its
MOVE withdrawn, at rest without a current task, READY for a task at the opening and IDLE otherwise; a STOPPING one takes cause
HALT, a READY one stays READY, and a PRESENTING one returns to READY with its picks withdrawn; a restart empties the orders,
tasks, in-transit list, audits and notices and keeps the configuration and the lots' and carriers' tyres on hand, with the carrier
records of R24, the balance records of R25 recomputed, the records of R93 and Table CS-4, of R118 and Table PS-2, and of R151, and
a restore in progress starts afresh (R177); that a panel's transient message is cleared is log entry 27 (DESIGN CHOICE).
The scan queues are empty at a run here. -/
def Obligations.CellRequests : Prop :=
  ∀ (s : State) (q : Req), s.asks q →
    exec (.cellStatus q) s = .next ((((s.asked q 64).modFe fun e => { e with damaged := 0 }).modMgmt fun m =>
      { m with dropped := false }).replied q 64 .done (s.asked q 64).status) ∧
    (s.mgmt.cell = .running → exec (.cellRun q) s = .next ((s.asked q 65).doneTo q 65)) ∧
    let mayRun : Prop := (s.nodeOf .gateway 0).isSome = true ∧ (∃ k : Carousel, s.stockCar k ≠ none) ∧
      ∃ i : Station, (s.stn i).configured = true
    (s.mgmt.cell ≠ .running → ¬ mayRun → exec (.cellRun q) s = .next ((s.asked q 65).replied q 65 .state [])) ∧
    (s.mgmt.cell ≠ .running → mayRun → (∀ i : Station, (s.stn i).queue = []) →
      ∃ t, exec (.cellRun q) s = .next t ∧ t.mgmt.cell = .running ∧ s.answeredDone q 65 t ∧
        (∀ k : Carousel, (s.seq k).state = .unconfigured ∨ (s.seq k).state = .manual ∨ (s.seq k).state = .fault ∨
          (s.seq k).state = .disabled → t.seq k = s.seq k) ∧
        (∀ k : Carousel, (s.seq k).state = .unknown ∨ (s.seq k).state = .idle ∨ (s.seq k).state = .stopping ∨
          (s.seq k).state = .ready → (s.nodeOf .drive k.val).isSome = true →
          (t.seq k).state = .unknown ∧ (t.seq k).current = none ∧ (t.seq k).move = none ∧ (t.seq k).queue = (s.seq k).queue) ∧
        (∀ (i : Station) (k : Carousel), (t.stn i).ready[k] = false) ∧
        (s.mgmt.cell = .halted → ∀ n r, s.reservation n = some r → t.reservation n =
          some { r with expiry := r.expiry.map fun e => e + (s.now - s.mgmt.haltedAt) })) ∧
    (s.mgmt.cell = .loading → exec (.cellHalt q) s = .next ((s.asked q 66).replied q 66 .state [])) ∧
    (s.mgmt.cell = .halted → exec (.cellHalt q) s = .next ((s.asked q 66).doneTo q 66)) ∧
    (s.mgmt.cell = .running → ∃ t, exec (.cellHalt q) s = .next t ∧ t.mgmt.cell = .halted ∧ t.mgmt.haltedAt = s.now ∧
      (∀ i : Station, (t.stn i).grant = .absent) ∧ (∃ rs, t.mgmt.replies = rs ++ [replyTo q 66 .done []]) ∧
      (∀ k : Carousel, t.session k = (s.session k).map (pauseSession s.now)) ∧
      (s.fe.queue.length < 32 → s.answeredDone q 66 t ∧ frameTo .management 64 (.halt false) ∈ t.fe.queue ∧
        ∀ k : Carousel, (s.seq k).state = .unconfigured ∨ (s.seq k).state = .unknown ∨ (s.seq k).state = .manual ∨
          (s.seq k).state = .fault ∨ (s.seq k).state = .disabled ∨ (s.seq k).state = .ready → t.seq k = s.seq k) ∧
      (s.fe.queue.length < 32 → ∀ (k : Carousel) (out : Bool), out = s.fe.queue.any (isFrameOf (.seq k) 1) →
        (((s.seq k).state = .moving ∧ out = false) ∨ (s.seq k).state = .stopping → t.seq k = { s.seq k with
          state := .stopping, move := (s.seq k).move.map fun m => { m with stop := some .halt } }) ∧
        ((s.seq k).state = .moving → out = true →
          let rest : Seq := { s.seq k with state := .idle, move := none, built := none, current := none, short := 0 }
          ((∀ x ∈ (s.seq k).queue, (s.seq k).index ≠ some x.carrier) → t.seq k = rest) ∧
          (∀ x xs, (s.seq k).queue = x :: xs → (s.seq k).index = some x.carrier → s.presentable k x = true →
            t.seq k = { rest with state := .ready, current := some x.num })) ∧
        (∀ i x v, (s.seq k).state = .presenting → (s.seq k).currentTask = some x → s.grantedBy k = some i →
          (s.stn i).grant = .held k v → (s.seq k).held = [] → ((s.seq k).queue.map (·.num)).Nodup →
          (t.seq k).state = .ready ∧ (t.seq k).current = some x.num ∧
          (∀ p ∈ x.picks, p.opened = true → .reservationWithdrawn p.res ∈ t.mail) ∧
          (x.kind ≠ .pick → t.seq k = { s.seq k with state := .ready })))) ∧
    ∃ t, exec (.cellRestart q) s = .next t ∧
      t.mgmt = { s.mgmt with cell := .loading, replies := [replyTo q 67 .done []], notices := [], resend := [], noticeSeq := 0,
                             dropped := false } ∧
      t.book = { orders := [], pool := [], arrivals := 0, creations := 0, poolFull := false, freed := false } ∧
      t.transit = { places := [], created := 0, waitStations := [], waiting := [] } ∧ t.requests = [] ∧
      (∀ k : Carousel, t.session k = none ∧ t.seq k = { s.seq k with
        state := if (s.seq k).state = .manual ∨ (s.seq k).state = .unconfigured then (s.seq k).state else .unknown,
        index := if (s.seq k).state = .manual then (s.seq k).index else none, fault := none, queue := [], held := [],
        current := none, move := none, built := none, short := 0, arrivals := 0, queries := [] }) ∧
      (∀ l : Lane, t.lane l = { s.lane l with
        state := if (s.lane l).state = .releaseWait ∨ (s.lane l).state = .flushing then .coupled else (s.lane l).state,
        comps := (s.lane l).comps.map fun _ => { state := .free, order := none } }) ∧
      (∀ i : Station, t.stn i = { s.stn i with
        grant := .absent, ready := Vector.replicate 8 false, attention := (s.stn i).cars, timer := .stopped, queue := [],
        lock := none, wait := .none, overrun := false, group := [], reported := false, message := none, batch := none,
        planning := none, waitList := [], placed := [], roomWaiter := false, display := (t.stn i).display }) ∧
      (∀ n, t.lot n = (s.lot n).map fun l => { l with reserved := 0, incoming := 0 }) ∧
      (∀ k : Carousel, (s.stockCar k = none → t.stockCar k = none) ∧ ∀ car, s.stockCar k = some car → ∃ cs,
        t.stockCar k = some { car with carriers := cs } ∧ ∀ c : Nat, cs[c]? = (car.carriers[c]?).map fun x =>
          { x with placements := (x.placements.filter fun p => decide (0 < p.onHand)).map (fun p =>
                     { p with reserved := 0, incoming := 0 }),
                   state := if x.state = .auditPending ∨ x.state = .auditLocked then .normal else x.state,
                   excluded := inWindow (s.seq k).window c, overload := decide (car.rated < s.actualMass x.placements) }) ∧
      (∀ k : Carousel, t.bal k = (s.bal k).map fun b =>
        let w := worstImbalance b.masses
        { b with total := b.masses.sum, worst := w, rotation := worstRotation b.masses,
                 speed := if w ≤ b.soft then .normal else .slow, overbalance := decide (b.hard < w) }) ∧
      t.fe.nodes = s.fe.nodes ∧ t.fe.groups = s.fe.groups ∧ t.fe.damaged = s.fe.damaged ∧ t.fe.kept = [] ∧
      (s.fe.ring = .up → t.fe.ring = .up ∧ t.fe.outstanding = []) ∧
      (s.fe.ring = .restoring → restoreNodes s ≠ [] → t.fe.ring = .restoring ∧ t.fe.restoreDeadline = none ∧
        t.fe.restore = (restoreNodes s).map (fun a => (a, false)) ∧ t.fe.outstanding.map (·.frame.dest) = restoreNodes s)

/-- NODE_MAP_WRITE, GROUP_WRITE, LANE_CONFIG_WRITE, TIMER_WRITE and RECORD_READ (R141, R169, R175, R180, R181, R186) in LOADING,
with no claim standing: a write in range takes the entry, the group, the lane, the hold time of class 0 or the attention time
as written and is answered DONE, a timer's reply with the value in two bytes (log entry 36, DEDUCED); the part's own address, an
unknown role, too many members, a limit of none or above 8 and an unknown timer are answered RANGE; a read answers the record
and changes nothing. -/
def Sys2Proof.Claims.SettingWrites : Prop :=
  ∀ (s : State) (q : Req), s.asks q →
    (∀ addr role unit mirror, (63 < addr ∨ addr = s.own ∨ 10 ≤ role →
        exec (.nodeMapWrite q addr role unit mirror) s = .next ((s.asked q 68).replied q 68 .range [])) ∧
      (∀ r, roleOfCode role = some r → addr ≤ 63 → addr ≠ s.own → unit < roleUnits r →
        r = .none ∨ r = .maint ∨ s.nodeTaken addr r unit = false → s.mgmt.cell = .loading →
        (∀ k : Carousel, (s.seq k).claim = none) →
        exec (.nodeMapWrite q addr role unit mirror) s = .next (((s.asked q 68).modFe fun e =>
          { e with nodes := writeNode addr { role := r, unit := unit, mirror := mirror } e.nodes }).doneTo q 68))) ∧
    (∀ g members, (8 ≤ g ∨ 16 < members.length ∨ s.own ∈ members ∨ ¬ members.Nodup →
        exec (.groupWrite q g members) s = .next ((s.asked q 69).replied q 69 .range [])) ∧
      (∀ hg : g < 8, members.length ≤ 16 → (∀ a ∈ members, a ≤ 63) → s.own ∉ members → members.Nodup →
        s.mgmt.cell = .loading →
        exec (.groupWrite q g members) s =
          .next (((s.asked q 69).modFe fun e => { e with groups := e.groups.set g members hg }).doneTo q 69))) ∧
    (∀ (l : Lane) configured limit, (limit = 0 ∨ 8 < limit →
        exec (.laneConfigWrite q l.val configured limit) s = .next ((s.asked q 72).replied q 72 .range [])) ∧
      (1 ≤ limit → limit ≤ 8 → s.mgmt.cell = .loading → (s.lane l).state = .empty → (s.lane l).input.contactA = false →
        exec (.laneConfigWrite q l.val true limit) s = .next (((s.asked q 72).modLane l fun x =>
          { x with configured := true, limit := limit }).doneTo q 72))) ∧
    (∀ selector value, 12 ≤ selector →
      exec (.timerWrite q selector value) s = .next ((s.asked q 73).replied q 73 .range [])) ∧
    (∀ value n, n = max 100 (min value 36000) → exec (.timerWrite q 0 value) s = .next (((s.asked q 73).modMgmt fun m =>
      { m with timers := { m.timers with hold0 := n } }).replied q 73 .done (b2 n))) ∧
    (∀ value n, n = (if value = 0 then 0 else max 50 (min value 2550)) → exec (.timerWrite q 4 value) s =
      .next (((s.asked q 73).modMgmt fun m => { m with timers := { m.timers with attention := n } }).replied q 73 .done (b2 n))) ∧
    (∀ kind index r content, (s.asked q 79).record kind index = (r, content) → exec (.recordRead q kind index) s =
      .next ((s.asked q 79).replied q 79 r (if r = .done then content else [])))

/-- NODE_MAP_WRITE of a unit that its role does not have (R169), and of a claimant's address to a role other than MAINT, which
ends the claim as a release does (R90; that a nonzero unit of NONE, SORTER, GATEWAY and MAINT is refused as well is log entry 47,
DEDUCED); TIMER_WRITE of every selector but the two attention and class 0 ones (R181), whose
reply holds the value in two bytes (log entry 36). -/
def Sys2Proof.Claims.SettingLimits : Prop :=
  ∀ (s : State) (q : Req), s.asks q →
    (∀ addr role unit mirror r, roleOfCode role = some r → roleUnits r ≤ unit →
      exec (.nodeMapWrite q addr role unit mirror) s = .next ((s.asked q 68).replied q 68 .range [])) ∧
    (∀ (k : Carousel) (c : Claim) addr role unit mirror r d, (s.seq k).state = .manual → (s.seq k).claim = some c →
      c.node = addr → (∀ j : Carousel, j ≠ k → (s.seq j).claim = none) → roleOfCode role = some r → r ≠ .maint → addr ≤ 63 →
      addr ≠ s.own → unit < roleUnits r → r = .none ∨ s.nodeTaken addr r unit = false → s.mgmt.cell = .loading →
      s.fe.ring = .up → s.nodeOf .drive k.val = some d → d ≠ addr → r ≠ .drive → s.fe.queue.length < 32 →
      s.mgmt.notices.length < 64 → twf s.fe.nodes = true →
      ∃ t, exec (.nodeMapWrite q addr role unit mirror) s = .next t ∧
        t.seq k = Seq.ask false { s.seq k with state := .unknown, fault := none, move := none, built := none, current := none,
                                               short := 0, claim := none } ∧
        s.othersKept k t ∧
        t.mail = s.mail ++ (if c.all = true then List.range (s.carriersOf k) else c.carriers).map (fun i =>
          .auditRequestRaised k i true 1 .manual) ∧
        t.hasNotice (.manualExited k false c.carriers c.all (s.seq k).index) ∧
        t.fe.nodes = writeNode addr { role := r, unit := unit, mirror := mirror } s.fe.nodes ∧
        t.fe.queue = s.fe.queue ++ [frameTo (.seq k) d (.statusQuery (s.seq k).asked)] ∧ s.answeredDone q 68 t) ∧
    (∀ value : Nat,
      let sets (selector n : Nat) (f : Timers → Timers) : Prop :=
        exec (.timerWrite q selector value) s = .next (((s.asked q 73).modMgmt fun m =>
          { m with timers := f m.timers }).replied q 73 .done [BitVec.ofNat 8 (n / 256), BitVec.ofNat 8 n])
      let held (lo hi : Nat) : Nat := if value < lo then lo else if hi < value then hi else value
      let manual : Nat := if value = 0 then 0 else if value ≤ 300 then 300 else if value ≤ 1200 then 1200 else 6000
      sets 1 (held 100 36000) (fun t => { t with hold1 := held 100 36000 }) ∧
      sets 2 (held 100 36000) (fun t => { t with hold2 := held 100 36000 }) ∧
      sets 3 (held 100 36000) (fun t => { t with hold3 := held 100 36000 }) ∧
      sets 5 (held 100 6000) (fun t => { t with transit := held 100 6000 }) ∧
      sets 6 (held 300 9000) (fun t => { t with auditIdle := held 300 9000 }) ∧
      sets 7 manual (fun t => { t with manualIdle := manual }) ∧
      sets 8 (held 5 100) (fun t => { t with settle := held 5 100 }) ∧
      sets 9 (held 10 300) (fun t => { t with tag := held 10 300 }) ∧
      sets 10 (held 5 100) (fun t => { t with latch := held 5 100 }) ∧
      sets 11 (held 1 50) (fun t => { t with round := held 1 50 }))

/-- What RECORD_READ returns (R25, R66, R94, R186, R189): a lot's 19 bytes, a node-map entry, a group's members behind their
count, one byte for an UNCONFIGURED carousel; UNKNOWN for a free handle, STATE for a carrier of an UNCONFIGURED carousel, and
RANGE for a kind or an index that does not exist. A carousel's record takes nothing from the mass vector nor more of the held
list than its length, and a station's record nothing from its display; a HELD grant is given with its task view, whose picks
name article, week, remaining count and mark as R99 has them (log entry 70, DESIGN CHOICE). That a count of a list takes one
byte and an absent record is empty is log entry 36; that a node-map entry's mirror mark is the byte 1 when set and 0 when clear
is log entry 75 (DESIGN CHOICE). -/
def Sys2Proof.Claims.RecordContents : Prop :=
  ∀ (s : State) (q : Req), s.asks q →
    let reads (kind index : Nat) (r : Result) (content : List Byte) : Prop :=
      exec (.recordRead q kind index) s = .next ((s.asked q 79).replied q 79 r content)
    let byte (n : Nat) : Byte := BitVec.ofNat 8 n
    (∀ n l, s.lot n = some l → n ≤ 1023 → reads 0 n .done
      ([byte (n / 256), byte n] ++ b4 l.article.toNat ++ [byte l.week.year, byte l.week.week] ++ [byte (l.width / 256), byte l.width] ++
        [byte l.rim, byte l.mass, byte (if l.state = .active then 1 else 2)] ++ [byte (l.onHand / 256), byte l.onHand] ++
        [byte (l.reserved / 256), byte l.reserved] ++ [byte (l.incoming / 256), byte l.incoming])) ∧
    (∀ n, 1023 < n → reads 0 n .range []) ∧
    (∀ (k : Carousel) c, s.stockCar k = none → c ≤ 63 → reads 1 (k.val * 256 + c) .state []) ∧
    (∀ k : Carousel, s.bal k = none → reads 2 k.val .done [0#8]) ∧
    (∀ h, h ≤ 255 → s.order h = none → reads 3 h .unknown []) ∧
    (∀ a, a ≤ 63 → reads 10 a .done
      [byte (roleCode (s.node a).role), byte (s.node a).unit, byte (if (s.node a).mirror = true then 1 else 0)]) ∧
    (∀ g : Fin 8, reads 11 g.val .done (byte s.fe.groups[g].length :: s.fe.groups[g].map byte)) ∧
    (∀ kind index, 13 ≤ kind → reads kind index .range []) ∧
    (∀ (b : Balance) masses, bBalance { b with masses := masses } = bBalance b) ∧
    (∀ (x : Seq) held, held.length = x.held.length → bSeq { x with held := held } = bSeq x) ∧
    (∀ (x : Stn) d, bStation s { x with display := d } = bStation s x) ∧
    ∀ (i : Station) (k : Carousel) v ps, (s.stn i).grant = .held k v → v.body = .pick ps →
      bGrant s (s.stn i) = [byte k.val, byte 2, byte 0, byte v.carrier, byte ps.length] ++ ps.flatMap fun p =>
        b4 (s.labelOf p.lot).article.toNat ++ [byte (s.labelOf p.lot).week.year, byte (s.labelOf p.lot).week.week,
          byte p.remaining, byte (markCode p.mark)]

/-- Settings and record reads (R90, R141, R169, R175, R180, R181, R186, R189). -/
def Obligations.SettingRequests : Prop :=
  Claims.SettingWrites ∧ Claims.SettingLimits ∧ Claims.RecordContents

/-- CAROUSEL_CONFIG_WRITE and STATION_CONFIG_WRITE (R7, R25, R33, R69, R95): a first write in range creates the carousel's empty
carriers and its balance record with the times held in their ranges and puts it into UNKNOWN, and one out of range is refused
and changes nothing; a station written in LOADING takes its bays, class and mode and tells its carousels, and one without a
bay is refused. -/
def Obligations.UnitWrites : Prop :=
  ∀ (s : State) (q : Req), s.asks q →
    (∀ (k : Carousel) (c : CarouselCfg), c.carousel = k.val →
      (c.p % 2 = 1 ∨ c.p < 8 ∨ 64 < c.p ∨ c.hard < c.soft →
        exec (.carouselConfigWrite q c) s = .next ((s.asked q 70).replied q 70 .range [])) ∧
      (carouselInRange c = true → (s.seq k).state = .unconfigured → s.stockCar k = none → s.bal k = none →
        (s.nodeOf .drive k.val).isSome = true → ∃ t, exec (.carouselConfigWrite q c) s = .next t ∧ s.answeredDone q 70 t ∧
          t.stockCar k =
            some { shelf := c.shelf, gap := c.gap, rated := c.rated, carriers := List.replicate c.p (newCarrier false) } ∧
          t.bal k = some { p := c.p, masses := List.replicate c.p 0, soft := c.soft, hard := c.hard, total := 0, worst := 0,
                           rotation := 0, speed := .normal, overbalance := false, bidirectional := c.bidirectional,
                           start := min c.start 100, normalPitch := max 1 (min c.normalPitch 100),
                           slowPitch := max 1 (min c.slowPitch 100) } ∧
          (t.seq k).state = .unknown ∧ (t.seq k).index = none ∧ s.othersKept k t ∧
          t = { s.asked q 70 with stock := t.stock, balance := t.balance, seqs := t.seqs, fe := t.fe, mgmt := t.mgmt })) ∧
    (∀ (i : Station) (c : StationCfg), c.station = i.val →
      ((∀ b : Fin 4, c.bays[b] = none) → exec (.stationConfigWrite q c) s = .next ((s.asked q 71).replied q 71 .range [])) ∧
      (∀ (b : Bay) (k : Carousel) mode, c.bays = (Vector.replicate 4 none).set b.val (some k.val) b.isLt →
        modeOfCode c.mode = some mode → c.putClass ≤ 3 → s.mgmt.cell = .loading →
        (∀ j : Station, j ≠ i → (s.stn j).has k = false) → (s.stn i).configured = false → (s.stn i).waitList = [] →
        (s.stn i).bays = Vector.replicate 4 none → (s.stn i).group = [] →
        ∃ t, exec (.stationConfigWrite q c) s = .next t ∧ s.answeredDone q 71 t ∧
          s.stationIs i { s.stn i with configured := true, bays := (Vector.replicate 4 none).set b.val (some k) b.isLt,
                                       putClass := c.putClass, mode := mode, attention := [k],
                                       ready := Vector.replicate 8 false } t ∧
          (s.mail ++ [.stationBayReport k (some (i, b)), curtainReport k (s.stn i).curtains[b]]) <+: t.mail ∧
          t = { s.asked q 71 with stations := t.stations, fe := t.fe, mail := t.mail, mgmt := t.mgmt }))

/-- LOT_DELETE and LOT_RELEASE (R4, R6), in every cell state: a number above 1023 is refused with RANGE and a FREE record with
STATE; a lot in use is refused with BUSY and any other deleted, its record reading FREE with its power-on values; a lot that
is ACTIVE is answered DONE as it stands and a HELD one becomes ACTIVE with a stock-rise report of its article. -/
def Obligations.LotDeletesAndReleases : Prop :=
  ∀ (s : State) (q : Req) (n : Nat), s.asks q →
    (1023 < n → exec (.lotDelete q n) s = .next ((s.asked q 75).replied q 75 .range []) ∧
      exec (.lotRelease q n) s = .next ((s.asked q 77).replied q 77 .range [])) ∧
    (n ≤ 1023 → s.lot n = none → exec (.lotDelete q n) s = .next ((s.asked q 75).replied q 75 .state []) ∧
      exec (.lotRelease q n) s = .next ((s.asked q 77).replied q 77 .state [])) ∧
    (∀ l, n ≤ 1023 → s.lot n = some l →
      (s.lotInUse n = true → exec (.lotDelete q n) s = .next ((s.asked q 75).replied q 75 .busy [])) ∧
      (s.lotInUse n = false → twf s.lots = true → ∃ t, exec (.lotDelete q n) s = .next t ∧ t.lot n = none ∧
        (∀ m, m ≠ n → t.lot m = s.lot m) ∧
        t.lotOr n = { article := 0, week := { year := 0, week := 1 }, width := 125, rim := 12, mass := 8, state := .held,
                      onHand := 0, reserved := 0, incoming := 0 } ∧
        t = { (s.asked q 75).doneTo q 75 with lots := t.lots }) ∧
      (l.state = .active → exec (.lotRelease q n) s = .next ((s.asked q 77).doneTo q 77)) ∧
      (l.state = .held → ∃ t, exec (.lotRelease q n) s = .next t ∧ t.lot n = some { l with state := .active } ∧
        (∀ m, m ≠ n → t.lot m = s.lot m) ∧
        t = { (s.asked q 77).doneTo q 77 with lots := t.lots, mail := s.mail ++ [.stockRiseReport l.article] }))

/-- LOT_WRITE, LOT_HOLD and CARRIER_WRITE (R3, R5, R13): a lot in range is written, a FREE one as an ACTIVE record without
tyres, a label that another lot holds is refused with STATE and a change of a lot in use with BUSY, and a write that repeats the
fields of a lot in use is answered DONE without change; a hold makes an ACTIVE lot HELD and hands it to the Order Book; a lot is
in use while it has a total above 0 or a place, a batch or a tally names it (R2); a carrier written in LOADING, free of reserved
and incoming tyres and of an audit, takes the state, flag and tyres written. -/
def Obligations.StockRequests : Prop :=
  ∀ (s : State) (q : Req) (n : Nat), s.asks q →
    (∀ a w width rim mass, (1023 < n ∨ 99 < w.year ∨ w.week = 0 ∨ 53 < w.week ∨ width < 125 ∨ 395 < width ∨ rim < 12 ∨
          24 < rim ∨ mass < 8 ∨ 160 < mass →
        exec (.lotWrite q n a w width rim mass) s = .next ((s.asked q 74).replied q 74 .range [])) ∧
      (n ≤ 1023 → w.year ≤ 99 → 1 ≤ w.week → w.week ≤ 53 → 125 ≤ width → width ≤ 395 → 12 ≤ rim → rim ≤ 24 → 8 ≤ mass →
        mass ≤ 160 →
        ((∃ e ∈ s.lots, e.1 ≠ n ∧ e.2.article = a ∧ e.2.week = w) →
          exec (.lotWrite q n a w width rim mass) s = .next ((s.asked q 74).replied q 74 .state [])) ∧
        ((∀ e ∈ s.lots, e.1 ≠ n → e.2.article = a → e.2.week ≠ w) → s.lotInUse n = false →
          ∃ t, exec (.lotWrite q n a w width rim mass) s = .next t ∧ (∀ m, m ≠ n → t.lot m = s.lot m) ∧
            (s.lot n = none → t.lot n = some ⟨a, w, width, rim, mass, .active, 0, 0, 0⟩) ∧
            (∀ l, s.lot n = some l →
              t.lot n = some { l with article := a, week := w, width := width, rim := rim, mass := mass }) ∧
            t = { (s.asked q 74).doneTo q 74 with lots := t.lots }) ∧
        (∀ l, (∀ e ∈ s.lots, e.1 ≠ n → e.2.article = a → e.2.week ≠ w) → s.lotInUse n = true → s.lot n = some l →
          (l.article ≠ a ∨ l.week ≠ w ∨ l.width ≠ width ∨ l.rim ≠ rim ∨ l.mass ≠ mass →
            exec (.lotWrite q n a w width rim mass) s = .next ((s.asked q 74).replied q 74 .busy [])) ∧
          (l.article = a → l.week = w → l.width = width → l.rim = rim → l.mass = mass →
            ∃ t, exec (.lotWrite q n a w width rim mass) s = .next t ∧ (∀ m, t.lot m = s.lot m) ∧
              t = { (s.asked q 74).doneTo q 74 with lots := t.lots })))) ∧
    (s.lotInUse n = true ↔ (∃ l, s.lot n = some l ∧ (0 < l.onHand ∨ 0 < l.reserved ∨ 0 < l.incoming)) ∨
      (∃ e ∈ s.transit.places, e.2.names n = true) ∨
      (∃ i : Station, (∃ b, (s.stn i).batch = some b ∧ b.lot = n) ∨ ∃ b, (s.stn i).planning = some b ∧ b.lot = n) ∨
      ∃ (k : Carousel) (x : Session), s.session k = some x ∧ ∃ e ∈ x.tally, e.1 = n) ∧
    (∀ l, n ≤ 1023 → s.lot n = some l →
      (l.state = .held → exec (.lotHold q n) s = .next ((s.asked q 76).doneTo q 76)) ∧
      (l.state = .active → ∃ t, exec (.lotHold q n) s = .next t ∧ t.lot n = some { l with state := .held } ∧
        (∀ m, m ≠ n → t.lot m = s.lot m) ∧
        t = { (s.asked q 76).doneTo q 76 with lots := t.lots, mail := s.mail ++ [.holdHandover n] })) ∧
    (∀ (k : Carousel) c ds dis list x, s.carrier k c = some x → list.length ≤ 4 → (list.map (·.1)).Nodup →
      (∀ e ∈ list, e.1 ≤ 1023 ∧ e.2 ≤ 63 ∧ (s.lot e.1).isSome = true) → s.mgmt.cell = .loading →
      (x.state = .auditPending ∨ x.state = .auditLocked ∨ (∃ p ∈ x.placements, 0 < p.reserved ∨ 0 < p.incoming) →
        exec (.carrierWrite q k.val c ds dis list) s = .next ((s.asked q 78).replied q 78 .busy [])) ∧
      (x.state ≠ .auditPending → x.state ≠ .auditLocked → (∀ p ∈ x.placements, p.reserved = 0 ∧ p.incoming = 0) →
        ∃ t ps, exec (.carrierWrite q k.val c ds dis list) s = .next t ∧ s.answeredDone q 78 t ∧
          ps = ((list.filter fun e => decide (0 < e.2)).map fun e => ⟨e.1, e.2, 0, 0⟩) ∧
          s.restocked k c { x with state := (if dis = true then .disabled else .normal), doubleStack := ds, placements := ps,
                                   unplaced := 0, unknown := 0 } t ∧
          s.mail <+: t.mail ∧
          t = { (s.asked q 78).doneTo q 78 with lots := t.lots, stock := t.stock, mail := t.mail }))

/-- ORDER_ADD, ORDER_CANCEL, ORDER_CLASS and ORDER_RESUME (R41, R43 to R45): an order in range is taken under the lowest free
handle, OPEN, with the next arrival sequence, and waits for a compartment; a cancel takes an OPEN or SUSPENDED order out of
the table and makes a PICKING one, here without a live reservation, CANCELLED; a class replaces the order's; a SUSPENDED
order is OPEN again with its lines undelivered, also one that has been cancelled and stays for a struck reservation (log entry 16,
DESIGN CHOICE). LOADING, a free handle and a state that the rule names refuse. -/
def Obligations.OrderRequests : Prop :=
  ∀ (s : State) (q : Req), s.asks q →
    (∀ ref cls lanes lines,
      (3 < cls ∨ lines = [] ∨ 8 < lines.length →
        exec (.orderAdd q ref cls lanes lines) s = .next ((s.asked q 80).replied q 80 .range [])) ∧
      (∀ (cl : Sys2Proof.Class) h, cls = cl → cl ≤ 3 → lines ≠ [] → lines.length ≤ 8 →
        (∀ l ∈ lines, 1 ≤ l.quantity ∧ l.quantity ≤ 16 ∧ ∀ w, l.window = some w → w ≤ 8) →
        (∀ ls, lanes = some ls → ls ≠ [] ∧ ∀ l ∈ ls, l ≤ 3) → h = tfree 0 s.book.orders →
        (s.mgmt.cell = .loading →
          exec (.orderAdd q ref cls lanes lines) s = .next ((s.asked q 80).replied q 80 .state [])) ∧
        (s.mgmt.cell ≠ .loading → 256 ≤ h →
          exec (.orderAdd q ref cls lanes lines) s = .next ((s.asked q 80).replied q 80 .full [])) ∧
        (s.mgmt.cell ≠ .loading → h < 256 → ∃ t, exec (.orderAdd q ref cls lanes lines) s = .next t ∧
          t.order h = some { ref := ref, cls := cl, lanes := lanes, state := .opened, comp := none, seq := s.book.arrivals,
                             lines := lines.map newLine, leaving := false } ∧
          (∀ n, n ≠ h → t.order n = s.order n) ∧ t.book.arrivals = s.book.arrivals + 1 ∧ t.book.pool = s.book.pool ∧
          t = { (s.asked q 80).replied q 80 .done (b1 h) with
                book := t.book, mail := s.mail ++ [.waitingReport ⟨h, ref⟩ s.book.arrivals cl lanes] }))) ∧
    (∀ h, h ≤ 255 → s.mgmt.cell ≠ .loading →
      (s.order h = none → exec (.orderCancel q h) s = .next ((s.asked q 81).replied q 81 .unknown []) ∧
        exec (.orderResume q h) s = .next ((s.asked q 83).replied q 83 .unknown [])) ∧
      (∀ o, s.order h = some o →
        (o.state = .complete ∨ o.state = .cancelled →
          exec (.orderCancel q h) s = .next ((s.asked q 81).replied q 81 .state []) ∧
          ∀ cls, cls ≤ 3 → exec (.orderClass q h cls) s = .next ((s.asked q 82).replied q 82 .state [])) ∧
        (o.state = .opened ∨ o.state = .suspended → s.struckLeft h = false → twf s.book.orders = true →
          ∃ t, exec (.orderCancel q h) s = .next t ∧ s.orderGone h t ∧
            t = { (s.asked q 81).doneTo q 81 with
                  book := t.book, mail := s.mail ++ (if o.state = .opened then [.cancelReport h false] else []) }) ∧
        (o.state = .picking → s.livePlaces (fun r => r.order = h) = [] → s.book.freed = false →
          ∃ t, exec (.orderCancel q h) s = .next t ∧ s.orderIs h { o with state := .cancelled } t ∧
            t = { (s.asked q 81).doneTo q 81 with book := t.book, mail := s.mail ++ [.cancelReport h true] }) ∧
        (∀ cls : Sys2Proof.Class, cls ≤ 3 → o.state = .opened ∨ o.state = .picking ∨ o.state = .suspended →
          ∃ t, exec (.orderClass q h cls) s = .next t ∧ s.orderIs h { o with cls := cls } t ∧
            t = { (s.asked q 82).doneTo q 82 with
                  book := t.book,
                  mail := s.mail ++ (if o.state = .opened then [.orderClassReport h cls] else []) ++
                    (s.orderCars h).map fun k => .taskClassReport k h cls }) ∧
        (o.state ≠ .suspended → exec (.orderResume q h) s = .next ((s.asked q 83).replied q 83 .state [])) ∧
        (o.state = .suspended → ∃ t, exec (.orderResume q h) s = .next t ∧
          s.orderIs h { o with state := .opened, lines := o.lines.map fun l =>
            { l with delivered := 0, taken := [], avoid := none, waitingReported := false } } t ∧
          t = { (s.asked q 83).doneTo q 83 with
                book := t.book, mail := s.mail ++ [.waitingReport ⟨h, o.ref⟩ o.seq o.cls o.lanes] })))

/-- CAROUSEL_ENABLE and CAROUSEL_DISABLE (R87): an enabled FAULT carousel is UNKNOWN without its fault cause; an enabled DISABLED
one has the carriers outside its window admitted first, and is UNKNOWN with a query to its drive while the ring is UP; one in
another state is answered DONE as it stands. A disable excludes every carrier, releases their reservations and makes the carousel
DISABLED, here one with an empty queue; the motion of one whose MOVE has left is halted. A number above 7 is refused with RANGE,
UNCONFIGURED with STATE, and a disable in MANUAL with BUSY. -/
def Sys2Proof.Claims.CarouselSwitches : Prop :=
  ∀ (s : State) (q : Req) (k : Carousel), s.asks q →
    (∀ n, 7 < n → exec (.carouselEnable q n) s = .next ((s.asked q 84).replied q 84 .range []) ∧
      exec (.carouselDisable q n) s = .next ((s.asked q 85).replied q 85 .range [])) ∧
    ((s.seq k).state = .unconfigured →
      exec (.carouselEnable q k.val) s = .next ((s.asked q 84).replied q 84 .state []) ∧
      exec (.carouselDisable q k.val) s = .next ((s.asked q 85).replied q 85 .state [])) ∧
    ((s.seq k).state ≠ .unconfigured → (s.seq k).state ≠ .disabled → (s.seq k).state ≠ .fault →
      exec (.carouselEnable q k.val) s = .next ((s.asked q 84).doneTo q 84)) ∧
    ((s.seq k).state = .fault → (s.nodeOf .drive k.val).isSome = true → ∃ t, exec (.carouselEnable q k.val) s = .next t ∧
      s.answeredDone q 84 t ∧ (t.seq k).state = .unknown ∧ (t.seq k).fault = none ∧ (t.seq k).queue = (s.seq k).queue ∧
      s.othersKept k t ∧ t = { s.asked q 84 with seqs := t.seqs, fe := t.fe, mgmt := t.mgmt }) ∧
    ((s.seq k).state = .manual → exec (.carouselDisable q k.val) s = .next ((s.asked q 85).replied q 85 .busy [])) ∧
    ((s.seq k).state = .disabled → exec (.carouselDisable q k.val) s = .next ((s.asked q 85).doneTo q 85)) ∧
    (∀ car, s.stockCar k = some car → (∀ x ∈ car.carriers, (x.placements.map (·.lot)).Nodup) →
      (∀ a cs, (s.seq k).state = .disabled → s.nodeOf .drive k.val = some a → s.fe.queue.length < 32 →
        cs = (List.range car.carriers.length).filter (fun c => !inWindow (s.seq k).window c) →
        ∃ t, exec (.carouselEnable q k.val) s = .next t ∧ s.answeredDone q 84 t ∧
          t.seq k = (if s.fe.ring = .up then Seq.ask false else id) { s.seq k with
            state := .unknown, fault := none, move := none, built := none, current := none, short := 0 } ∧
          s.othersKept k t ∧ s.reMarked k cs false t ∧
          t.mail = s.mail ++ (cs.filter fun d => (s.carrier k d).any fun x => decide (x.state = .normal) && x.excluded).map
            (.eligibilityReport k) ++ (if cs = [] then [] else [.admitNotice k cs]) ∧
          t = { s.asked q 84 with stock := t.stock, seqs := t.seqs, mail := t.mail, mgmt := t.mgmt, fe :=
            ((s.asked q 84).modFe fun e => { e with queue :=
              e.queue ++ (if s.fe.ring = .up then [frameTo (.seq k) a (.statusQuery (s.seq k).asked)] else []) }).fe }) ∧
      (car.carriers ≠ [] → (s.seq k).queue = [] → (s.seq k).held = [] →
        let left (t : State) : Prop := s.answeredDone q 85 t ∧
          t.seq k = { s.seq k with state := .disabled, fault := none, move := none, built := none, current := none,
                                   short := 0 } ∧
          s.othersKept k t ∧ s.reMarked k (List.range car.carriers.length) true t ∧
          t.mail = s.mail ++ [.carrierRelease k (List.range car.carriers.length)]
        ((s.seq k).state = .idle ∨ (s.seq k).state = .unknown ∨ (s.seq k).state = .fault → (s.seq k).move = none →
          ∃ t, exec (.carouselDisable q k.val) s = .next t ∧ left t ∧
            t = { s.asked q 85 with stock := t.stock, seqs := t.seqs, mail := t.mail, mgmt := t.mgmt }) ∧
        (∀ a, (s.seq k).state = .moving → (s.seq k).move.isSome = true → s.fe.queue.any (isFrameOf (.seq k) 1) = false →
          s.nodeOf .drive k.val = some a → s.fe.queue.length < 32 →
          ∃ t, exec (.carouselDisable q k.val) s = .next t ∧ left t ∧
            t = { (s.asked q 85).framed (.seq k) a (.halt false) with
                  stock := t.stock, seqs := t.seqs, mail := t.mail, mgmt := t.mgmt })))

/-- WINDOW_SET (R86) of a carousel in any state but IDLE and UNCONFIGURED: the carriers newly inside the window are excluded and
their reservations released, and those newly outside it are admitted, unless the carousel is DISABLED. A PUT or AUDIT task of a
carrier newly inside that is not the current one leaves the queue, the put's remaining count being given back by return-incoming
and the audit handed back to the Audit Unit, and the place that frees is reported; no reservation waits in the held list then. Every other carrier keeps its tyres,
its state and its marks, and other carousels' carriers are as they were.
A number above 7 or a bound of P or more is refused with RANGE, and UNCONFIGURED with STATE. -/
def Sys2Proof.Claims.Windows : Prop :=
  ∀ (s : State) (q : Req) (k : Carousel), s.asks q →
    (∀ n bounds, 7 < n → exec (.windowSet q n bounds) s = .next ((s.asked q 86).replied q 86 .range [])) ∧
    ((s.seq k).state = .unconfigured → ∀ bounds,
      exec (.windowSet q k.val bounds) s = .next ((s.asked q 86).replied q 86 .state [])) ∧
    ∀ car, s.stockCar k = some car → (∀ x ∈ car.carriers, (x.placements.map (·.lot)).Nodup) →
      (s.seq k).state ≠ .unconfigured →
      (∀ lo hi, car.carriers.length ≤ lo ∨ car.carriers.length ≤ hi →
        exec (.windowSet q k.val (some (lo, hi))) s = .next ((s.asked q 86).replied q 86 .range [])) ∧
      ∀ (bounds : Option (Nat × Nat)) (shut opened : List Nat), (s.seq k).state ≠ .idle →
        (∀ lo hi, bounds = some (lo, hi) → lo < car.carriers.length ∧ hi < car.carriers.length) →
        shut = (List.range car.carriers.length).filter (fun c => inWindow bounds c && !inWindow (s.seq k).window c) →
        opened = (List.range car.carriers.length).filter (fun c =>
          decide ((s.seq k).state ≠ .disabled) && inWindow (s.seq k).window c && !inWindow bounds c) →
        let carriers (t : State) (back : Nat → List Placement → List Placement) : Prop :=
          (∀ d, t.carrier k d = (s.carrier k d).map fun x => if d ∈ shut ∨ d ∈ opened then
            { x with excluded := decide (d ∈ shut), overload := decide (car.rated < s.actualMass x.placements),
                     placements := back d x.placements } else x) ∧
          (∃ cs, t.stockCar k = some { car with carriers := cs }) ∧ ∀ j : Carousel, j ≠ k → t.stockCar j = s.stockCar j
        let admitted : List Instr := (opened.filter fun d => (s.carrier k d).any fun x => decide (x.state = .normal) && x.excluded).map
          (.eligibilityReport k) ++ (if opened = [] then [] else [.admitNotice k opened])
        let freed : List Instr := (s.stationOf k).toList.map (fun i => .placeReport i k) ++ [.auditPlaceReport k]
        let done (t : State) (queue : List Task) (reports : List Instr) : Prop :=
          s.answeredDone q 86 t ∧ t.seq k = { s.seq k with window := bounds, queue := queue } ∧ s.othersKept k t ∧
            t.mail = s.mail ++ reports ++ admitted ∧
            t = { s.asked q 86 with lots := t.lots, stock := t.stock, seqs := t.seqs, mail := t.mail, mgmt := t.mgmt }
        ((∀ x ∈ (s.seq k).queue, x.carrier ∈ shut → x.kind = .pick) →
          ∃ t, exec (.windowSet q k.val bounds) s = .next t ∧
            done t (s.seq k).queue (if shut = [] then [] else [.carrierRelease k shut]) ∧ carriers t (fun _ ps => ps) ∧
            t.lots = s.lots) ∧
        (∀ x, (s.seq k).queue.filter (fun x => decide (x.kind ≠ .pick) && decide (x.carrier ∈ shut)) = [x] →
          (s.seq k).current ≠ some x.num → (s.seq k).held = [] → ((s.seq k).queue.map (·.num)).Nodup →
          (s.seq k).queue.length ≤ 16 →
          (∀ lot n m i, x.body = .put lot n m i → ∃ t, exec (.windowSet q k.val bounds) s = .next t ∧
            done t (withoutTask x.num (s.seq k).queue) ([.carrierRelease k shut, .putTaskLeft i k x.carrier lot] ++ freed) ∧
            carriers t (fun d ps => if d = x.carrier ∧ 0 < min m (incomingOf lot ps) then
              countsChanged lot (fun p => { p with incoming := p.incoming - min m (incomingOf lot ps) }) ps else ps) ∧
            t.lots = (returnIncomingEntry k x.carrier lot m s).1.lots) ∧
          (∀ blind, x.body = .audit blind → ∃ t, exec (.windowSet q k.val bounds) s = .next t ∧
            done t (withoutTask x.num (s.seq k).queue)
              ([.carrierRelease k shut, .auditHandBack k (some x.carrier)] ++ freed) ∧ carriers t (fun _ ps => ps) ∧
            t.lots = s.lots))

/-- CAROUSEL-ENABLE, CAROUSEL-DISABLE and WINDOW-SET (R86, R87). -/
def Obligations.CarouselRequests : Prop :=
  Claims.CarouselSwitches ∧ Claims.Windows

/-- AUDIT_REQUEST, AUDIT_CANCEL, SCAN_CLEAR, LANE_PERMIT, LANE_ASSIGN, LANE_CLOSE and LANE_OPEN (R112, R142, R144, R148, R154,
R163): a new request is listed for its carrier behind a task that stands, and one only LISTED is cancelled with its carrier
cleared; a scan clear rejects the lock; a permit sends a waiting cart to FLUSHING, here while a tyre is on its way; an
IDENTIFYING cart is coupled as assigned; an EMPTY lane is closed and a CLOSED one opened. Each refusal changes nothing. -/
def Obligations.CarrierAndLaneRequests : Prop :=
  ∀ (s : State) (q : Req), s.asks q →
    (∀ (k : Carousel) c blind (cls : Sys2Proof.Class) x, cls ≤ 3 → s.mgmt.cell ≠ .loading → s.carrier k c = some x →
      (x.placements.map (·.lot)).Nodup →
      (s.auditReq k c = none → exec (.auditCancel q k.val c) s = .next ((s.asked q 88).replied q 88 .unknown [])) ∧
      (s.auditReq k c = none → s.requests.length < 32 → x.state = .normal → s.taskStanding k = true →
        ∃ t, exec (.auditRequest q k.val c blind cls) s = .next t ∧ s.restocked k c { x with state := .auditPending } t ∧
          t = { (s.asked q 87).doneTo q 87 with stock := t.stock, requests := s.requests ++
            [{ car := k, carrier := c, blind := blind, cls := cls, source := .host, abandons := 0, stage := .listed }] }) ∧
      (s.auditReq k c = none → 32 ≤ s.requests.length →
        exec (.auditRequest q k.val c blind cls) s = .next ((s.asked q 87).replied q 87 .full [])) ∧
      (∀ r, s.auditReq k c = some r → r.stage = .listed ∨ r.stage = .barred → x.state = .auditPending →
        ∃ t, exec (.auditCancel q k.val c) s = .next t ∧ s.restocked k c { x with state := .normal } t ∧
          t = { (s.asked q 88).doneTo q 88 with
                stock := t.stock, requests := dropFirst (AuditReq.is k c) s.requests,
                mail := s.mail ++ (if x.excluded = true then [] else [.eligibilityReport k c]) })) ∧
    (∀ (i : Station), (s.stn i).configured = true →
      ((s.stn i).lock = none → exec (.scanClear q i.val 1) s = .next ((s.asked q 89).replied q 89 .state [])) ∧
      (∀ k v e cond, (s.stn i).lock = some cond → (s.stn i).grant = .held k v → (s.stn i).queue = [e] →
        ∃ t, exec (.scanClear q i.val 1) s = .next t ∧ s.answeredDone q 89 t ∧
          s.stationIs i { s.stn i with queue := [], lock := none, overrun := false, timer := s.attentionStart } t ∧
          s.mail <+: t.mail ∧
          t = { s.asked q 89 with stations := t.stations, fe := t.fe, mail := t.mail, mgmt := t.mgmt })) ∧
    (∀ (l : Lane) cart count,
      ((s.lane l).state = .coupled → exec (.lanePermit q l.val) s = .next ((s.asked q 90).replied q 90 .state [])) ∧
      ((s.lane l).state = .flushing ∨ (s.lane l).state = .releasing →
        exec (.lanePermit q l.val) s = .next ((s.asked q 90).doneTo q 90)) ∧
      ((s.lane l).state = .releaseWait → s.laneNamed l = true → exec (.lanePermit q l.val) s =
        .next ((((s.asked q 90).postAll (((s.lane l).comps.filter (·.working)).filterMap (·.order) |>.map fun o =>
          .compartmentWithdrawal o.handle .flush)).modLane l fun x =>
            { x with state := .flushing, comps := x.comps.map fun c => if c.working = true then freeComp else c }).doneTo q 90)) ∧
      (count = 0 ∨ 8 < count → exec (.laneAssign q l.val cart count) s = .next ((s.asked q 91).replied q 91 .range [])) ∧
      (∀ a, 1 ≤ count → count ≤ 8 → (s.lane l).state = .identifying → (s.lane l).controllerLost = false →
        s.transit.waiting = [] → s.nodeOf .laneController l.val = some a → s.fe.queue.length < 32 →
        exec (.laneAssign q l.val cart count) s = .next ((((s.asked q 91).framed .transit a (.lock l false)).modLane l fun x =>
          { x with state := .coupled, timer := none, cart := some { id := cart, count := count, source := .host },
                   comps := List.replicate (min count x.limit) freeComp, locked := true }).doneTo q 91)) ∧
      ((s.lane l).state = .empty → exec (.laneClose q l.val) s =
        .next (((s.asked q 92).modLane l fun x => { x with state := .closed, timer := none }).doneTo q 92)) ∧
      ((s.lane l).state = .coupled → exec (.laneClose q l.val) s = .next ((s.asked q 92).replied q 92 .busy [])) ∧
      ((s.lane l).state = .closed → (s.lane l).input.contactA = false → exec (.laneOpen q l.val) s =
        .next (((s.asked q 93).modLane l fun x => { x with state := .empty }).doneTo q 93)) ∧
      ((s.lane l).state ≠ .closed → exec (.laneOpen q l.val) s = .next ((s.asked q 93).doneTo q 93)))


/-! ## What every step keeps -/

/-- R26 to R33: whatever a step does, every balance record stays sound: its figures are those that a recomputation of its mass
vector gives, its masses are clamped, and its settings lie in their ranges. -/
def Obligations.BalanceKept : Prop := ∀ s t : State, s.balanceSound → step s = .next t → t.balanceSound

/-- R141, R169, R175, R181: whatever a step does, the node map, the groups, the lane limits and the timer settings stay in their
ranges. The strap address is the part's own address; a power-on reset that samples another clears the map and the groups. -/
def Obligations.SettingsKept : Prop := ∀ s t : State, s.settingsSound → step s = .next t → t.settingsSound

/-- R1, R39, R50, R132, R169: whatever a step does, the tables of lots, orders, reservations, transit places and nodes stay in
their canonical form, numbers strictly rising, so that no number is held twice. -/
def Obligations.TablesKept : Prop := ∀ s t : State, s.tablesWf = true → step s = .next t → t.tablesWf = true

/-- R71, R103, R164 (laws L11 and L12): whatever a step does, a carrier is named by at most one audit request, no task queue holds
more than 16 tasks, and no scan queue more than 8 entries; and where the tasks of a queue are numbered apart, no queue comes to
hold two tasks of the same kind for the same carrier, so that a carrier is named by at most one AUDIT task. -/
def Obligations.QueuesBounded : Prop :=
  (∀ s t : State, s.queuesBounded → step s = .next t → t.queuesBounded) ∧
    ∀ s t : State, s.tasksNumbered → s.lawL11 → step s = .next t → t.lawL11

/-- R50, R132 (law L12): whatever a step does, with the tables in their canonical form, the pool holds at most 512 reservations
and every place of the in-transit list is one of its 64. -/
def Obligations.PlacesBounded : Prop := ∀ s t : State, s.placesBounded → step s = .next t → t.placesBounded

/-- R9, R22, R23 (law L1, and the stock's part of L4) and R76 (law L6): whatever a step does, no carrier holds a lot twice, no
placement has more reserved than on hand nor more than 63 on hand and incoming, and an AUDIT-LOCKED carrier has none incoming;
a carousel in MANUAL, DISABLED or FAULT has no move in flight and no built MOVE frame; and the tasks of a queue are numbered apart
by their arrival (R71). -/
def Obligations.LawsKept : Prop :=
  (∀ s t : State, s.shelvesSound → step s = .next t → t.shelvesSound) ∧
    (∀ s t : State, s.lawL6 → step s = .next t → t.lawL6) ∧
    ∀ s t : State, s.tasksNumbered → step s = .next t → t.tasksNumbered

/-- The part right after a power-on reset is sound: its balance records, its settings, its tables within their bounds, its
carriers and its carousels (R178). -/
def Obligations.SoundAtReset : Prop :=
  State.reset.balanceSound ∧ State.reset.settingsSound ∧ State.reset.tablesWf = true ∧ State.reset.queuesBounded ∧
    State.reset.placesBounded ∧ State.reset.shelvesSound ∧ State.reset.lawL6 ∧ State.reset.tasksNumbered ∧ State.reset.lawL11

/-- R29 (law L8) and R30 (the speed class, on which law L7 of R76 rests): where every balance record is sound, a carousel is
SLOW exactly while its worst imbalance exceeds the soft limit, and its worst imbalance is at most its total mass, which is at
most 131008. -/
def Obligations.BalanceLaws : Prop := ∀ s : State, s.balanceSound → s.lawL7 ∧ s.lawL8

/-- No command touches the queue of commands, which is the model's own (log entry 1, DESIGN CHOICE), and only a power-on reset
samples the strap address (R191). Every command answers a next state, of which nothing else is said here. -/
def Obligations.StrapAndQueue : Prop :=
  ∀ (c : Instr) (s : State), ∃ t, exec c s = .next t ∧ t.pending = s.pending ∧
    ((∀ straps, c ≠ .powerOnReset straps) → t.strap = s.strap)
end

