-- ==== Sys2Proof/Laws/State.lean ====
section
/-! SUPPORT. The reads of State after each of its updates: an update leaves every record but its own as it was, by rfl,
and a record written reads back. -/

namespace Sys2Proof.Machine

/-! ### setSeq -/

@[simp] theorem State.setSeq_resetLow (s : State) (k : Carousel) (q : Seq) :
    (s.setSeq k q).resetLow = s.resetLow := rfl
@[simp] theorem State.setSeq_clock (s : State) (k : Carousel) (q : Seq) : (s.setSeq k q).clock = s.clock := rfl
@[simp] theorem State.setSeq_strap (s : State) (k : Carousel) (q : Seq) : (s.setSeq k q).strap = s.strap := rfl
@[simp] theorem State.setSeq_now (s : State) (k : Carousel) (q : Seq) : (s.setSeq k q).now = s.now := rfl
@[simp] theorem State.setSeq_answer (s : State) (k : Carousel) (q : Seq) : (s.setSeq k q).answer = s.answer := rfl
@[simp] theorem State.setSeq_out (s : State) (k : Carousel) (q : Seq) : (s.setSeq k q).out = s.out := rfl
@[simp] theorem State.setSeq_fe (s : State) (k : Carousel) (q : Seq) : (s.setSeq k q).fe = s.fe := rfl
@[simp] theorem State.setSeq_lots (s : State) (k : Carousel) (q : Seq) : (s.setSeq k q).lots = s.lots := rfl
@[simp] theorem State.setSeq_stock (s : State) (k : Carousel) (q : Seq) : (s.setSeq k q).stock = s.stock := rfl
@[simp] theorem State.setSeq_balance (s : State) (k : Carousel) (q : Seq) : (s.setSeq k q).balance = s.balance := rfl
@[simp] theorem State.setSeq_book (s : State) (k : Carousel) (q : Seq) : (s.setSeq k q).book = s.book := rfl
@[simp] theorem State.setSeq_stations (s : State) (k : Carousel) (q : Seq) :
    (s.setSeq k q).stations = s.stations := rfl
@[simp] theorem State.setSeq_transit (s : State) (k : Carousel) (q : Seq) : (s.setSeq k q).transit = s.transit := rfl
@[simp] theorem State.setSeq_lanes (s : State) (k : Carousel) (q : Seq) : (s.setSeq k q).lanes = s.lanes := rfl
@[simp] theorem State.setSeq_requests (s : State) (k : Carousel) (q : Seq) :
    (s.setSeq k q).requests = s.requests := rfl
@[simp] theorem State.setSeq_sessions (s : State) (k : Carousel) (q : Seq) :
    (s.setSeq k q).sessions = s.sessions := rfl
@[simp] theorem State.setSeq_mgmt (s : State) (k : Carousel) (q : Seq) : (s.setSeq k q).mgmt = s.mgmt := rfl
@[simp] theorem State.setSeq_mail (s : State) (k : Carousel) (q : Seq) : (s.setSeq k q).mail = s.mail := rfl
@[simp] theorem State.setSeq_pending (s : State) (k : Carousel) (q : Seq) : (s.setSeq k q).pending = s.pending := rfl
@[simp] theorem State.setSeq_stn (s : State) (k : Carousel) (q : Seq) (j : Station) :
    (s.setSeq k q).stn j = s.stn j := rfl
@[simp] theorem State.setSeq_lane (s : State) (k : Carousel) (q : Seq) (j : Lane) :
    (s.setSeq k q).lane j = s.lane j := rfl
@[simp] theorem State.setSeq_stockCar (s : State) (k : Carousel) (q : Seq) (j : Carousel) :
    (s.setSeq k q).stockCar j = s.stockCar j := rfl
@[simp] theorem State.setSeq_bal (s : State) (k : Carousel) (q : Seq) (j : Carousel) :
    (s.setSeq k q).bal j = s.bal j := rfl
@[simp] theorem State.setSeq_session (s : State) (k : Carousel) (q : Seq) (j : Carousel) :
    (s.setSeq k q).session j = s.session j := rfl
@[simp] theorem State.setSeq_lot (s : State) (k : Carousel) (q : Seq) (n : Nat) :
    (s.setSeq k q).lot n = s.lot n := rfl
@[simp] theorem State.setSeq_order (s : State) (k : Carousel) (q : Seq) (n : Nat) :
    (s.setSeq k q).order n = s.order n := rfl
@[simp] theorem State.setSeq_reservation (s : State) (k : Carousel) (q : Seq) (n : Nat) :
    (s.setSeq k q).reservation n = s.reservation n := rfl
@[simp] theorem State.setSeq_resOf (s : State) (k : Carousel) (q : Seq) (r : ResId) :
    (s.setSeq k q).resOf r = s.resOf r := rfl
@[simp] theorem State.setSeq_carrier (s : State) (k : Carousel) (q : Seq) (j : Carousel) (c : Nat) :
    (s.setSeq k q).carrier j c = s.carrier j c := rfl
@[simp] theorem State.setSeq_carriersOf (s : State) (k : Carousel) (q : Seq) (j : Carousel) :
    (s.setSeq k q).carriersOf j = s.carriersOf j := rfl
@[simp] theorem State.setSeq_own (s : State) (k : Carousel) (q : Seq) : (s.setSeq k q).own = s.own := rfl
@[simp] theorem State.setSeq_grantedBy (s : State) (k : Carousel) (q : Seq) (j : Carousel) :
    (s.setSeq k q).grantedBy j = s.grantedBy j := rfl
@[simp] theorem State.setSeq_node (s : State) (k : Carousel) (q : Seq) (a : Nat) :
    (s.setSeq k q).node a = s.node a := rfl
@[simp] theorem State.setSeq_nodeOf (s : State) (k : Carousel) (q : Seq) (r : Role) (u : Nat) :
    (s.setSeq k q).nodeOf r u = s.nodeOf r u := rfl
@[simp] theorem State.setSeq_gateway (s : State) (k : Carousel) (q : Seq) : (s.setSeq k q).gateway = s.gateway := rfl
@[simp] theorem State.setSeq_address (s : State) (k : Carousel) (q : Seq) (t : Target) :
    (s.setSeq k q).address t = s.address t := rfl
@[simp] theorem State.setSeq_lotOf (s : State) (k : Carousel) (q : Seq) (lb : Label) :
    (s.setSeq k q).lotOf lb = s.lotOf lb := rfl
@[simp] theorem State.setSeq_place (s : State) (k : Carousel) (q : Seq) (n : Nat) :
    (s.setSeq k q).place n = s.place n := rfl
@[simp] theorem State.setSeq_disposal (s : State) (k : Carousel) (q : Seq) (h : Hdr) (kind : Nat) :
    (s.setSeq k q).disposal h kind = s.disposal h kind := rfl

/-! ### modSeq -/

@[simp] theorem State.modSeq_resetLow (s : State) (k : Carousel) (f : Seq → Seq) :
    (s.modSeq k f).resetLow = s.resetLow := rfl
@[simp] theorem State.modSeq_clock (s : State) (k : Carousel) (f : Seq → Seq) : (s.modSeq k f).clock = s.clock := rfl
@[simp] theorem State.modSeq_strap (s : State) (k : Carousel) (f : Seq → Seq) : (s.modSeq k f).strap = s.strap := rfl
@[simp] theorem State.modSeq_now (s : State) (k : Carousel) (f : Seq → Seq) : (s.modSeq k f).now = s.now := rfl
@[simp] theorem State.modSeq_answer (s : State) (k : Carousel) (f : Seq → Seq) :
    (s.modSeq k f).answer = s.answer := rfl
@[simp] theorem State.modSeq_out (s : State) (k : Carousel) (f : Seq → Seq) : (s.modSeq k f).out = s.out := rfl
@[simp] theorem State.modSeq_fe (s : State) (k : Carousel) (f : Seq → Seq) : (s.modSeq k f).fe = s.fe := rfl
@[simp] theorem State.modSeq_lots (s : State) (k : Carousel) (f : Seq → Seq) : (s.modSeq k f).lots = s.lots := rfl
@[simp] theorem State.modSeq_stock (s : State) (k : Carousel) (f : Seq → Seq) : (s.modSeq k f).stock = s.stock := rfl
@[simp] theorem State.modSeq_balance (s : State) (k : Carousel) (f : Seq → Seq) :
    (s.modSeq k f).balance = s.balance := rfl
@[simp] theorem State.modSeq_book (s : State) (k : Carousel) (f : Seq → Seq) : (s.modSeq k f).book = s.book := rfl
@[simp] theorem State.modSeq_stations (s : State) (k : Carousel) (f : Seq → Seq) :
    (s.modSeq k f).stations = s.stations := rfl
@[simp] theorem State.modSeq_transit (s : State) (k : Carousel) (f : Seq → Seq) :
    (s.modSeq k f).transit = s.transit := rfl
@[simp] theorem State.modSeq_lanes (s : State) (k : Carousel) (f : Seq → Seq) : (s.modSeq k f).lanes = s.lanes := rfl
@[simp] theorem State.modSeq_requests (s : State) (k : Carousel) (f : Seq → Seq) :
    (s.modSeq k f).requests = s.requests := rfl
@[simp] theorem State.modSeq_sessions (s : State) (k : Carousel) (f : Seq → Seq) :
    (s.modSeq k f).sessions = s.sessions := rfl
@[simp] theorem State.modSeq_mgmt (s : State) (k : Carousel) (f : Seq → Seq) : (s.modSeq k f).mgmt = s.mgmt := rfl
@[simp] theorem State.modSeq_mail (s : State) (k : Carousel) (f : Seq → Seq) : (s.modSeq k f).mail = s.mail := rfl
@[simp] theorem State.modSeq_pending (s : State) (k : Carousel) (f : Seq → Seq) :
    (s.modSeq k f).pending = s.pending := rfl
@[simp] theorem State.modSeq_stn (s : State) (k : Carousel) (f : Seq → Seq) (j : Station) :
    (s.modSeq k f).stn j = s.stn j := rfl
@[simp] theorem State.modSeq_lane (s : State) (k : Carousel) (f : Seq → Seq) (j : Lane) :
    (s.modSeq k f).lane j = s.lane j := rfl
@[simp] theorem State.modSeq_stockCar (s : State) (k : Carousel) (f : Seq → Seq) (j : Carousel) :
    (s.modSeq k f).stockCar j = s.stockCar j := rfl
@[simp] theorem State.modSeq_bal (s : State) (k : Carousel) (f : Seq → Seq) (j : Carousel) :
    (s.modSeq k f).bal j = s.bal j := rfl
@[simp] theorem State.modSeq_session (s : State) (k : Carousel) (f : Seq → Seq) (j : Carousel) :
    (s.modSeq k f).session j = s.session j := rfl
@[simp] theorem State.modSeq_lot (s : State) (k : Carousel) (f : Seq → Seq) (n : Nat) :
    (s.modSeq k f).lot n = s.lot n := rfl
@[simp] theorem State.modSeq_order (s : State) (k : Carousel) (f : Seq → Seq) (n : Nat) :
    (s.modSeq k f).order n = s.order n := rfl
@[simp] theorem State.modSeq_reservation (s : State) (k : Carousel) (f : Seq → Seq) (n : Nat) :
    (s.modSeq k f).reservation n = s.reservation n := rfl
@[simp] theorem State.modSeq_resOf (s : State) (k : Carousel) (f : Seq → Seq) (r : ResId) :
    (s.modSeq k f).resOf r = s.resOf r := rfl
@[simp] theorem State.modSeq_carrier (s : State) (k : Carousel) (f : Seq → Seq) (j : Carousel) (c : Nat) :
    (s.modSeq k f).carrier j c = s.carrier j c := rfl
@[simp] theorem State.modSeq_carriersOf (s : State) (k : Carousel) (f : Seq → Seq) (j : Carousel) :
    (s.modSeq k f).carriersOf j = s.carriersOf j := rfl
@[simp] theorem State.modSeq_own (s : State) (k : Carousel) (f : Seq → Seq) : (s.modSeq k f).own = s.own := rfl
@[simp] theorem State.modSeq_grantedBy (s : State) (k : Carousel) (f : Seq → Seq) (j : Carousel) :
    (s.modSeq k f).grantedBy j = s.grantedBy j := rfl
@[simp] theorem State.modSeq_node (s : State) (k : Carousel) (f : Seq → Seq) (a : Nat) :
    (s.modSeq k f).node a = s.node a := rfl
@[simp] theorem State.modSeq_nodeOf (s : State) (k : Carousel) (f : Seq → Seq) (r : Role) (u : Nat) :
    (s.modSeq k f).nodeOf r u = s.nodeOf r u := rfl
@[simp] theorem State.modSeq_gateway (s : State) (k : Carousel) (f : Seq → Seq) :
    (s.modSeq k f).gateway = s.gateway := rfl
@[simp] theorem State.modSeq_address (s : State) (k : Carousel) (f : Seq → Seq) (t : Target) :
    (s.modSeq k f).address t = s.address t := rfl
@[simp] theorem State.modSeq_lotOf (s : State) (k : Carousel) (f : Seq → Seq) (lb : Label) :
    (s.modSeq k f).lotOf lb = s.lotOf lb := rfl
@[simp] theorem State.modSeq_place (s : State) (k : Carousel) (f : Seq → Seq) (n : Nat) :
    (s.modSeq k f).place n = s.place n := rfl
@[simp] theorem State.modSeq_disposal (s : State) (k : Carousel) (f : Seq → Seq) (h : Hdr) (kind : Nat) :
    (s.modSeq k f).disposal h kind = s.disposal h kind := rfl

/-! ### setStn -/

@[simp] theorem State.setStn_resetLow (s : State) (i : Station) (x : Stn) :
    (s.setStn i x).resetLow = s.resetLow := rfl
@[simp] theorem State.setStn_clock (s : State) (i : Station) (x : Stn) : (s.setStn i x).clock = s.clock := rfl
@[simp] theorem State.setStn_strap (s : State) (i : Station) (x : Stn) : (s.setStn i x).strap = s.strap := rfl
@[simp] theorem State.setStn_now (s : State) (i : Station) (x : Stn) : (s.setStn i x).now = s.now := rfl
@[simp] theorem State.setStn_answer (s : State) (i : Station) (x : Stn) : (s.setStn i x).answer = s.answer := rfl
@[simp] theorem State.setStn_out (s : State) (i : Station) (x : Stn) : (s.setStn i x).out = s.out := rfl
@[simp] theorem State.setStn_fe (s : State) (i : Station) (x : Stn) : (s.setStn i x).fe = s.fe := rfl
@[simp] theorem State.setStn_lots (s : State) (i : Station) (x : Stn) : (s.setStn i x).lots = s.lots := rfl
@[simp] theorem State.setStn_stock (s : State) (i : Station) (x : Stn) : (s.setStn i x).stock = s.stock := rfl
@[simp] theorem State.setStn_balance (s : State) (i : Station) (x : Stn) : (s.setStn i x).balance = s.balance := rfl
@[simp] theorem State.setStn_book (s : State) (i : Station) (x : Stn) : (s.setStn i x).book = s.book := rfl
@[simp] theorem State.setStn_seqs (s : State) (i : Station) (x : Stn) : (s.setStn i x).seqs = s.seqs := rfl
@[simp] theorem State.setStn_transit (s : State) (i : Station) (x : Stn) : (s.setStn i x).transit = s.transit := rfl
@[simp] theorem State.setStn_lanes (s : State) (i : Station) (x : Stn) : (s.setStn i x).lanes = s.lanes := rfl
@[simp] theorem State.setStn_requests (s : State) (i : Station) (x : Stn) :
    (s.setStn i x).requests = s.requests := rfl
@[simp] theorem State.setStn_sessions (s : State) (i : Station) (x : Stn) :
    (s.setStn i x).sessions = s.sessions := rfl
@[simp] theorem State.setStn_mgmt (s : State) (i : Station) (x : Stn) : (s.setStn i x).mgmt = s.mgmt := rfl
@[simp] theorem State.setStn_mail (s : State) (i : Station) (x : Stn) : (s.setStn i x).mail = s.mail := rfl
@[simp] theorem State.setStn_pending (s : State) (i : Station) (x : Stn) : (s.setStn i x).pending = s.pending := rfl
@[simp] theorem State.setStn_seq (s : State) (i : Station) (x : Stn) (j : Carousel) :
    (s.setStn i x).seq j = s.seq j := rfl
@[simp] theorem State.setStn_lane (s : State) (i : Station) (x : Stn) (j : Lane) :
    (s.setStn i x).lane j = s.lane j := rfl
@[simp] theorem State.setStn_stockCar (s : State) (i : Station) (x : Stn) (j : Carousel) :
    (s.setStn i x).stockCar j = s.stockCar j := rfl
@[simp] theorem State.setStn_bal (s : State) (i : Station) (x : Stn) (j : Carousel) :
    (s.setStn i x).bal j = s.bal j := rfl
@[simp] theorem State.setStn_session (s : State) (i : Station) (x : Stn) (j : Carousel) :
    (s.setStn i x).session j = s.session j := rfl
@[simp] theorem State.setStn_lot (s : State) (i : Station) (x : Stn) (n : Nat) : (s.setStn i x).lot n = s.lot n := rfl
@[simp] theorem State.setStn_order (s : State) (i : Station) (x : Stn) (n : Nat) :
    (s.setStn i x).order n = s.order n := rfl
@[simp] theorem State.setStn_reservation (s : State) (i : Station) (x : Stn) (n : Nat) :
    (s.setStn i x).reservation n = s.reservation n := rfl
@[simp] theorem State.setStn_resOf (s : State) (i : Station) (x : Stn) (r : ResId) :
    (s.setStn i x).resOf r = s.resOf r := rfl
@[simp] theorem State.setStn_carrier (s : State) (i : Station) (x : Stn) (j : Carousel) (c : Nat) :
    (s.setStn i x).carrier j c = s.carrier j c := rfl
@[simp] theorem State.setStn_carriersOf (s : State) (i : Station) (x : Stn) (j : Carousel) :
    (s.setStn i x).carriersOf j = s.carriersOf j := rfl
@[simp] theorem State.setStn_own (s : State) (i : Station) (x : Stn) : (s.setStn i x).own = s.own := rfl
@[simp] theorem State.setStn_stationOf (s : State) (i : Station) (x : Stn) (j : Carousel) :
    (s.setStn i x).stationOf j = s.stationOf j := rfl
@[simp] theorem State.setStn_node (s : State) (i : Station) (x : Stn) (a : Nat) :
    (s.setStn i x).node a = s.node a := rfl
@[simp] theorem State.setStn_nodeOf (s : State) (i : Station) (x : Stn) (r : Role) (u : Nat) :
    (s.setStn i x).nodeOf r u = s.nodeOf r u := rfl
@[simp] theorem State.setStn_gateway (s : State) (i : Station) (x : Stn) : (s.setStn i x).gateway = s.gateway := rfl
@[simp] theorem State.setStn_address (s : State) (i : Station) (x : Stn) (t : Target) :
    (s.setStn i x).address t = s.address t := rfl
@[simp] theorem State.setStn_lotOf (s : State) (i : Station) (x : Stn) (lb : Label) :
    (s.setStn i x).lotOf lb = s.lotOf lb := rfl
@[simp] theorem State.setStn_place (s : State) (i : Station) (x : Stn) (n : Nat) :
    (s.setStn i x).place n = s.place n := rfl
@[simp] theorem State.setStn_disposal (s : State) (i : Station) (x : Stn) (h : Hdr) (kind : Nat) :
    (s.setStn i x).disposal h kind = s.disposal h kind := rfl

/-! ### modStn -/

@[simp] theorem State.modStn_resetLow (s : State) (i : Station) (f : Stn → Stn) :
    (s.modStn i f).resetLow = s.resetLow := rfl
@[simp] theorem State.modStn_clock (s : State) (i : Station) (f : Stn → Stn) : (s.modStn i f).clock = s.clock := rfl
@[simp] theorem State.modStn_strap (s : State) (i : Station) (f : Stn → Stn) : (s.modStn i f).strap = s.strap := rfl
@[simp] theorem State.modStn_now (s : State) (i : Station) (f : Stn → Stn) : (s.modStn i f).now = s.now := rfl
@[simp] theorem State.modStn_answer (s : State) (i : Station) (f : Stn → Stn) :
    (s.modStn i f).answer = s.answer := rfl
@[simp] theorem State.modStn_out (s : State) (i : Station) (f : Stn → Stn) : (s.modStn i f).out = s.out := rfl
@[simp] theorem State.modStn_fe (s : State) (i : Station) (f : Stn → Stn) : (s.modStn i f).fe = s.fe := rfl
@[simp] theorem State.modStn_lots (s : State) (i : Station) (f : Stn → Stn) : (s.modStn i f).lots = s.lots := rfl
@[simp] theorem State.modStn_stock (s : State) (i : Station) (f : Stn → Stn) : (s.modStn i f).stock = s.stock := rfl
@[simp] theorem State.modStn_balance (s : State) (i : Station) (f : Stn → Stn) :
    (s.modStn i f).balance = s.balance := rfl
@[simp] theorem State.modStn_book (s : State) (i : Station) (f : Stn → Stn) : (s.modStn i f).book = s.book := rfl
@[simp] theorem State.modStn_seqs (s : State) (i : Station) (f : Stn → Stn) : (s.modStn i f).seqs = s.seqs := rfl
@[simp] theorem State.modStn_transit (s : State) (i : Station) (f : Stn → Stn) :
    (s.modStn i f).transit = s.transit := rfl
@[simp] theorem State.modStn_lanes (s : State) (i : Station) (f : Stn → Stn) : (s.modStn i f).lanes = s.lanes := rfl
@[simp] theorem State.modStn_requests (s : State) (i : Station) (f : Stn → Stn) :
    (s.modStn i f).requests = s.requests := rfl
@[simp] theorem State.modStn_sessions (s : State) (i : Station) (f : Stn → Stn) :
    (s.modStn i f).sessions = s.sessions := rfl
@[simp] theorem State.modStn_mgmt (s : State) (i : Station) (f : Stn → Stn) : (s.modStn i f).mgmt = s.mgmt := rfl
@[simp] theorem State.modStn_mail (s : State) (i : Station) (f : Stn → Stn) : (s.modStn i f).mail = s.mail := rfl
@[simp] theorem State.modStn_pending (s : State) (i : Station) (f : Stn → Stn) :
    (s.modStn i f).pending = s.pending := rfl
@[simp] theorem State.modStn_seq (s : State) (i : Station) (f : Stn → Stn) (j : Carousel) :
    (s.modStn i f).seq j = s.seq j := rfl
@[simp] theorem State.modStn_lane (s : State) (i : Station) (f : Stn → Stn) (j : Lane) :
    (s.modStn i f).lane j = s.lane j := rfl
@[simp] theorem State.modStn_stockCar (s : State) (i : Station) (f : Stn → Stn) (j : Carousel) :
    (s.modStn i f).stockCar j = s.stockCar j := rfl
@[simp] theorem State.modStn_bal (s : State) (i : Station) (f : Stn → Stn) (j : Carousel) :
    (s.modStn i f).bal j = s.bal j := rfl
@[simp] theorem State.modStn_session (s : State) (i : Station) (f : Stn → Stn) (j : Carousel) :
    (s.modStn i f).session j = s.session j := rfl
@[simp] theorem State.modStn_lot (s : State) (i : Station) (f : Stn → Stn) (n : Nat) :
    (s.modStn i f).lot n = s.lot n := rfl
@[simp] theorem State.modStn_order (s : State) (i : Station) (f : Stn → Stn) (n : Nat) :
    (s.modStn i f).order n = s.order n := rfl
@[simp] theorem State.modStn_reservation (s : State) (i : Station) (f : Stn → Stn) (n : Nat) :
    (s.modStn i f).reservation n = s.reservation n := rfl
@[simp] theorem State.modStn_resOf (s : State) (i : Station) (f : Stn → Stn) (r : ResId) :
    (s.modStn i f).resOf r = s.resOf r := rfl
@[simp] theorem State.modStn_carrier (s : State) (i : Station) (f : Stn → Stn) (j : Carousel) (c : Nat) :
    (s.modStn i f).carrier j c = s.carrier j c := rfl
@[simp] theorem State.modStn_carriersOf (s : State) (i : Station) (f : Stn → Stn) (j : Carousel) :
    (s.modStn i f).carriersOf j = s.carriersOf j := rfl
@[simp] theorem State.modStn_own (s : State) (i : Station) (f : Stn → Stn) : (s.modStn i f).own = s.own := rfl
@[simp] theorem State.modStn_stationOf (s : State) (i : Station) (f : Stn → Stn) (j : Carousel) :
    (s.modStn i f).stationOf j = s.stationOf j := rfl
@[simp] theorem State.modStn_node (s : State) (i : Station) (f : Stn → Stn) (a : Nat) :
    (s.modStn i f).node a = s.node a := rfl
@[simp] theorem State.modStn_nodeOf (s : State) (i : Station) (f : Stn → Stn) (r : Role) (u : Nat) :
    (s.modStn i f).nodeOf r u = s.nodeOf r u := rfl
@[simp] theorem State.modStn_gateway (s : State) (i : Station) (f : Stn → Stn) :
    (s.modStn i f).gateway = s.gateway := rfl
@[simp] theorem State.modStn_address (s : State) (i : Station) (f : Stn → Stn) (t : Target) :
    (s.modStn i f).address t = s.address t := rfl
@[simp] theorem State.modStn_lotOf (s : State) (i : Station) (f : Stn → Stn) (lb : Label) :
    (s.modStn i f).lotOf lb = s.lotOf lb := rfl
@[simp] theorem State.modStn_place (s : State) (i : Station) (f : Stn → Stn) (n : Nat) :
    (s.modStn i f).place n = s.place n := rfl
@[simp] theorem State.modStn_disposal (s : State) (i : Station) (f : Stn → Stn) (h : Hdr) (kind : Nat) :
    (s.modStn i f).disposal h kind = s.disposal h kind := rfl

/-! ### setLane -/

@[simp] theorem State.setLane_resetLow (s : State) (l : Lane) (x : LaneRec) :
    (s.setLane l x).resetLow = s.resetLow := rfl
@[simp] theorem State.setLane_clock (s : State) (l : Lane) (x : LaneRec) : (s.setLane l x).clock = s.clock := rfl
@[simp] theorem State.setLane_strap (s : State) (l : Lane) (x : LaneRec) : (s.setLane l x).strap = s.strap := rfl
@[simp] theorem State.setLane_now (s : State) (l : Lane) (x : LaneRec) : (s.setLane l x).now = s.now := rfl
@[simp] theorem State.setLane_answer (s : State) (l : Lane) (x : LaneRec) : (s.setLane l x).answer = s.answer := rfl
@[simp] theorem State.setLane_out (s : State) (l : Lane) (x : LaneRec) : (s.setLane l x).out = s.out := rfl
@[simp] theorem State.setLane_fe (s : State) (l : Lane) (x : LaneRec) : (s.setLane l x).fe = s.fe := rfl
@[simp] theorem State.setLane_lots (s : State) (l : Lane) (x : LaneRec) : (s.setLane l x).lots = s.lots := rfl
@[simp] theorem State.setLane_stock (s : State) (l : Lane) (x : LaneRec) : (s.setLane l x).stock = s.stock := rfl
@[simp] theorem State.setLane_balance (s : State) (l : Lane) (x : LaneRec) :
    (s.setLane l x).balance = s.balance := rfl
@[simp] theorem State.setLane_book (s : State) (l : Lane) (x : LaneRec) : (s.setLane l x).book = s.book := rfl
@[simp] theorem State.setLane_seqs (s : State) (l : Lane) (x : LaneRec) : (s.setLane l x).seqs = s.seqs := rfl
@[simp] theorem State.setLane_stations (s : State) (l : Lane) (x : LaneRec) :
    (s.setLane l x).stations = s.stations := rfl
@[simp] theorem State.setLane_transit (s : State) (l : Lane) (x : LaneRec) :
    (s.setLane l x).transit = s.transit := rfl
@[simp] theorem State.setLane_requests (s : State) (l : Lane) (x : LaneRec) :
    (s.setLane l x).requests = s.requests := rfl
@[simp] theorem State.setLane_sessions (s : State) (l : Lane) (x : LaneRec) :
    (s.setLane l x).sessions = s.sessions := rfl
@[simp] theorem State.setLane_mgmt (s : State) (l : Lane) (x : LaneRec) : (s.setLane l x).mgmt = s.mgmt := rfl
@[simp] theorem State.setLane_mail (s : State) (l : Lane) (x : LaneRec) : (s.setLane l x).mail = s.mail := rfl
@[simp] theorem State.setLane_pending (s : State) (l : Lane) (x : LaneRec) :
    (s.setLane l x).pending = s.pending := rfl
@[simp] theorem State.setLane_seq (s : State) (l : Lane) (x : LaneRec) (j : Carousel) :
    (s.setLane l x).seq j = s.seq j := rfl
@[simp] theorem State.setLane_stn (s : State) (l : Lane) (x : LaneRec) (j : Station) :
    (s.setLane l x).stn j = s.stn j := rfl
@[simp] theorem State.setLane_stockCar (s : State) (l : Lane) (x : LaneRec) (j : Carousel) :
    (s.setLane l x).stockCar j = s.stockCar j := rfl
@[simp] theorem State.setLane_bal (s : State) (l : Lane) (x : LaneRec) (j : Carousel) :
    (s.setLane l x).bal j = s.bal j := rfl
@[simp] theorem State.setLane_session (s : State) (l : Lane) (x : LaneRec) (j : Carousel) :
    (s.setLane l x).session j = s.session j := rfl
@[simp] theorem State.setLane_lot (s : State) (l : Lane) (x : LaneRec) (n : Nat) :
    (s.setLane l x).lot n = s.lot n := rfl
@[simp] theorem State.setLane_order (s : State) (l : Lane) (x : LaneRec) (n : Nat) :
    (s.setLane l x).order n = s.order n := rfl
@[simp] theorem State.setLane_reservation (s : State) (l : Lane) (x : LaneRec) (n : Nat) :
    (s.setLane l x).reservation n = s.reservation n := rfl
@[simp] theorem State.setLane_resOf (s : State) (l : Lane) (x : LaneRec) (r : ResId) :
    (s.setLane l x).resOf r = s.resOf r := rfl
@[simp] theorem State.setLane_carrier (s : State) (l : Lane) (x : LaneRec) (j : Carousel) (c : Nat) :
    (s.setLane l x).carrier j c = s.carrier j c := rfl
@[simp] theorem State.setLane_carriersOf (s : State) (l : Lane) (x : LaneRec) (j : Carousel) :
    (s.setLane l x).carriersOf j = s.carriersOf j := rfl
@[simp] theorem State.setLane_own (s : State) (l : Lane) (x : LaneRec) : (s.setLane l x).own = s.own := rfl
@[simp] theorem State.setLane_stationOf (s : State) (l : Lane) (x : LaneRec) (j : Carousel) :
    (s.setLane l x).stationOf j = s.stationOf j := rfl
@[simp] theorem State.setLane_grantedBy (s : State) (l : Lane) (x : LaneRec) (j : Carousel) :
    (s.setLane l x).grantedBy j = s.grantedBy j := rfl
@[simp] theorem State.setLane_node (s : State) (l : Lane) (x : LaneRec) (a : Nat) :
    (s.setLane l x).node a = s.node a := rfl
@[simp] theorem State.setLane_nodeOf (s : State) (l : Lane) (x : LaneRec) (r : Role) (u : Nat) :
    (s.setLane l x).nodeOf r u = s.nodeOf r u := rfl
@[simp] theorem State.setLane_gateway (s : State) (l : Lane) (x : LaneRec) :
    (s.setLane l x).gateway = s.gateway := rfl
@[simp] theorem State.setLane_address (s : State) (l : Lane) (x : LaneRec) (t : Target) :
    (s.setLane l x).address t = s.address t := rfl
@[simp] theorem State.setLane_lotOf (s : State) (l : Lane) (x : LaneRec) (lb : Label) :
    (s.setLane l x).lotOf lb = s.lotOf lb := rfl
@[simp] theorem State.setLane_place (s : State) (l : Lane) (x : LaneRec) (n : Nat) :
    (s.setLane l x).place n = s.place n := rfl
@[simp] theorem State.setLane_disposal (s : State) (l : Lane) (x : LaneRec) (h : Hdr) (kind : Nat) :
    (s.setLane l x).disposal h kind = s.disposal h kind := rfl

/-! ### modLane -/

@[simp] theorem State.modLane_resetLow (s : State) (l : Lane) (f : LaneRec → LaneRec) :
    (s.modLane l f).resetLow = s.resetLow := rfl
@[simp] theorem State.modLane_clock (s : State) (l : Lane) (f : LaneRec → LaneRec) :
    (s.modLane l f).clock = s.clock := rfl
@[simp] theorem State.modLane_strap (s : State) (l : Lane) (f : LaneRec → LaneRec) :
    (s.modLane l f).strap = s.strap := rfl
@[simp] theorem State.modLane_now (s : State) (l : Lane) (f : LaneRec → LaneRec) : (s.modLane l f).now = s.now := rfl
@[simp] theorem State.modLane_answer (s : State) (l : Lane) (f : LaneRec → LaneRec) :
    (s.modLane l f).answer = s.answer := rfl
@[simp] theorem State.modLane_out (s : State) (l : Lane) (f : LaneRec → LaneRec) : (s.modLane l f).out = s.out := rfl
@[simp] theorem State.modLane_fe (s : State) (l : Lane) (f : LaneRec → LaneRec) : (s.modLane l f).fe = s.fe := rfl
@[simp] theorem State.modLane_lots (s : State) (l : Lane) (f : LaneRec → LaneRec) :
    (s.modLane l f).lots = s.lots := rfl
@[simp] theorem State.modLane_stock (s : State) (l : Lane) (f : LaneRec → LaneRec) :
    (s.modLane l f).stock = s.stock := rfl
@[simp] theorem State.modLane_balance (s : State) (l : Lane) (f : LaneRec → LaneRec) :
    (s.modLane l f).balance = s.balance := rfl
@[simp] theorem State.modLane_book (s : State) (l : Lane) (f : LaneRec → LaneRec) :
    (s.modLane l f).book = s.book := rfl
@[simp] theorem State.modLane_seqs (s : State) (l : Lane) (f : LaneRec → LaneRec) :
    (s.modLane l f).seqs = s.seqs := rfl
@[simp] theorem State.modLane_stations (s : State) (l : Lane) (f : LaneRec → LaneRec) :
    (s.modLane l f).stations = s.stations := rfl
@[simp] theorem State.modLane_transit (s : State) (l : Lane) (f : LaneRec → LaneRec) :
    (s.modLane l f).transit = s.transit := rfl
@[simp] theorem State.modLane_requests (s : State) (l : Lane) (f : LaneRec → LaneRec) :
    (s.modLane l f).requests = s.requests := rfl
@[simp] theorem State.modLane_sessions (s : State) (l : Lane) (f : LaneRec → LaneRec) :
    (s.modLane l f).sessions = s.sessions := rfl
@[simp] theorem State.modLane_mgmt (s : State) (l : Lane) (f : LaneRec → LaneRec) :
    (s.modLane l f).mgmt = s.mgmt := rfl
@[simp] theorem State.modLane_mail (s : State) (l : Lane) (f : LaneRec → LaneRec) :
    (s.modLane l f).mail = s.mail := rfl
@[simp] theorem State.modLane_pending (s : State) (l : Lane) (f : LaneRec → LaneRec) :
    (s.modLane l f).pending = s.pending := rfl
@[simp] theorem State.modLane_seq (s : State) (l : Lane) (f : LaneRec → LaneRec) (j : Carousel) :
    (s.modLane l f).seq j = s.seq j := rfl
@[simp] theorem State.modLane_stn (s : State) (l : Lane) (f : LaneRec → LaneRec) (j : Station) :
    (s.modLane l f).stn j = s.stn j := rfl
@[simp] theorem State.modLane_stockCar (s : State) (l : Lane) (f : LaneRec → LaneRec) (j : Carousel) :
    (s.modLane l f).stockCar j = s.stockCar j := rfl
@[simp] theorem State.modLane_bal (s : State) (l : Lane) (f : LaneRec → LaneRec) (j : Carousel) :
    (s.modLane l f).bal j = s.bal j := rfl
@[simp] theorem State.modLane_session (s : State) (l : Lane) (f : LaneRec → LaneRec) (j : Carousel) :
    (s.modLane l f).session j = s.session j := rfl
@[simp] theorem State.modLane_lot (s : State) (l : Lane) (f : LaneRec → LaneRec) (n : Nat) :
    (s.modLane l f).lot n = s.lot n := rfl
@[simp] theorem State.modLane_order (s : State) (l : Lane) (f : LaneRec → LaneRec) (n : Nat) :
    (s.modLane l f).order n = s.order n := rfl
@[simp] theorem State.modLane_reservation (s : State) (l : Lane) (f : LaneRec → LaneRec) (n : Nat) :
    (s.modLane l f).reservation n = s.reservation n := rfl
@[simp] theorem State.modLane_resOf (s : State) (l : Lane) (f : LaneRec → LaneRec) (r : ResId) :
    (s.modLane l f).resOf r = s.resOf r := rfl
@[simp] theorem State.modLane_carrier (s : State) (l : Lane) (f : LaneRec → LaneRec) (j : Carousel) (c : Nat) :
    (s.modLane l f).carrier j c = s.carrier j c := rfl
@[simp] theorem State.modLane_carriersOf (s : State) (l : Lane) (f : LaneRec → LaneRec) (j : Carousel) :
    (s.modLane l f).carriersOf j = s.carriersOf j := rfl
@[simp] theorem State.modLane_own (s : State) (l : Lane) (f : LaneRec → LaneRec) : (s.modLane l f).own = s.own := rfl
@[simp] theorem State.modLane_stationOf (s : State) (l : Lane) (f : LaneRec → LaneRec) (j : Carousel) :
    (s.modLane l f).stationOf j = s.stationOf j := rfl
@[simp] theorem State.modLane_grantedBy (s : State) (l : Lane) (f : LaneRec → LaneRec) (j : Carousel) :
    (s.modLane l f).grantedBy j = s.grantedBy j := rfl
@[simp] theorem State.modLane_node (s : State) (l : Lane) (f : LaneRec → LaneRec) (a : Nat) :
    (s.modLane l f).node a = s.node a := rfl
@[simp] theorem State.modLane_nodeOf (s : State) (l : Lane) (f : LaneRec → LaneRec) (r : Role) (u : Nat) :
    (s.modLane l f).nodeOf r u = s.nodeOf r u := rfl
@[simp] theorem State.modLane_gateway (s : State) (l : Lane) (f : LaneRec → LaneRec) :
    (s.modLane l f).gateway = s.gateway := rfl
@[simp] theorem State.modLane_address (s : State) (l : Lane) (f : LaneRec → LaneRec) (t : Target) :
    (s.modLane l f).address t = s.address t := rfl
@[simp] theorem State.modLane_lotOf (s : State) (l : Lane) (f : LaneRec → LaneRec) (lb : Label) :
    (s.modLane l f).lotOf lb = s.lotOf lb := rfl
@[simp] theorem State.modLane_place (s : State) (l : Lane) (f : LaneRec → LaneRec) (n : Nat) :
    (s.modLane l f).place n = s.place n := rfl
@[simp] theorem State.modLane_disposal (s : State) (l : Lane) (f : LaneRec → LaneRec) (h : Hdr) (kind : Nat) :
    (s.modLane l f).disposal h kind = s.disposal h kind := rfl

/-! ### setStock -/

@[simp] theorem State.setStock_resetLow (s : State) (k : Carousel) (c : Option StockCar) :
    (s.setStock k c).resetLow = s.resetLow := rfl
@[simp] theorem State.setStock_clock (s : State) (k : Carousel) (c : Option StockCar) :
    (s.setStock k c).clock = s.clock := rfl
@[simp] theorem State.setStock_strap (s : State) (k : Carousel) (c : Option StockCar) :
    (s.setStock k c).strap = s.strap := rfl
@[simp] theorem State.setStock_now (s : State) (k : Carousel) (c : Option StockCar) :
    (s.setStock k c).now = s.now := rfl
@[simp] theorem State.setStock_answer (s : State) (k : Carousel) (c : Option StockCar) :
    (s.setStock k c).answer = s.answer := rfl
@[simp] theorem State.setStock_out (s : State) (k : Carousel) (c : Option StockCar) :
    (s.setStock k c).out = s.out := rfl
@[simp] theorem State.setStock_fe (s : State) (k : Carousel) (c : Option StockCar) : (s.setStock k c).fe = s.fe := rfl
@[simp] theorem State.setStock_lots (s : State) (k : Carousel) (c : Option StockCar) :
    (s.setStock k c).lots = s.lots := rfl
@[simp] theorem State.setStock_balance (s : State) (k : Carousel) (c : Option StockCar) :
    (s.setStock k c).balance = s.balance := rfl
@[simp] theorem State.setStock_book (s : State) (k : Carousel) (c : Option StockCar) :
    (s.setStock k c).book = s.book := rfl
@[simp] theorem State.setStock_seqs (s : State) (k : Carousel) (c : Option StockCar) :
    (s.setStock k c).seqs = s.seqs := rfl
@[simp] theorem State.setStock_stations (s : State) (k : Carousel) (c : Option StockCar) :
    (s.setStock k c).stations = s.stations := rfl
@[simp] theorem State.setStock_transit (s : State) (k : Carousel) (c : Option StockCar) :
    (s.setStock k c).transit = s.transit := rfl
@[simp] theorem State.setStock_lanes (s : State) (k : Carousel) (c : Option StockCar) :
    (s.setStock k c).lanes = s.lanes := rfl
@[simp] theorem State.setStock_requests (s : State) (k : Carousel) (c : Option StockCar) :
    (s.setStock k c).requests = s.requests := rfl
@[simp] theorem State.setStock_sessions (s : State) (k : Carousel) (c : Option StockCar) :
    (s.setStock k c).sessions = s.sessions := rfl
@[simp] theorem State.setStock_mgmt (s : State) (k : Carousel) (c : Option StockCar) :
    (s.setStock k c).mgmt = s.mgmt := rfl
@[simp] theorem State.setStock_mail (s : State) (k : Carousel) (c : Option StockCar) :
    (s.setStock k c).mail = s.mail := rfl
@[simp] theorem State.setStock_pending (s : State) (k : Carousel) (c : Option StockCar) :
    (s.setStock k c).pending = s.pending := rfl
@[simp] theorem State.setStock_seq (s : State) (k : Carousel) (c : Option StockCar) (j : Carousel) :
    (s.setStock k c).seq j = s.seq j := rfl
@[simp] theorem State.setStock_stn (s : State) (k : Carousel) (c : Option StockCar) (j : Station) :
    (s.setStock k c).stn j = s.stn j := rfl
@[simp] theorem State.setStock_lane (s : State) (k : Carousel) (c : Option StockCar) (j : Lane) :
    (s.setStock k c).lane j = s.lane j := rfl
@[simp] theorem State.setStock_bal (s : State) (k : Carousel) (c : Option StockCar) (j : Carousel) :
    (s.setStock k c).bal j = s.bal j := rfl
@[simp] theorem State.setStock_session (s : State) (k : Carousel) (c : Option StockCar) (j : Carousel) :
    (s.setStock k c).session j = s.session j := rfl
@[simp] theorem State.setStock_lot (s : State) (k : Carousel) (c : Option StockCar) (n : Nat) :
    (s.setStock k c).lot n = s.lot n := rfl
@[simp] theorem State.setStock_order (s : State) (k : Carousel) (c : Option StockCar) (n : Nat) :
    (s.setStock k c).order n = s.order n := rfl
@[simp] theorem State.setStock_reservation (s : State) (k : Carousel) (c : Option StockCar) (n : Nat) :
    (s.setStock k c).reservation n = s.reservation n := rfl
@[simp] theorem State.setStock_resOf (s : State) (k : Carousel) (c : Option StockCar) (r : ResId) :
    (s.setStock k c).resOf r = s.resOf r := rfl
@[simp] theorem State.setStock_own (s : State) (k : Carousel) (c : Option StockCar) :
    (s.setStock k c).own = s.own := rfl
@[simp] theorem State.setStock_stationOf (s : State) (k : Carousel) (c : Option StockCar) (j : Carousel) :
    (s.setStock k c).stationOf j = s.stationOf j := rfl
@[simp] theorem State.setStock_grantedBy (s : State) (k : Carousel) (c : Option StockCar) (j : Carousel) :
    (s.setStock k c).grantedBy j = s.grantedBy j := rfl
@[simp] theorem State.setStock_node (s : State) (k : Carousel) (c : Option StockCar) (a : Nat) :
    (s.setStock k c).node a = s.node a := rfl
@[simp] theorem State.setStock_nodeOf (s : State) (k : Carousel) (c : Option StockCar) (r : Role) (u : Nat) :
    (s.setStock k c).nodeOf r u = s.nodeOf r u := rfl
@[simp] theorem State.setStock_gateway (s : State) (k : Carousel) (c : Option StockCar) :
    (s.setStock k c).gateway = s.gateway := rfl
@[simp] theorem State.setStock_address (s : State) (k : Carousel) (c : Option StockCar) (t : Target) :
    (s.setStock k c).address t = s.address t := rfl
@[simp] theorem State.setStock_lotOf (s : State) (k : Carousel) (c : Option StockCar) (lb : Label) :
    (s.setStock k c).lotOf lb = s.lotOf lb := rfl
@[simp] theorem State.setStock_place (s : State) (k : Carousel) (c : Option StockCar) (n : Nat) :
    (s.setStock k c).place n = s.place n := rfl
@[simp] theorem State.setStock_disposal (s : State) (k : Carousel) (c : Option StockCar) (h : Hdr) (kind : Nat) :
    (s.setStock k c).disposal h kind = s.disposal h kind := rfl

/-! ### setBal -/

@[simp] theorem State.setBal_resetLow (s : State) (k : Carousel) (b : Option Balance) :
    (s.setBal k b).resetLow = s.resetLow := rfl
@[simp] theorem State.setBal_clock (s : State) (k : Carousel) (b : Option Balance) :
    (s.setBal k b).clock = s.clock := rfl
@[simp] theorem State.setBal_strap (s : State) (k : Carousel) (b : Option Balance) :
    (s.setBal k b).strap = s.strap := rfl
@[simp] theorem State.setBal_now (s : State) (k : Carousel) (b : Option Balance) : (s.setBal k b).now = s.now := rfl
@[simp] theorem State.setBal_answer (s : State) (k : Carousel) (b : Option Balance) :
    (s.setBal k b).answer = s.answer := rfl
@[simp] theorem State.setBal_out (s : State) (k : Carousel) (b : Option Balance) : (s.setBal k b).out = s.out := rfl
@[simp] theorem State.setBal_fe (s : State) (k : Carousel) (b : Option Balance) : (s.setBal k b).fe = s.fe := rfl
@[simp] theorem State.setBal_lots (s : State) (k : Carousel) (b : Option Balance) :
    (s.setBal k b).lots = s.lots := rfl
@[simp] theorem State.setBal_stock (s : State) (k : Carousel) (b : Option Balance) :
    (s.setBal k b).stock = s.stock := rfl
@[simp] theorem State.setBal_book (s : State) (k : Carousel) (b : Option Balance) :
    (s.setBal k b).book = s.book := rfl
@[simp] theorem State.setBal_seqs (s : State) (k : Carousel) (b : Option Balance) :
    (s.setBal k b).seqs = s.seqs := rfl
@[simp] theorem State.setBal_stations (s : State) (k : Carousel) (b : Option Balance) :
    (s.setBal k b).stations = s.stations := rfl
@[simp] theorem State.setBal_transit (s : State) (k : Carousel) (b : Option Balance) :
    (s.setBal k b).transit = s.transit := rfl
@[simp] theorem State.setBal_lanes (s : State) (k : Carousel) (b : Option Balance) :
    (s.setBal k b).lanes = s.lanes := rfl
@[simp] theorem State.setBal_requests (s : State) (k : Carousel) (b : Option Balance) :
    (s.setBal k b).requests = s.requests := rfl
@[simp] theorem State.setBal_sessions (s : State) (k : Carousel) (b : Option Balance) :
    (s.setBal k b).sessions = s.sessions := rfl
@[simp] theorem State.setBal_mgmt (s : State) (k : Carousel) (b : Option Balance) :
    (s.setBal k b).mgmt = s.mgmt := rfl
@[simp] theorem State.setBal_mail (s : State) (k : Carousel) (b : Option Balance) :
    (s.setBal k b).mail = s.mail := rfl
@[simp] theorem State.setBal_pending (s : State) (k : Carousel) (b : Option Balance) :
    (s.setBal k b).pending = s.pending := rfl
@[simp] theorem State.setBal_seq (s : State) (k : Carousel) (b : Option Balance) (j : Carousel) :
    (s.setBal k b).seq j = s.seq j := rfl
@[simp] theorem State.setBal_stn (s : State) (k : Carousel) (b : Option Balance) (j : Station) :
    (s.setBal k b).stn j = s.stn j := rfl
@[simp] theorem State.setBal_lane (s : State) (k : Carousel) (b : Option Balance) (j : Lane) :
    (s.setBal k b).lane j = s.lane j := rfl
@[simp] theorem State.setBal_stockCar (s : State) (k : Carousel) (b : Option Balance) (j : Carousel) :
    (s.setBal k b).stockCar j = s.stockCar j := rfl
@[simp] theorem State.setBal_session (s : State) (k : Carousel) (b : Option Balance) (j : Carousel) :
    (s.setBal k b).session j = s.session j := rfl
@[simp] theorem State.setBal_lot (s : State) (k : Carousel) (b : Option Balance) (n : Nat) :
    (s.setBal k b).lot n = s.lot n := rfl
@[simp] theorem State.setBal_order (s : State) (k : Carousel) (b : Option Balance) (n : Nat) :
    (s.setBal k b).order n = s.order n := rfl
@[simp] theorem State.setBal_reservation (s : State) (k : Carousel) (b : Option Balance) (n : Nat) :
    (s.setBal k b).reservation n = s.reservation n := rfl
@[simp] theorem State.setBal_resOf (s : State) (k : Carousel) (b : Option Balance) (r : ResId) :
    (s.setBal k b).resOf r = s.resOf r := rfl
@[simp] theorem State.setBal_carrier (s : State) (k : Carousel) (b : Option Balance) (j : Carousel) (c : Nat) :
    (s.setBal k b).carrier j c = s.carrier j c := rfl
@[simp] theorem State.setBal_carriersOf (s : State) (k : Carousel) (b : Option Balance) (j : Carousel) :
    (s.setBal k b).carriersOf j = s.carriersOf j := rfl
@[simp] theorem State.setBal_own (s : State) (k : Carousel) (b : Option Balance) : (s.setBal k b).own = s.own := rfl
@[simp] theorem State.setBal_stationOf (s : State) (k : Carousel) (b : Option Balance) (j : Carousel) :
    (s.setBal k b).stationOf j = s.stationOf j := rfl
@[simp] theorem State.setBal_grantedBy (s : State) (k : Carousel) (b : Option Balance) (j : Carousel) :
    (s.setBal k b).grantedBy j = s.grantedBy j := rfl
@[simp] theorem State.setBal_node (s : State) (k : Carousel) (b : Option Balance) (a : Nat) :
    (s.setBal k b).node a = s.node a := rfl
@[simp] theorem State.setBal_nodeOf (s : State) (k : Carousel) (b : Option Balance) (r : Role) (u : Nat) :
    (s.setBal k b).nodeOf r u = s.nodeOf r u := rfl
@[simp] theorem State.setBal_gateway (s : State) (k : Carousel) (b : Option Balance) :
    (s.setBal k b).gateway = s.gateway := rfl
@[simp] theorem State.setBal_address (s : State) (k : Carousel) (b : Option Balance) (t : Target) :
    (s.setBal k b).address t = s.address t := rfl
@[simp] theorem State.setBal_lotOf (s : State) (k : Carousel) (b : Option Balance) (lb : Label) :
    (s.setBal k b).lotOf lb = s.lotOf lb := rfl
@[simp] theorem State.setBal_place (s : State) (k : Carousel) (b : Option Balance) (n : Nat) :
    (s.setBal k b).place n = s.place n := rfl
@[simp] theorem State.setBal_disposal (s : State) (k : Carousel) (b : Option Balance) (h : Hdr) (kind : Nat) :
    (s.setBal k b).disposal h kind = s.disposal h kind := rfl

/-! ### setSession -/

@[simp] theorem State.setSession_resetLow (s : State) (k : Carousel) (x : Option Session) :
    (s.setSession k x).resetLow = s.resetLow := rfl
@[simp] theorem State.setSession_clock (s : State) (k : Carousel) (x : Option Session) :
    (s.setSession k x).clock = s.clock := rfl
@[simp] theorem State.setSession_strap (s : State) (k : Carousel) (x : Option Session) :
    (s.setSession k x).strap = s.strap := rfl
@[simp] theorem State.setSession_now (s : State) (k : Carousel) (x : Option Session) :
    (s.setSession k x).now = s.now := rfl
@[simp] theorem State.setSession_answer (s : State) (k : Carousel) (x : Option Session) :
    (s.setSession k x).answer = s.answer := rfl
@[simp] theorem State.setSession_out (s : State) (k : Carousel) (x : Option Session) :
    (s.setSession k x).out = s.out := rfl
@[simp] theorem State.setSession_fe (s : State) (k : Carousel) (x : Option Session) :
    (s.setSession k x).fe = s.fe := rfl
@[simp] theorem State.setSession_lots (s : State) (k : Carousel) (x : Option Session) :
    (s.setSession k x).lots = s.lots := rfl
@[simp] theorem State.setSession_stock (s : State) (k : Carousel) (x : Option Session) :
    (s.setSession k x).stock = s.stock := rfl
@[simp] theorem State.setSession_balance (s : State) (k : Carousel) (x : Option Session) :
    (s.setSession k x).balance = s.balance := rfl
@[simp] theorem State.setSession_book (s : State) (k : Carousel) (x : Option Session) :
    (s.setSession k x).book = s.book := rfl
@[simp] theorem State.setSession_seqs (s : State) (k : Carousel) (x : Option Session) :
    (s.setSession k x).seqs = s.seqs := rfl
@[simp] theorem State.setSession_stations (s : State) (k : Carousel) (x : Option Session) :
    (s.setSession k x).stations = s.stations := rfl
@[simp] theorem State.setSession_transit (s : State) (k : Carousel) (x : Option Session) :
    (s.setSession k x).transit = s.transit := rfl
@[simp] theorem State.setSession_lanes (s : State) (k : Carousel) (x : Option Session) :
    (s.setSession k x).lanes = s.lanes := rfl
@[simp] theorem State.setSession_requests (s : State) (k : Carousel) (x : Option Session) :
    (s.setSession k x).requests = s.requests := rfl
@[simp] theorem State.setSession_mgmt (s : State) (k : Carousel) (x : Option Session) :
    (s.setSession k x).mgmt = s.mgmt := rfl
@[simp] theorem State.setSession_mail (s : State) (k : Carousel) (x : Option Session) :
    (s.setSession k x).mail = s.mail := rfl
@[simp] theorem State.setSession_pending (s : State) (k : Carousel) (x : Option Session) :
    (s.setSession k x).pending = s.pending := rfl
@[simp] theorem State.setSession_seq (s : State) (k : Carousel) (x : Option Session) (j : Carousel) :
    (s.setSession k x).seq j = s.seq j := rfl
@[simp] theorem State.setSession_stn (s : State) (k : Carousel) (x : Option Session) (j : Station) :
    (s.setSession k x).stn j = s.stn j := rfl
@[simp] theorem State.setSession_lane (s : State) (k : Carousel) (x : Option Session) (j : Lane) :
    (s.setSession k x).lane j = s.lane j := rfl
@[simp] theorem State.setSession_stockCar (s : State) (k : Carousel) (x : Option Session) (j : Carousel) :
    (s.setSession k x).stockCar j = s.stockCar j := rfl
@[simp] theorem State.setSession_bal (s : State) (k : Carousel) (x : Option Session) (j : Carousel) :
    (s.setSession k x).bal j = s.bal j := rfl
@[simp] theorem State.setSession_lot (s : State) (k : Carousel) (x : Option Session) (n : Nat) :
    (s.setSession k x).lot n = s.lot n := rfl
@[simp] theorem State.setSession_order (s : State) (k : Carousel) (x : Option Session) (n : Nat) :
    (s.setSession k x).order n = s.order n := rfl
@[simp] theorem State.setSession_reservation (s : State) (k : Carousel) (x : Option Session) (n : Nat) :
    (s.setSession k x).reservation n = s.reservation n := rfl
@[simp] theorem State.setSession_resOf (s : State) (k : Carousel) (x : Option Session) (r : ResId) :
    (s.setSession k x).resOf r = s.resOf r := rfl
@[simp] theorem State.setSession_carrier (s : State) (k : Carousel) (x : Option Session) (j : Carousel) (c : Nat) :
    (s.setSession k x).carrier j c = s.carrier j c := rfl
@[simp] theorem State.setSession_carriersOf (s : State) (k : Carousel) (x : Option Session) (j : Carousel) :
    (s.setSession k x).carriersOf j = s.carriersOf j := rfl
@[simp] theorem State.setSession_own (s : State) (k : Carousel) (x : Option Session) :
    (s.setSession k x).own = s.own := rfl
@[simp] theorem State.setSession_stationOf (s : State) (k : Carousel) (x : Option Session) (j : Carousel) :
    (s.setSession k x).stationOf j = s.stationOf j := rfl
@[simp] theorem State.setSession_grantedBy (s : State) (k : Carousel) (x : Option Session) (j : Carousel) :
    (s.setSession k x).grantedBy j = s.grantedBy j := rfl
@[simp] theorem State.setSession_node (s : State) (k : Carousel) (x : Option Session) (a : Nat) :
    (s.setSession k x).node a = s.node a := rfl
@[simp] theorem State.setSession_nodeOf (s : State) (k : Carousel) (x : Option Session) (r : Role) (u : Nat) :
    (s.setSession k x).nodeOf r u = s.nodeOf r u := rfl
@[simp] theorem State.setSession_gateway (s : State) (k : Carousel) (x : Option Session) :
    (s.setSession k x).gateway = s.gateway := rfl
@[simp] theorem State.setSession_address (s : State) (k : Carousel) (x : Option Session) (t : Target) :
    (s.setSession k x).address t = s.address t := rfl
@[simp] theorem State.setSession_lotOf (s : State) (k : Carousel) (x : Option Session) (lb : Label) :
    (s.setSession k x).lotOf lb = s.lotOf lb := rfl
@[simp] theorem State.setSession_place (s : State) (k : Carousel) (x : Option Session) (n : Nat) :
    (s.setSession k x).place n = s.place n := rfl
@[simp] theorem State.setSession_disposal (s : State) (k : Carousel) (x : Option Session) (h : Hdr) (kind : Nat) :
    (s.setSession k x).disposal h kind = s.disposal h kind := rfl

/-! ### modFe -/

@[simp] theorem State.modFe_resetLow (s : State) (f : FrameEngine → FrameEngine) :
    (s.modFe f).resetLow = s.resetLow := rfl
@[simp] theorem State.modFe_clock (s : State) (f : FrameEngine → FrameEngine) : (s.modFe f).clock = s.clock := rfl
@[simp] theorem State.modFe_strap (s : State) (f : FrameEngine → FrameEngine) : (s.modFe f).strap = s.strap := rfl
@[simp] theorem State.modFe_now (s : State) (f : FrameEngine → FrameEngine) : (s.modFe f).now = s.now := rfl
@[simp] theorem State.modFe_answer (s : State) (f : FrameEngine → FrameEngine) : (s.modFe f).answer = s.answer := rfl
@[simp] theorem State.modFe_out (s : State) (f : FrameEngine → FrameEngine) : (s.modFe f).out = s.out := rfl
@[simp] theorem State.modFe_fe (s : State) (f : FrameEngine → FrameEngine) : (s.modFe f).fe = f s.fe := rfl
@[simp] theorem State.modFe_lots (s : State) (f : FrameEngine → FrameEngine) : (s.modFe f).lots = s.lots := rfl
@[simp] theorem State.modFe_stock (s : State) (f : FrameEngine → FrameEngine) : (s.modFe f).stock = s.stock := rfl
@[simp] theorem State.modFe_balance (s : State) (f : FrameEngine → FrameEngine) :
    (s.modFe f).balance = s.balance := rfl
@[simp] theorem State.modFe_book (s : State) (f : FrameEngine → FrameEngine) : (s.modFe f).book = s.book := rfl
@[simp] theorem State.modFe_seqs (s : State) (f : FrameEngine → FrameEngine) : (s.modFe f).seqs = s.seqs := rfl
@[simp] theorem State.modFe_stations (s : State) (f : FrameEngine → FrameEngine) :
    (s.modFe f).stations = s.stations := rfl
@[simp] theorem State.modFe_transit (s : State) (f : FrameEngine → FrameEngine) :
    (s.modFe f).transit = s.transit := rfl
@[simp] theorem State.modFe_lanes (s : State) (f : FrameEngine → FrameEngine) : (s.modFe f).lanes = s.lanes := rfl
@[simp] theorem State.modFe_requests (s : State) (f : FrameEngine → FrameEngine) :
    (s.modFe f).requests = s.requests := rfl
@[simp] theorem State.modFe_sessions (s : State) (f : FrameEngine → FrameEngine) :
    (s.modFe f).sessions = s.sessions := rfl
@[simp] theorem State.modFe_mgmt (s : State) (f : FrameEngine → FrameEngine) : (s.modFe f).mgmt = s.mgmt := rfl
@[simp] theorem State.modFe_mail (s : State) (f : FrameEngine → FrameEngine) : (s.modFe f).mail = s.mail := rfl
@[simp] theorem State.modFe_pending (s : State) (f : FrameEngine → FrameEngine) :
    (s.modFe f).pending = s.pending := rfl
@[simp] theorem State.modFe_seq (s : State) (f : FrameEngine → FrameEngine) (j : Carousel) :
    (s.modFe f).seq j = s.seq j := rfl
@[simp] theorem State.modFe_stn (s : State) (f : FrameEngine → FrameEngine) (j : Station) :
    (s.modFe f).stn j = s.stn j := rfl
@[simp] theorem State.modFe_lane (s : State) (f : FrameEngine → FrameEngine) (j : Lane) :
    (s.modFe f).lane j = s.lane j := rfl
@[simp] theorem State.modFe_stockCar (s : State) (f : FrameEngine → FrameEngine) (j : Carousel) :
    (s.modFe f).stockCar j = s.stockCar j := rfl
@[simp] theorem State.modFe_bal (s : State) (f : FrameEngine → FrameEngine) (j : Carousel) :
    (s.modFe f).bal j = s.bal j := rfl
@[simp] theorem State.modFe_session (s : State) (f : FrameEngine → FrameEngine) (j : Carousel) :
    (s.modFe f).session j = s.session j := rfl
@[simp] theorem State.modFe_lot (s : State) (f : FrameEngine → FrameEngine) (n : Nat) :
    (s.modFe f).lot n = s.lot n := rfl
@[simp] theorem State.modFe_order (s : State) (f : FrameEngine → FrameEngine) (n : Nat) :
    (s.modFe f).order n = s.order n := rfl
@[simp] theorem State.modFe_reservation (s : State) (f : FrameEngine → FrameEngine) (n : Nat) :
    (s.modFe f).reservation n = s.reservation n := rfl
@[simp] theorem State.modFe_resOf (s : State) (f : FrameEngine → FrameEngine) (r : ResId) :
    (s.modFe f).resOf r = s.resOf r := rfl
@[simp] theorem State.modFe_carrier (s : State) (f : FrameEngine → FrameEngine) (j : Carousel) (c : Nat) :
    (s.modFe f).carrier j c = s.carrier j c := rfl
@[simp] theorem State.modFe_carriersOf (s : State) (f : FrameEngine → FrameEngine) (j : Carousel) :
    (s.modFe f).carriersOf j = s.carriersOf j := rfl
@[simp] theorem State.modFe_own (s : State) (f : FrameEngine → FrameEngine) : (s.modFe f).own = s.own := rfl
@[simp] theorem State.modFe_stationOf (s : State) (f : FrameEngine → FrameEngine) (j : Carousel) :
    (s.modFe f).stationOf j = s.stationOf j := rfl
@[simp] theorem State.modFe_grantedBy (s : State) (f : FrameEngine → FrameEngine) (j : Carousel) :
    (s.modFe f).grantedBy j = s.grantedBy j := rfl
@[simp] theorem State.modFe_lotOf (s : State) (f : FrameEngine → FrameEngine) (lb : Label) :
    (s.modFe f).lotOf lb = s.lotOf lb := rfl
@[simp] theorem State.modFe_place (s : State) (f : FrameEngine → FrameEngine) (n : Nat) :
    (s.modFe f).place n = s.place n := rfl

/-! ### modBook -/

@[simp] theorem State.modBook_resetLow (s : State) (f : OrderBook → OrderBook) :
    (s.modBook f).resetLow = s.resetLow := rfl
@[simp] theorem State.modBook_clock (s : State) (f : OrderBook → OrderBook) : (s.modBook f).clock = s.clock := rfl
@[simp] theorem State.modBook_strap (s : State) (f : OrderBook → OrderBook) : (s.modBook f).strap = s.strap := rfl
@[simp] theorem State.modBook_now (s : State) (f : OrderBook → OrderBook) : (s.modBook f).now = s.now := rfl
@[simp] theorem State.modBook_answer (s : State) (f : OrderBook → OrderBook) : (s.modBook f).answer = s.answer := rfl
@[simp] theorem State.modBook_out (s : State) (f : OrderBook → OrderBook) : (s.modBook f).out = s.out := rfl
@[simp] theorem State.modBook_fe (s : State) (f : OrderBook → OrderBook) : (s.modBook f).fe = s.fe := rfl
@[simp] theorem State.modBook_lots (s : State) (f : OrderBook → OrderBook) : (s.modBook f).lots = s.lots := rfl
@[simp] theorem State.modBook_stock (s : State) (f : OrderBook → OrderBook) : (s.modBook f).stock = s.stock := rfl
@[simp] theorem State.modBook_balance (s : State) (f : OrderBook → OrderBook) :
    (s.modBook f).balance = s.balance := rfl
@[simp] theorem State.modBook_book (s : State) (f : OrderBook → OrderBook) : (s.modBook f).book = f s.book := rfl
@[simp] theorem State.modBook_seqs (s : State) (f : OrderBook → OrderBook) : (s.modBook f).seqs = s.seqs := rfl
@[simp] theorem State.modBook_stations (s : State) (f : OrderBook → OrderBook) :
    (s.modBook f).stations = s.stations := rfl
@[simp] theorem State.modBook_transit (s : State) (f : OrderBook → OrderBook) :
    (s.modBook f).transit = s.transit := rfl
@[simp] theorem State.modBook_lanes (s : State) (f : OrderBook → OrderBook) : (s.modBook f).lanes = s.lanes := rfl
@[simp] theorem State.modBook_requests (s : State) (f : OrderBook → OrderBook) :
    (s.modBook f).requests = s.requests := rfl
@[simp] theorem State.modBook_sessions (s : State) (f : OrderBook → OrderBook) :
    (s.modBook f).sessions = s.sessions := rfl
@[simp] theorem State.modBook_mgmt (s : State) (f : OrderBook → OrderBook) : (s.modBook f).mgmt = s.mgmt := rfl
@[simp] theorem State.modBook_mail (s : State) (f : OrderBook → OrderBook) : (s.modBook f).mail = s.mail := rfl
@[simp] theorem State.modBook_pending (s : State) (f : OrderBook → OrderBook) :
    (s.modBook f).pending = s.pending := rfl
@[simp] theorem State.modBook_seq (s : State) (f : OrderBook → OrderBook) (j : Carousel) :
    (s.modBook f).seq j = s.seq j := rfl
@[simp] theorem State.modBook_stn (s : State) (f : OrderBook → OrderBook) (j : Station) :
    (s.modBook f).stn j = s.stn j := rfl
@[simp] theorem State.modBook_lane (s : State) (f : OrderBook → OrderBook) (j : Lane) :
    (s.modBook f).lane j = s.lane j := rfl
@[simp] theorem State.modBook_stockCar (s : State) (f : OrderBook → OrderBook) (j : Carousel) :
    (s.modBook f).stockCar j = s.stockCar j := rfl
@[simp] theorem State.modBook_bal (s : State) (f : OrderBook → OrderBook) (j : Carousel) :
    (s.modBook f).bal j = s.bal j := rfl
@[simp] theorem State.modBook_session (s : State) (f : OrderBook → OrderBook) (j : Carousel) :
    (s.modBook f).session j = s.session j := rfl
@[simp] theorem State.modBook_lot (s : State) (f : OrderBook → OrderBook) (n : Nat) :
    (s.modBook f).lot n = s.lot n := rfl
@[simp] theorem State.modBook_carrier (s : State) (f : OrderBook → OrderBook) (j : Carousel) (c : Nat) :
    (s.modBook f).carrier j c = s.carrier j c := rfl
@[simp] theorem State.modBook_carriersOf (s : State) (f : OrderBook → OrderBook) (j : Carousel) :
    (s.modBook f).carriersOf j = s.carriersOf j := rfl
@[simp] theorem State.modBook_own (s : State) (f : OrderBook → OrderBook) : (s.modBook f).own = s.own := rfl
@[simp] theorem State.modBook_stationOf (s : State) (f : OrderBook → OrderBook) (j : Carousel) :
    (s.modBook f).stationOf j = s.stationOf j := rfl
@[simp] theorem State.modBook_grantedBy (s : State) (f : OrderBook → OrderBook) (j : Carousel) :
    (s.modBook f).grantedBy j = s.grantedBy j := rfl
@[simp] theorem State.modBook_node (s : State) (f : OrderBook → OrderBook) (a : Nat) :
    (s.modBook f).node a = s.node a := rfl
@[simp] theorem State.modBook_nodeOf (s : State) (f : OrderBook → OrderBook) (r : Role) (u : Nat) :
    (s.modBook f).nodeOf r u = s.nodeOf r u := rfl
@[simp] theorem State.modBook_gateway (s : State) (f : OrderBook → OrderBook) :
    (s.modBook f).gateway = s.gateway := rfl
@[simp] theorem State.modBook_address (s : State) (f : OrderBook → OrderBook) (t : Target) :
    (s.modBook f).address t = s.address t := rfl
@[simp] theorem State.modBook_lotOf (s : State) (f : OrderBook → OrderBook) (lb : Label) :
    (s.modBook f).lotOf lb = s.lotOf lb := rfl
@[simp] theorem State.modBook_place (s : State) (f : OrderBook → OrderBook) (n : Nat) :
    (s.modBook f).place n = s.place n := rfl
@[simp] theorem State.modBook_disposal (s : State) (f : OrderBook → OrderBook) (h : Hdr) (kind : Nat) :
    (s.modBook f).disposal h kind = s.disposal h kind := rfl

/-! ### modTransit -/

@[simp] theorem State.modTransit_resetLow (s : State) (f : Transit → Transit) :
    (s.modTransit f).resetLow = s.resetLow := rfl
@[simp] theorem State.modTransit_clock (s : State) (f : Transit → Transit) : (s.modTransit f).clock = s.clock := rfl
@[simp] theorem State.modTransit_strap (s : State) (f : Transit → Transit) : (s.modTransit f).strap = s.strap := rfl
@[simp] theorem State.modTransit_now (s : State) (f : Transit → Transit) : (s.modTransit f).now = s.now := rfl
@[simp] theorem State.modTransit_answer (s : State) (f : Transit → Transit) :
    (s.modTransit f).answer = s.answer := rfl
@[simp] theorem State.modTransit_out (s : State) (f : Transit → Transit) : (s.modTransit f).out = s.out := rfl
@[simp] theorem State.modTransit_fe (s : State) (f : Transit → Transit) : (s.modTransit f).fe = s.fe := rfl
@[simp] theorem State.modTransit_lots (s : State) (f : Transit → Transit) : (s.modTransit f).lots = s.lots := rfl
@[simp] theorem State.modTransit_stock (s : State) (f : Transit → Transit) : (s.modTransit f).stock = s.stock := rfl
@[simp] theorem State.modTransit_balance (s : State) (f : Transit → Transit) :
    (s.modTransit f).balance = s.balance := rfl
@[simp] theorem State.modTransit_book (s : State) (f : Transit → Transit) : (s.modTransit f).book = s.book := rfl
@[simp] theorem State.modTransit_seqs (s : State) (f : Transit → Transit) : (s.modTransit f).seqs = s.seqs := rfl
@[simp] theorem State.modTransit_stations (s : State) (f : Transit → Transit) :
    (s.modTransit f).stations = s.stations := rfl
@[simp] theorem State.modTransit_transit (s : State) (f : Transit → Transit) :
    (s.modTransit f).transit = f s.transit := rfl
@[simp] theorem State.modTransit_lanes (s : State) (f : Transit → Transit) : (s.modTransit f).lanes = s.lanes := rfl
@[simp] theorem State.modTransit_requests (s : State) (f : Transit → Transit) :
    (s.modTransit f).requests = s.requests := rfl
@[simp] theorem State.modTransit_sessions (s : State) (f : Transit → Transit) :
    (s.modTransit f).sessions = s.sessions := rfl
@[simp] theorem State.modTransit_mgmt (s : State) (f : Transit → Transit) : (s.modTransit f).mgmt = s.mgmt := rfl
@[simp] theorem State.modTransit_mail (s : State) (f : Transit → Transit) : (s.modTransit f).mail = s.mail := rfl
@[simp] theorem State.modTransit_pending (s : State) (f : Transit → Transit) :
    (s.modTransit f).pending = s.pending := rfl
@[simp] theorem State.modTransit_seq (s : State) (f : Transit → Transit) (j : Carousel) :
    (s.modTransit f).seq j = s.seq j := rfl
@[simp] theorem State.modTransit_stn (s : State) (f : Transit → Transit) (j : Station) :
    (s.modTransit f).stn j = s.stn j := rfl
@[simp] theorem State.modTransit_lane (s : State) (f : Transit → Transit) (j : Lane) :
    (s.modTransit f).lane j = s.lane j := rfl
@[simp] theorem State.modTransit_stockCar (s : State) (f : Transit → Transit) (j : Carousel) :
    (s.modTransit f).stockCar j = s.stockCar j := rfl
@[simp] theorem State.modTransit_bal (s : State) (f : Transit → Transit) (j : Carousel) :
    (s.modTransit f).bal j = s.bal j := rfl
@[simp] theorem State.modTransit_session (s : State) (f : Transit → Transit) (j : Carousel) :
    (s.modTransit f).session j = s.session j := rfl
@[simp] theorem State.modTransit_lot (s : State) (f : Transit → Transit) (n : Nat) :
    (s.modTransit f).lot n = s.lot n := rfl
@[simp] theorem State.modTransit_order (s : State) (f : Transit → Transit) (n : Nat) :
    (s.modTransit f).order n = s.order n := rfl
@[simp] theorem State.modTransit_reservation (s : State) (f : Transit → Transit) (n : Nat) :
    (s.modTransit f).reservation n = s.reservation n := rfl
@[simp] theorem State.modTransit_resOf (s : State) (f : Transit → Transit) (r : ResId) :
    (s.modTransit f).resOf r = s.resOf r := rfl
@[simp] theorem State.modTransit_carrier (s : State) (f : Transit → Transit) (j : Carousel) (c : Nat) :
    (s.modTransit f).carrier j c = s.carrier j c := rfl
@[simp] theorem State.modTransit_carriersOf (s : State) (f : Transit → Transit) (j : Carousel) :
    (s.modTransit f).carriersOf j = s.carriersOf j := rfl
@[simp] theorem State.modTransit_own (s : State) (f : Transit → Transit) : (s.modTransit f).own = s.own := rfl
@[simp] theorem State.modTransit_stationOf (s : State) (f : Transit → Transit) (j : Carousel) :
    (s.modTransit f).stationOf j = s.stationOf j := rfl
@[simp] theorem State.modTransit_grantedBy (s : State) (f : Transit → Transit) (j : Carousel) :
    (s.modTransit f).grantedBy j = s.grantedBy j := rfl
@[simp] theorem State.modTransit_node (s : State) (f : Transit → Transit) (a : Nat) :
    (s.modTransit f).node a = s.node a := rfl
@[simp] theorem State.modTransit_nodeOf (s : State) (f : Transit → Transit) (r : Role) (u : Nat) :
    (s.modTransit f).nodeOf r u = s.nodeOf r u := rfl
@[simp] theorem State.modTransit_gateway (s : State) (f : Transit → Transit) :
    (s.modTransit f).gateway = s.gateway := rfl
@[simp] theorem State.modTransit_address (s : State) (f : Transit → Transit) (t : Target) :
    (s.modTransit f).address t = s.address t := rfl
@[simp] theorem State.modTransit_lotOf (s : State) (f : Transit → Transit) (lb : Label) :
    (s.modTransit f).lotOf lb = s.lotOf lb := rfl
@[simp] theorem State.modTransit_disposal (s : State) (f : Transit → Transit) (h : Hdr) (kind : Nat) :
    (s.modTransit f).disposal h kind = s.disposal h kind := rfl

/-! ### modMgmt -/

@[simp] theorem State.modMgmt_resetLow (s : State) (f : Management → Management) :
    (s.modMgmt f).resetLow = s.resetLow := rfl
@[simp] theorem State.modMgmt_clock (s : State) (f : Management → Management) : (s.modMgmt f).clock = s.clock := rfl
@[simp] theorem State.modMgmt_strap (s : State) (f : Management → Management) : (s.modMgmt f).strap = s.strap := rfl
@[simp] theorem State.modMgmt_now (s : State) (f : Management → Management) : (s.modMgmt f).now = s.now := rfl
@[simp] theorem State.modMgmt_answer (s : State) (f : Management → Management) :
    (s.modMgmt f).answer = s.answer := rfl
@[simp] theorem State.modMgmt_out (s : State) (f : Management → Management) : (s.modMgmt f).out = s.out := rfl
@[simp] theorem State.modMgmt_fe (s : State) (f : Management → Management) : (s.modMgmt f).fe = s.fe := rfl
@[simp] theorem State.modMgmt_lots (s : State) (f : Management → Management) : (s.modMgmt f).lots = s.lots := rfl
@[simp] theorem State.modMgmt_stock (s : State) (f : Management → Management) : (s.modMgmt f).stock = s.stock := rfl
@[simp] theorem State.modMgmt_balance (s : State) (f : Management → Management) :
    (s.modMgmt f).balance = s.balance := rfl
@[simp] theorem State.modMgmt_book (s : State) (f : Management → Management) : (s.modMgmt f).book = s.book := rfl
@[simp] theorem State.modMgmt_seqs (s : State) (f : Management → Management) : (s.modMgmt f).seqs = s.seqs := rfl
@[simp] theorem State.modMgmt_stations (s : State) (f : Management → Management) :
    (s.modMgmt f).stations = s.stations := rfl
@[simp] theorem State.modMgmt_transit (s : State) (f : Management → Management) :
    (s.modMgmt f).transit = s.transit := rfl
@[simp] theorem State.modMgmt_lanes (s : State) (f : Management → Management) : (s.modMgmt f).lanes = s.lanes := rfl
@[simp] theorem State.modMgmt_requests (s : State) (f : Management → Management) :
    (s.modMgmt f).requests = s.requests := rfl
@[simp] theorem State.modMgmt_sessions (s : State) (f : Management → Management) :
    (s.modMgmt f).sessions = s.sessions := rfl
@[simp] theorem State.modMgmt_mgmt (s : State) (f : Management → Management) : (s.modMgmt f).mgmt = f s.mgmt := rfl
@[simp] theorem State.modMgmt_mail (s : State) (f : Management → Management) : (s.modMgmt f).mail = s.mail := rfl
@[simp] theorem State.modMgmt_pending (s : State) (f : Management → Management) :
    (s.modMgmt f).pending = s.pending := rfl
@[simp] theorem State.modMgmt_seq (s : State) (f : Management → Management) (j : Carousel) :
    (s.modMgmt f).seq j = s.seq j := rfl
@[simp] theorem State.modMgmt_stn (s : State) (f : Management → Management) (j : Station) :
    (s.modMgmt f).stn j = s.stn j := rfl
@[simp] theorem State.modMgmt_lane (s : State) (f : Management → Management) (j : Lane) :
    (s.modMgmt f).lane j = s.lane j := rfl
@[simp] theorem State.modMgmt_stockCar (s : State) (f : Management → Management) (j : Carousel) :
    (s.modMgmt f).stockCar j = s.stockCar j := rfl
@[simp] theorem State.modMgmt_bal (s : State) (f : Management → Management) (j : Carousel) :
    (s.modMgmt f).bal j = s.bal j := rfl
@[simp] theorem State.modMgmt_session (s : State) (f : Management → Management) (j : Carousel) :
    (s.modMgmt f).session j = s.session j := rfl
@[simp] theorem State.modMgmt_lot (s : State) (f : Management → Management) (n : Nat) :
    (s.modMgmt f).lot n = s.lot n := rfl
@[simp] theorem State.modMgmt_order (s : State) (f : Management → Management) (n : Nat) :
    (s.modMgmt f).order n = s.order n := rfl
@[simp] theorem State.modMgmt_reservation (s : State) (f : Management → Management) (n : Nat) :
    (s.modMgmt f).reservation n = s.reservation n := rfl
@[simp] theorem State.modMgmt_resOf (s : State) (f : Management → Management) (r : ResId) :
    (s.modMgmt f).resOf r = s.resOf r := rfl
@[simp] theorem State.modMgmt_carrier (s : State) (f : Management → Management) (j : Carousel) (c : Nat) :
    (s.modMgmt f).carrier j c = s.carrier j c := rfl
@[simp] theorem State.modMgmt_carriersOf (s : State) (f : Management → Management) (j : Carousel) :
    (s.modMgmt f).carriersOf j = s.carriersOf j := rfl
@[simp] theorem State.modMgmt_own (s : State) (f : Management → Management) : (s.modMgmt f).own = s.own := rfl
@[simp] theorem State.modMgmt_stationOf (s : State) (f : Management → Management) (j : Carousel) :
    (s.modMgmt f).stationOf j = s.stationOf j := rfl
@[simp] theorem State.modMgmt_grantedBy (s : State) (f : Management → Management) (j : Carousel) :
    (s.modMgmt f).grantedBy j = s.grantedBy j := rfl
@[simp] theorem State.modMgmt_node (s : State) (f : Management → Management) (a : Nat) :
    (s.modMgmt f).node a = s.node a := rfl
@[simp] theorem State.modMgmt_nodeOf (s : State) (f : Management → Management) (r : Role) (u : Nat) :
    (s.modMgmt f).nodeOf r u = s.nodeOf r u := rfl
@[simp] theorem State.modMgmt_gateway (s : State) (f : Management → Management) :
    (s.modMgmt f).gateway = s.gateway := rfl
@[simp] theorem State.modMgmt_address (s : State) (f : Management → Management) (t : Target) :
    (s.modMgmt f).address t = s.address t := rfl
@[simp] theorem State.modMgmt_lotOf (s : State) (f : Management → Management) (lb : Label) :
    (s.modMgmt f).lotOf lb = s.lotOf lb := rfl
@[simp] theorem State.modMgmt_place (s : State) (f : Management → Management) (n : Nat) :
    (s.modMgmt f).place n = s.place n := rfl
@[simp] theorem State.modMgmt_disposal (s : State) (f : Management → Management) (h : Hdr) (kind : Nat) :
    (s.modMgmt f).disposal h kind = s.disposal h kind := rfl

/-! ### post -/

@[simp] theorem State.post_resetLow (s : State) (c : Instr) : (s.post c).resetLow = s.resetLow := rfl
@[simp] theorem State.post_clock (s : State) (c : Instr) : (s.post c).clock = s.clock := rfl
@[simp] theorem State.post_strap (s : State) (c : Instr) : (s.post c).strap = s.strap := rfl
@[simp] theorem State.post_now (s : State) (c : Instr) : (s.post c).now = s.now := rfl
@[simp] theorem State.post_answer (s : State) (c : Instr) : (s.post c).answer = s.answer := rfl
@[simp] theorem State.post_out (s : State) (c : Instr) : (s.post c).out = s.out := rfl
@[simp] theorem State.post_fe (s : State) (c : Instr) : (s.post c).fe = s.fe := rfl
@[simp] theorem State.post_lots (s : State) (c : Instr) : (s.post c).lots = s.lots := rfl
@[simp] theorem State.post_stock (s : State) (c : Instr) : (s.post c).stock = s.stock := rfl
@[simp] theorem State.post_balance (s : State) (c : Instr) : (s.post c).balance = s.balance := rfl
@[simp] theorem State.post_book (s : State) (c : Instr) : (s.post c).book = s.book := rfl
@[simp] theorem State.post_seqs (s : State) (c : Instr) : (s.post c).seqs = s.seqs := rfl
@[simp] theorem State.post_stations (s : State) (c : Instr) : (s.post c).stations = s.stations := rfl
@[simp] theorem State.post_transit (s : State) (c : Instr) : (s.post c).transit = s.transit := rfl
@[simp] theorem State.post_lanes (s : State) (c : Instr) : (s.post c).lanes = s.lanes := rfl
@[simp] theorem State.post_requests (s : State) (c : Instr) : (s.post c).requests = s.requests := rfl
@[simp] theorem State.post_sessions (s : State) (c : Instr) : (s.post c).sessions = s.sessions := rfl
@[simp] theorem State.post_mgmt (s : State) (c : Instr) : (s.post c).mgmt = s.mgmt := rfl
@[simp] theorem State.post_mail (s : State) (c : Instr) : (s.post c).mail = s.mail ++ [c] := rfl
@[simp] theorem State.post_pending (s : State) (c : Instr) : (s.post c).pending = s.pending := rfl
@[simp] theorem State.post_seq (s : State) (c : Instr) (j : Carousel) : (s.post c).seq j = s.seq j := rfl
@[simp] theorem State.post_stn (s : State) (c : Instr) (j : Station) : (s.post c).stn j = s.stn j := rfl
@[simp] theorem State.post_lane (s : State) (c : Instr) (j : Lane) : (s.post c).lane j = s.lane j := rfl
@[simp] theorem State.post_stockCar (s : State) (c : Instr) (j : Carousel) :
    (s.post c).stockCar j = s.stockCar j := rfl
@[simp] theorem State.post_bal (s : State) (c : Instr) (j : Carousel) : (s.post c).bal j = s.bal j := rfl
@[simp] theorem State.post_session (s : State) (c : Instr) (j : Carousel) : (s.post c).session j = s.session j := rfl
@[simp] theorem State.post_lot (s : State) (c : Instr) (n : Nat) : (s.post c).lot n = s.lot n := rfl
@[simp] theorem State.post_order (s : State) (c : Instr) (n : Nat) : (s.post c).order n = s.order n := rfl
@[simp] theorem State.post_reservation (s : State) (c : Instr) (n : Nat) :
    (s.post c).reservation n = s.reservation n := rfl
@[simp] theorem State.post_resOf (s : State) (c : Instr) (r : ResId) : (s.post c).resOf r = s.resOf r := rfl
@[simp] theorem State.post_carrier (s : State) (c : Instr) (j : Carousel) (c' : Nat) :
    (s.post c).carrier j c' = s.carrier j c' := rfl
@[simp] theorem State.post_carriersOf (s : State) (c : Instr) (j : Carousel) :
    (s.post c).carriersOf j = s.carriersOf j := rfl
@[simp] theorem State.post_own (s : State) (c : Instr) : (s.post c).own = s.own := rfl
@[simp] theorem State.post_stationOf (s : State) (c : Instr) (j : Carousel) :
    (s.post c).stationOf j = s.stationOf j := rfl
@[simp] theorem State.post_grantedBy (s : State) (c : Instr) (j : Carousel) :
    (s.post c).grantedBy j = s.grantedBy j := rfl
@[simp] theorem State.post_node (s : State) (c : Instr) (a : Nat) : (s.post c).node a = s.node a := rfl
@[simp] theorem State.post_nodeOf (s : State) (c : Instr) (r : Role) (u : Nat) :
    (s.post c).nodeOf r u = s.nodeOf r u := rfl
@[simp] theorem State.post_gateway (s : State) (c : Instr) : (s.post c).gateway = s.gateway := rfl
@[simp] theorem State.post_address (s : State) (c : Instr) (t : Target) : (s.post c).address t = s.address t := rfl
@[simp] theorem State.post_lotOf (s : State) (c : Instr) (lb : Label) : (s.post c).lotOf lb = s.lotOf lb := rfl
@[simp] theorem State.post_place (s : State) (c : Instr) (n : Nat) : (s.post c).place n = s.place n := rfl
@[simp] theorem State.post_disposal (s : State) (c : Instr) (h : Hdr) (kind : Nat) :
    (s.post c).disposal h kind = s.disposal h kind := rfl

/-! ### postAll -/

@[simp] theorem State.postAll_resetLow (s : State) (cs : List Instr) : (s.postAll cs).resetLow = s.resetLow := rfl
@[simp] theorem State.postAll_clock (s : State) (cs : List Instr) : (s.postAll cs).clock = s.clock := rfl
@[simp] theorem State.postAll_strap (s : State) (cs : List Instr) : (s.postAll cs).strap = s.strap := rfl
@[simp] theorem State.postAll_now (s : State) (cs : List Instr) : (s.postAll cs).now = s.now := rfl
@[simp] theorem State.postAll_answer (s : State) (cs : List Instr) : (s.postAll cs).answer = s.answer := rfl
@[simp] theorem State.postAll_out (s : State) (cs : List Instr) : (s.postAll cs).out = s.out := rfl
@[simp] theorem State.postAll_fe (s : State) (cs : List Instr) : (s.postAll cs).fe = s.fe := rfl
@[simp] theorem State.postAll_lots (s : State) (cs : List Instr) : (s.postAll cs).lots = s.lots := rfl
@[simp] theorem State.postAll_stock (s : State) (cs : List Instr) : (s.postAll cs).stock = s.stock := rfl
@[simp] theorem State.postAll_balance (s : State) (cs : List Instr) : (s.postAll cs).balance = s.balance := rfl
@[simp] theorem State.postAll_book (s : State) (cs : List Instr) : (s.postAll cs).book = s.book := rfl
@[simp] theorem State.postAll_seqs (s : State) (cs : List Instr) : (s.postAll cs).seqs = s.seqs := rfl
@[simp] theorem State.postAll_stations (s : State) (cs : List Instr) : (s.postAll cs).stations = s.stations := rfl
@[simp] theorem State.postAll_transit (s : State) (cs : List Instr) : (s.postAll cs).transit = s.transit := rfl
@[simp] theorem State.postAll_lanes (s : State) (cs : List Instr) : (s.postAll cs).lanes = s.lanes := rfl
@[simp] theorem State.postAll_requests (s : State) (cs : List Instr) : (s.postAll cs).requests = s.requests := rfl
@[simp] theorem State.postAll_sessions (s : State) (cs : List Instr) : (s.postAll cs).sessions = s.sessions := rfl
@[simp] theorem State.postAll_mgmt (s : State) (cs : List Instr) : (s.postAll cs).mgmt = s.mgmt := rfl
@[simp] theorem State.postAll_mail (s : State) (cs : List Instr) : (s.postAll cs).mail = s.mail ++ cs := rfl
@[simp] theorem State.postAll_pending (s : State) (cs : List Instr) : (s.postAll cs).pending = s.pending := rfl
@[simp] theorem State.postAll_seq (s : State) (cs : List Instr) (j : Carousel) : (s.postAll cs).seq j = s.seq j := rfl
@[simp] theorem State.postAll_stn (s : State) (cs : List Instr) (j : Station) : (s.postAll cs).stn j = s.stn j := rfl
@[simp] theorem State.postAll_lane (s : State) (cs : List Instr) (j : Lane) : (s.postAll cs).lane j = s.lane j := rfl
@[simp] theorem State.postAll_stockCar (s : State) (cs : List Instr) (j : Carousel) :
    (s.postAll cs).stockCar j = s.stockCar j := rfl
@[simp] theorem State.postAll_bal (s : State) (cs : List Instr) (j : Carousel) : (s.postAll cs).bal j = s.bal j := rfl
@[simp] theorem State.postAll_session (s : State) (cs : List Instr) (j : Carousel) :
    (s.postAll cs).session j = s.session j := rfl
@[simp] theorem State.postAll_lot (s : State) (cs : List Instr) (n : Nat) : (s.postAll cs).lot n = s.lot n := rfl
@[simp] theorem State.postAll_order (s : State) (cs : List Instr) (n : Nat) :
    (s.postAll cs).order n = s.order n := rfl
@[simp] theorem State.postAll_reservation (s : State) (cs : List Instr) (n : Nat) :
    (s.postAll cs).reservation n = s.reservation n := rfl
@[simp] theorem State.postAll_resOf (s : State) (cs : List Instr) (r : ResId) :
    (s.postAll cs).resOf r = s.resOf r := rfl
@[simp] theorem State.postAll_carrier (s : State) (cs : List Instr) (j : Carousel) (c : Nat) :
    (s.postAll cs).carrier j c = s.carrier j c := rfl
@[simp] theorem State.postAll_carriersOf (s : State) (cs : List Instr) (j : Carousel) :
    (s.postAll cs).carriersOf j = s.carriersOf j := rfl
@[simp] theorem State.postAll_own (s : State) (cs : List Instr) : (s.postAll cs).own = s.own := rfl
@[simp] theorem State.postAll_stationOf (s : State) (cs : List Instr) (j : Carousel) :
    (s.postAll cs).stationOf j = s.stationOf j := rfl
@[simp] theorem State.postAll_grantedBy (s : State) (cs : List Instr) (j : Carousel) :
    (s.postAll cs).grantedBy j = s.grantedBy j := rfl
@[simp] theorem State.postAll_node (s : State) (cs : List Instr) (a : Nat) : (s.postAll cs).node a = s.node a := rfl
@[simp] theorem State.postAll_nodeOf (s : State) (cs : List Instr) (r : Role) (u : Nat) :
    (s.postAll cs).nodeOf r u = s.nodeOf r u := rfl
@[simp] theorem State.postAll_gateway (s : State) (cs : List Instr) : (s.postAll cs).gateway = s.gateway := rfl
@[simp] theorem State.postAll_address (s : State) (cs : List Instr) (t : Target) :
    (s.postAll cs).address t = s.address t := rfl
@[simp] theorem State.postAll_lotOf (s : State) (cs : List Instr) (lb : Label) :
    (s.postAll cs).lotOf lb = s.lotOf lb := rfl
@[simp] theorem State.postAll_place (s : State) (cs : List Instr) (n : Nat) :
    (s.postAll cs).place n = s.place n := rfl
@[simp] theorem State.postAll_disposal (s : State) (cs : List Instr) (h : Hdr) (kind : Nat) :
    (s.postAll cs).disposal h kind = s.disposal h kind := rfl

/-! ### ans -/

@[simp] theorem State.ans_resetLow (s : State) (a : Answer) : (s.ans a).resetLow = s.resetLow := rfl
@[simp] theorem State.ans_clock (s : State) (a : Answer) : (s.ans a).clock = s.clock := rfl
@[simp] theorem State.ans_strap (s : State) (a : Answer) : (s.ans a).strap = s.strap := rfl
@[simp] theorem State.ans_now (s : State) (a : Answer) : (s.ans a).now = s.now := rfl
@[simp] theorem State.ans_answer (s : State) (a : Answer) : (s.ans a).answer = a := rfl
@[simp] theorem State.ans_out (s : State) (a : Answer) : (s.ans a).out = s.out := rfl
@[simp] theorem State.ans_fe (s : State) (a : Answer) : (s.ans a).fe = s.fe := rfl
@[simp] theorem State.ans_lots (s : State) (a : Answer) : (s.ans a).lots = s.lots := rfl
@[simp] theorem State.ans_stock (s : State) (a : Answer) : (s.ans a).stock = s.stock := rfl
@[simp] theorem State.ans_balance (s : State) (a : Answer) : (s.ans a).balance = s.balance := rfl
@[simp] theorem State.ans_book (s : State) (a : Answer) : (s.ans a).book = s.book := rfl
@[simp] theorem State.ans_seqs (s : State) (a : Answer) : (s.ans a).seqs = s.seqs := rfl
@[simp] theorem State.ans_stations (s : State) (a : Answer) : (s.ans a).stations = s.stations := rfl
@[simp] theorem State.ans_transit (s : State) (a : Answer) : (s.ans a).transit = s.transit := rfl
@[simp] theorem State.ans_lanes (s : State) (a : Answer) : (s.ans a).lanes = s.lanes := rfl
@[simp] theorem State.ans_requests (s : State) (a : Answer) : (s.ans a).requests = s.requests := rfl
@[simp] theorem State.ans_sessions (s : State) (a : Answer) : (s.ans a).sessions = s.sessions := rfl
@[simp] theorem State.ans_mgmt (s : State) (a : Answer) : (s.ans a).mgmt = s.mgmt := rfl
@[simp] theorem State.ans_mail (s : State) (a : Answer) : (s.ans a).mail = s.mail := rfl
@[simp] theorem State.ans_pending (s : State) (a : Answer) : (s.ans a).pending = s.pending := rfl
@[simp] theorem State.ans_seq (s : State) (a : Answer) (j : Carousel) : (s.ans a).seq j = s.seq j := rfl
@[simp] theorem State.ans_stn (s : State) (a : Answer) (j : Station) : (s.ans a).stn j = s.stn j := rfl
@[simp] theorem State.ans_lane (s : State) (a : Answer) (j : Lane) : (s.ans a).lane j = s.lane j := rfl
@[simp] theorem State.ans_stockCar (s : State) (a : Answer) (j : Carousel) :
    (s.ans a).stockCar j = s.stockCar j := rfl
@[simp] theorem State.ans_bal (s : State) (a : Answer) (j : Carousel) : (s.ans a).bal j = s.bal j := rfl
@[simp] theorem State.ans_session (s : State) (a : Answer) (j : Carousel) : (s.ans a).session j = s.session j := rfl
@[simp] theorem State.ans_lot (s : State) (a : Answer) (n : Nat) : (s.ans a).lot n = s.lot n := rfl
@[simp] theorem State.ans_order (s : State) (a : Answer) (n : Nat) : (s.ans a).order n = s.order n := rfl
@[simp] theorem State.ans_reservation (s : State) (a : Answer) (n : Nat) :
    (s.ans a).reservation n = s.reservation n := rfl
@[simp] theorem State.ans_resOf (s : State) (a : Answer) (r : ResId) : (s.ans a).resOf r = s.resOf r := rfl
@[simp] theorem State.ans_carrier (s : State) (a : Answer) (j : Carousel) (c : Nat) :
    (s.ans a).carrier j c = s.carrier j c := rfl
@[simp] theorem State.ans_carriersOf (s : State) (a : Answer) (j : Carousel) :
    (s.ans a).carriersOf j = s.carriersOf j := rfl
@[simp] theorem State.ans_own (s : State) (a : Answer) : (s.ans a).own = s.own := rfl
@[simp] theorem State.ans_stationOf (s : State) (a : Answer) (j : Carousel) :
    (s.ans a).stationOf j = s.stationOf j := rfl
@[simp] theorem State.ans_grantedBy (s : State) (a : Answer) (j : Carousel) :
    (s.ans a).grantedBy j = s.grantedBy j := rfl
@[simp] theorem State.ans_node (s : State) (a : Answer) (a' : Nat) : (s.ans a).node a' = s.node a' := rfl
@[simp] theorem State.ans_nodeOf (s : State) (a : Answer) (r : Role) (u : Nat) :
    (s.ans a).nodeOf r u = s.nodeOf r u := rfl
@[simp] theorem State.ans_gateway (s : State) (a : Answer) : (s.ans a).gateway = s.gateway := rfl
@[simp] theorem State.ans_address (s : State) (a : Answer) (t : Target) : (s.ans a).address t = s.address t := rfl
@[simp] theorem State.ans_lotOf (s : State) (a : Answer) (lb : Label) : (s.ans a).lotOf lb = s.lotOf lb := rfl
@[simp] theorem State.ans_place (s : State) (a : Answer) (n : Nat) : (s.ans a).place n = s.place n := rfl
@[simp] theorem State.ans_disposal (s : State) (a : Answer) (h : Hdr) (kind : Nat) :
    (s.ans a).disposal h kind = s.disposal h kind := rfl

/-! ### reach -/

@[simp] theorem State.reach_resetLow (s : State) (d : Nat) : (s.reach d).resetLow = s.resetLow := rfl
@[simp] theorem State.reach_clock (s : State) (d : Nat) : (s.reach d).clock = s.clock := rfl
@[simp] theorem State.reach_strap (s : State) (d : Nat) : (s.reach d).strap = s.strap := rfl
@[simp] theorem State.reach_now (s : State) (d : Nat) : (s.reach d).now = max s.now d := rfl
@[simp] theorem State.reach_answer (s : State) (d : Nat) : (s.reach d).answer = s.answer := rfl
@[simp] theorem State.reach_out (s : State) (d : Nat) : (s.reach d).out = s.out := rfl
@[simp] theorem State.reach_fe (s : State) (d : Nat) : (s.reach d).fe = s.fe := rfl
@[simp] theorem State.reach_lots (s : State) (d : Nat) : (s.reach d).lots = s.lots := rfl
@[simp] theorem State.reach_stock (s : State) (d : Nat) : (s.reach d).stock = s.stock := rfl
@[simp] theorem State.reach_balance (s : State) (d : Nat) : (s.reach d).balance = s.balance := rfl
@[simp] theorem State.reach_book (s : State) (d : Nat) : (s.reach d).book = s.book := rfl
@[simp] theorem State.reach_seqs (s : State) (d : Nat) : (s.reach d).seqs = s.seqs := rfl
@[simp] theorem State.reach_stations (s : State) (d : Nat) : (s.reach d).stations = s.stations := rfl
@[simp] theorem State.reach_transit (s : State) (d : Nat) : (s.reach d).transit = s.transit := rfl
@[simp] theorem State.reach_lanes (s : State) (d : Nat) : (s.reach d).lanes = s.lanes := rfl
@[simp] theorem State.reach_requests (s : State) (d : Nat) : (s.reach d).requests = s.requests := rfl
@[simp] theorem State.reach_sessions (s : State) (d : Nat) : (s.reach d).sessions = s.sessions := rfl
@[simp] theorem State.reach_mgmt (s : State) (d : Nat) : (s.reach d).mgmt = s.mgmt := rfl
@[simp] theorem State.reach_mail (s : State) (d : Nat) : (s.reach d).mail = s.mail := rfl
@[simp] theorem State.reach_pending (s : State) (d : Nat) : (s.reach d).pending = s.pending := rfl
@[simp] theorem State.reach_seq (s : State) (d : Nat) (j : Carousel) : (s.reach d).seq j = s.seq j := rfl
@[simp] theorem State.reach_stn (s : State) (d : Nat) (j : Station) : (s.reach d).stn j = s.stn j := rfl
@[simp] theorem State.reach_lane (s : State) (d : Nat) (j : Lane) : (s.reach d).lane j = s.lane j := rfl
@[simp] theorem State.reach_stockCar (s : State) (d : Nat) (j : Carousel) :
    (s.reach d).stockCar j = s.stockCar j := rfl
@[simp] theorem State.reach_bal (s : State) (d : Nat) (j : Carousel) : (s.reach d).bal j = s.bal j := rfl
@[simp] theorem State.reach_session (s : State) (d : Nat) (j : Carousel) : (s.reach d).session j = s.session j := rfl
@[simp] theorem State.reach_lot (s : State) (d : Nat) (n : Nat) : (s.reach d).lot n = s.lot n := rfl
@[simp] theorem State.reach_order (s : State) (d : Nat) (n : Nat) : (s.reach d).order n = s.order n := rfl
@[simp] theorem State.reach_reservation (s : State) (d : Nat) (n : Nat) :
    (s.reach d).reservation n = s.reservation n := rfl
@[simp] theorem State.reach_resOf (s : State) (d : Nat) (r : ResId) : (s.reach d).resOf r = s.resOf r := rfl
@[simp] theorem State.reach_carrier (s : State) (d : Nat) (j : Carousel) (c : Nat) :
    (s.reach d).carrier j c = s.carrier j c := rfl
@[simp] theorem State.reach_carriersOf (s : State) (d : Nat) (j : Carousel) :
    (s.reach d).carriersOf j = s.carriersOf j := rfl
@[simp] theorem State.reach_own (s : State) (d : Nat) : (s.reach d).own = s.own := rfl
@[simp] theorem State.reach_stationOf (s : State) (d : Nat) (j : Carousel) :
    (s.reach d).stationOf j = s.stationOf j := rfl
@[simp] theorem State.reach_grantedBy (s : State) (d : Nat) (j : Carousel) :
    (s.reach d).grantedBy j = s.grantedBy j := rfl
@[simp] theorem State.reach_node (s : State) (d : Nat) (a : Nat) : (s.reach d).node a = s.node a := rfl
@[simp] theorem State.reach_nodeOf (s : State) (d : Nat) (r : Role) (u : Nat) :
    (s.reach d).nodeOf r u = s.nodeOf r u := rfl
@[simp] theorem State.reach_gateway (s : State) (d : Nat) : (s.reach d).gateway = s.gateway := rfl
@[simp] theorem State.reach_address (s : State) (d : Nat) (t : Target) : (s.reach d).address t = s.address t := rfl
@[simp] theorem State.reach_lotOf (s : State) (d : Nat) (lb : Label) : (s.reach d).lotOf lb = s.lotOf lb := rfl
@[simp] theorem State.reach_place (s : State) (d : Nat) (n : Nat) : (s.reach d).place n = s.place n := rfl
@[simp] theorem State.reach_disposal (s : State) (d : Nat) (h : Hdr) (kind : Nat) :
    (s.reach d).disposal h kind = s.disposal h kind := rfl

/-! ### Reading back what was written -/

@[simp] theorem State.seq_setSeq (s : State) (k : Carousel) (q : Seq) : (s.setSeq k q).seq k = q := by
  simp [State.seq, State.setSeq]

theorem State.seq_setSeq_ne (s : State) {j k : Carousel} (q : Seq) (h : j ≠ k) : (s.setSeq k q).seq j = s.seq j := by
  have : k.val ≠ j.val := fun e => h (Fin.ext e.symm)
  simp [State.seq, State.setSeq, this]

@[simp] theorem State.seq_modSeq (s : State) (k : Carousel) (f : Seq → Seq) : (s.modSeq k f).seq k = f (s.seq k) :=
  s.seq_setSeq k _

theorem State.seq_modSeq_ne (s : State) {j k : Carousel} (f : Seq → Seq) (h : j ≠ k) : (s.modSeq k f).seq j = s.seq j :=
  s.seq_setSeq_ne _ h

@[simp] theorem State.stn_setStn (s : State) (i : Station) (x : Stn) : (s.setStn i x).stn i = x := by
  simp [State.stn, State.setStn]

theorem State.stn_setStn_ne (s : State) {i j : Station} (x : Stn) (h : j ≠ i) : (s.setStn i x).stn j = s.stn j := by
  have : i.val ≠ j.val := fun e => h (Fin.ext e.symm)
  simp [State.stn, State.setStn, this]

@[simp] theorem State.stn_modStn (s : State) (i : Station) (f : Stn → Stn) : (s.modStn i f).stn i = f (s.stn i) :=
  s.stn_setStn i _

theorem State.stn_modStn_ne (s : State) {i j : Station} (f : Stn → Stn) (h : j ≠ i) : (s.modStn i f).stn j = s.stn j :=
  s.stn_setStn_ne _ h

@[simp] theorem State.lane_setLane (s : State) (l : Lane) (x : LaneRec) : (s.setLane l x).lane l = x := by
  simp [State.lane, State.setLane]

theorem State.lane_setLane_ne (s : State) {l m : Lane} (x : LaneRec) (h : m ≠ l) : (s.setLane l x).lane m = s.lane m := by
  have : l.val ≠ m.val := fun e => h (Fin.ext e.symm)
  simp [State.lane, State.setLane, this]

@[simp] theorem State.lane_modLane (s : State) (l : Lane) (f : LaneRec → LaneRec) : (s.modLane l f).lane l = f (s.lane l) :=
  s.lane_setLane l _

theorem State.lane_modLane_ne (s : State) {l m : Lane} (f : LaneRec → LaneRec) (h : m ≠ l) :
    (s.modLane l f).lane m = s.lane m := s.lane_setLane_ne _ h

@[simp] theorem State.stockCar_setStock (s : State) (k : Carousel) (c : Option StockCar) : (s.setStock k c).stockCar k = c := by
  simp [State.stockCar, State.setStock]

theorem State.stockCar_setStock_ne (s : State) {j k : Carousel} (c : Option StockCar) (h : j ≠ k) :
    (s.setStock k c).stockCar j = s.stockCar j := by
  have : k.val ≠ j.val := fun e => h (Fin.ext e.symm)
  simp [State.stockCar, State.setStock, this]

@[simp] theorem State.bal_setBal (s : State) (k : Carousel) (b : Option Balance) : (s.setBal k b).bal k = b := by
  simp [State.bal, State.setBal]

theorem State.bal_setBal_ne (s : State) {j k : Carousel} (b : Option Balance) (h : j ≠ k) :
    (s.setBal k b).bal j = s.bal j := by
  have : k.val ≠ j.val := fun e => h (Fin.ext e.symm)
  simp [State.bal, State.setBal, this]

@[simp] theorem State.session_setSession (s : State) (k : Carousel) (x : Option Session) :
    (s.setSession k x).session k = x := by
  simp [State.session, State.setSession]

theorem State.session_setSession_ne (s : State) {j k : Carousel} (x : Option Session) (h : j ≠ k) :
    (s.setSession k x).session j = s.session j := by
  have : k.val ≠ j.val := fun e => h (Fin.ext e.symm)
  simp [State.session, State.setSession, this]

end Sys2Proof.Machine
end

