-- ==== Sys2Proof/Laws/Frames.lean ====
section
/-! SUPPORT. What the shared operations that carry a command out can do: `carry`, the reception of a frame, a management
request, and what follows the end of a grant. -/

namespace Sys2Proof.Machine

/-! ## What a command begins with -/

@[simp] theorem State.begun_resetLow (s : State) : (s.begun).resetLow = s.resetLow := rfl
@[simp] theorem State.begun_clock (s : State) : (s.begun).clock = s.clock := rfl
@[simp] theorem State.begun_strap (s : State) : (s.begun).strap = s.strap := rfl
@[simp] theorem State.begun_now (s : State) : (s.begun).now = s.now := rfl
@[simp] theorem State.begun_answer (s : State) : (s.begun).answer = Answer.none := rfl
@[simp] theorem State.begun_out (s : State) : (s.begun).out = [] := rfl
@[simp] theorem State.begun_fe (s : State) : (s.begun).fe = s.fe := rfl
@[simp] theorem State.begun_lots (s : State) : (s.begun).lots = s.lots := rfl
@[simp] theorem State.begun_stock (s : State) : (s.begun).stock = s.stock := rfl
@[simp] theorem State.begun_balance (s : State) : (s.begun).balance = s.balance := rfl
@[simp] theorem State.begun_book (s : State) : (s.begun).book = s.book := rfl
@[simp] theorem State.begun_seqs (s : State) : (s.begun).seqs = s.seqs := rfl
@[simp] theorem State.begun_stations (s : State) : (s.begun).stations = s.stations := rfl
@[simp] theorem State.begun_transit (s : State) : (s.begun).transit = s.transit := rfl
@[simp] theorem State.begun_lanes (s : State) : (s.begun).lanes = s.lanes := rfl
@[simp] theorem State.begun_requests (s : State) : (s.begun).requests = s.requests := rfl
@[simp] theorem State.begun_sessions (s : State) : (s.begun).sessions = s.sessions := rfl
@[simp] theorem State.begun_mgmt (s : State) : (s.begun).mgmt = s.mgmt := rfl
@[simp] theorem State.begun_mail (s : State) : (s.begun).mail = s.mail := rfl
@[simp] theorem State.begun_pending (s : State) : (s.begun).pending = s.pending := rfl
@[simp] theorem State.begun_seq (s : State) (j : Carousel) : (s.begun).seq j = s.seq j := rfl
@[simp] theorem State.begun_stn (s : State) (j : Station) : (s.begun).stn j = s.stn j := rfl
@[simp] theorem State.begun_lane (s : State) (j : Lane) : (s.begun).lane j = s.lane j := rfl
@[simp] theorem State.begun_stockCar (s : State) (j : Carousel) : (s.begun).stockCar j = s.stockCar j := rfl
@[simp] theorem State.begun_bal (s : State) (j : Carousel) : (s.begun).bal j = s.bal j := rfl
@[simp] theorem State.begun_session (s : State) (j : Carousel) : (s.begun).session j = s.session j := rfl
@[simp] theorem State.begun_lot (s : State) (n : Nat) : (s.begun).lot n = s.lot n := rfl
@[simp] theorem State.begun_order (s : State) (n : Nat) : (s.begun).order n = s.order n := rfl
@[simp] theorem State.begun_reservation (s : State) (n : Nat) : (s.begun).reservation n = s.reservation n := rfl
@[simp] theorem State.begun_resOf (s : State) (r : ResId) : (s.begun).resOf r = s.resOf r := rfl
@[simp] theorem State.begun_carrier (s : State) (j : Carousel) (c : Nat) :
    (s.begun).carrier j c = s.carrier j c := rfl
@[simp] theorem State.begun_carriersOf (s : State) (j : Carousel) : (s.begun).carriersOf j = s.carriersOf j := rfl
@[simp] theorem State.begun_own (s : State) : (s.begun).own = s.own := rfl
@[simp] theorem State.begun_stationOf (s : State) (j : Carousel) : (s.begun).stationOf j = s.stationOf j := rfl
@[simp] theorem State.begun_grantedBy (s : State) (j : Carousel) : (s.begun).grantedBy j = s.grantedBy j := rfl
@[simp] theorem State.begun_node (s : State) (a : Nat) : (s.begun).node a = s.node a := rfl
@[simp] theorem State.begun_nodeOf (s : State) (r : Role) (u : Nat) : (s.begun).nodeOf r u = s.nodeOf r u := rfl
@[simp] theorem State.begun_gateway (s : State) : (s.begun).gateway = s.gateway := rfl
@[simp] theorem State.begun_address (s : State) (t : Target) : (s.begun).address t = s.address t := rfl
@[simp] theorem State.begun_lotOf (s : State) (lb : Label) : (s.begun).lotOf lb = s.lotOf lb := rfl
@[simp] theorem State.begun_place (s : State) (n : Nat) : (s.begun).place n = s.place n := rfl
@[simp] theorem State.begun_disposal (s : State) (h : Hdr) (kind : Nat) :
    (s.begun).disposal h kind = s.disposal h kind := rfl
@[simp] theorem State.begun_labelOf (s : State) (n : Nat) : (s.begun).labelOf n = s.labelOf n := rfl
@[simp] theorem State.begun_lotWeek (s : State) (n : Nat) : (s.begun).lotWeek n = s.lotWeek n := rfl
@[simp] theorem State.heard_resetLow (s : State) : (s.heard).resetLow = s.resetLow := rfl
@[simp] theorem State.heard_clock (s : State) : (s.heard).clock = s.clock := rfl
@[simp] theorem State.heard_strap (s : State) : (s.heard).strap = s.strap := rfl
@[simp] theorem State.heard_now (s : State) : (s.heard).now = s.now := rfl
@[simp] theorem State.heard_answer (s : State) : (s.heard).answer = Answer.none := rfl
@[simp] theorem State.heard_out (s : State) : (s.heard).out = [] := rfl
@[simp] theorem State.heard_fe (s : State) : (s.heard).fe = { s.fe with silence := some (s.now + Config.silence) } := rfl
@[simp] theorem State.heard_lots (s : State) : (s.heard).lots = s.lots := rfl
@[simp] theorem State.heard_stock (s : State) : (s.heard).stock = s.stock := rfl
@[simp] theorem State.heard_balance (s : State) : (s.heard).balance = s.balance := rfl
@[simp] theorem State.heard_book (s : State) : (s.heard).book = s.book := rfl
@[simp] theorem State.heard_seqs (s : State) : (s.heard).seqs = s.seqs := rfl
@[simp] theorem State.heard_stations (s : State) : (s.heard).stations = s.stations := rfl
@[simp] theorem State.heard_transit (s : State) : (s.heard).transit = s.transit := rfl
@[simp] theorem State.heard_lanes (s : State) : (s.heard).lanes = s.lanes := rfl
@[simp] theorem State.heard_requests (s : State) : (s.heard).requests = s.requests := rfl
@[simp] theorem State.heard_sessions (s : State) : (s.heard).sessions = s.sessions := rfl
@[simp] theorem State.heard_mgmt (s : State) : (s.heard).mgmt = s.mgmt := rfl
@[simp] theorem State.heard_mail (s : State) : (s.heard).mail = s.mail := rfl
@[simp] theorem State.heard_pending (s : State) : (s.heard).pending = s.pending := rfl
@[simp] theorem State.heard_seq (s : State) (j : Carousel) : (s.heard).seq j = s.seq j := rfl
@[simp] theorem State.heard_stn (s : State) (j : Station) : (s.heard).stn j = s.stn j := rfl
@[simp] theorem State.heard_lane (s : State) (j : Lane) : (s.heard).lane j = s.lane j := rfl
@[simp] theorem State.heard_stockCar (s : State) (j : Carousel) : (s.heard).stockCar j = s.stockCar j := rfl
@[simp] theorem State.heard_bal (s : State) (j : Carousel) : (s.heard).bal j = s.bal j := rfl
@[simp] theorem State.heard_session (s : State) (j : Carousel) : (s.heard).session j = s.session j := rfl
@[simp] theorem State.heard_lot (s : State) (n : Nat) : (s.heard).lot n = s.lot n := rfl
@[simp] theorem State.heard_order (s : State) (n : Nat) : (s.heard).order n = s.order n := rfl
@[simp] theorem State.heard_reservation (s : State) (n : Nat) : (s.heard).reservation n = s.reservation n := rfl
@[simp] theorem State.heard_resOf (s : State) (r : ResId) : (s.heard).resOf r = s.resOf r := rfl
@[simp] theorem State.heard_carrier (s : State) (j : Carousel) (c : Nat) :
    (s.heard).carrier j c = s.carrier j c := rfl
@[simp] theorem State.heard_carriersOf (s : State) (j : Carousel) : (s.heard).carriersOf j = s.carriersOf j := rfl
@[simp] theorem State.heard_own (s : State) : (s.heard).own = s.own := rfl
@[simp] theorem State.heard_stationOf (s : State) (j : Carousel) : (s.heard).stationOf j = s.stationOf j := rfl
@[simp] theorem State.heard_grantedBy (s : State) (j : Carousel) : (s.heard).grantedBy j = s.grantedBy j := rfl
@[simp] theorem State.heard_node (s : State) (a : Nat) : (s.heard).node a = s.node a := rfl
@[simp] theorem State.heard_nodeOf (s : State) (r : Role) (u : Nat) : (s.heard).nodeOf r u = s.nodeOf r u := rfl
@[simp] theorem State.heard_gateway (s : State) : (s.heard).gateway = s.gateway := rfl
@[simp] theorem State.heard_address (s : State) (t : Target) : (s.heard).address t = s.address t := rfl
@[simp] theorem State.heard_lotOf (s : State) (lb : Label) : (s.heard).lotOf lb = s.lotOf lb := rfl
@[simp] theorem State.heard_place (s : State) (n : Nat) : (s.heard).place n = s.place n := rfl
@[simp] theorem State.heard_disposal (s : State) (h : Hdr) (kind : Nat) :
    (s.heard).disposal h kind = s.disposal h kind := rfl
@[simp] theorem State.heard_labelOf (s : State) (n : Nat) : (s.heard).labelOf n = s.labelOf n := rfl
@[simp] theorem State.heard_lotWeek (s : State) (n : Nat) : (s.heard).lotWeek n = s.lotWeek n := rfl
@[simp] theorem State.passing_resetLow (s : State) (g : Hdr) (q : Nat) : (s.passing g q).resetLow = s.resetLow := rfl
@[simp] theorem State.passing_clock (s : State) (g : Hdr) (q : Nat) : (s.passing g q).clock = s.clock := rfl
@[simp] theorem State.passing_strap (s : State) (g : Hdr) (q : Nat) : (s.passing g q).strap = s.strap := rfl
@[simp] theorem State.passing_now (s : State) (g : Hdr) (q : Nat) : (s.passing g q).now = s.now := rfl
@[simp] theorem State.passing_answer (s : State) (g : Hdr) (q : Nat) : (s.passing g q).answer = s.answer := rfl
@[simp] theorem State.passing_out (s : State) (g : Hdr) (q : Nat) :
    (s.passing g q).out = s.out ++ [OutFrame.passed g q] := rfl
@[simp] theorem State.passing_fe (s : State) (g : Hdr) (q : Nat) : (s.passing g q).fe = s.fe := rfl
@[simp] theorem State.passing_lots (s : State) (g : Hdr) (q : Nat) : (s.passing g q).lots = s.lots := rfl
@[simp] theorem State.passing_stock (s : State) (g : Hdr) (q : Nat) : (s.passing g q).stock = s.stock := rfl
@[simp] theorem State.passing_balance (s : State) (g : Hdr) (q : Nat) : (s.passing g q).balance = s.balance := rfl
@[simp] theorem State.passing_book (s : State) (g : Hdr) (q : Nat) : (s.passing g q).book = s.book := rfl
@[simp] theorem State.passing_seqs (s : State) (g : Hdr) (q : Nat) : (s.passing g q).seqs = s.seqs := rfl
@[simp] theorem State.passing_stations (s : State) (g : Hdr) (q : Nat) : (s.passing g q).stations = s.stations := rfl
@[simp] theorem State.passing_transit (s : State) (g : Hdr) (q : Nat) : (s.passing g q).transit = s.transit := rfl
@[simp] theorem State.passing_lanes (s : State) (g : Hdr) (q : Nat) : (s.passing g q).lanes = s.lanes := rfl
@[simp] theorem State.passing_requests (s : State) (g : Hdr) (q : Nat) : (s.passing g q).requests = s.requests := rfl
@[simp] theorem State.passing_sessions (s : State) (g : Hdr) (q : Nat) : (s.passing g q).sessions = s.sessions := rfl
@[simp] theorem State.passing_mgmt (s : State) (g : Hdr) (q : Nat) : (s.passing g q).mgmt = s.mgmt := rfl
@[simp] theorem State.passing_mail (s : State) (g : Hdr) (q : Nat) : (s.passing g q).mail = s.mail := rfl
@[simp] theorem State.passing_pending (s : State) (g : Hdr) (q : Nat) : (s.passing g q).pending = s.pending := rfl
@[simp] theorem State.passing_seq (s : State) (g : Hdr) (q : Nat) (j : Carousel) :
    (s.passing g q).seq j = s.seq j := rfl
@[simp] theorem State.passing_stn (s : State) (g : Hdr) (q : Nat) (j : Station) :
    (s.passing g q).stn j = s.stn j := rfl
@[simp] theorem State.passing_lane (s : State) (g : Hdr) (q : Nat) (j : Lane) :
    (s.passing g q).lane j = s.lane j := rfl
@[simp] theorem State.passing_stockCar (s : State) (g : Hdr) (q : Nat) (j : Carousel) :
    (s.passing g q).stockCar j = s.stockCar j := rfl
@[simp] theorem State.passing_bal (s : State) (g : Hdr) (q : Nat) (j : Carousel) :
    (s.passing g q).bal j = s.bal j := rfl
@[simp] theorem State.passing_session (s : State) (g : Hdr) (q : Nat) (j : Carousel) :
    (s.passing g q).session j = s.session j := rfl
@[simp] theorem State.passing_lot (s : State) (g : Hdr) (q : Nat) (n : Nat) : (s.passing g q).lot n = s.lot n := rfl
@[simp] theorem State.passing_order (s : State) (g : Hdr) (q : Nat) (n : Nat) :
    (s.passing g q).order n = s.order n := rfl
@[simp] theorem State.passing_reservation (s : State) (g : Hdr) (q : Nat) (n : Nat) :
    (s.passing g q).reservation n = s.reservation n := rfl
@[simp] theorem State.passing_resOf (s : State) (g : Hdr) (q : Nat) (r : ResId) :
    (s.passing g q).resOf r = s.resOf r := rfl
@[simp] theorem State.passing_carrier (s : State) (g : Hdr) (q : Nat) (j : Carousel) (c : Nat) :
    (s.passing g q).carrier j c = s.carrier j c := rfl
@[simp] theorem State.passing_carriersOf (s : State) (g : Hdr) (q : Nat) (j : Carousel) :
    (s.passing g q).carriersOf j = s.carriersOf j := rfl
@[simp] theorem State.passing_own (s : State) (g : Hdr) (q : Nat) : (s.passing g q).own = s.own := rfl
@[simp] theorem State.passing_stationOf (s : State) (g : Hdr) (q : Nat) (j : Carousel) :
    (s.passing g q).stationOf j = s.stationOf j := rfl
@[simp] theorem State.passing_grantedBy (s : State) (g : Hdr) (q : Nat) (j : Carousel) :
    (s.passing g q).grantedBy j = s.grantedBy j := rfl
@[simp] theorem State.passing_node (s : State) (g : Hdr) (q : Nat) (a : Nat) :
    (s.passing g q).node a = s.node a := rfl
@[simp] theorem State.passing_nodeOf (s : State) (g : Hdr) (q : Nat) (r : Role) (u : Nat) :
    (s.passing g q).nodeOf r u = s.nodeOf r u := rfl
@[simp] theorem State.passing_gateway (s : State) (g : Hdr) (q : Nat) : (s.passing g q).gateway = s.gateway := rfl
@[simp] theorem State.passing_address (s : State) (g : Hdr) (q : Nat) (t : Target) :
    (s.passing g q).address t = s.address t := rfl
@[simp] theorem State.passing_lotOf (s : State) (g : Hdr) (q : Nat) (lb : Label) :
    (s.passing g q).lotOf lb = s.lotOf lb := rfl
@[simp] theorem State.passing_place (s : State) (g : Hdr) (q : Nat) (n : Nat) :
    (s.passing g q).place n = s.place n := rfl
@[simp] theorem State.passing_disposal (s : State) (g : Hdr) (q : Nat) (h : Hdr) (kind : Nat) :
    (s.passing g q).disposal h kind = s.disposal h kind := rfl
@[simp] theorem State.passing_labelOf (s : State) (g : Hdr) (q : Nat) (n : Nat) :
    (s.passing g q).labelOf n = s.labelOf n := rfl
@[simp] theorem State.passing_lotWeek (s : State) (g : Hdr) (q : Nat) (n : Nat) :
    (s.passing g q).lotWeek n = s.lotWeek n := rfl
@[simp] theorem State.asked_resetLow (s : State) (g : Req) (q : Nat) : (s.asked g q).resetLow = s.resetLow := rfl
@[simp] theorem State.asked_clock (s : State) (g : Req) (q : Nat) : (s.asked g q).clock = s.clock := rfl
@[simp] theorem State.asked_strap (s : State) (g : Req) (q : Nat) : (s.asked g q).strap = s.strap := rfl
@[simp] theorem State.asked_now (s : State) (g : Req) (q : Nat) : (s.asked g q).now = s.now := rfl
@[simp] theorem State.asked_answer (s : State) (g : Req) (q : Nat) : (s.asked g q).answer = Answer.none := rfl
@[simp] theorem State.asked_out (s : State) (g : Req) (q : Nat) :
    (s.asked g q).out = [OutFrame.passed (takenHdr g.hdr) q] := rfl
@[simp] theorem State.asked_fe (s : State) (g : Req) (q : Nat) :
    (s.asked g q).fe = { s.fe with silence := some (s.now + Config.silence) } := rfl
@[simp] theorem State.asked_lots (s : State) (g : Req) (q : Nat) : (s.asked g q).lots = s.lots := rfl
@[simp] theorem State.asked_stock (s : State) (g : Req) (q : Nat) : (s.asked g q).stock = s.stock := rfl
@[simp] theorem State.asked_balance (s : State) (g : Req) (q : Nat) : (s.asked g q).balance = s.balance := rfl
@[simp] theorem State.asked_book (s : State) (g : Req) (q : Nat) : (s.asked g q).book = s.book := rfl
@[simp] theorem State.asked_seqs (s : State) (g : Req) (q : Nat) : (s.asked g q).seqs = s.seqs := rfl
@[simp] theorem State.asked_stations (s : State) (g : Req) (q : Nat) : (s.asked g q).stations = s.stations := rfl
@[simp] theorem State.asked_transit (s : State) (g : Req) (q : Nat) : (s.asked g q).transit = s.transit := rfl
@[simp] theorem State.asked_lanes (s : State) (g : Req) (q : Nat) : (s.asked g q).lanes = s.lanes := rfl
@[simp] theorem State.asked_requests (s : State) (g : Req) (q : Nat) : (s.asked g q).requests = s.requests := rfl
@[simp] theorem State.asked_sessions (s : State) (g : Req) (q : Nat) : (s.asked g q).sessions = s.sessions := rfl
@[simp] theorem State.asked_mgmt (s : State) (g : Req) (q : Nat) : (s.asked g q).mgmt = s.mgmt := rfl
@[simp] theorem State.asked_mail (s : State) (g : Req) (q : Nat) : (s.asked g q).mail = s.mail := rfl
@[simp] theorem State.asked_pending (s : State) (g : Req) (q : Nat) : (s.asked g q).pending = s.pending := rfl
@[simp] theorem State.asked_seq (s : State) (g : Req) (q : Nat) (j : Carousel) : (s.asked g q).seq j = s.seq j := rfl
@[simp] theorem State.asked_stn (s : State) (g : Req) (q : Nat) (j : Station) : (s.asked g q).stn j = s.stn j := rfl
@[simp] theorem State.asked_lane (s : State) (g : Req) (q : Nat) (j : Lane) : (s.asked g q).lane j = s.lane j := rfl
@[simp] theorem State.asked_stockCar (s : State) (g : Req) (q : Nat) (j : Carousel) :
    (s.asked g q).stockCar j = s.stockCar j := rfl
@[simp] theorem State.asked_bal (s : State) (g : Req) (q : Nat) (j : Carousel) : (s.asked g q).bal j = s.bal j := rfl
@[simp] theorem State.asked_session (s : State) (g : Req) (q : Nat) (j : Carousel) :
    (s.asked g q).session j = s.session j := rfl
@[simp] theorem State.asked_lot (s : State) (g : Req) (q : Nat) (n : Nat) : (s.asked g q).lot n = s.lot n := rfl
@[simp] theorem State.asked_order (s : State) (g : Req) (q : Nat) (n : Nat) : (s.asked g q).order n = s.order n := rfl
@[simp] theorem State.asked_reservation (s : State) (g : Req) (q : Nat) (n : Nat) :
    (s.asked g q).reservation n = s.reservation n := rfl
@[simp] theorem State.asked_resOf (s : State) (g : Req) (q : Nat) (r : ResId) :
    (s.asked g q).resOf r = s.resOf r := rfl
@[simp] theorem State.asked_carrier (s : State) (g : Req) (q : Nat) (j : Carousel) (c : Nat) :
    (s.asked g q).carrier j c = s.carrier j c := rfl
@[simp] theorem State.asked_carriersOf (s : State) (g : Req) (q : Nat) (j : Carousel) :
    (s.asked g q).carriersOf j = s.carriersOf j := rfl
@[simp] theorem State.asked_own (s : State) (g : Req) (q : Nat) : (s.asked g q).own = s.own := rfl
@[simp] theorem State.asked_stationOf (s : State) (g : Req) (q : Nat) (j : Carousel) :
    (s.asked g q).stationOf j = s.stationOf j := rfl
@[simp] theorem State.asked_grantedBy (s : State) (g : Req) (q : Nat) (j : Carousel) :
    (s.asked g q).grantedBy j = s.grantedBy j := rfl
@[simp] theorem State.asked_node (s : State) (g : Req) (q : Nat) (a : Nat) : (s.asked g q).node a = s.node a := rfl
@[simp] theorem State.asked_nodeOf (s : State) (g : Req) (q : Nat) (r : Role) (u : Nat) :
    (s.asked g q).nodeOf r u = s.nodeOf r u := rfl
@[simp] theorem State.asked_gateway (s : State) (g : Req) (q : Nat) : (s.asked g q).gateway = s.gateway := rfl
@[simp] theorem State.asked_address (s : State) (g : Req) (q : Nat) (t : Target) :
    (s.asked g q).address t = s.address t := rfl
@[simp] theorem State.asked_lotOf (s : State) (g : Req) (q : Nat) (lb : Label) :
    (s.asked g q).lotOf lb = s.lotOf lb := rfl
@[simp] theorem State.asked_place (s : State) (g : Req) (q : Nat) (n : Nat) : (s.asked g q).place n = s.place n := rfl
@[simp] theorem State.asked_disposal (s : State) (g : Req) (q : Nat) (h : Hdr) (kind : Nat) :
    (s.asked g q).disposal h kind = s.disposal h kind := rfl
@[simp] theorem State.asked_labelOf (s : State) (g : Req) (q : Nat) (n : Nat) :
    (s.asked g q).labelOf n = s.labelOf n := rfl
@[simp] theorem State.asked_lotWeek (s : State) (g : Req) (q : Nat) (n : Nat) :
    (s.asked g q).lotWeek n = s.lotWeek n := rfl

/-! ## Carrying a command out -/

/-- A command is not taken while RESETN is low. -/
theorem carry_low {s : State} (h : s.resetLow = true) (f : State → State) : carry s f = .next s := by simp [carry, h]

/-- A command that is taken has its effect on the state in which commands begin. -/
theorem carry_begun {s : State} (h : s.resetLow = false) (f : State → State) : carry s f = .next (f s.begun) := by
  simp [carry, h, State.begun]

/-- A good frame that the part acts on is disposed of by its row of R170. -/
theorem receive_taken {s : State} {h : Hdr} (hs : s.takes h) (kind : Nat) (act : Disposal → State → State) :
    receive h kind act s.begun = act (s.disposal h kind) s.heard := by
  obtain ⟨_, _, hd, hf⟩ := hs
  have hg : goodFrame s.begun = s.heard := if_neg hd
  simp only [receive, hg, hf, Bool.false_eq_true, if_false, State.heard_disposal]

/-- A frame passes on while the part has its clock and the ring is not DOWN. -/
theorem passFrame_on {s : State} (hc : s.clock = true) (hd : s.fe.ring ≠ .down) (h : Hdr) (kind : Nat) :
    passFrame h kind s = s.passing h kind := by
  simp [passFrame, hc, hd, State.passing]

/-- A frame that the part acts on would pass on. -/
theorem passFrame_heard {s : State} {h : Hdr} (hs : s.takes h) (g : Hdr) (kind : Nat) :
    passFrame g kind s.heard = s.heard.passing g kind :=
  passFrame_on (s := s.heard) hs.2.1 hs.2.2.1 g kind

/-- A frame to the part's own address is a request whatever its kind (R172). -/
theorem State.disposal_request {s : State} {h : Hdr} (hr : s.disposal h 0 = .request) (kind : Nat) :
    s.disposal h kind = .request := by
  unfold State.disposal at *
  by_cases h1 : h.source = s.own
  · simp [h1] at hr
  · by_cases h2 : h.dest = s.own
    · simpa [h1, h2] using hr
    · simp only [h1, h2, if_false] at hr
      split at hr
      · split at hr
        · cases hr
        · split at hr
          · cases hr
          · split at hr <;> cases hr
      · split at hr <;> cases hr

/-- A management request that is carried out: its body runs on the state in which the frame has been forwarded, and the
reply joins the list. -/
theorem request_asked {s : State} {q : Req} (hs : s.asks q) (kind : Nat) (body : State → State × Answered) :
    request q kind body s.begun =
      addReply q kind (body (s.asked q kind)).2 (body (s.asked q kind)).1 := by
  obtain ⟨ht, hd, hl⟩ := hs
  unfold request
  rw [receive_taken ht, State.disposal_request hd kind]
  dsimp only
  rw [passFrame_heard ht]
  have : ¬ Config.replies ≤ (s.heard.passing (takenHdr q.hdr) kind).mgmt.replies.length := Nat.not_le.2 hl
  simp only [answerRequest, this, if_false, State.asked]

/-- A reply of a result other than DONE carries nothing. -/
theorem addReply_plain (q : Req) (kind : Nat) (r : Result) (s : State) :
    addReply q kind { result := r, content := [] } s = s.replied q kind r [] := by
  simp [addReply, State.replied]

/-- A DONE reply carries its content. -/
theorem addReply_done (q : Req) (kind : Nat) (c : List Byte) (s : State) :
    addReply q kind { result := .done, content := c } s = s.replied q kind .done c := by
  simp [addReply, State.replied]

/-- A step that changes no station's grant has nothing to attend to. -/
theorem attendEnded_grants {s t : State} (h : ∀ i : Station, (t.stn i).grant = (s.stn i).grant) : attendEnded s t = t := by
  have key : ∀ l : List Station, l.foldl (fun u st =>
      if (s.stn st).grant ≠ .absent ∧ (u.stn st).grant = .absent then attend st u else u) t = t := by
    intro l
    induction l with
    | nil => rfl
    | cons i rest ih =>
      have : ¬ ((s.stn i).grant ≠ .absent ∧ (t.stn i).grant = .absent) := by rw [h i]; tauto
      simpa only [List.foldl_cons, this, if_false] using ih
  exact key stationList

/-- A step that leaves the stations as they were has nothing to attend to. -/
theorem attendEnded_stations {s t : State} (h : t.stations = s.stations) : attendEnded s t = t :=
  attendEnded_grants fun i => by simp [State.stn, h]

end Sys2Proof.Machine
end

