-- ==== Sys2Proof/Laws/Sequencer.lean ====
section
/-! SUPPORT. What the shared operations of the Frame Engine and the Carousel Sequencers can do. -/

namespace Sys2Proof.Machine

/-! ## Writing one record twice -/

@[simp] theorem State.setSeq_setSeq (s : State) (k : Carousel) (q r : Seq) : (s.setSeq k q).setSeq k r = s.setSeq k r := by
  simp [State.setSeq]

@[simp] theorem State.setSeq_seq (s : State) (k : Carousel) : s.setSeq k (s.seq k) = s := by simp [State.setSeq, State.seq]

@[simp] theorem State.setStn_setStn (s : State) (i : Station) (x y : Stn) : (s.setStn i x).setStn i y = s.setStn i y := by
  simp [State.setStn]

@[simp] theorem State.setStn_stn (s : State) (i : Station) : s.setStn i (s.stn i) = s := by simp [State.setStn, State.stn]

@[simp] theorem State.setLane_setLane (s : State) (l : Lane) (x y : LaneRec) : (s.setLane l x).setLane l y = s.setLane l y := by
  simp [State.setLane]

@[simp] theorem State.setLane_lane (s : State) (l : Lane) : s.setLane l (s.lane l) = s := by simp [State.setLane, State.lane]

/-! ## Notices and frames -/

/-- A notice changes the notice queue, the sequence count and the DROPPED flag alone. -/
theorem handNotice_effect (b : NoticeBody) (s : State) : ∃ n q d,
    handNotice b s = { s with mgmt := { s.mgmt with notices := n, noticeSeq := q, dropped := d } } := ⟨_, _, _, rfl⟩

/-- A notice handed while the queue has room waits at its end. -/
theorem handNotice_room (b : NoticeBody) {s : State} (h : s.mgmt.notices.length < 64) :
    handNotice b s = { s with mgmt := { s.mgmt with
      notices := s.mgmt.notices ++ [{ seq := s.mgmt.noticeSeq, body := b }],
      noticeSeq := (s.mgmt.noticeSeq + 1) % 65536 } } := by
  simp [handNotice, queueNotice, Config.notices, h, State.modMgmt]

/-- A frame offered to a queue with room is queued. -/
theorem offerFrame_room (f : TxFrame) {s : State} (h : s.fe.queue.length < 32) :
    offerFrame f s = (s.modFe fun e => { e with queue := joinQueue f e.queue }, .queued) := by
  simp [offerFrame, Config.transmitFrames, h]

/-- A frame for a known address is queued when the queue has room. -/
theorem sendOrKeep_room (b : Block) {t : Target} (p : Payload) {s : State} {d : Nat} (ha : s.address t = some d)
    (h : s.fe.queue.length < 32) :
    sendOrKeep b t p s = (s.modFe fun e => { e with queue := joinQueue (frameTo b d p) e.queue }, false) := by
  simp [sendOrKeep, ha, offerOrKeep, offerFrame_room _ h]

/-- A frame without a node is not queued. -/
theorem sendOrKeep_noNode (b : Block) {t : Target} (p : Payload) {s : State} (ha : s.address t = none) :
    sendOrKeep b t p s = (s, true) := by simp [sendOrKeep, ha]

/-- A NORMAL frame joins the queue at its end. -/
theorem joinQueue_normal {f : TxFrame} (h : f.urgent = false) (q : List TxFrame) : joinQueue f q = q ++ [f] := by
  simp [joinQueue, h]

/-- A frame from a MAINT node to a drive passes on and is handed to the drive's sequencer. -/
theorem maintFrame_taken {s : State} {h : Hdr} (ht : s.takes h) {kind : Nat} {k : Carousel}
    (hd : s.disposal h kind = .maint k) (act : Carousel → Nat → State → State) :
    maintFrame h kind act s.begun = act k h.source (s.heard.passing h kind) := by
  simp only [maintFrame, receive_taken ht, hd, passFrame_heard ht]

/-- A frame from a field node without a mirror is absorbed and handed to its owner while the ring is UP. -/
theorem fieldFrame_taken {s : State} {h : Hdr} (ht : s.takes h) {kind : Nat} {payload : List Byte} {role : Role} {unit : Nat}
    (hd : s.disposal h kind = .field role unit false) (owner : Role → Nat → State → State)
    (ho : (owner role unit s.heard).fe.ring = .up) :
    fieldFrame h kind payload owner s.begun = owner role unit s.heard := by
  simp only [fieldFrame, receive_taken ht, hd, Bool.false_eq_true, if_false]
  split
  · simp [restoreAnswered, ho]
  · rfl

/-! ## The sequencer's shared steps -/

/-- A withdrawal of a MOVE frame changes the transmit queue, its waiting list and the mail alone. -/
theorem withdrawMove_effect (k : Carousel) (s : State) : ∃ q w m,
    (withdrawMove k s).1 = { s with fe := { s.fe with queue := q, waiting := w }, mail := m } := by
  unfold withdrawMove withdrawFrame spaceFreed
  split
  · exact ⟨_, _, _, rfl⟩
  · exact ⟨s.fe.queue, s.fe.waiting, s.mail, rfl⟩

/-- Frames withdrawn from the transmit queue: they leave it, and every waiting block is told of the room; with none there the
state stands. -/
theorem withdrawWhere_effect (p : TxFrame → Bool) (s : State) : ∃ w m,
    withdrawWhere p s =
      { s with fe := { s.fe with queue := s.fe.queue.filter fun f => !p f, waiting := w }, mail := m } ∧
      s.mail <+: m := by
  unfold withdrawWhere
  split
  · exact ⟨[], _, rfl, ⟨_, rfl⟩⟩
  · rename_i h
    have hq : (s.fe.queue.filter fun f => !p f) = s.fe.queue :=
      List.filter_eq_self.mpr fun f hf => by simpa using fun hb => h (List.any_eq_true.mpr ⟨f, hf, hb⟩)
    exact ⟨s.fe.waiting, s.mail, by rw [hq], List.prefix_refl _⟩

/-- An audit reported abandoned changes the mail alone. -/
theorem abandonAudit_effect (k : Carousel) (s : State) : ∃ m, abandonAudit k s = { s with mail := m } := by
  unfold abandonAudit
  split
  · exact ⟨_, rfl⟩
  · exact ⟨s.mail, rfl⟩

/-- A carousel away from a grant leaves its state with no more than a report to its station. -/
theorem leaveOpening_away (k : Carousel) (n : CarState) {s : State} (h : (s.seq k).state.away = true) :
    ∃ m, leaveOpening k n s = State.modSeq { s with mail := m } k fun q => { q with state := n } := by
  unfold leaveOpening
  cases hs : (s.seq k).state <;> simp [hs, CarState.away] at h ⊢
  case ready =>
    cases s.stationOf k
    · exact ⟨s.mail, rfl⟩
    · exact ⟨_, rfl⟩
  all_goals exact ⟨s.mail, rfl⟩

/-- A carousel away from a grant enters FAULT, and nothing but the ring, its record, the notices and the mail changes. -/
theorem enterFault_away (k : Carousel) (c : FaultCause) {s : State} (h : (s.seq k).state.away = true) :
    s.faulted k c (enterFault k c s) ∧ s.onlyCarousels (enterFault k c s) := by
  have hf : faultable (s.seq k).state = true := by cases hs : (s.seq k).state <;> simp_all [CarState.away, faultable]
  unfold enterFault
  simp only [hf, if_true]
  obtain ⟨q, w, m, e1⟩ := withdrawMove_effect k s
  rw [e1]
  have h' : (State.seq { s with fe := { s.fe with queue := q, waiting := w }, mail := m } k).state.away = true := h
  obtain ⟨m2, e2⟩ := leaveOpening_away k .fault h'
  rw [e2]
  obtain ⟨m3, e3⟩ := abandonAudit_effect k (State.modSeq
    { s with fe := { s.fe with queue := q, waiting := w }, mail := m2 } k fun q => { q with state := .fault })
  rw [e3]
  refine ⟨⟨?_, ?_, ?_⟩, ?_⟩
  · simp [handNotice, State.seq, State.modSeq, State.setSeq]
  · intro j hj
    have : k.val ≠ j.val := fun e => hj (Fin.ext e.symm)
    simp [handNotice, State.seq, State.modSeq, State.setSeq, this]
  · intro hn
    simp [State.noticed, handNotice, queueNotice, Config.notices, hn, State.seq, State.modSeq, State.setSeq, State.modMgmt]
  · simp [State.onlyCarousels, handNotice, State.modSeq, State.setSeq, State.modMgmt]

/-- A fault of a carousel away from a grant leaves the stations as they were. -/
theorem enterFault_stations (k : Carousel) (c : FaultCause) {s : State} (h : (s.seq k).state.away = true) :
    (enterFault k c s).stations = s.stations := by
  rw [(enterFault_away k c h).2]

/-- A choice is made in IDLE alone (R75). -/
theorem choose_other {k : Carousel} {s : State} (h : (s.seq k).state ≠ .idle) : choose k s = s := by simp [choose, h]

/-! ## Queries (R68) -/

/-- A query that has been settled is gone, and no other one. -/
theorem Seq.mem_settleQuery {n : Nat} {q : Seq} {x : Query} : x ∈ (q.settleQuery n).queries ↔ x ∈ q.queries ∧ x.num ≠ n := by
  simp [Seq.settleQuery]

/-- No query is due first when none has returned. -/
theorem firstDue_none {qs : List Query} (h : firstDue qs = none) : ∀ y ∈ qs, y.deadline = none := by
  induction qs with
  | nil => simp
  | cons z rest ih =>
    unfold firstDue at h
    split at h
    · cases h
    · cases h
    · rename_i hz
      simpa [hz] using ih h

/-- The query that is due first is recorded, and no other one's round time ends before it. -/
theorem firstDue_some {qs : List Query} {d : Nat} {x : Query} (h : firstDue qs = some (d, x)) :
    x ∈ qs ∧ x.deadline = some d ∧ ∀ y ∈ qs, ∀ e, y.deadline = some e → d ≤ e := by
  induction qs generalizing d x with
  | nil => simp [firstDue] at h
  | cons z rest ih =>
    have later (hz : z.deadline = none) (h : firstDue rest = some (d, x)) : x ∈ z :: rest ∧ x.deadline = some d ∧
        ∀ y ∈ z :: rest, ∀ e, y.deadline = some e → d ≤ e := by
      obtain ⟨hm, hd, hl⟩ := ih h
      exact ⟨List.mem_cons_of_mem _ hm, hd, by simpa [hz] using hl⟩
    unfold firstDue at h
    split at h
    · rename_i a p hz hp
      obtain ⟨b, w⟩ := p
      obtain ⟨hm, hd, hl⟩ := ih hp
      split at h <;> cases h <;> refine ⟨by simp [*], by assumption, ?_⟩ <;> rintro y (_ | ⟨_, hy⟩) e he <;>
        simp_all <;> first | omega | (have := hl y hy e he; omega)
    · rename_i a hz hp
      cases h
      refine ⟨List.mem_cons_self, hz, ?_⟩
      rintro y (_ | ⟨_, hy⟩) e he
      · simp_all
      · have := firstDue_none hp y hy; simp_all
    · rename_i hz
      exact later hz h

/-- With no report about its picks waiting, a carousel takes none (R111). -/
theorem takeOrderReports_none {k : Carousel} {s : State} (h : ∀ i ∈ s.mail, orderReport k i = false) :
    takeOrderReports k s = s := by
  have h1 : s.mail.filter (orderReport k) = [] := List.filter_eq_nil_iff.mpr fun i hi => by simp [h i hi]
  have h2 : (s.mail.filter fun i => !orderReport k i) = s.mail := List.filter_eq_self.mpr fun i hi => by simp [h i hi]
  simp [takeOrderReports, h1, h2]

end Sys2Proof.Machine
end

