-- ==== Sys2Proof/Laws/Audit.lean ====
section
/-! SUPPORT. What offers and hand-backs of AUDIT tasks can do, and why a carrier keeps one task of a kind (law L11). -/

namespace Sys2Proof.Machine

/-- No task of a kind stands for a carrier exactly when no task of the queue has that kind and carrier (R72). -/
theorem Seq.taskFor_none_iff (q : Seq) (kind : TaskKind) (c : Nat) :
    q.taskFor kind c = none ↔ (kind, c) ∉ q.queue.map fun t => (t.kind, t.carrier) := by
  simp [Seq.taskFor, Task.is]

/-- A queue with a task placed in it holds that task and those that stood there (R71, R72). -/
theorem placeTask_holds (t : Task) (q : List Task) : (placeTask t q).Perm (t :: q) := by
  unfold placeTask insertAt
  calc (q.take (placeAt t q) ++ t :: q.drop (placeAt t q)).Perm (t :: (q.take (placeAt t q) ++ q.drop (placeAt t q))) :=
        List.perm_middle
    _ = t :: q := by rw [List.take_append_drop]

/-- A task placed for a carrier for which none of its kind stands leaves one task of a kind for each carrier (L11). -/
theorem placeTask_distinct {t : Task} {q : List Task} (h : (t.kind, t.carrier) ∉ q.map fun u => (u.kind, u.carrier))
    (hn : (q.map fun u => (u.kind, u.carrier)).Nodup) : ((placeTask t q).map fun u => (u.kind, u.carrier)).Nodup :=
  ((placeTask_holds t q).map _).nodup_iff.mpr (List.nodup_cons.mpr ⟨h, hn⟩)

/-- What an AUDIT offer can do (R72, log entry 84): for a closed carrier, for one whose AUDIT task stands and to a full queue it
changes nothing; otherwise the task is placed with the next arrival number, for a carrier that had none, and an IDLE carousel
chooses. -/
theorem auditOffered_cases (k : Carousel) (c : Nat) (blind : Bool) (cls : Class) (s : State) :
    (s.closedTo k c = true ∧ auditOffered k c blind cls s = (s, .excluded)) ∨
    (((s.seq k).taskFor .audit c).isSome = true ∧ auditOffered k c blind cls s = (s, .duplicate)) ∨
    ((s.seq k).hasPlace = false ∧ auditOffered k c blind cls s = (s, .full)) ∨
    (s.closedTo k c = false ∧ (s.seq k).taskFor .audit c = none ∧ (s.seq k).hasPlace = true ∧
      auditOffered k c blind cls s = (choose k (newTask k cls c (.audit blind) s), .taken)) := by
  unfold auditOffered
  cases s.closedTo k c <;> cases (s.seq k).taskFor .audit c <;> cases (s.seq k).hasPlace <;> simp

/-- An AUDIT task that joins a queue by an offer leaves one task of a kind for each carrier (L11). -/
theorem newAudit_distinct {k : Carousel} {c : Nat} {s : State} (blind : Bool) (cls : Class)
    (h : (s.seq k).taskFor .audit c = none) (hn : ((s.seq k).queue.map fun u => (u.kind, u.carrier)).Nodup) :
    (((newTask k cls c (.audit blind) s).seq k).queue.map fun u => (u.kind, u.carrier)).Nodup := by
  simpa [newTask] using placeTask_distinct (t := { num := (s.seq k).arrivals, cls := cls, carrier := c, body := .audit blind })
    ((Seq.taskFor_none_iff _ _ _).mp h) hn

/-- A hand-back for a carrier whose AUDIT task stands changes nothing (R164, log entry 84). -/
theorem takeHandBack_stands {k : Carousel} {c : Nat} {s : State} (h : ((s.seq k).taskFor .audit c).isSome = true) :
    takeHandBack k (some c) s = s := by simp [takeHandBack, h]

end Sys2Proof.Machine
end

