-- ==== Sys2Proof/Laws/Orders.lean ====
section
/-! SUPPORT. What the conditions of the Order Book's operations say, field by field. -/

namespace Sys2Proof.Machine

/-- The greatest of a list and a number is at most `n` when all of them are. -/
theorem foldl_max_le_iff (l : List Nat) (m n : Nat) : l.foldl max m ≤ n ↔ m ≤ n ∧ ∀ b ∈ l, b ≤ n := by
  induction l generalizing m with
  | nil => simp
  | cons a l ih => simp [ih, and_assoc]

/-- A window of `w` holds of a list of weeks when no two of them differ by more (R64). -/
theorem withinWindow_iff (w : Nat) (l : List Nat) : withinWindow w l = true ↔ ∀ a ∈ l, ∀ b ∈ l, a ≤ b + w := by
  simp only [withinWindow, greatestWeek, List.all_eq_true, decide_eq_true_eq, foldl_max_le_iff]
  exact ⟨fun h a ha b hb => (h b hb).2 a ha, fun h a ha => ⟨Nat.zero_le _, fun b hb => h b hb a ha⟩⟩

/-- The conditions of a substitution (R64), with room in the pool (log entry 14). -/
theorem State.maySubstitute_iff (s : State) (x : Reservation) (place lot : Nat) :
    s.maySubstitute x place lot = true ↔
      s.lotActive lot = true ∧ s.book.pool.length < 512 ∧
      (∃ z p, s.carrier x.car x.carrier = some z ∧ z.state = .normal ∧ z.excluded = false ∧
        placementOf lot z.placements = some p ∧ p.reserved < p.onHand) ∧
      ∃ l, s.line x.order x.line = some l ∧ ∀ w, l.window = some w →
        let weeks := s.lotWeek lot :: l.taken ++
          (s.book.pool.filter fun e => decide (e.2.order = x.order) && decide (e.2.line = x.line) &&
            !(decide (e.1 = place) && decide (e.2.count ≤ 1))).map fun e => s.lotWeek e.2.lot
        ∀ a ∈ weeks, ∀ b ∈ weeks, a ≤ b + w := by
  have hf : (s.lineRes x.order x.line).filter (fun e => !(e.1 == place && e.2.count ≤ 1)) =
      s.book.pool.filter fun e => decide (e.2.order = x.order) && decide (e.2.line = x.line) &&
        !(decide (e.1 = place) && decide (e.2.count ≤ 1)) := by
    simp only [State.lineRes, List.filter_filter]
    congr 1; funext e
    by_cases h1 : e.2.order = x.order <;> by_cases h2 : e.2.line = x.line <;> by_cases h3 : e.1 = place <;> simp [h1, h2, h3]
  have hr : (decide (s.book.pool.length < Config.poolPlaces) = true) ↔ s.book.pool.length < 512 :=
    ⟨of_decide_eq_true, fun h => decide_eq_true h⟩
  simp only [State.maySubstitute, hf, State.resWeek, Bool.and_eq_true, hr]
  rcases hc : s.carrier x.car x.carrier with _ | z
  · simp
  · rcases hp : placementOf lot z.placements with _ | p
    · simp [hp]
    · rcases hl : s.line x.order x.line with _ | l
      · simp
      · rcases hw : l.window with _ | w
        · simp [hp, hw, Carrier.takesNew]; tauto
        · simp only [hp, hw, withinWindow_iff, Carrier.takesNew, Option.some.injEq, forall_eq', exists_eq_left',
            Bool.and_eq_true, decide_eq_true_eq, Bool.not_eq_true', decide_eq_true_eq]
          constructor
          · rintro ⟨⟨⟨ha, ⟨hz, hx⟩, hq⟩, hr⟩, hs⟩
            exact ⟨ha, hs, ⟨z, p, rfl, hz, hx, hp, hq⟩, hr⟩
          · rintro ⟨ha, hs, ⟨_, _, rfl, hz, hx, hp', hq⟩, hr⟩
            obtain rfl := Option.some.inj (hp.symm.trans hp')
            exact ⟨⟨⟨ha, ⟨hz, hx⟩, hq⟩, hr⟩, hs⟩
end Sys2Proof.Machine
end

