-- ==== Sys2Proof/WellFormed.lean ====
section
/-! DEFINITION. Well-formed commands: every operand within the range that the spec gives what it names (Table 1-1, Tables
ST-1, OB-1, OB-4, CS-3, TL-1), and every operand of a management request within the bytes that carry it (Table FC-4): a
request's values outside their owning rule's range are well formed, and the rule refuses them. The meanings do not rest on
these checks. -/

namespace Sys2Proof

/-- A carrier number (0..63). -/
def carrierOk (n : Nat) : Bool := decide (n < 64)

/-- A lot number (0..1023). -/
def lotOk (n : Nat) : Bool := decide (n < 1024)

/-- A priority class (0..3). -/
def classOk (n : Nat) : Bool := decide (n < 4)

/-- An order handle (0..255). -/
def handleOk (n : Nat) : Bool := decide (n < 256)

/-- A line number (0..7). -/
def lineOk (n : Nat) : Bool := decide (n < 8)

/-- A compartment number (0..7). -/
def compOk (n : Nat) : Bool := decide (n < 8)

/-- A count of tyres of a task or reservation (0..16). -/
def countOk (n : Nat) : Bool := decide (n ≤ 16)

/-- A count of tyres of a placement (0..63). -/
def placementCountOk (n : Nat) : Bool := decide (n < 64)

/-- A week index (0..5299). -/
def weekIndexOk (n : Nat) : Bool := decide (n < 5300)

/-- A week code (year 0..99, week 1..53). -/
def weekOk (w : Week) : Bool := decide (w.year < 100 ∧ 1 ≤ w.week ∧ w.week ≤ 53)

/-- A value that one byte carries. -/
def byteOk (n : Nat) : Bool := decide (n < 256)

/-- A value that two bytes carry. -/
def wordOk (n : Nat) : Bool := decide (n < 65536)

/-- A value that three bytes carry. -/
def threeOk (n : Nat) : Bool := decide (n < 16777216)

/-- A value that one byte with an absent value carries. -/
def optByteOk (o : Option Nat) : Bool := o.all fun n => decide (n < 255)

/-- A place of the reservation pool (0..511). -/
def resOk (r : ResId) : Bool := decide (r.place < 512)

/-- A place of the in-transit list (0..63). -/
def placeOk (n : Nat) : Bool := decide (n < 64)

/-- A frame's destination and source (Table FC-1). -/
def hdrOk (h : Hdr) : Bool := decide (h.dest < 128 ∧ h.source < 64)

/-- A frame as bytes: fields of one byte each, and no more than 255 payload bytes. -/
def frameOk (f : WireFrame) : Bool := hdrOk f.hdr && byteOk f.kind && byteOk f.length && byteOk f.payload.length

/-- A request's header and tag. -/
def reqOk (q : Req) : Bool := hdrOk q.hdr && byteOk q.tag

/-- A set of lanes as the allowed-lanes byte carries it: rising lane numbers. -/
def lanesOk (o : Option (List Nat)) : Bool := o.all fun l => l.all (fun n => decide (n < 7)) && decide (l.Pairwise (· < ·))

/-- Every command's operands within their ranges. -/
def Instr.wf : Instr → Bool
  | .resetAssert | .powerOnReset _ | .clockLoss | .silenceTimerExpiry | .restoreRoundExpiry | .frameSend | .noticeSend
  | .replyOffer | .clockReturn => true
  | .ringStateReport _ _ | .spaceReport _ | .payloadReplace _ _ | .frameOffer _ _ _ => true
  | .damagedFrameReceived f | .forwardedFrame f => frameOk f
  | .nodeNotAnswered _ unit => decide (unit < 8)
  | .frameReturn h kind _ => hdrOk h && byteOk kind
  | .roundDeadlineExpiry i => decide (i < 32)
  | .frameWithdraw _ kind => byteOk kind
  | .foreignCommand h _ | .manualClaim h | .access h | .manualRelease h => hdrOk h
  | .maintDriveFrame h kind => hdrOk h && byteOk kind
  | .driveStatus h _ index target => hdrOk h && byteOk index && byteOk target
  | .manualIdleExpiry _ | .queryRoundExpiry _ | .moveReturn _ _ | .moveTimeout _ | .curtainBroken _ _ | .curtainClear _
  | .curtainSettleExpiry _ | .driveMissingReport _ | .speedClassReport _ _ | .grant _ | .grantWithdrawal _
  | .earlyConfirm _ | .stationBayReport _ _ | .stationStateReport _ _ | .auditPlaceReport _ | .auditConfirm _
  | .auditIdleExpiry _ | .auditAbandonReport _ | .statusQueryReturn _ _ | .haltReturn _ _ => true
  | .newReservation _ r carrier count order => resOk r && carrierOk carrier && countOk count && classOk order.cls
  | .putOffer _ carrier lot count cls _ => carrierOk carrier && lotOk lot && countOk count && classOk cls
  | .auditOffer _ carrier _ cls => carrierOk carrier && classOk cls
  | .auditRequeue _ carrier | .taskRemoveRequest _ carrier | .putTakenReport _ carrier | .auditAppliedReport _ carrier
  | .auditMark _ carrier | .auditClear _ carrier | .auditLock _ carrier | .auditUnlock _ carrier
  | .eligibilityReport _ carrier | .auditGranted _ carrier => carrierOk carrier
  | .auditTaskReclass _ carrier cls _ => carrierOk carrier && classOk cls
  | .pickNewCount _ r new => resOk r && countOk new.count
  | .pickStruck _ strike => resOk strike.res
  | .pickDrop _ r | .pickTakenReport _ r => resOk r
  | .taskClassReport _ handle cls => handleOk handle && classOk cls
  | .placeReport _ _ => true
  | .reserve _ carrier lot count | .release _ carrier lot count | .planIncoming _ carrier lot count
  | .returnIncoming _ carrier lot count | .roomQuery _ carrier lot count => carrierOk carrier && lotOk lot && countOk count
  | .commitPick _ carrier lot | .commitPut _ carrier lot => carrierOk carrier && lotOk lot
  | .auditApply _ carrier counted unknown unplaced =>
    carrierOk carrier && decide (counted.length ≤ 8) && counted.all (fun e => lotOk e.1 && byteOk e.2) && byteOk unknown &&
      byteOk unplaced
  | .exclude _ carriers | .admitCarriers _ carriers | .carrierRelease _ carriers | .admitNotice _ carriers =>
    carriers.all carrierOk
  | .massReport _ masses => masses.all fun e => carrierOk e.1 && wordOk e.2
  | .candidateTest _ carrier added => carrierOk carrier && wordOk added
  | .balanceQuery _ carrier mass count => carrierOk carrier && byteOk mass && countOk count
  | .travelPlan _ index target => carrierOk index && carrierOk target
  | .stockRiseReport _ => true
  | .compartmentReceipt handle _ _ comp => handleOk handle && compOk comp
  | .compartmentWithdrawal handle _ => handleOk handle
  | .deliveryReport handle line lot => handleOk handle && lineOk line && lotOk lot
  | .transitRemoval handle line week _ => handleOk handle && lineOk line && weekIndexOk week
  | .dispatchReport handle _ comp _ => handleOk handle && compOk comp
  | .reservationJoined r | .reservationPresented r | .reservationWithdrawn r | .substituteRelease r => resOk r
  | .commitReport r _ carrier lot week => resOk r && carrierOk carrier && lotOk lot && weekIndexOk week
  | .reservationExpiry place => decide (place < 512)
  | .holdHandover lot => lotOk lot
  | .auditTrim _ carrier lot target => carrierOk carrier && lotOk lot && placementCountOk target
  | .shortReport r count => resOk r && countOk count
  | .substitutionRequest r lot => resOk r && lotOk lot
  | .readyReport _ _ | .notReadyReport _ _ | .grantWithdrawalReport _ _ | .attentionTimeout _ | .taskViewReport _ _ _
  | .transitPlaceReport _ | .plannerRoomReport _ | .panelShowReturn _ _ | .bayCurtainChange _ _ _ | .signOn _ | .signOff _
  | .clearAccept _ | .clearReject _ | .recount _ | .short _ | .confirm _ | .batchEnd _ | .transitPlaceRequest _ => true
  | .grantAnswer _ _ view => view.all fun v => carrierOk v.carrier && classOk v.cls
  | .taskEndReport _ _ carrier _ _ => carrierOk carrier
  | .putTaskLeft _ _ carrier lot => carrierOk carrier && lotOk lot
  | .panelRecovery h _ | .cartContacts h _ | .laneControllerRecovery h _ => hdrOk h
  | .stationLabel h label | .laneArrival h label => hdrOk h && byteOk label.week.year && byteOk label.week.week
  | .placeGiveUp _ place | .transitTimeout place => placeOk place
  | .handOver _ place order line lot week =>
    placeOk place && handleOk order.handle && lineOk line && lotOk lot && weekIndexOk week
  | .divertReturn label _ _ _ => weekOk label.week
  | .tagRead h _ count => hdrOk h && byteOk count
  | .releaseButton _ | .laneSettleExpiry _ | .tagTimerExpiry _ | .latchReturn _ _ _ _ => true
  | .waitingReport order _ cls lanes => handleOk order.handle && classOk cls && lanesOk lanes
  | .orderClassReport handle cls => handleOk handle && classOk cls
  | .goneReport handle | .cancelReport handle _ | .completionReport handle => handleOk handle
  | .receiptAnswer _ comp handle _ _ => compOk comp && handleOk handle
  | .auditRequestRaised _ carrier _ cls _ => carrierOk carrier && classOk cls
  | .tally _ lot => lot.all lotOk
  | .auditHandBack _ carrier => carrier.all carrierOk
  | .noticeHanded _ => true
  | .noticeFate n _ _ => wordOk n.seq
  | .malformedRequest q kind => reqOk q && byteOk kind
  | .cellStatus q | .cellRun q | .cellHalt q | .cellRestart q => reqOk q
  | .nodeMapWrite q addr role unit _ => reqOk q && byteOk addr && byteOk role && byteOk unit
  | .groupWrite q g members => reqOk q && byteOk g && byteOk members.length && members.all byteOk
  | .carouselConfigWrite q c =>
    reqOk q && byteOk c.carousel && byteOk c.p && wordOk c.shelf && byteOk c.gap && wordOk c.rated && threeOk c.soft &&
      threeOk c.hard && byteOk c.start && byteOk c.normalPitch && byteOk c.slowPitch
  | .stationConfigWrite q c => reqOk q && byteOk c.station && c.bays.all optByteOk && byteOk c.putClass && byteOk c.mode
  | .laneConfigWrite q l _ limit => reqOk q && byteOk l && byteOk limit
  | .timerWrite q selector value => reqOk q && byteOk selector && wordOk value
  | .lotWrite q lot _ week width rim mass =>
    reqOk q && wordOk lot && byteOk week.year && byteOk week.week && wordOk width && byteOk rim && byteOk mass
  | .lotDelete q lot | .lotHold q lot | .lotRelease q lot => reqOk q && wordOk lot
  | .carrierWrite q k carrier _ _ list =>
    reqOk q && byteOk k && byteOk carrier && byteOk list.length && list.all fun e => wordOk e.1 && byteOk e.2
  | .recordRead q kind index => reqOk q && byteOk kind && wordOk index
  | .orderAdd q _ cls lanes lines =>
    reqOk q && byteOk cls && lanesOk lanes && byteOk lines.length && lines.all fun l => byteOk l.quantity && optByteOk l.window
  | .orderCancel q handle | .orderResume q handle => reqOk q && byteOk handle
  | .orderClass q handle cls => reqOk q && byteOk handle && byteOk cls
  | .carouselEnable q k | .carouselDisable q k => reqOk q && byteOk k
  | .windowSet q k bounds => reqOk q && byteOk k && bounds.all fun b => byteOk b.1 && byteOk b.2 && !(b.1 == 255 && b.2 == 255)
  | .auditRequest q k carrier _ cls => reqOk q && byteOk k && byteOk carrier && byteOk cls
  | .auditCancel q k carrier => reqOk q && byteOk k && byteOk carrier
  | .scanClear q st action => reqOk q && byteOk st && byteOk action
  | .lanePermit q l | .laneClose q l | .laneOpen q l => reqOk q && byteOk l
  | .laneAssign q l _ count => reqOk q && byteOk l && byteOk count

end Sys2Proof
end

