-- ==== Sys2Proof/Laws/PerInstr.lean ====
section
/-! SUPPORT. Laws stated command by command. The family InRange: a well-formed command names ring addresses and carriers that
exist. -/

namespace Sys2Proof.Laws.InRange

/-- The header of the frame that brings a command, where one does. -/
def header : Instr → Option Hdr
  | .damagedFrameReceived f => some f.hdr
  | .forwardedFrame f => some f.hdr
  | .frameReturn h _ _ => some h
  | .foreignCommand h _ => some h
  | .manualClaim h => some h
  | .access h => some h
  | .maintDriveFrame h _ => some h
  | .manualRelease h => some h
  | .driveStatus h _ _ _ => some h
  | .panelRecovery h _ => some h
  | .stationLabel h _ => some h
  | .laneArrival h _ => some h
  | .tagRead h _ _ => some h
  | .cartContacts h _ => some h
  | .laneControllerRecovery h _ => some h
  | .malformedRequest q _ => some q.hdr
  | .cellStatus q => some q.hdr
  | .cellRun q => some q.hdr
  | .cellHalt q => some q.hdr
  | .cellRestart q => some q.hdr
  | .nodeMapWrite q _ _ _ _ => some q.hdr
  | .groupWrite q _ _ => some q.hdr
  | .carouselConfigWrite q _ => some q.hdr
  | .stationConfigWrite q _ => some q.hdr
  | .laneConfigWrite q _ _ _ => some q.hdr
  | .timerWrite q _ _ => some q.hdr
  | .lotWrite q _ _ _ _ _ _ => some q.hdr
  | .lotDelete q _ => some q.hdr
  | .lotHold q _ => some q.hdr
  | .lotRelease q _ => some q.hdr
  | .carrierWrite q _ _ _ _ _ => some q.hdr
  | .recordRead q _ _ => some q.hdr
  | .orderAdd q _ _ _ _ => some q.hdr
  | .orderCancel q _ => some q.hdr
  | .orderClass q _ _ => some q.hdr
  | .orderResume q _ => some q.hdr
  | .carouselEnable q _ => some q.hdr
  | .carouselDisable q _ => some q.hdr
  | .windowSet q _ _ => some q.hdr
  | .auditRequest q _ _ _ _ => some q.hdr
  | .auditCancel q _ _ => some q.hdr
  | .scanClear q _ _ => some q.hdr
  | .lanePermit q _ => some q.hdr
  | .laneAssign q _ _ _ => some q.hdr
  | .laneClose q _ => some q.hdr
  | .laneOpen q _ => some q.hdr
  | .resetAssert | .powerOnReset _ | .clockLoss | .silenceTimerExpiry | .ringStateReport _ _ | .restoreRoundExpiry
  | .nodeNotAnswered _ _ | .roundDeadlineExpiry _ | .frameOffer _ _ _ | .frameWithdraw _ _ | .payloadReplace _ _
  | .frameSend | .spaceReport _ | .manualIdleExpiry _ | .queryRoundExpiry _ | .moveReturn _ _ | .moveTimeout _
  | .curtainBroken _ _ | .curtainClear _ | .curtainSettleExpiry _ | .driveMissingReport _ | .speedClassReport _ _
  | .newReservation _ _ _ _ _ | .putOffer _ _ _ _ _ _ | .auditOffer _ _ _ _ | .auditRequeue _ _
  | .auditTaskReclass _ _ _ _ | .taskRemoveRequest _ _ | .pickNewCount _ _ _ | .pickDrop _ _ | .pickStruck _ _
  | .taskClassReport _ _ _ | .pickTakenReport _ _ | .putTakenReport _ _ | .grant _ | .grantWithdrawal _
  | .earlyConfirm _ | .auditAppliedReport _ _ | .stationBayReport _ _ | .stationStateReport _ _ | .placeReport _ _
  | .auditPlaceReport _ | .reserve _ _ _ _ | .release _ _ _ _ | .commitPick _ _ _ | .commitPut _ _ _
  | .planIncoming _ _ _ _ | .returnIncoming _ _ _ _ | .roomQuery _ _ _ _ | .auditMark _ _ | .auditClear _ _
  | .auditLock _ _ | .auditUnlock _ _ | .auditApply _ _ _ _ _ | .exclude _ _ | .admitCarriers _ _ | .massReport _ _
  | .candidateTest _ _ _ | .balanceQuery _ _ _ _ | .travelPlan _ _ _ | .stockRiseReport _ | .eligibilityReport _ _
  | .compartmentReceipt _ _ _ _ | .compartmentWithdrawal _ _ | .deliveryReport _ _ _ | .transitRemoval _ _ _ _
  | .dispatchReport _ _ _ _ | .reservationJoined _ | .reservationPresented _ | .reservationWithdrawn _
  | .commitReport _ _ _ _ _ | .reservationExpiry _ | .holdHandover _ | .carrierRelease _ _ | .auditTrim _ _ _ _
  | .shortReport _ _ | .substitutionRequest _ _ | .substituteRelease _ | .readyReport _ _ | .notReadyReport _ _
  | .grantAnswer _ _ _ | .taskEndReport _ _ _ _ _ | .grantWithdrawalReport _ _ | .attentionTimeout _
  | .taskViewReport _ _ _ | .transitPlaceReport _ | .plannerRoomReport _ | .putTaskLeft _ _ _ _
  | .panelShowReturn _ _ | .bayCurtainChange _ _ _ | .signOn _ | .signOff _ | .clearAccept _ | .clearReject _
  | .recount _ | .short _ | .confirm _ | .batchEnd _ | .transitPlaceRequest _ | .placeGiveUp _ _
  | .handOver _ _ _ _ _ _ | .divertReturn _ _ _ _ | .transitTimeout _ | .releaseButton _ | .laneSettleExpiry _
  | .tagTimerExpiry _ | .latchReturn _ _ _ _ | .waitingReport _ _ _ _ | .orderClassReport _ _ | .goneReport _
  | .cancelReport _ _ | .completionReport _ | .receiptAnswer _ _ _ _ _ | .auditRequestRaised _ _ _ _ _
  | .auditGranted _ _ | .tally _ _ | .auditConfirm _ | .auditIdleExpiry _ | .auditAbandonReport _
  | .auditHandBack _ _ | .admitNotice _ _ | .noticeHanded _ | .noticeSend | .noticeFate _ _ _ | .replyOffer
  | .clockReturn | .statusQueryReturn _ _ | .haltReturn _ _ => none

/-- The carriers that a command between the part's blocks names; a request's carrier byte may be out of range, and its rule then
refuses it. -/
def carriers : Instr → List Nat
  | .newReservation _ _ carrier _ _ => [carrier]
  | .putOffer _ carrier _ _ _ _ => [carrier]
  | .auditOffer _ carrier _ _ => [carrier]
  | .auditRequeue _ carrier => [carrier]
  | .auditTaskReclass _ carrier _ _ => [carrier]
  | .taskRemoveRequest _ carrier => [carrier]
  | .putTakenReport _ carrier => [carrier]
  | .auditAppliedReport _ carrier => [carrier]
  | .reserve _ carrier _ _ => [carrier]
  | .release _ carrier _ _ => [carrier]
  | .commitPick _ carrier _ => [carrier]
  | .commitPut _ carrier _ => [carrier]
  | .planIncoming _ carrier _ _ => [carrier]
  | .returnIncoming _ carrier _ _ => [carrier]
  | .roomQuery _ carrier _ _ => [carrier]
  | .auditMark _ carrier => [carrier]
  | .auditClear _ carrier => [carrier]
  | .auditLock _ carrier => [carrier]
  | .auditUnlock _ carrier => [carrier]
  | .auditApply _ carrier _ _ _ => [carrier]
  | .exclude _ carriers => carriers
  | .admitCarriers _ carriers => carriers
  | .massReport _ masses => masses.map (·.1)
  | .candidateTest _ carrier _ => [carrier]
  | .balanceQuery _ carrier _ _ => [carrier]
  | .travelPlan _ index target => [index, target]
  | .eligibilityReport _ carrier => [carrier]
  | .commitReport _ _ carrier _ _ => [carrier]
  | .carrierRelease _ carriers => carriers
  | .auditTrim _ carrier _ _ => [carrier]
  | .grantAnswer _ _ view => view.toList.map (·.carrier)
  | .taskEndReport _ _ carrier _ _ => [carrier]
  | .putTaskLeft _ _ carrier _ => [carrier]
  | .auditRequestRaised _ carrier _ _ _ => [carrier]
  | .auditGranted _ carrier => [carrier]
  | .auditHandBack _ carrier => carrier.toList
  | .admitNotice _ carriers => carriers
  | .resetAssert | .powerOnReset _ | .clockLoss | .silenceTimerExpiry | .ringStateReport _ _
  | .damagedFrameReceived _ | .forwardedFrame _ | .restoreRoundExpiry | .nodeNotAnswered _ _ | .frameReturn _ _ _
  | .roundDeadlineExpiry _ | .frameOffer _ _ _ | .frameWithdraw _ _ | .payloadReplace _ _ | .frameSend
  | .spaceReport _ | .foreignCommand _ _ | .manualClaim _ | .access _ | .maintDriveFrame _ _ | .manualRelease _
  | .manualIdleExpiry _ | .driveStatus _ _ _ _ | .queryRoundExpiry _ | .moveReturn _ _ | .moveTimeout _
  | .curtainBroken _ _ | .curtainClear _ | .curtainSettleExpiry _ | .driveMissingReport _ | .speedClassReport _ _
  | .pickNewCount _ _ _ | .pickDrop _ _ | .pickStruck _ _ | .taskClassReport _ _ _ | .pickTakenReport _ _ | .grant _
  | .grantWithdrawal _ | .earlyConfirm _ | .stationBayReport _ _ | .stationStateReport _ _ | .placeReport _ _
  | .auditPlaceReport _ | .stockRiseReport _ | .compartmentReceipt _ _ _ _ | .compartmentWithdrawal _ _
  | .deliveryReport _ _ _ | .transitRemoval _ _ _ _ | .dispatchReport _ _ _ _ | .reservationJoined _
  | .reservationPresented _ | .reservationWithdrawn _ | .reservationExpiry _ | .holdHandover _ | .shortReport _ _
  | .substitutionRequest _ _ | .substituteRelease _ | .readyReport _ _ | .notReadyReport _ _
  | .grantWithdrawalReport _ _ | .attentionTimeout _ | .taskViewReport _ _ _ | .transitPlaceReport _
  | .plannerRoomReport _ | .panelShowReturn _ _ | .panelRecovery _ _ | .bayCurtainChange _ _ _ | .signOn _
  | .signOff _ | .clearAccept _ | .clearReject _ | .recount _ | .short _ | .confirm _ | .batchEnd _
  | .stationLabel _ _ | .transitPlaceRequest _ | .placeGiveUp _ _ | .handOver _ _ _ _ _ _ | .divertReturn _ _ _ _
  | .transitTimeout _ | .laneArrival _ _ | .tagRead _ _ _ | .cartContacts _ _ | .releaseButton _
  | .laneControllerRecovery _ _ | .laneSettleExpiry _ | .tagTimerExpiry _ | .latchReturn _ _ _ _
  | .waitingReport _ _ _ _ | .orderClassReport _ _ | .goneReport _ | .cancelReport _ _ | .completionReport _
  | .receiptAnswer _ _ _ _ _ | .tally _ _ | .auditConfirm _ | .auditIdleExpiry _ | .auditAbandonReport _
  | .noticeHanded _ | .noticeSend | .noticeFate _ _ _ | .replyOffer | .malformedRequest _ _ | .cellStatus _
  | .cellRun _ | .cellHalt _ | .cellRestart _ | .nodeMapWrite _ _ _ _ _ | .groupWrite _ _ _
  | .carouselConfigWrite _ _ | .stationConfigWrite _ _ | .laneConfigWrite _ _ _ _ | .timerWrite _ _ _
  | .lotWrite _ _ _ _ _ _ _ | .lotDelete _ _ | .lotHold _ _ | .lotRelease _ _ | .carrierWrite _ _ _ _ _ _
  | .recordRead _ _ _ | .orderAdd _ _ _ _ _ | .orderCancel _ _ | .orderClass _ _ _ | .orderResume _ _
  | .carouselEnable _ _ | .carouselDisable _ _ | .windowSet _ _ _ | .auditRequest _ _ _ _ _ | .auditCancel _ _ _
  | .scanClear _ _ _ | .lanePermit _ _ | .laneAssign _ _ _ _ | .laneClose _ _ | .laneOpen _ _ | .clockReturn
  | .statusQueryReturn _ _ | .haltReturn _ _ => []

/-- A well-formed command comes from a node 0 to 63, goes to an address of Table FC-1, and names carriers 0 to 63 only. -/
def Statement (i : Instr) : Prop :=
  i.wf = true → (∀ h, header i = some h → h.dest < 128 ∧ h.source < 64) ∧ ∀ c ∈ carriers i, c < 64

theorem resetAssert : Statement (.resetAssert) := by
  exact fun _ => ⟨nofun, nofun⟩

theorem powerOnReset (straps : BitVec 6) : Statement (.powerOnReset straps) := by
  exact fun _ => ⟨nofun, nofun⟩

theorem clockLoss : Statement (.clockLoss) := by
  exact fun _ => ⟨nofun, nofun⟩

theorem silenceTimerExpiry : Statement (.silenceTimerExpiry) := by
  exact fun _ => ⟨nofun, nofun⟩

theorem ringStateReport (b : Block) (r : Ring) : Statement (.ringStateReport b r) := by
  exact fun _ => ⟨nofun, nofun⟩

theorem damagedFrameReceived (f : WireFrame) : Statement (.damagedFrameReceived f) := by
  intro h; delta Instr.wf header carriers at *; simp_all [hdrOk, frameOk]

theorem forwardedFrame (f : WireFrame) : Statement (.forwardedFrame f) := by
  intro h; delta Instr.wf header carriers at *; simp_all [hdrOk, frameOk]

theorem restoreRoundExpiry : Statement (.restoreRoundExpiry) := by
  exact fun _ => ⟨nofun, nofun⟩

theorem nodeNotAnswered (role : Role) (unit : Nat) : Statement (.nodeNotAnswered role unit) := by
  exact fun _ => ⟨nofun, nofun⟩

theorem frameReturn (h : Hdr) (kind : Nat) (intact : Bool) : Statement (.frameReturn h kind intact) := by
  intro h; delta Instr.wf header carriers at *; simp_all [hdrOk]

theorem roundDeadlineExpiry (i : Nat) : Statement (.roundDeadlineExpiry i) := by
  exact fun _ => ⟨nofun, nofun⟩

theorem frameOffer (b : Block) (t : Target) (p : Payload) : Statement (.frameOffer b t p) := by
  exact fun _ => ⟨nofun, nofun⟩

theorem frameWithdraw (b : Block) (kind : Nat) : Statement (.frameWithdraw b kind) := by
  exact fun _ => ⟨nofun, nofun⟩

theorem payloadReplace (b : Block) (p : Payload) : Statement (.payloadReplace b p) := by
  exact fun _ => ⟨nofun, nofun⟩

theorem frameSend : Statement (.frameSend) := by
  exact fun _ => ⟨nofun, nofun⟩

theorem spaceReport (b : Block) : Statement (.spaceReport b) := by
  exact fun _ => ⟨nofun, nofun⟩

theorem foreignCommand (h : Hdr) (jog : Bool) : Statement (.foreignCommand h jog) := by
  intro h; delta Instr.wf header carriers at *; simp_all [hdrOk]

theorem manualClaim (h : Hdr) : Statement (.manualClaim h) := by
  intro h; delta Instr.wf header carriers at *; simp_all [hdrOk]

theorem access (h : Hdr) : Statement (.access h) := by
  intro h; delta Instr.wf header carriers at *; simp_all [hdrOk]

theorem maintDriveFrame (h : Hdr) (kind : Nat) : Statement (.maintDriveFrame h kind) := by
  intro h; delta Instr.wf header carriers at *; simp_all [hdrOk]

theorem manualRelease (h : Hdr) : Statement (.manualRelease h) := by
  intro h; delta Instr.wf header carriers at *; simp_all [hdrOk]

theorem manualIdleExpiry (k : Carousel) : Statement (.manualIdleExpiry k) := by
  exact fun _ => ⟨nofun, nofun⟩

theorem driveStatus (h : Hdr) (m : Motion) (index : Nat) (target : Nat) : Statement (.driveStatus h m index target) := by
  intro h; delta Instr.wf header carriers at *; simp_all [hdrOk]

theorem queryRoundExpiry (k : Carousel) : Statement (.queryRoundExpiry k) := by
  exact fun _ => ⟨nofun, nofun⟩

theorem moveReturn (k : Carousel) (fate : Fate) : Statement (.moveReturn k fate) := by
  exact fun _ => ⟨nofun, nofun⟩

theorem moveTimeout (k : Carousel) : Statement (.moveTimeout k) := by
  exact fun _ => ⟨nofun, nofun⟩

theorem curtainBroken (k : Carousel) (unseen : Bool) : Statement (.curtainBroken k unseen) := by
  exact fun _ => ⟨nofun, nofun⟩

theorem curtainClear (k : Carousel) : Statement (.curtainClear k) := by
  exact fun _ => ⟨nofun, nofun⟩

theorem curtainSettleExpiry (k : Carousel) : Statement (.curtainSettleExpiry k) := by
  exact fun _ => ⟨nofun, nofun⟩

theorem driveMissingReport (k : Carousel) : Statement (.driveMissingReport k) := by
  exact fun _ => ⟨nofun, nofun⟩

theorem speedClassReport (k : Carousel) (speed : Speed) : Statement (.speedClassReport k speed) := by
  exact fun _ => ⟨nofun, nofun⟩

theorem newReservation (k : Carousel) (r : ResId) (carrier : Nat) (count : Nat) (order : PickOrder) :
    Statement (.newReservation k r carrier count order) := by
  intro h; delta Instr.wf header carriers at *; simp_all [carrierOk]

theorem putOffer (k : Carousel) (carrier : Nat) (lot : Nat) (count : Nat) (cls : Class) (st : Station) :
    Statement (.putOffer k carrier lot count cls st) := by
  intro h; delta Instr.wf header carriers at *; simp_all [carrierOk]

theorem auditOffer (k : Carousel) (carrier : Nat) (blind : Bool) (cls : Class) : Statement (.auditOffer k carrier blind cls) := by
  intro h; delta Instr.wf header carriers at *; simp_all [carrierOk]

theorem auditRequeue (k : Carousel) (carrier : Nat) : Statement (.auditRequeue k carrier) := by
  intro h; delta Instr.wf header carriers at *; simp_all [carrierOk]

theorem auditTaskReclass (k : Carousel) (carrier : Nat) (cls : Class) (blind : Bool) : Statement (.auditTaskReclass k carrier cls blind) := by
  intro h; delta Instr.wf header carriers at *; simp_all [carrierOk]

theorem taskRemoveRequest (k : Carousel) (carrier : Nat) : Statement (.taskRemoveRequest k carrier) := by
  intro h; delta Instr.wf header carriers at *; simp_all [carrierOk]

theorem pickNewCount (k : Carousel) (r : ResId) (new : NewCount) : Statement (.pickNewCount k r new) := by
  exact fun _ => ⟨nofun, nofun⟩

theorem pickDrop (k : Carousel) (r : ResId) : Statement (.pickDrop k r) := by
  exact fun _ => ⟨nofun, nofun⟩

theorem pickStruck (k : Carousel) (strike : Strike) : Statement (.pickStruck k strike) := by
  exact fun _ => ⟨nofun, nofun⟩

theorem taskClassReport (k : Carousel) (handle : Nat) (cls : Class) : Statement (.taskClassReport k handle cls) := by
  exact fun _ => ⟨nofun, nofun⟩

theorem pickTakenReport (k : Carousel) (r : ResId) : Statement (.pickTakenReport k r) := by
  exact fun _ => ⟨nofun, nofun⟩

theorem putTakenReport (k : Carousel) (carrier : Nat) : Statement (.putTakenReport k carrier) := by
  intro h; delta Instr.wf header carriers at *; simp_all [carrierOk]

theorem grant (k : Carousel) : Statement (.grant k) := by
  exact fun _ => ⟨nofun, nofun⟩

theorem grantWithdrawal (k : Carousel) : Statement (.grantWithdrawal k) := by
  exact fun _ => ⟨nofun, nofun⟩

theorem earlyConfirm (k : Carousel) : Statement (.earlyConfirm k) := by
  exact fun _ => ⟨nofun, nofun⟩

theorem auditAppliedReport (k : Carousel) (carrier : Nat) : Statement (.auditAppliedReport k carrier) := by
  intro h; delta Instr.wf header carriers at *; simp_all [carrierOk]

theorem stationBayReport (k : Carousel) (place : Option (Station × Bay)) : Statement (.stationBayReport k place) := by
  exact fun _ => ⟨nofun, nofun⟩

theorem stationStateReport (k : Carousel) (opened : Bool) : Statement (.stationStateReport k opened) := by
  exact fun _ => ⟨nofun, nofun⟩

theorem placeReport (st : Station) (k : Carousel) : Statement (.placeReport st k) := by
  exact fun _ => ⟨nofun, nofun⟩

theorem auditPlaceReport (k : Carousel) : Statement (.auditPlaceReport k) := by
  exact fun _ => ⟨nofun, nofun⟩

theorem reserve (k : Carousel) (carrier : Nat) (lot : Nat) (count : Nat) : Statement (.reserve k carrier lot count) := by
  intro h; delta Instr.wf header carriers at *; simp_all [carrierOk]

theorem release (k : Carousel) (carrier : Nat) (lot : Nat) (count : Nat) : Statement (.release k carrier lot count) := by
  intro h; delta Instr.wf header carriers at *; simp_all [carrierOk]

theorem commitPick (k : Carousel) (carrier : Nat) (lot : Nat) : Statement (.commitPick k carrier lot) := by
  intro h; delta Instr.wf header carriers at *; simp_all [carrierOk]

theorem commitPut (k : Carousel) (carrier : Nat) (lot : Nat) : Statement (.commitPut k carrier lot) := by
  intro h; delta Instr.wf header carriers at *; simp_all [carrierOk]

theorem planIncoming (k : Carousel) (carrier : Nat) (lot : Nat) (count : Nat) : Statement (.planIncoming k carrier lot count) := by
  intro h; delta Instr.wf header carriers at *; simp_all [carrierOk]

theorem returnIncoming (k : Carousel) (carrier : Nat) (lot : Nat) (count : Nat) : Statement (.returnIncoming k carrier lot count) := by
  intro h; delta Instr.wf header carriers at *; simp_all [carrierOk]

theorem roomQuery (k : Carousel) (carrier : Nat) (lot : Nat) (count : Nat) : Statement (.roomQuery k carrier lot count) := by
  intro h; delta Instr.wf header carriers at *; simp_all [carrierOk]

theorem auditMark (k : Carousel) (carrier : Nat) : Statement (.auditMark k carrier) := by
  intro h; delta Instr.wf header carriers at *; simp_all [carrierOk]

theorem auditClear (k : Carousel) (carrier : Nat) : Statement (.auditClear k carrier) := by
  intro h; delta Instr.wf header carriers at *; simp_all [carrierOk]

theorem auditLock (k : Carousel) (carrier : Nat) : Statement (.auditLock k carrier) := by
  intro h; delta Instr.wf header carriers at *; simp_all [carrierOk]

theorem auditUnlock (k : Carousel) (carrier : Nat) : Statement (.auditUnlock k carrier) := by
  intro h; delta Instr.wf header carriers at *; simp_all [carrierOk]

theorem auditApply (k : Carousel) (carrier : Nat) (tally : List (Nat × Nat)) (unknown : Nat) (unplaced : Nat) :
    Statement (.auditApply k carrier tally unknown unplaced) := by
  intro h; delta Instr.wf header carriers at *; simp_all [carrierOk]

theorem exclude (k : Carousel) (carriers : List Nat) : Statement (.exclude k carriers) := by
  intro h; delta Instr.wf header carriers at *; simp_all [carrierOk]

theorem admitCarriers (k : Carousel) (carriers : List Nat) : Statement (.admitCarriers k carriers) := by
  intro h; delta Instr.wf header carriers at *; simp_all [carrierOk]

theorem massReport (k : Carousel) (masses : List (Nat × Nat)) : Statement (.massReport k masses) := by
  intro h; delta Instr.wf header carriers at *; simp_all [carrierOk]
  exact fun c x hc => (h c x hc).1

theorem candidateTest (k : Carousel) (carrier : Nat) (added : Nat) : Statement (.candidateTest k carrier added) := by
  intro h; delta Instr.wf header carriers at *; simp_all [carrierOk]

theorem balanceQuery (k : Carousel) (carrier : Nat) (mass : Nat) (count : Nat) : Statement (.balanceQuery k carrier mass count) := by
  intro h; delta Instr.wf header carriers at *; simp_all [carrierOk]

theorem travelPlan (k : Carousel) (index : Nat) (target : Nat) : Statement (.travelPlan k index target) := by
  intro h; delta Instr.wf header carriers at *; simp_all [carrierOk]

theorem stockRiseReport (article : Article) : Statement (.stockRiseReport article) := by
  exact fun _ => ⟨nofun, nofun⟩

theorem eligibilityReport (k : Carousel) (carrier : Nat) : Statement (.eligibilityReport k carrier) := by
  intro h; delta Instr.wf header carriers at *; simp_all [carrierOk]

theorem compartmentReceipt (handle : Nat) (seq : Nat) (l : Lane) (comp : Nat) : Statement (.compartmentReceipt handle seq l comp) := by
  exact fun _ => ⟨nofun, nofun⟩

theorem compartmentWithdrawal (handle : Nat) (reason : Withdrawal) : Statement (.compartmentWithdrawal handle reason) := by
  exact fun _ => ⟨nofun, nofun⟩

theorem deliveryReport (handle : Nat) (line : Nat) (lot : Nat) : Statement (.deliveryReport handle line lot) := by
  exact fun _ => ⟨nofun, nofun⟩

theorem transitRemoval (handle : Nat) (line : Nat) (week : Nat) (reason : RemovalReason) : Statement (.transitRemoval handle line week reason) := by
  exact fun _ => ⟨nofun, nofun⟩

theorem dispatchReport (handle : Nat) (l : Lane) (comp : Nat) (cart : CartId) : Statement (.dispatchReport handle l comp cart) := by
  exact fun _ => ⟨nofun, nofun⟩

theorem reservationJoined (r : ResId) : Statement (.reservationJoined r) := by
  exact fun _ => ⟨nofun, nofun⟩

theorem reservationPresented (r : ResId) : Statement (.reservationPresented r) := by
  exact fun _ => ⟨nofun, nofun⟩

theorem reservationWithdrawn (r : ResId) : Statement (.reservationWithdrawn r) := by
  exact fun _ => ⟨nofun, nofun⟩

theorem commitReport (r : ResId) (k : Carousel) (carrier : Nat) (lot : Nat) (week : Nat) : Statement (.commitReport r k carrier lot week) := by
  intro h; delta Instr.wf header carriers at *; simp_all [carrierOk]

theorem reservationExpiry (place : Nat) : Statement (.reservationExpiry place) := by
  exact fun _ => ⟨nofun, nofun⟩

theorem holdHandover (lot : Nat) : Statement (.holdHandover lot) := by
  exact fun _ => ⟨nofun, nofun⟩

theorem carrierRelease (k : Carousel) (carriers : List Nat) : Statement (.carrierRelease k carriers) := by
  intro h; delta Instr.wf header carriers at *; simp_all [carrierOk]

theorem auditTrim (k : Carousel) (carrier : Nat) (lot : Nat) (target : Nat) : Statement (.auditTrim k carrier lot target) := by
  intro h; delta Instr.wf header carriers at *; simp_all [carrierOk]

theorem shortReport (r : ResId) (count : Nat) : Statement (.shortReport r count) := by
  exact fun _ => ⟨nofun, nofun⟩

theorem substitutionRequest (r : ResId) (lot : Nat) : Statement (.substitutionRequest r lot) := by
  exact fun _ => ⟨nofun, nofun⟩

theorem substituteRelease (r : ResId) : Statement (.substituteRelease r) := by
  exact fun _ => ⟨nofun, nofun⟩

theorem readyReport (st : Station) (k : Carousel) : Statement (.readyReport st k) := by
  exact fun _ => ⟨nofun, nofun⟩

theorem notReadyReport (st : Station) (k : Carousel) : Statement (.notReadyReport st k) := by
  exact fun _ => ⟨nofun, nofun⟩

theorem grantAnswer (st : Station) (k : Carousel) (view : Option TaskView) : Statement (.grantAnswer st k view) := by
  intro h; delta Instr.wf header carriers at *; cases view <;> simp_all [carrierOk]

theorem taskEndReport (st : Station) (k : Carousel) (carrier : Nat) (kind : TaskKind) (outcome : TaskOutcome) :
    Statement (.taskEndReport st k carrier kind outcome) := by
  intro h; delta Instr.wf header carriers at *; simp_all [carrierOk]

theorem grantWithdrawalReport (st : Station) (k : Carousel) : Statement (.grantWithdrawalReport st k) := by
  exact fun _ => ⟨nofun, nofun⟩

theorem attentionTimeout (st : Station) : Statement (.attentionTimeout st) := by
  exact fun _ => ⟨nofun, nofun⟩

theorem taskViewReport (st : Station) (k : Carousel) (change : ViewChange) : Statement (.taskViewReport st k change) := by
  exact fun _ => ⟨nofun, nofun⟩

theorem transitPlaceReport (st : Station) : Statement (.transitPlaceReport st) := by
  exact fun _ => ⟨nofun, nofun⟩

theorem plannerRoomReport (st : Station) : Statement (.plannerRoomReport st) := by
  exact fun _ => ⟨nofun, nofun⟩

theorem putTaskLeft (st : Station) (k : Carousel) (carrier : Nat) (lot : Nat) : Statement (.putTaskLeft st k carrier lot) := by
  intro h; delta Instr.wf header carriers at *; simp_all [carrierOk]

theorem panelShowReturn (st : Station) (fate : Fate) : Statement (.panelShowReturn st fate) := by
  exact fun _ => ⟨nofun, nofun⟩

theorem panelRecovery (h : Hdr) (input : PanelInput) : Statement (.panelRecovery h input) := by
  intro h; delta Instr.wf header carriers at *; simp_all [hdrOk]

theorem bayCurtainChange (st : Station) (b : Bay) (broken : Bool) : Statement (.bayCurtainChange st b broken) := by
  exact fun _ => ⟨nofun, nofun⟩

theorem signOn (st : Station) : Statement (.signOn st) := by
  exact fun _ => ⟨nofun, nofun⟩

theorem signOff (st : Station) : Statement (.signOff st) := by
  exact fun _ => ⟨nofun, nofun⟩

theorem clearAccept (st : Station) : Statement (.clearAccept st) := by
  exact fun _ => ⟨nofun, nofun⟩

theorem clearReject (st : Station) : Statement (.clearReject st) := by
  exact fun _ => ⟨nofun, nofun⟩

theorem recount (st : Station) : Statement (.recount st) := by
  exact fun _ => ⟨nofun, nofun⟩

theorem short (st : Station) : Statement (.short st) := by
  exact fun _ => ⟨nofun, nofun⟩

theorem confirm (st : Station) : Statement (.confirm st) := by
  exact fun _ => ⟨nofun, nofun⟩

theorem batchEnd (st : Station) : Statement (.batchEnd st) := by
  exact fun _ => ⟨nofun, nofun⟩

theorem stationLabel (h : Hdr) (label : Label) : Statement (.stationLabel h label) := by
  intro h; delta Instr.wf header carriers at *; simp_all [hdrOk]

theorem transitPlaceRequest (st : Station) : Statement (.transitPlaceRequest st) := by
  exact fun _ => ⟨nofun, nofun⟩

theorem placeGiveUp (st : Station) (place : Nat) : Statement (.placeGiveUp st place) := by
  exact fun _ => ⟨nofun, nofun⟩

theorem handOver (st : Station) (place : Nat) (order : OrderName) (line : Nat) (lot : Nat) (week : Nat) :
    Statement (.handOver st place order line lot week) := by
  exact fun _ => ⟨nofun, nofun⟩

theorem divertReturn (label : Label) (l : Option Lane) (second : Bool) (fate : Fate) : Statement (.divertReturn label l second fate) := by
  exact fun _ => ⟨nofun, nofun⟩

theorem transitTimeout (place : Nat) : Statement (.transitTimeout place) := by
  exact fun _ => ⟨nofun, nofun⟩

theorem laneArrival (h : Hdr) (label : Label) : Statement (.laneArrival h label) := by
  intro h; delta Instr.wf header carriers at *; simp_all [hdrOk]

theorem tagRead (h : Hdr) (cart : CartId) (count : Nat) : Statement (.tagRead h cart count) := by
  intro h; delta Instr.wf header carriers at *; simp_all [hdrOk]

theorem cartContacts (h : Hdr) (input : LaneInput) : Statement (.cartContacts h input) := by
  intro h; delta Instr.wf header carriers at *; simp_all [hdrOk]

theorem releaseButton (l : Lane) : Statement (.releaseButton l) := by
  exact fun _ => ⟨nofun, nofun⟩

theorem laneControllerRecovery (h : Hdr) (input : LaneInput) : Statement (.laneControllerRecovery h input) := by
  intro h; delta Instr.wf header carriers at *; simp_all [hdrOk]

theorem laneSettleExpiry (l : Lane) : Statement (.laneSettleExpiry l) := by
  exact fun _ => ⟨nofun, nofun⟩

theorem tagTimerExpiry (l : Lane) : Statement (.tagTimerExpiry l) := by
  exact fun _ => ⟨nofun, nofun⟩

theorem latchReturn (l : Lane) (lock : Bool) (second : Bool) (fate : Fate) : Statement (.latchReturn l lock second fate) := by
  exact fun _ => ⟨nofun, nofun⟩

theorem waitingReport (order : OrderName) (seq : Nat) (cls : Class) (lanes : Option (List Nat)) :
    Statement (.waitingReport order seq cls lanes) := by
  exact fun _ => ⟨nofun, nofun⟩

theorem orderClassReport (handle : Nat) (cls : Class) : Statement (.orderClassReport handle cls) := by
  exact fun _ => ⟨nofun, nofun⟩

theorem goneReport (handle : Nat) : Statement (.goneReport handle) := by
  exact fun _ => ⟨nofun, nofun⟩

theorem cancelReport (handle : Nat) (picking : Bool) : Statement (.cancelReport handle picking) := by
  exact fun _ => ⟨nofun, nofun⟩

theorem completionReport (handle : Nat) : Statement (.completionReport handle) := by
  exact fun _ => ⟨nofun, nofun⟩

theorem receiptAnswer (l : Lane) (comp : Nat) (handle : Nat) (seq : Nat) (accepted : Bool) : Statement (.receiptAnswer l comp handle seq accepted) := by
  exact fun _ => ⟨nofun, nofun⟩

theorem auditRequestRaised (k : Carousel) (carrier : Nat) (blind : Bool) (cls : Class) (source : AuditSource) :
    Statement (.auditRequestRaised k carrier blind cls source) := by
  intro h; delta Instr.wf header carriers at *; simp_all [carrierOk]

theorem auditGranted (k : Carousel) (carrier : Nat) : Statement (.auditGranted k carrier) := by
  intro h; delta Instr.wf header carriers at *; simp_all [carrierOk]

theorem tally (k : Carousel) (lot : Option Nat) : Statement (.tally k lot) := by
  exact fun _ => ⟨nofun, nofun⟩

theorem auditConfirm (k : Carousel) : Statement (.auditConfirm k) := by
  exact fun _ => ⟨nofun, nofun⟩

theorem auditIdleExpiry (k : Carousel) : Statement (.auditIdleExpiry k) := by
  exact fun _ => ⟨nofun, nofun⟩

theorem auditAbandonReport (k : Carousel) : Statement (.auditAbandonReport k) := by
  exact fun _ => ⟨nofun, nofun⟩

theorem auditHandBack (k : Carousel) (carrier : Option Nat) : Statement (.auditHandBack k carrier) := by
  intro h; delta Instr.wf header carriers at *; cases carrier <;> simp_all [carrierOk]

theorem admitNotice (k : Carousel) (carriers : List Nat) : Statement (.admitNotice k carriers) := by
  intro h; delta Instr.wf header carriers at *; simp_all [carrierOk]

theorem noticeHanded (b : NoticeBody) : Statement (.noticeHanded b) := by
  exact fun _ => ⟨nofun, nofun⟩

theorem noticeSend : Statement (.noticeSend) := by
  exact fun _ => ⟨nofun, nofun⟩

theorem noticeFate (n : Notice) (second : Bool) (fate : Fate) : Statement (.noticeFate n second fate) := by
  exact fun _ => ⟨nofun, nofun⟩

theorem replyOffer : Statement (.replyOffer) := by
  exact fun _ => ⟨nofun, nofun⟩

theorem malformedRequest (q : Req) (kind : Nat) : Statement (.malformedRequest q kind) := by
  intro h; delta Instr.wf header carriers at *; simp_all [hdrOk, reqOk]

theorem cellStatus (q : Req) : Statement (.cellStatus q) := by
  intro h; delta Instr.wf header carriers at *; simp_all [hdrOk, reqOk]

theorem cellRun (q : Req) : Statement (.cellRun q) := by
  intro h; delta Instr.wf header carriers at *; simp_all [hdrOk, reqOk]

theorem cellHalt (q : Req) : Statement (.cellHalt q) := by
  intro h; delta Instr.wf header carriers at *; simp_all [hdrOk, reqOk]

theorem cellRestart (q : Req) : Statement (.cellRestart q) := by
  intro h; delta Instr.wf header carriers at *; simp_all [hdrOk, reqOk]

theorem nodeMapWrite (q : Req) (addr : Nat) (role : Nat) (unit : Nat) (mirror : Bool) : Statement (.nodeMapWrite q addr role unit mirror) := by
  intro h; delta Instr.wf header carriers at *; simp_all [hdrOk, reqOk]

theorem groupWrite (q : Req) (g : Nat) (members : List Nat) : Statement (.groupWrite q g members) := by
  intro h; delta Instr.wf header carriers at *; simp_all [hdrOk, reqOk]

theorem carouselConfigWrite (q : Req) (c : CarouselCfg) : Statement (.carouselConfigWrite q c) := by
  intro h; delta Instr.wf header carriers at *; simp_all [hdrOk, reqOk]

theorem stationConfigWrite (q : Req) (c : StationCfg) : Statement (.stationConfigWrite q c) := by
  intro h; delta Instr.wf header carriers at *; simp_all [hdrOk, reqOk]

theorem laneConfigWrite (q : Req) (l : Nat) (configured : Bool) (limit : Nat) : Statement (.laneConfigWrite q l configured limit) := by
  intro h; delta Instr.wf header carriers at *; simp_all [hdrOk, reqOk]

theorem timerWrite (q : Req) (selector : Nat) (value : Nat) : Statement (.timerWrite q selector value) := by
  intro h; delta Instr.wf header carriers at *; simp_all [hdrOk, reqOk]

theorem lotWrite (q : Req) (lot : Nat) (article : Article) (week : Week) (width : Nat) (rim : Nat) (mass : Nat) :
    Statement (.lotWrite q lot article week width rim mass) := by
  intro h; delta Instr.wf header carriers at *; simp_all [hdrOk, reqOk]

theorem lotDelete (q : Req) (lot : Nat) : Statement (.lotDelete q lot) := by
  intro h; delta Instr.wf header carriers at *; simp_all [hdrOk, reqOk]

theorem lotHold (q : Req) (lot : Nat) : Statement (.lotHold q lot) := by
  intro h; delta Instr.wf header carriers at *; simp_all [hdrOk, reqOk]

theorem lotRelease (q : Req) (lot : Nat) : Statement (.lotRelease q lot) := by
  intro h; delta Instr.wf header carriers at *; simp_all [hdrOk, reqOk]

theorem carrierWrite (q : Req) (k : Nat) (carrier : Nat) (doubleStack : Bool) (disable : Bool) (list : List (Nat × Nat)) :
    Statement (.carrierWrite q k carrier doubleStack disable list) := by
  intro h; delta Instr.wf header carriers at *; simp_all [hdrOk, reqOk]

theorem recordRead (q : Req) (kind : Nat) (index : Nat) : Statement (.recordRead q kind index) := by
  intro h; delta Instr.wf header carriers at *; simp_all [hdrOk, reqOk]

theorem orderAdd (q : Req) (ref : OrderRef) (cls : Nat) (lanes : Option (List Nat)) (lines : List LineReq) :
    Statement (.orderAdd q ref cls lanes lines) := by
  intro h; delta Instr.wf header carriers at *; simp_all [hdrOk, reqOk]

theorem orderCancel (q : Req) (handle : Nat) : Statement (.orderCancel q handle) := by
  intro h; delta Instr.wf header carriers at *; simp_all [hdrOk, reqOk]

theorem orderClass (q : Req) (handle : Nat) (cls : Nat) : Statement (.orderClass q handle cls) := by
  intro h; delta Instr.wf header carriers at *; simp_all [hdrOk, reqOk]

theorem orderResume (q : Req) (handle : Nat) : Statement (.orderResume q handle) := by
  intro h; delta Instr.wf header carriers at *; simp_all [hdrOk, reqOk]

theorem carouselEnable (q : Req) (k : Nat) : Statement (.carouselEnable q k) := by
  intro h; delta Instr.wf header carriers at *; simp_all [hdrOk, reqOk]

theorem carouselDisable (q : Req) (k : Nat) : Statement (.carouselDisable q k) := by
  intro h; delta Instr.wf header carriers at *; simp_all [hdrOk, reqOk]

theorem windowSet (q : Req) (k : Nat) (bounds : Option (Nat × Nat)) : Statement (.windowSet q k bounds) := by
  intro h; delta Instr.wf header carriers at *; simp_all [hdrOk, reqOk]

theorem auditRequest (q : Req) (k : Nat) (carrier : Nat) (blind : Bool) (cls : Nat) : Statement (.auditRequest q k carrier blind cls) := by
  intro h; delta Instr.wf header carriers at *; simp_all [hdrOk, reqOk]

theorem auditCancel (q : Req) (k : Nat) (carrier : Nat) : Statement (.auditCancel q k carrier) := by
  intro h; delta Instr.wf header carriers at *; simp_all [hdrOk, reqOk]

theorem scanClear (q : Req) (st : Nat) (action : Nat) : Statement (.scanClear q st action) := by
  intro h; delta Instr.wf header carriers at *; simp_all [hdrOk, reqOk]

theorem lanePermit (q : Req) (l : Nat) : Statement (.lanePermit q l) := by
  intro h; delta Instr.wf header carriers at *; simp_all [hdrOk, reqOk]

theorem laneAssign (q : Req) (l : Nat) (cart : CartId) (count : Nat) : Statement (.laneAssign q l cart count) := by
  intro h; delta Instr.wf header carriers at *; simp_all [hdrOk, reqOk]

theorem laneClose (q : Req) (l : Nat) : Statement (.laneClose q l) := by
  intro h; delta Instr.wf header carriers at *; simp_all [hdrOk, reqOk]

theorem laneOpen (q : Req) (l : Nat) : Statement (.laneOpen q l) := by
  intro h; delta Instr.wf header carriers at *; simp_all [hdrOk, reqOk]

theorem clockReturn : Statement (.clockReturn) := by
  exact fun _ => ⟨nofun, nofun⟩

theorem statusQueryReturn (q : QueryId) (fate : Fate) : Statement (.statusQueryReturn q fate) := by
  exact fun _ => ⟨nofun, nofun⟩

theorem haltReturn (k : Carousel) (fate : Fate) : Statement (.haltReturn k fate) := by
  exact fun _ => ⟨nofun, nofun⟩

end Sys2Proof.Laws.InRange
end

