-- ==== Sys2Proof/Laws/Station.lean ====
section
/-! SUPPORT. What the shared operations of the Station Controllers can do. -/

namespace Sys2Proof.Machine

@[simp] theorem State.modStn_modStn (s : State) (i : Station) (f g : Stn → Stn) :
    (s.modStn i f).modStn i g = s.modStn i fun x => g (f x) := by simp [State.modStn]

/-- A station rewritten as it stands leaves the state as it stands. -/
theorem State.modStn_same (s : State) (i : Station) : s = s.modStn i (fun x => x) := by
  have h : s.stations = s.stations.set i (s.stn i) := by
    apply Vector.ext; intro j hj
    by_cases e : i.val = j
    · subst e; simp [State.stn]
    · simp [Vector.getElem_set_ne, e]
  unfold State.modStn State.setStn
  rw [← h]

/-- A NORMAL frame offered to any queue changes the ring's records alone. -/
theorem offerFrame_normal {f : TxFrame} (h : f.urgent = false) (s : State) : ∃ e o, offerFrame f s = ({ s with fe := e }, o) := by
  unfold offerFrame
  split
  · exact ⟨_, _, rfl⟩
  · split
    · simp only [h, Bool.false_and, Bool.false_eq_true, if_false]
      exact ⟨_, _, rfl⟩
    · exact ⟨_, _, rfl⟩

/-- A content sent to the panel changes the ring's records, the station's display and the mail alone; the mail only grows. -/
theorem sendContent_effect (i : Station) (c : Content) (s : State) : ∃ e m, ∃ d : Display → Display,
    sendContent i c s = State.modStn { s with fe := e, mail := m } i (fun x => { x with display := d x.display }) ∧
      s.mail <+: m := by
  unfold sendContent
  by_cases hq : s.fe.queue.any (isFrameOf (.station i) (payloadKind (.panelShow c))) = true
  · simp only [replacePayload, hq, if_true]
    exact ⟨_, s.mail, fun _ => { sent := some c, waiting := none }, rfl, List.prefix_refl _⟩
  · simp only [replacePayload, hq, Bool.false_eq_true, if_false, offer]
    cases ha : s.address (panelOf i) with
    | none => exact ⟨s.fe, _, fun _ => { sent := some c, waiting := none }, rfl, ⟨_, rfl⟩⟩
    | some a =>
      obtain ⟨e, o, he⟩ := offerFrame_normal (f := frameTo (.station i) a (.panelShow c)) rfl s
      simp only [he]
      cases o
      · exact ⟨e, s.mail, fun _ => { sent := some c, waiting := none }, rfl, List.prefix_refl _⟩
      · exact ⟨e, s.mail, fun x => { x with waiting := some c }, rfl, List.prefix_refl _⟩
      · exact ⟨e, _, fun _ => { sent := some c, waiting := none }, rfl, ⟨_, rfl⟩⟩

/-- The same of a display refreshed. -/
theorem refresh_effect (i : Station) (s : State) : ∃ e m, ∃ d : Display → Display,
    refresh i s = State.modStn { s with fe := e, mail := m } i (fun x => { x with display := d x.display }) ∧ s.mail <+: m := by
  unfold refresh
  dsimp only
  split
  · exact sendContent_effect i _ s
  · exact ⟨s.fe, s.mail, id, State.modStn_same s i, List.prefix_refl _⟩

/-- The same of a display refreshed after its station has changed. -/
theorem refresh_modStn (i : Station) (f : Stn → Stn) (s : State) : ∃ e m, ∃ d : Display → Display,
    refresh i (s.modStn i f) =
      State.modStn { s with fe := e, mail := m } i (fun x => { f x with display := d (f x).display }) ∧ s.mail <+: m := by
  obtain ⟨e, m, d, h, hm⟩ := refresh_effect i (s.modStn i f)
  exact ⟨e, m, d, h.trans (State.modStn_modStn { s with fe := e, mail := m } i f fun x => { x with display := d x.display }), hm⟩

/-! ## The view of a granted task (R115) -/

theorem State.countNow_live {s : State} {r : ResId} {x : Reservation} (h : s.resOf r = some x) (n : Nat) :
    s.countNow r n = min n x.count := by simp [State.countNow, h]

theorem State.countNow_gone {s : State} {r : ResId} (h : s.resOf r = none) (n : Nat) : s.countNow r n = n := by
  simp [State.countNow, h]

/-- A changed view changes the station's grant alone. -/
theorem Stn.modView_effect (x : Stn) (f : TaskView → TaskView) : ∃ g, x.modView f = { x with grant := g } := by
  unfold Stn.modView
  split <;> exact ⟨_, rfl⟩

/-- A report at a station that holds no grant is nothing. -/
theorem takeViewReport_absent {i : Station} {s : State} (h : (s.stn i).holder = none) (k : Carousel) (c : ViewChange) :
    takeViewReport i k c s = s := by simp [takeViewReport, h]

/-- A report that changes a view changes the station's grant, message and display, the ring's records and the mail alone;
the mail only grows. -/
theorem takeViewReport_effect (i : Station) (k : Carousel) (c : ViewChange) (s : State) : ∃ e m, ∃ f : Stn → Stn,
    takeViewReport i k c s = State.modStn { s with fe := e, mail := m } i f ∧ s.mail <+: m ∧
      ∀ x, ∃ g d y, f x = { x with grant := g, display := d, message := y } := by
  have same : ∃ e m, ∃ f : Stn → Stn, s = State.modStn { s with fe := e, mail := m } i f ∧ s.mail <+: m ∧
      ∀ x, ∃ g d y, f x = { x with grant := g, display := d, message := y } :=
    ⟨s.fe, s.mail, id, State.modStn_same s i, List.prefix_refl _, fun x => ⟨_, _, _, rfl⟩⟩
  have shown : ∀ f : Stn → Stn, (∀ x, ∃ g y, f x = { x with grant := g, message := y }) →
      ∃ e m, ∃ f' : Stn → Stn, refresh i (s.modStn i f) = State.modStn { s with fe := e, mail := m } i f' ∧ s.mail <+: m ∧
        ∀ x, ∃ g d y, f' x = { x with grant := g, display := d, message := y } := by
    intro f hf
    obtain ⟨e, m, d, h, hm⟩ := refresh_modStn i f s
    refine ⟨e, m, _, h, hm, fun x => ?_⟩
    obtain ⟨g, y, hx⟩ := hf x
    exact ⟨g, d x.display, y, by rw [hx]⟩
  unfold takeViewReport
  split
  · exact same
  · split
    · dsimp only
      split
      · rw [showMessage, State.modStn_modStn]
        apply shown
        intro x
        obtain ⟨g, h⟩ := Stn.modView_effect { x with message := some .doNotPick } (changeView (s.viewNow c))
        exact ⟨g, _, h⟩
      · apply shown
        intro x
        obtain ⟨g, h⟩ := Stn.modView_effect x (changeView (s.viewNow c))
        exact ⟨g, _, h⟩
    · exact same

/-- A try for a grant changes the station's attention list and grant and the mail alone. -/
theorem tryGrant_effect (i : Station) (s : State) : ∃ m a g,
    tryGrant i s = State.modStn { s with mail := m } i (fun x => { x with attention := a, grant := g }) ∧ s.mail <+: m ∧
      ((s.stn i).grant ≠ .absent → g = (s.stn i).grant) ∧ ((s.stn i).holder = none → ∀ k v, g ≠ .held k v) := by
  unfold tryGrant
  dsimp only
  split
  · rename_i h
    split
    · exact ⟨_, _, _, rfl, ⟨_, rfl⟩, fun hn => absurd h.2.2 hn, fun _ _ _ => by simp⟩
    · refine ⟨s.mail, (s.stn i).attention, (s.stn i).grant, State.modStn_same s i, List.prefix_refl _, fun _ => rfl, ?_⟩
      intro _ k v; rw [h.2.2]; simp
  · refine ⟨s.mail, (s.stn i).attention, (s.stn i).grant, State.modStn_same s i, List.prefix_refl _, fun _ => rfl, ?_⟩
    intro hn k v hg; simp [Stn.holder, hg] at hn

/-- A station with an empty scan queue has no head to evaluate: it tries a grant, sets its timer and its display. -/
theorem attend_empty {i : Station} {s : State} (h : (s.stn i).queue = []) :
    attend i s = refresh i (settleTimer i (tryGrant i s)) := by
  obtain ⟨m, a, g, e, _⟩ := tryGrant_effect i s
  have hq : ((tryGrant i s).stn i).queue = [] := by rw [e]; simpa [State.stn, State.modStn, State.setStn] using h
  simp [attend, evalLoop, evalHead, hq]

/-- The stations that a step leaves holding their grants, and those that held none, have nothing to attend to: only the
station whose grant ended does. -/
theorem attendEnded_one {s t : State} {i : Station} (he : ((s.stn i).grant ≠ .absent ∧ (t.stn i).grant = .absent))
    (ho : ∀ j : Station, j ≠ i → (t.stn j).grant = (s.stn j).grant)
    (ha : ∀ j : Station, j ≠ i → ((attend i t).stn j).grant = (s.stn j).grant) : attendEnded s t = attend i t := by
  have skip : ∀ (u : State) (j : Station), (u.stn j).grant = (s.stn j).grant →
      (if (s.stn j).grant ≠ .absent ∧ (u.stn j).grant = .absent then attend j u else u) = u := by
    intro u j hj
    rw [if_neg]
    rw [hj]; tauto
  unfold attendEnded stationList
  simp only [List.foldl_cons, List.foldl_nil]
  obtain rfl | rfl | rfl | rfl : i = 0 ∨ i = 1 ∨ i = 2 ∨ i = 3 := (by decide : ∀ i : Station, i = 0 ∨ i = 1 ∨ i = 2 ∨ i = 3) i
  · rw [if_pos he, skip _ 1 (ha 1 (by decide)), skip _ 2 (ha 2 (by decide)), skip _ 3 (ha 3 (by decide))]
  · rw [skip _ 0 (ho 0 (by decide)), if_pos he, skip _ 2 (ha 2 (by decide)), skip _ 3 (ha 3 (by decide))]
  · rw [skip _ 0 (ho 0 (by decide)), skip _ 1 (ho 1 (by decide)), if_pos he, skip _ 3 (ha 3 (by decide))]
  · rw [skip _ 0 (ho 0 (by decide)), skip _ 1 (ho 1 (by decide)), skip _ 2 (ho 2 (by decide)), if_pos he]

/-! ## What the put-away planner reads of a candidate -/

/-- The figures of a candidate are unique (R125). -/
theorem State.putFigures_unique {s : State} {k : Carousel} {c lot count n n' w w' d d' : Nat}
    (h : s.putFigures k c lot count n w d) (h' : s.putFigures k c lot count n' w' d') : n = n' ∧ w = w' ∧ d = d' := by
  obtain ⟨m, f, e, hn, -, ha, hb, hc, hd⟩ := h
  obtain ⟨m', f', e', hn', -, ha', hb', hc', hd'⟩ := h'
  cases Option.some.inj (e.symm.trans e')
  have en : n = n' := hn.trans hn'.symm
  subst en
  refine ⟨rfl, ?_, ?_⟩
  · by_cases hm : n = m
    · rw [ha hm, ha' hm]
    · exact Option.some.inj ((hb hm).symm.trans (hb' hm))
  · cases hi : (s.seq k).index with
    | none => rw [hc hi, hc' hi]
    | some j => rw [hd j hi, hd' j hi]

end Sys2Proof.Machine
end

