-- ==== Sys2Proof/Laws/Tables.lean ====
section
/-! SUPPORT. What the operations over tables by number can do: reading after writing, and the canonical form they keep. -/

namespace Sys2Proof.Machine

variable {α : Type}

/-- A table is in canonical form exactly when its numbers rise strictly. -/
theorem twf_iff (t : Table α) : twf t = true ↔ t.Pairwise fun a b => a.1 < b.1 := by
  induction t with
  | nil => simp [twf]
  | cons a t ih =>
    cases t with
    | nil => simp [twf]
    | cons b t =>
      rw [twf, Bool.and_eq_true, decide_eq_true_eq, ih, List.pairwise_cons (a := a)]
      constructor
      · rintro ⟨h, hp⟩
        refine ⟨?_, hp⟩
        intro c hc
        rcases List.mem_cons.1 hc with rfl | hc
        · exact h
        · exact Nat.lt_trans h ((List.pairwise_cons.1 hp).1 c hc)
      · rintro ⟨h, hp⟩
        exact ⟨h b (by simp), hp⟩

/-- Every entry changed: each number reads its own entry changed. -/
theorem tget_tmap (f : Nat → α → α) (n : Nat) (t : Table α) : tget n (tmap f t) = (tget n t).map (f n) := by
  induction t with
  | nil => rfl
  | cons a t ih => obtain ⟨m, w⟩ := a; by_cases h : m = n <;> simp [tmap, tget, h, ih]

/-- Reading the number just written. -/
theorem tget_tput_same (n : Nat) (v : α) (t : Table α) : tget n (tput n v t) = some v := by
  induction t with
  | nil => simp [tput, tget]
  | cons a t ih =>
    obtain ⟨m, w⟩ := a
    simp only [tput]
    split
    · simp [tget]
    · split
      · simp [tget]
      · rename_i h; simp [tget, h, ih]

/-- Reading another number. -/
theorem tget_tput_other {n k : Nat} (h : k ≠ n) (v : α) (t : Table α) : tget k (tput n v t) = tget k t := by
  induction t with
  | nil => simp [tput, tget, h.symm]
  | cons a t ih =>
    obtain ⟨m, w⟩ := a
    simp only [tput]
    split
    · simp [tget, h.symm]
    · split
      · rename_i e; subst e; simp [tget, h.symm]
      · by_cases e : m = k <;> simp [tget, e, ih]

/-- Reading another number than the one removed. -/
theorem tget_tdel_other {n k : Nat} (h : k ≠ n) (t : Table α) : tget k (tdel n t) = tget k t := by
  induction t with
  | nil => rfl
  | cons a t ih =>
    obtain ⟨m, w⟩ := a
    simp only [tdel]
    split
    · rename_i e; subst e; simp [tget, h.symm]
    · by_cases e : m = k <;> simp [tget, e, ih]

/-- Above every number of the rest, a number reads nothing. -/
theorem tget_none_of_lt {n : Nat} {t : Table α} (h : ∀ a ∈ t, n < a.1) : tget n t = none := by
  induction t with
  | nil => rfl
  | cons a t ih =>
    have := h a (by simp)
    simp [tget, Nat.ne_of_gt this, ih fun b hb => h b (by simp [hb])]

/-- Reading the number just removed, from a table in canonical form. -/
theorem tget_tdel_same {n : Nat} {t : Table α} (h : twf t = true) : tget n (tdel n t) = none := by
  rw [twf_iff] at h
  induction t with
  | nil => rfl
  | cons a t ih =>
    obtain ⟨m, w⟩ := a
    rw [List.pairwise_cons] at h
    simp only [tdel]
    split
    · rename_i e; subst e; exact tget_none_of_lt h.1
    · rename_i e; simp [tget, e, ih h.2]

theorem mem_tput {n : Nat} {v : α} {t : Table α} {a : Nat × α} (h : a ∈ tput n v t) : a = (n, v) ∨ a ∈ t := by
  induction t with
  | nil => simpa [tput] using h
  | cons b t ih =>
    obtain ⟨m, w⟩ := b
    simp only [tput] at h
    split at h
    · rcases List.mem_cons.1 h with h | h
      · exact .inl h
      · exact .inr h
    · split at h
      · rcases List.mem_cons.1 h with h | h
        · exact .inl h
        · exact .inr (by simp [h])
      · rcases List.mem_cons.1 h with h | h
        · exact .inr (by simp [h])
        · rcases ih h with h | h
          · exact .inl h
          · exact .inr (by simp [h])

/-- A write keeps the canonical form. -/
theorem twf_tput (n : Nat) (v : α) {t : Table α} (h : twf t = true) : twf (tput n v t) = true := by
  rw [twf_iff] at *
  induction t with
  | nil => simp [tput]
  | cons b t ih =>
    obtain ⟨m, w⟩ := b
    have h' := List.pairwise_cons.1 h
    simp only [tput]
    split
    · rename_i hl
      refine List.pairwise_cons.2 ⟨?_, h⟩
      intro c hc
      rcases List.mem_cons.1 hc with rfl | hc
      · exact hl
      · exact Nat.lt_trans hl (h'.1 c hc)
    · split
      · rename_i e; subst e; exact List.pairwise_cons.2 h'
      · refine List.pairwise_cons.2 ⟨?_, ih h'.2⟩
        intro c hc
        rcases mem_tput hc with rfl | hc
        · show m < n; omega
        · exact h'.1 c hc

theorem tdel_sublist (n : Nat) (t : Table α) : (tdel n t).Sublist t := by
  induction t with
  | nil => exact .slnil
  | cons b t ih =>
    obtain ⟨m, w⟩ := b
    simp only [tdel]
    split
    · exact List.sublist_cons_self _ _
    · exact ih.cons_cons _

/-- A removal keeps the canonical form. -/
theorem twf_tdel (n : Nat) {t : Table α} (h : twf t = true) : twf (tdel n t) = true := by
  rw [twf_iff] at *; exact h.sublist (tdel_sublist n t)

theorem tmap_keys (f : Nat → α → α) (t : Table α) : (tmap f t).map (·.1) = t.map (·.1) := by
  induction t with
  | nil => rfl
  | cons b t ih => simp [tmap, ih]

theorem tmod_keys (n : Nat) (f : α → α) (t : Table α) : (tmod n f t).map (·.1) = t.map (·.1) := by
  induction t with
  | nil => rfl
  | cons b t ih => obtain ⟨m, w⟩ := b; simp only [tmod]; split <;> simp [ih]

theorem twf_keys {t u : Table α} (h : t.map (·.1) = u.map (·.1)) : twf t = twf u := by
  have key : ∀ v : Table α, twf v = true ↔ (v.map (·.1)).Pairwise (· < ·) := fun v => by rw [twf_iff, List.pairwise_map]
  rw [Bool.eq_iff_iff, key, key, h]

/-- A change of every entry keeps the canonical form. -/
theorem twf_tmap (f : Nat → α → α) (t : Table α) : twf (tmap f t) = twf t := twf_keys (tmap_keys f t)

/-- A change of one entry keeps the canonical form. -/
theorem twf_tmod (n : Nat) (f : α → α) (t : Table α) : twf (tmod n f t) = twf t := twf_keys (tmod_keys n f t)

/-- Changes that leave every entry as it stands leave the table. -/
theorem tmap_same {f : Nat → α → α} (h : ∀ n v, f n v = v) (t : Table α) : tmap f t = t := by
  induction t with
  | nil => rfl
  | cons b t ih => simp [tmap, ih, h]

end Sys2Proof.Machine
end

