-- ==== Sys2Proof/Laws/Stock.lean ====
section
/-! SUPPORT. What the shared operations of the Stock Table Unit can do: a carrier replaced, the lot totals that follow it, and
the placements of one lot changed. -/

namespace Sys2Proof.Machine

/-! ## Lots -/

/-- The lot totals after a carrier's placements changed, lot by lot (R1). -/
theorem tget_retotal (old new : List Placement) (t : Table Lot) (n : Nat) :
    tget n (retotal old new t) = (tget n t).map fun l => { l with
      onHand := l.onHand + onHandOf n new - onHandOf n old,
      reserved := l.reserved + reservedOf n new - reservedOf n old,
      incoming := l.incoming + incomingOf n new - incomingOf n old } := tget_tmap _ _ _

/-- Placements that stay leave the lot totals as they stand. -/
@[simp] theorem retotal_same (ps : List Placement) (t : Table Lot) : retotal ps ps t = t := by
  refine tmap_same (fun n l => ?_) t
  simp

/-! ## Carriers -/

/-- A change of a carrier that stands replaces it, with its OVERLOAD mark, moves the lot totals and hands out the reports
of R14. -/
theorem changeCarrier_effect {s : State} {k : Carousel} {c : Nat} {x : Carrier} {car : StockCar} (hc : s.stockCar k = some car)
    (hx : s.carrier k c = some x) (f : Carrier → Carrier) :
    s.changeCarrier k c f =
      let y := { f x with overload := decide (car.rated < s.actualMass (f x).placements) }
      ({ s with lots := retotal x.placements (f x).placements s.lots }.setStock k
        (some { car with carriers := car.carriers.set c y })).postAll (s.carrierReports k c x (f x)) := by
  simp [State.changeCarrier, hx, State.putCarrier, hc, State.overloaded]

/-- A carrier stands only in a configured carousel. -/
theorem carrier_stock {s : State} {k : Carousel} {c : Nat} {x : Carrier} (hx : s.carrier k c = some x) :
    ∃ car, s.stockCar k = some car ∧ car.carriers[c]? = some x := by
  unfold State.carrier at hx
  cases h : s.stockCar k with
  | none => simp [h] at hx
  | some car => exact ⟨car, rfl, by simpa [h] using hx⟩

/-! ## Placements of one lot -/

/-- In placements of distinct lots, the one found for a lot is the only one. -/
theorem placementOf_some {lot : Nat} {ps : List Placement} {p : Placement} (h : placementOf lot ps = some p) :
    p ∈ ps ∧ p.lot = lot := by
  have h2 := List.find?_some h
  exact ⟨List.mem_of_find?_eq_some h, by simpa using h2⟩

theorem placementOf_mem {lot : Nat} {ps : List Placement} (hn : (ps.map (·.lot)).Nodup) {p : Placement} (hp : p ∈ ps)
    (hl : p.lot = lot) : placementOf lot ps = some p := by
  induction ps with
  | nil => simp at hp
  | cons q ps ih =>
    simp only [List.map_cons, List.nodup_cons] at hn
    rcases List.mem_cons.1 hp with rfl | hp
    · simp [placementOf, hl]
    · have : q.lot ≠ lot := fun e => hn.1 (by rw [e, ← hl]; exact List.mem_map_of_mem hp)
      have := ih hn.2 hp
      simp only [placementOf] at this ⊢
      rw [List.find?_cons_of_neg (by simpa)]
      exact this

/-- Another lot's placement is not touched. -/
theorem placementOf_change_other {lot n : Nat} (h : n ≠ lot) {f : Placement → Placement} (hf : ∀ p, (f p).lot = p.lot)
    (ps : List Placement) : placementOf n (changePlacement lot f ps) = placementOf n ps := by
  induction ps with
  | nil => rfl
  | cons q ps ih =>
    simp only [placementOf, changePlacement, List.map_cons] at ih ⊢
    by_cases e : q.lot = lot
    · have hq : (f q).lot = lot := by rw [hf, e]
      have : ¬ q.lot = n := fun e' => h (by rw [← e', e])
      rw [List.find?_cons_of_neg (by simpa), ← ih]
      simp only [e, if_true]
      rw [List.filter_cons]
      split
      · rw [List.find?_cons_of_neg (by simp [hq]; omega)]
      · rfl
    · simp only [e, if_false]
      rw [List.filter_cons_of_pos (by simp [e])]
      simp only [List.find?_cons]
      split
      · rfl
      · exact ih

/-- The placement of the lot itself is changed, or gone when that empties it. -/
theorem placementOf_change {lot : Nat} {f : Placement → Placement} (hf : ∀ p, (f p).lot = p.lot) {ps : List Placement}
    (hn : (ps.map (·.lot)).Nodup) {p : Placement} (hp : placementOf lot ps = some p) :
    placementOf lot (changePlacement lot f ps) =
      if (f p).onHand = 0 ∧ (f p).reserved = 0 ∧ (f p).incoming = 0 then none else some (f p) := by
  obtain ⟨hm, hl⟩ := placementOf_some hp
  induction ps with
  | nil => simp at hm
  | cons q ps ih =>
    simp only [List.map_cons, List.nodup_cons] at hn
    by_cases e : q.lot = lot
    · have hqp : q = p := by
        have : placementOf lot (q :: ps) = some q := by simp [placementOf, e]
        rw [this] at hp; exact Option.some.inj hp
      subst hqp
      have hrest : (changePlacement lot f ps).find? (fun r => decide (r.lot = lot)) = none := by
        rw [List.find?_eq_none]
        intro r hr
        simp only [changePlacement, List.mem_filter, List.mem_map] at hr
        obtain ⟨⟨u, hu, rfl⟩, -⟩ := hr
        have hu' : ¬ u.lot = lot := fun e' => hn.1 (by rw [e, ← e']; exact List.mem_map_of_mem hu)
        simp [hu']
      simp only [placementOf, changePlacement, List.map_cons, e, if_true] at hrest ⊢
      rw [List.filter_cons]
      have hfl : (f q).lot = lot := by rw [hf, e]
      by_cases hz : (f q).onHand = 0 ∧ (f q).reserved = 0 ∧ (f q).incoming = 0
      · rw [if_neg (by simp [hfl, hz.1, hz.2.1, hz.2.2]), if_pos hz]; exact hrest
      · rw [if_pos (by simp [hfl]; tauto), if_neg hz]; simp [hfl]
    · have hq : placementOf lot ps = some p := by simpa [placementOf, e] using hp
      obtain ⟨hm', -⟩ := placementOf_some hq
      rw [← ih hn.2 hq hm']
      simp only [placementOf, changePlacement, List.map_cons, e, if_false]
      rw [List.filter_cons_of_pos (by simp [e]), List.find?_cons_of_neg (by simpa)]

/-- A change that leaves the on-hand counts leaves the actual mass: what it removes had no tyre on hand (R11). -/
theorem actualMass_change {lot : Nat} {f : Placement → Placement} (hf : ∀ p, (f p).lot = p.lot ∧ (f p).onHand = p.onHand)
    (s : State) (ps : List Placement) : s.actualMass (changePlacement lot f ps) = s.actualMass ps := by
  induction ps with
  | nil => rfl
  | cons q ps ih =>
    simp only [State.actualMass, changePlacement, List.map_cons, List.sum_cons] at ih ⊢
    by_cases e : q.lot = lot
    · rw [if_pos e, List.filter_cons]
      split
      · rw [List.map_cons, List.sum_cons, ih, (hf q).1, (hf q).2]
      · rename_i hz
        have : q.onHand = 0 := by
          rw [← (hf q).2]; simp [(hf q).1, e] at hz; exact hz.1.1
        rw [ih, this, Nat.zero_mul, Nat.zero_add]
    · rw [if_neg e, List.filter_cons_of_pos (by simp [e]), List.map_cons, List.sum_cons, ih]

/-- The reports of a change of one lot's reserved or incoming count: none (R15, R16, R19, R20). -/
theorem carrierReports_quiet {lot : Nat} {f : Placement → Placement} (hf : ∀ p, (f p).lot = p.lot ∧ (f p).onHand = p.onHand)
    (s : State) (k : Carousel) (c : Nat) {x : Carrier} (hn : (x.placements.map (·.lot)).Nodup) :
    s.carrierReports k c x { x with placements := changePlacement lot f x.placements } = [] := by
  have hm := actualMass_change hf s x.placements (lot := lot)
  have hr : ((changePlacement lot f x.placements).filter fun p =>
      decide (onHandOf p.lot x.placements < p.onHand) && s.lotActive p.lot) = [] := by
    rw [List.filter_eq_nil_iff]
    intro p hp
    simp only [changePlacement, List.mem_filter, List.mem_map] at hp
    obtain ⟨⟨q, hq, rfl⟩, -⟩ := hp
    have h2 : placementOf q.lot x.placements = some q := placementOf_mem hn hq rfl
    by_cases e : q.lot = lot
    · rw [e] at h2; simp [e, onHandOf, (hf q).1, (hf q).2, h2]
    · simp [e, onHandOf, h2]
  simp [State.carrierReports, hm, hr, Carrier.able]

/-- The placements in the statements' words. -/
theorem changePlacement_counts (lot : Nat) (f : Placement → Placement) (ps : List Placement) :
    changePlacement lot f ps = countsChanged lot f ps := by
  unfold changePlacement countsChanged
  congr 1
  funext p
  rw [Bool.eq_iff_iff]
  simp
  omega

end Sys2Proof.Machine
end

