-- ==== Sys2Proof/Tests/Slice0.lean ====
section
/-! SUPPORT. The model's own tests: the checks of WellFormed refuse ill-formed commands, the spec's worked figures come out,
and for every statement with hypotheses a state and operands that meet them together. -/

namespace Sys2Proof.Tests

open Sys2Proof Sys2Proof.Machine

-- One test is evaluated after another.
set_option Elab.async false

/-! ## A small cell -/

/-- The state that a command leaves. -/
def after (c : Instr) (s : State) : State :=
  match exec c s with
  | .next t => t
  | .fault _ | .refused _ => s

/-- The address of the gateway is 2, the drives of carousels 0 and 1 are 10 and 11, and station 0 and lane 0 have one node of
each kind. -/
def map : Table Node :=
  [(2, ⟨.gateway, 0, false⟩), (10, ⟨.drive, 0, false⟩), (11, ⟨.drive, 1, false⟩), (20, ⟨.panel, 0, false⟩),
   (24, ⟨.openingReader, 0, false⟩), (28, ⟨.inboundReader, 0, false⟩), (32, ⟨.laneController, 0, false⟩),
   (36, ⟨.laneReader, 0, false⟩), (40, ⟨.sorter, 0, false⟩), (41, ⟨.maint, 0, false⟩)]

/-- A header from a node to the part at address 9. -/
def hdr (source : Nat) : Hdr := { dest := 9, source := source, flags := 0, answer := 0 }

/-- A header from a field node to the gateway. -/
def field (source : Nat) : Hdr := { hdr source with dest := 2 }

/-- A request of the gateway. -/
def req : Req := { hdr := hdr 2, tag := 7 }

/-- Carrier 5 of carousel 0 holds lot 1 with tyres reserved and incoming, and lot 2 with free tyres. -/
def five : Carrier :=
  { newCarrier false with placements := [⟨1, 4, 2, 1⟩, ⟨2, 3, 0, 0⟩] }

/-- Eight carriers, the sixth as given. -/
def shelves (x : Carrier) : StockCar :=
  { shelf := 480, gap := 15, rated := 400, carriers := (List.replicate 8 (newCarrier false)).set 5 x }

/-- The balance record of those shelves. -/
def scale : Balance :=
  Balance.recompute
    { p := 8, masses := [0, 0, 0, 0, 0, 76, 0, 0], soft := 60, hard := 150, total := 0, worst := 0, rotation := 0,
      speed := .normal, overbalance := false, bidirectional := true, start := 5, normalPitch := 3, slowPitch := 6 }

/-- Order 0 with one line of article 5. -/
def order : Order :=
  { ref := 30, cls := 1, lanes := none, state := .picking, comp := some (0, 0), seq := 0,
    lines := [{ article := 5, quantity := 4, window := none, reserved := 2, inTransit := 0, delivered := 0, taken := [],
                avoid := none, waitingReported := false }], leaving := false }

/-- The reservation of two tyres of lot 1 for it. -/
def held : Reservation :=
  { order := 0, line := 0, car := 0, carrier := 5, lot := 1, count := 2, state := .queued, struck := false,
    expiry := some 300000, seq := 0, substitute := false }

/-- The pick of that reservation. -/
def pick : Pick := { res := ⟨0, 0⟩, order := 0, cls := 1, remaining := 2, struck := false }

/-- The PICK task that it stands in. -/
def pickTask : Task := { num := 0, cls := 1, carrier := 5, body := .pick [pick] }

/-- A PUT task of lot 1 on carrier 5. -/
def putTask : Task := { num := 1, cls := 1, carrier := 5, body := .put 1 1 1 0 }

/-- A sequencer at carrier 5 with an empty queue. -/
def still : Seq := { Seq.powerOn with state := .idle, place := some (0, 0), index := some 5, curtain := .clear, arrivals := 2 }

/-- A station with carousel 0 in bay 0, OPEN. -/
def desk : Stn :=
  { Stn.powerOn with configured := true, bays := (Vector.replicate 4 none).set 0 (some 0), opened := true,
                     attention := [0], curtains := Vector.replicate 4 .clear }

/-- A lane with a cart of three compartments, the first for order 0. -/
def bench : LaneRec :=
  { LaneRec.powerOn with configured := true, state := .coupled, input := ⟨true, true, false⟩, locked := true,
                         cart := some ⟨5000, 3, .tag⟩, comps := [⟨.picking, some ⟨0, 0, 30⟩⟩, ⟨.free, none⟩, ⟨.free, none⟩] }

/-- A running cell of one carousel, one station and one lane. -/
def cell : State :=
  let z := State.powerOn 9
  { z with
    fe := { z.fe with ring := .up, silence := some 20, nodes := map }
    lots := [(1, ⟨5, ⟨24, 10⟩, 200, 16, 10, .active, 4, 2, 1⟩), (2, ⟨5, ⟨24, 12⟩, 200, 16, 12, .active, 3, 0, 0⟩),
             (3, ⟨6, ⟨24, 10⟩, 200, 16, 9, .held, 0, 0, 0⟩)]
    stock := z.stock.set 0 (some (shelves five))
    balance := z.balance.set 0 (some scale)
    book := { z.book with orders := [(0, order)], pool := [(0, held)], arrivals := 1, creations := 1 }
    seqs := z.seqs.set 0 still
    stations := z.stations.set 0 desk
    lanes := z.lanes.set 0 bench
    mgmt := { z.mgmt with cell := .running } }

/-- The cell with another sequencer 0. -/
def cellSeq (q : Seq) : State := cell.setSeq 0 q

/-- The cell with another carrier 5. -/
def cellCar (x : Carrier) : State := cell.setStock 0 (some (shelves x))

/-- The cell LOADING, with nothing in progress. -/
def loading : State := cell.modMgmt fun m => { m with cell := .loading }

/-- The cell with another order 0. -/
def cellOrder (o : Order) : State := cell.modBook fun b => { b with orders := [(0, o)] }

/-- The cell with another reservation in place 0. -/
def cellRes (r : Reservation) : State := cell.modBook fun b => { b with pool := [(0, r)] }

/-- The cell with another station 0. -/
def cellStn (x : Stn) : State := cell.setStn 0 x

/-- The cell with another lane 0. -/
def cellLane (x : LaneRec) : State := cell.setLane 0 x

/-- The cell with its ring DOWN. -/
def dark : State := cell.modFe fun e => { e with ring := .down, silence := none }

/-- A PICK view of carrier 5. -/
def pickView : TaskView := { carrier := 5, cls := 1, body := .pick [⟨⟨0, 0⟩, 1, 2, .opened, false⟩] }

/-- Carousel 0 PRESENTING its PICK task to station 0, which HOLDs its grant, with the reservation PRESENTED. -/
def serving : State :=
  ((cellRes { held with state := .presented, expiry := none }).setSeq 0
    { still with state := .presenting, queue := [pickTask], current := some 0 }).setStn 0
    { desk with grant := .held 0 pickView, timer := .running 30000 }

/-- The same for a PUT task of one tyre of lot 1. -/
def putting : State :=
  (cellSeq { still with state := .presenting, queue := [putTask], current := some 1 }).setStn 0
    { desk with grant := .held 0 { carrier := 5, cls := 1, body := .put 1 1 }, timer := .running 30000 }

/-- The same for an AUDIT task of carrier 5, which is locked under a session; nothing is reserved or incoming there. -/
def auditing : State :=
  { ((cellCar { five with state := .auditLocked, placements := [⟨1, 4, 0, 0⟩, ⟨2, 3, 0, 0⟩] }).setSeq 0
      { still with state := .presenting, queue := [{ num := 1, cls := 1, carrier := 5, body := .audit false }],
                   current := some 1 }).setStn 0
      { desk with grant := .held 0 { carrier := 5, cls := 1, body := .audit false }, timer := .running 30000 } with
    requests := [⟨0, 5, false, 1, .host, 1, .inProgress⟩]
    sessions := (Vector.replicate 8 none).set 0 (some ⟨5, false, [(1, 4)], 0, 0, .running 180000⟩) }

/-! ## The checks of WellFormed -/

theorem test_wf_refuses_numbers :
    Instr.wf (.auditMark 0 64) = false ∧ Instr.wf (.holdHandover 1024) = false ∧ Instr.wf (.orderClassReport 0 4) = false ∧
    Instr.wf (.goneReport 256) = false ∧ Instr.wf (.deliveryReport 0 8 1) = false ∧
    Instr.wf (.compartmentReceipt 0 0 0 8) = false ∧ Instr.wf (.reserve 0 5 1 17) = false ∧
    Instr.wf (.auditTrim 0 5 1 64) = false ∧ Instr.wf (.transitRemoval 0 0 5300 .cart) = false ∧
    Instr.wf (.pickDrop 0 ⟨512, 0⟩) = false ∧ Instr.wf (.reservationExpiry 512) = false ∧
    Instr.wf (.transitTimeout 64) = false ∧ Instr.wf (.roundDeadlineExpiry 32) = false ∧
    Instr.wf (.nodeNotAnswered .drive 8) = false := by decide +kernel

theorem test_wf_refuses_bytes :
    Instr.wf (.tagRead (hdr 36) 1 256) = false ∧ Instr.wf (.candidateTest 0 0 65536) = false ∧
    Instr.wf (.massReport 0 [(0, 65536)]) = false ∧ Instr.wf (.frameWithdraw .transit 256) = false ∧
    Instr.wf (.timerWrite req 0 65536) = false ∧
    Instr.wf (.carouselConfigWrite req ⟨0, 8, 480, 15, 400, 0, 16777216, true, 0, 1, 1⟩) = false ∧
    Instr.wf (.stationConfigWrite req ⟨0, (Vector.replicate 4 none).set 0 (some 255), 1, 0⟩) = false ∧
    Instr.wf (.auditApply 0 5 [] 256 0) = false ∧ Instr.wf (.auditApply 0 5 (List.replicate 9 (1, 1)) 0 0) = false := by
  decide +kernel

theorem test_wf_refuses_frames :
    Instr.wf (.manualClaim { hdr 64 with dest := 10 }) = false ∧ Instr.wf (.manualClaim { hdr 41 with dest := 128 }) = false ∧
    Instr.wf (.forwardedFrame ⟨hdr 10, 256, 0, [], 0⟩) = false ∧ Instr.wf (.cellStatus { req with tag := 256 }) = false ∧
    Instr.wf (.divertReturn ⟨5, ⟨24, 54⟩⟩ none false .lost) = false ∧
    Instr.wf (.waitingReport ⟨0, 30⟩ 0 0 (some [1, 0])) = false ∧ Instr.wf (.waitingReport ⟨0, 30⟩ 0 0 (some [7])) = false ∧
    Instr.wf (.windowSet req 0 (some (255, 255))) = false ∧ Instr.wf (.cellStatus req) = true := by decide +kernel

/-! ## Figures from the spec -/

/-- Table FC-1: the check of the nine digits, as the polynomial, preset and inversion give it. -/
theorem test_crc : crc [0x31, 0x32, 0x33, 0x34, 0x35, 0x36, 0x37, 0x38, 0x39] = 0xD64E := by decide +kernel

/-- The carousel of the worked cases of 2.2 and 2.4. -/
def twelve : List Nat := [120, 80, 0, 200, 160, 40, 0, 60, 100, 180, 20, 40]

/-- 2.2, one carousel of twelve carriers. -/
theorem test_imbalance :
    totalMass twelve = 1000 ∧ (List.range 6).map (imbalanceAt twelve 6) = [200, 40, 80, 120, 80, 200] ∧
      worstImbalance twelve = 200 ∧ worstRotation twelve = 0 := by decide +kernel

/-- 2.4, four tyres more on carrier 2 and on carrier 8. -/
theorem test_candidates :
    worstImbalance (twelve.set 2 88) = 288 ∧ worstRotation (twelve.set 2 88) = 0 ∧
      worstImbalance (twelve.set 8 188) = 208 ∧ worstRotation (twelve.set 8 188) = 3 := by decide +kernel

/-- The record of 2.5. -/
def three : Balance :=
  { scale with p := 12, masses := twelve, soft := 200, hard := 250, speed := .normal, start := 15, normalPitch := 8, slowPitch := 16 }

/-- 2.5, travel plans on carousel 3. -/
theorem test_travel :
    three.travel 10 3 = .plan ⟨.forward, 5, .normal, 55, 160⟩ ∧
    { three with speed := .slow }.travel 10 3 = .plan ⟨.forward, 5, .slow, 95, 240⟩ ∧
    three.travel 3 10 = .plan ⟨.reverse, 5, .normal, 55, 160⟩ ∧
    { three with bidirectional := false }.travel 3 10 = .plan ⟨.forward, 7, .normal, 71, 192⟩ ∧
    three.travel 0 6 = .plan ⟨.forward, 6, .normal, 63, 176⟩ ∧ three.travel 4 4 = .there ∧
    { three with p := 64, start := 100, normalPitch := 100, bidirectional := false }.travel 1 0 =
      .plan ⟨.forward, 63, .normal, 6000, 12050⟩ := by decide +kernel

/-- Carousel 2 of the worked cases of chapter 1, with carrier 5 as given. -/
def period (x : Carrier) (l m : Lot) : State :=
  let z := State.powerOn 9
  { z with lots := [(17, l), (40, m)], stock := z.stock.set 2 (some (shelves x)) }

/-- Carrier 5 there, lot 17 with 9 tyres and lot 40 with 4. -/
def worked : State :=
  period { newCarrier false with doubleStack := true, placements := [⟨17, 9, 0, 0⟩, ⟨40, 4, 0, 0⟩] }
    ⟨17, ⟨24, 10⟩, 205, 16, 18, .active, 9, 0, 0⟩ ⟨40, ⟨24, 10⟩, 255, 19, 22, .active, 4, 0, 0⟩

/-- Chapter 1, room on one shelf. -/
theorem test_room : worked.roomQuery 2 5 40 2 = 0 ∧ worked.roomQuery 2 5 17 5 = 3 := by decide +kernel

/-- Chapter 1, one carrier through a working period, up to the first CONFIRM. -/
def workday : State :=
  [Instr.planIncoming 2 5 17 3, .reserve 2 5 40 3, .commitPut 2 5 17, .commitPick 2 5 40, .release 2 5 40 2,
    .returnIncoming 2 5 17 2].foldl (fun s c => after c s) worked

theorem test_workday :
    (workday.carrier 2 5).map (·.placements) = some [⟨17, 10, 0, 0⟩, ⟨40, 3, 0, 0⟩] ∧ workday.answer = .returned 2 ∧
      workday.mail = [.massReport 2 [(5, 268)], .stockRiseReport 17, .massReport 2 [(5, 246)]] := by decide +kernel

/-- Chapter 1, the audit that follows: 11 of lot 17, 2 of lot 40 and an unknown label. -/
theorem test_audit_apply :
    let s := period { newCarrier false with state := .auditLocked, placements := [⟨17, 10, 0, 0⟩] }
      ⟨17, ⟨24, 10⟩, 205, 16, 18, .active, 10, 0, 0⟩ ⟨40, ⟨24, 10⟩, 255, 19, 22, .active, 0, 0, 0⟩
    let t := after (.auditApply 2 5 [(17, 11), (40, 2)] 1 0) s
    (t.carrier 2 5).map (fun x => (x.state, x.placements, x.unknown)) =
        some (.unverified, [⟨17, 11, 0, 0⟩, ⟨40, 2, 0, 0⟩], 1) ∧
      t.mail = [.massReport 2 [(5, 242)], .stockRiseReport 17, .stockRiseReport 40] := by decide +kernel

/-! ## Witnesses: steps, pins and the ring -/

/-- A good frame of no concern to the part. -/
def other : WireFrame :=
  let h : Hdr := { dest := 51, source := 50, flags := 0, answer := 0 }
  { hdr := h, kind := 30, length := 0, payload := [], check := crc (headerBytes h 30 0) }

/-- The label of lot 1. -/
def label : Label := ⟨5, ⟨24, 10⟩⟩

/-- A frame of the part's own that is out. -/
def sent : Outstanding := { frame := frameTo (.seq 0) 10 (.statusQuery 0), deadline := 5 }

theorem witness_step_takes_front :
    ({ cell with pending := [.noticeSend, .replyOffer] }).pending = .noticeSend :: [.replyOffer] := rfl

theorem witness_step_on_its_own :
    cell.pending = [] ∧ dark.resetLow = false ∧ { dark with resetLow := true }.resetLow = true ∧ dark.clock = true ∧
      { dark with mail := [.noticeSend] }.mail = .noticeSend :: [] ∧ dark.mail = [] ∧ dark.autonomous = none ∧
      ({ dark with now := 300000 }).autonomous = some (.reservationExpiry 0) := by decide +kernel

theorem witness_pins : cell.queriesWait = false ∧ Instr.pin .frameSend = false ∧ { cell with resetLow := true }.resetLow = true := by decide +kernel

theorem witness_ring_states :
    cell.resetLow = false ∧ cell.fe.ring ≠ .down ∧ dark.fe.ring = .down ∧ dark.clock = true ∧ frameGood other = true ∧
      other.hdr.flags.getLsbD 0 = false ∧ dark.disposal other.hdr other.kind = .other ∧ restoreNodes dark ≠ [] ∧
      restoreNodes (dark.modFe fun e => { e with nodes := [] }) = [] ∧
      (dark.modFe fun e => { e with nodes := [] }).disposal other.hdr other.kind = .other ∧
      (let s := dark.modFe fun e => { e with ring := .restoring, restore := [(10, true), (11, false)], restoreDeadline := some 5 }
       s.fe.ring = .restoring ∧ s.fe.restoreDeadline = some 5) := by decide +kernel

theorem witness_passing_frames :
    frameGood other = true ∧ cell.takes other.hdr ∧ cell.disposal other.hdr other.kind = .other ∧
      frameGood { other with check := 0 } = false ∧ other.hdr.source ≠ cell.own ∧ cell.clock = true := by
  unfold State.takes; decide +kernel

theorem witness_fates :
    let s := cell.modFe fun e => { e with outstanding := [sent] }
    let h : Hdr := { hdr 9 with dest := 10 }
    s.resetLow = false ∧ s.fe.ring = .up ∧ sent.frame.dest < 64 ∧ s.fe.outstanding = sent :: [] ∧ h.source = s.own ∧
      h.flags.getLsbD 0 = false ∧ h.dest = sent.frame.dest ∧ s.fe.outstanding[0]? = some sent := by decide +kernel

/-- A transmit queue of 32 frames. -/
def full : State := cell.modFe fun e => { e with queue := List.replicate 32 (frameTo (.seq 1) 11 (.statusQuery 0)) }

theorem witness_transmit_queue :
    cell.address (.node .drive 0) = some 10 ∧ cell.fe.queue.length < 32 ∧ 32 ≤ full.fe.queue.length ∧
      full.fe.queue.getLast? = some (frameTo (.seq 1) 11 (.statusQuery 0)) ∧ payloadUrgent (.statusQuery 0) = false ∧
      payloadUrgent (.move .forward 3 5 .normal) = false ∧ payloadKind (.move .forward 3 5 .normal) = 1 ∧
      (full.seq 0).move = none ∧ full.address (.node .drive 0) = some 10 ∧ cell.address (.node .sorter 1) = none ∧ full.fe.queue.any (isFrameOf (.seq 1) (payloadKind (.statusQuery 0))) = true ∧
      full.fe.queue.any (isFrameOf (.seq 0) 3) = false ∧
      (let s := cell.modFe fun e => { e with queue := [sent.frame] }
       s.fe.queue = sent.frame :: [] ∧ s.fe.ring = .up ∧ s.clock = true ∧ s.fe.outstanding.length < 32) ∧
      (let f := frameTo .transit 40 (.divert label none false)
       let s := cell.modFe fun e => { e with kept := [f] }
       s.fe.kept = [f] ∧ f.block = .transit ∧ s.addressNow f = some 40 ∧ s.fe.queue.length < 32 ∧
         (s.modFe fun e => { e with nodes := [] }).nodeOf .sorter 0 = none) ∧ cell.fe.kept = [] := by decide +kernel

/-! ## Witnesses: drives, moves and curtains -/

/-- The move of carousel 0 from carrier 2 to carrier 5. -/
def trip : Move :=
  { target := 5, dir := .forward, dist := 3, speed := .normal, timeout := 78, deadline := 7800, resent := false, stop := none }

/-- Carousel 0 MOVING to its PICK task. -/
def moving : State :=
  cellSeq { still with state := .moving, index := some 2, queue := [pickTask], current := some 0, move := some trip }

/-- The same, STOPPING. -/
def stopping : State := moving.modSeq 0 fun q => { q with state := .stopping }

theorem witness_ring_loss :
    cell.resetLow = false ∧ (cell.seq 0).state.away = true ∧ (moving.seq 0).state = .moving ∧
      (stopping.seq 0).state = .stopping ∧ (serving.seq 0).state = .presenting ∧
      (let s := cellStn { desk with opened := false }
       (s.stn 0).opened = false ∧ (s.stn 0).panelLost = false ∧ s.fe.queue.any (isFrameOf (.station 0) 9) = false) := by
  decide +kernel

theorem witness_manual :
    let h : Hdr := { hdr 41 with dest := 10 }
    let c : Claim := { node := 41, carriers := [3], all := false, deadline := some 120000 }
    let s := cellSeq { still with state := .manual, claim := some c }
    cell.takes { hdr 24 with dest := 10 } ∧ cell.disposal { hdr 24 with dest := 10 } 1 = .foreign 0 ∧
      cell.mgmt.notices.length < 64 ∧ cell.takes h ∧ cell.disposal h 6 = .maint 0 ∧ (cell.seq 0).state.away = true ∧
      (let u := cellSeq { still with state := .disabled }; u.takes h ∧ u.disposal h 6 = .maint 0 ∧ (u.seq 0).state = .disabled) ∧
      s.takes h ∧ (s.seq 0).state = .manual ∧ (s.seq 0).claim = some c ∧ c.node = h.source ∧ s.disposal h 7 = .maint 0 ∧
      s.disposal h 5 = .maint 0 ∧ s.disposal h 8 = .maint 0 ∧ s.fe.ring = .up ∧ s.nodeOf .drive 0 = some 10 ∧
      s.fe.queue.length < 32 ∧ s.mgmt.notices.length < 64 ∧ (4 ∉ c.carriers ∧ c.carriers.length < 8) ∧ 3 ∈ c.carriers ∧
      c.deadline = some 120000 := by
  unfold State.takes; decide +kernel

theorem witness_statuses :
    moving.takes (field 10) ∧ moving.fe.ring = .up ∧ moving.disposal (field 10) 5 = .field .drive 0 false ∧
      (moving.seq 0).state = .moving ∧ (moving.seq 0).move = some trip ∧ (moving.seq 0).currentTask = some pickTask ∧
      trip.target < moving.carriersOf 0 ∧ (moving.seq 0).state.away = true ∧
      moving.carriersOf 0 ≤ 8 ∧ 7 < moving.carriersOf 0 ∧
      (let s := cellSeq { still with state := .fault }
       s.takes (field 10) ∧ s.disposal (field 10) 5 = .field .drive 0 false ∧ (s.seq 0).state = .fault) ∧
      (let s := cellSeq { still with state := .unconfigured }
       s.takes (field 10) ∧ s.disposal (field 10) 5 = .field .drive 0 false ∧ (s.seq 0).state = .unconfigured) := by
  unfold State.takes; decide +kernel

theorem witness_answers_after_a_move :
    let y (e : Option Nat) : Query := { num := 0, afterMove := true, answered := false, deadline := e }
    let m (e : Option Nat) (r : Bool) (short : Nat) : State :=
      moving.modSeq 0 fun q => { q with queries := [y e], move := some { trip with resent := r }, short := short }
    let c := (m (some 5) false 0).modSeq 0 fun q => { q with curtain := .broken }
    (∀ (r : Bool) (e : Option Nat), e = none ∨ e = some 5 → ∀ n < 2, (m e r n).takes (field 10) ∧ (m e r n).fe.ring = .up ∧
      (m e r n).disposal (field 10) 5 = .field .drive 0 false ∧ 4 < (m e r n).carriersOf 0 ∧
      (m e r n).nodeOf .drive 0 = some 10 ∧ (m e r n).fe.queue.length < 32 ∧ ((m e r n).seq 0).state = .moving ∧
      ((m e r n).seq 0).move = some { trip with resent := r } ∧ ((m e r n).seq 0).currentTask = some pickTask ∧
      trip.target < (m e r n).carriersOf 0 ∧ (∃ z ∈ ((m e r n).seq 0).queries, z.afterMove = true) ∧
      (e.isSome = true ↔ ∃ z ∈ ((m e r n).seq 0).queries, z.afterMove = true ∧ z.deadline ≠ none) ∧
      ((m e r n).seq 0).short = n) ∧
      (4 : Nat) ≠ trip.target ∧ (m (some 5) false 0).travelPlan 0 4 5 = .plan ⟨.forward, 1, .slow, 11, 72⟩ ∧
      (m none false 0).travelPlan 0 4 5 = .plan ⟨.forward, 1, .slow, 11, 72⟩ ∧ c.mgmt.cell = .running ∧
      c.presentable 0 pickTask = true ∧ 4 ≠ pickTask.carrier ∧ (c.seq 0).curtain ≠ .clear := by
  unfold State.takes
  refine ⟨?_, by decide +kernel⟩
  rintro r e (rfl | rfl) <;> revert r <;> decide +kernel

theorem witness_query_fates :
    let x : Query := { num := 0, afterMove := false, answered := false, deadline := some 5 }
    let z : Query := { num := 1, afterMove := false, answered := false, deadline := some 6 }
    let s (c : CarState) (done : Bool) : State := cellSeq { still with state := c, queries := [{ x with answered := done }, z], asked := 2 }
    (∀ c ∈ [CarState.unknown, .manual, .disabled, .unconfigured, .fault], ∀ done : Bool, (s c done).resetLow = false ∧
      ((s c done).seq 0).state = c ∧ { x with answered := done } ∈ ((s c done).seq 0).queries ∧
      (∀ y ∈ ((s c done).seq 0).queries, y ≠ { x with answered := done } → ∀ e, y.deadline = some e → 5 < e)) ∧
      CarState.unknown.away = true ∧ { z with deadline := none, answered := true } ∈ answeredQueries [x, { z with deadline := none }] := by
  refine ⟨?_, by decide +kernel⟩
  intro c hc done
  refine ⟨rfl, ?_, ?_, ?_⟩ <;> simp [cellSeq, State.seq, State.setSeq, cell]

theorem witness_move_fates :
    moving.resetLow = false ∧ (moving.seq 0).move = some trip ∧ moving.nodeOf .drive 0 = some 10 ∧
      moving.fe.queue.length < 32 ∧ (moving.seq 0).state = .moving ∧ (stopping.seq 0).state = .stopping ∧
      (stopping.seq 0).move = some trip := by decide +kernel

theorem witness_curtains :
    (moving.seq 0).state = .moving ∧ moving.fe.queue.any (isFrameOf (.seq 0) 1) = false ∧
      (stopping.seq 0).state ≠ .moving ∧ (stopping.seq 0).state ≠ .idle ∧
      (let s := cellSeq { still with curtain := .broken }; (s.seq 0).curtain = .broken) ∧
      (let s := stopping.modSeq 0 fun q => { q with curtain := .settling, settle := some 9 }
       (s.seq 0).curtain = .settling ∧ (s.seq 0).settle = some 9 ∧ (s.seq 0).state ≠ .idle) ∧
      (stopping.modFe fun e => { e with nodes := [] }).nodeOf .drive 0 = none ∧ (stopping.seq 0).built = none := by
  decide +kernel

/-! ## Witnesses: tasks -/

/-- Carousel 0 READY with its PICK task. -/
def ready : State := cellSeq { still with state := .ready, queue := [pickTask], current := some 0 }

theorem witness_tasks_join :
    ready.resetLow = false ∧ (ready.seq 0).state ≠ .idle ∧ (ready.seq 0).taskFor .pick 5 = some pickTask ∧
      pickTask.picks.length < 8 ∧ (ready.seq 0).isGranted pickTask = false ∧ (ready.seq 0).taskFor .pick 4 = none ∧
      (ready.seq 0).queue.length < 16 ∧
      (let s := cellSeq { still with state := .ready, queue := List.replicate 16 pickTask }
       (s.seq 0).taskFor .pick 4 = none ∧ 16 ≤ (s.seq 0).queue.length ∧ s.closedTo 0 4 = false ∧
         (s.seq 0).taskFor .put 4 = none ∧ (s.seq 0).taskFor .audit 4 = none) ∧
      (let low : Pick := { res := ⟨1, 1⟩, order := 1, cls := 0, remaining := 1, struck := false }
       (∃ p ∈ [pick] ++ [low], p.struck = false ∧ p.cls = 0) ∧ (∀ p ∈ [pick] ++ [low], p.struck = false → 0 ≤ p.cls) ∧
         pickTask.body = .pick [pick] ∧ (0 : Sys2Proof.Class) ≠ pickTask.cls) ∧
      ready.closedTo 0 9 = true ∧ ready.closedTo 0 5 = false ∧ (ready.seq 0).taskFor .put 5 = none ∧
      (ready.seq 0).taskFor .audit 5 = none ∧
      (let s := cellSeq { still with state := .ready, queue := [{ putTask with body := .audit false }] }
       s.closedTo 0 5 = false ∧ ((s.seq 0).taskFor .audit 5).isSome = true) ∧
      (let s := cellSeq { still with state := .ready, queue := [putTask] }
       s.closedTo 0 5 = false ∧ ((s.seq 0).taskFor .put 5).isSome = true) := by decide +kernel

theorem witness_task_order :
    let x : Task := { num := 5, cls := 0, carrier := 5, body := .audit false }
    pickTask.kind ≠ .audit ∧ [putTask].Pairwise (fun a b => Task.behind a b = true) ∧
      (∀ y ∈ [putTask], y.num < { pickTask with num := 3 }.num) ∧ x.kind = .audit ∧ putTask.kind = .put ∧
      putTask.carrier = x.carrier ∧ (∀ z ∈ [pickTask], Task.is .put x.carrier z = false) ∧
      (∃ z ∈ [pickTask] ++ [putTask], Task.behind x z = true) := by decide +kernel

theorem witness_task_choice :
    let s := cellSeq { still with queue := [pickTask] }
    let u := cellSeq { still with queue := [pickTask], index := some 2 }
    (s.seq 0).state = .idle ∧ (s.seq 0).current = none ∧ (s.seq 0).built = none ∧ s.stationOf 0 = some 0 ∧
      (cell.seq 0).queue.find? (cell.presentable 0) = none ∧ (s.seq 0).queue.find? (s.presentable 0) = some pickTask ∧
      (s.seq 0).taskNum pickTask.num = some pickTask ∧ (s.seq 0).index = some pickTask.carrier ∧ s.mgmt.cell ≠ .loading ∧
      (u.seq 0).queue.find? (u.presentable 0) = some pickTask ∧ (u.seq 0).index = some 2 ∧
      u.travelPlan 0 2 5 = .plan ⟨.forward, 3, .slow, 23, 96⟩ ∧ u.nodeOf .drive 0 = some 10 ∧ u.fe.queue.length < 32 := by
  decide +kernel

theorem witness_held_and_puts :
    let s := ready.modSeq 0 fun q => { q with queue := [putTask], held := [{ res := ⟨0, 0⟩, carrier := 5, count := 2, order := 0, cls := 1 }] }
    s.resetLow = false ∧ (s.seq 0).taskOf ⟨0, 0⟩ = none ∧ (s.seq 0).state ≠ .idle ∧ (s.seq 0).taskFor .put 5 = some putTask ∧
      s.resOf ⟨0, 0⟩ = some held ∧ 1 = min 1 held.count ∧ s.resOf ⟨9, 0⟩ = none ∧ (s.seq 0).taskOf ⟨9, 0⟩ = none ∧
      (let p : Task := { putTask with body := .put 1 3 2 0 }
       let u := ready.modSeq 0 fun q => { q with queue := [p] }
       (u.seq 0).taskFor .put 5 = some p ∧ p.body = .put 1 3 2 0) := by decide +kernel

/-- Carousel 0 PRESENTING a task of two picks of order 0. -/
def two : Task := { pickTask with body := .pick [pick, { pick with res := ⟨1, 1⟩ }] }

/-- It, served. -/
def servingTwo : State :=
  (serving.modSeq 0 fun q => { q with queue := [two] }).modBook fun b =>
    { b with pool := [(0, { held with state := .presented }), (1, { held with state := .presented, seq := 1 })] }

theorem witness_granted_pick :
    servingTwo.resetLow = false ∧ (servingTwo.seq 0).taskOf ⟨0, 0⟩ = some two ∧ (servingTwo.seq 0).granted = some two ∧
      servingTwo.grantedBy 0 = some 0 ∧ ((servingTwo.seq 0).queue.map (·.num)).Nodup ∧
      servingTwo.resOf ⟨0, 0⟩ = some { held with state := .presented } ∧ (servingTwo.stn 0).grant = .held 0 pickView ∧
      (∃ p ∈ two.picks, p.res ≠ ⟨0, 0⟩ ∧ p.opened = true) := by decide +kernel

theorem witness_audit_task :
    let x : Task := { num := 3, cls := 1, carrier := 5, body := .audit false }
    let s := ready.modSeq 0 fun q => { q with queue := [putTask, x], current := none }
    s.resetLow = false ∧ (s.seq 0).state ≠ .idle ∧ (s.seq 0).taskFor .audit 5 = some x ∧ (s.seq 0).current ≠ some x.num ∧
      ((s.seq 0).taskFor .put 5).isSome = true ∧ (s.seq 0).held = [] ∧ (withoutTask x.num (s.seq 0).queue).length < 16 := by
  decide +kernel

theorem witness_grants :
    let s := ready.setStn 0 { desk with grant := .offered 0 }
    s.resetLow = false ∧ (∀ l : Station, (s.stn l).offeree = some 0 ↔ l = 0) ∧ (s.seq 0).state = .ready ∧
      (s.seq 0).currentTask = some pickTask ∧ (s.stn 0).queue = [] ∧ (s.stn 0).lock = none ∧ s.mgmt.timers.attention ≠ 0 ∧
      (serving.seq 0).state = .presenting ∧ (serving.seq 0).currentTask = some pickTask ∧ (serving.seq 0).held = [] ∧
      serving.grantedBy 0 = some 0 ∧ (serving.stn 0).grant = .held 0 pickView ∧ (serving.stn 0).group = [] ∧
      ((serving.seq 0).queue.map (·.num)).Nodup ∧ (serving.stn 0).queue = [] ∧ (serving.stn 0).timer = .running 30000 := by decide +kernel

theorem witness_put_task_ends :
    putting.resetLow = false ∧ (putting.seq 0).state = .presenting ∧ (putting.seq 0).currentTask = some putTask ∧
      (putting.seq 0).queue = [putTask] ∧ putTask.body = .put 1 1 1 0 ∧ (putting.seq 0).held = [] ∧
      putting.grantedBy 0 = some 0 ∧ (putting.stn 0).grant = .held 0 { carrier := 5, cls := 1, body := .put 1 1 } ∧
      (putting.stn 0).group = [] ∧ (putting.stn 0).mode = .every ∧ (putting.stn 0).queue = [] ∧
      putting.mgmt.notices.length < 64 := by decide +kernel

theorem witness_pick_task_ends :
    serving.presents 0 0 pickTask pickView ∧ (serving.seq 0).queue = [pickTask] ∧ pickView.body = .pick [⟨⟨0, 0⟩, 1, 2, .opened, false⟩] ∧
      serving.restOfPicks 0 pickTask { pickTask with num := 2 } ∧ pickTask.num < (serving.seq 0).arrivals ∧
      (serving.seq 0).index = some pickTask.carrier ∧ serving.carrierState 0 pickTask.carrier ≠ some .auditLocked ∧
      serving.mgmt.cell ≠ .loading ∧ serving.keyActs 0 .confirm ∧ (serving.stn 0).serving = true ∧ (serving.stn 0).lock = none ∧
      putting.presents 0 0 putTask { carrier := 5, cls := 1, body := .put 1 1 } ∧ putting.keyActs 0 .confirm ∧
      (putting.stn 0).serving = true ∧ (putting.stn 0).lock = none ∧ (putting.seq 0).queue = [putTask] := by
  have e : serving.restOfPicks 0 pickTask { pickTask with num := 2 } := ⟨[pick], 1, rfl, by decide +kernel, by decide +kernel⟩
  unfold State.presents State.keyActs
  refine ⟨by decide +kernel, by decide +kernel, by decide +kernel, e, ?_⟩
  decide +kernel

theorem witness_task_classes :
    (ready.seq 0).state ≠ .idle ∧ ready.order 0 = some order ∧ (∀ x ∈ (ready.seq 0).queue, ∀ p ∈ x.picks, p.order ≠ 9) := by
  decide +kernel

/-! ## Witnesses: stock and balance -/

theorem witness_stock_entries :
    cell.resetLow = false ∧ cell.carrier 0 5 = some five ∧ (five.placements.map (·.lot)).Nodup ∧
      placementOf 1 five.placements = some ⟨1, 4, 2, 1⟩ ∧ 0 < min 3 (4 - 2) ∧ five.state = .normal ∧ five.excluded = false ∧
      cell.lotActive 1 = true ∧ 0 < min 3 2 ∧ placementOf 2 five.placements = some ⟨2, 3, 0, 0⟩ ∧
      placementOf 3 five.placements = none ∧ 0 < (cell.lotOr 1).mass ∧ five.serves = true ∧ reservedOf 2 five.placements = 0 ∧
      incomingOf 2 five.placements = 0 ∧ cell.roomTest 0 5 1 2 = true ∧ cell.lotActive 3 = false ∧
      cell.roomTest 0 5 1 17 = false ∧ 0 < min 3 1 ∧ min 3 0 = 0 ∧
      (let x := { five with state := .disabled }; (cellCar x).carrier 0 5 = some x ∧ x.state = .disabled) := by decide +kernel

theorem witness_audit_states :
    let p (st : CarrierState) : Carrier := { five with state := st, placements := [⟨1, 4, 2, 0⟩] }
    (cellCar (p .auditPending)).carrier 0 5 = some (p .auditPending) ∧ (∀ x ∈ (p .auditPending).placements, x.incoming = 0) ∧
      (cellCar (p .auditLocked)).carrier 0 5 = some (p .auditLocked) ∧
      (cellCar { five with state := .auditPending }).carrier 0 5 = some { five with state := .auditPending } ∧
      (∃ x ∈ five.placements, 0 < x.incoming) ∧
      (∀ x ∈ (p .auditLocked).placements, x.reserved ≤ min (tallyOf x.lot [(1, 3)]) 63) ∧
      (∀ e ∈ [(1, 3)], (placementOf e.1 (p .auditLocked).placements).isSome = true) ∧
      (∃ x ∈ (p .auditLocked).placements, min (tallyOf x.lot [(1, 1)]) 63 < x.reserved) := by decide +kernel

theorem witness_exclusions :
    cell.stockCar 0 = some (shelves five) ∧ [5, 6].Nodup ∧
      ∀ x ∈ (shelves five).carriers, (x.placements.map (·.lot)).Nodup := by decide +kernel

theorem witness_balance :
    cell.bal 0 = some scale ∧ cell.stockCar 0 = some (shelves five) ∧ cell.carrier 0 5 = some five ∧ 2 ≤ twelve.length ∧
      (cell.candidateWith 0 150 5 (2 * 10)).pass = true ∧ cell.bal 1 = none ∧ scale.p ≤ 8 ∧ 2 < scale.p ∧ 5 < scale.p ∧
      (2 + scale.p - 5) % scale.p = 5 ∧ (5 + scale.p - 2) % scale.p = 3 ∧
      (let m := (cell.setBal 0 (some { scale with soft := 70, speed := .slow }))
       m.bal 0 = some { scale with soft := 70, speed := .slow } ∧ m.mgmt.notices.length < 64) := by decide +kernel

/-! ## Witnesses: the Order Book -/

/-- Order 0 short of two tyres, with nothing else of its article in the cell. -/
def hungry : State :=
  { cellCar { five with placements := [⟨1, 4, 2, 0⟩] } with lots := [(1, ⟨5, ⟨24, 10⟩, 200, 16, 10, .active, 4, 2, 0⟩)] }

/-- Its line. -/
def line : Line :=
  { article := 5, quantity := 4, window := none, reserved := 2, inTransit := 0, delivered := 0, taken := [], avoid := none,
    waitingReported := false }

theorem witness_lines_resolve :
    hungry.order 0 = some order ∧ order.lines[0]? = some line ∧ order.state = .picking ∧ 0 < line.need ∧
      hungry.book.freed = false ∧ hungry.linesWhere (fun x => x.article = line.article) = [(0, 0)] ∧
      hungry.linesWhere (fun x => decide (0 < x.need)) = [(0, 0)] ∧
      (let s := hungry.modBook fun b => { b with pool := [] }
       s.candidates 5 none none = [{ lot := 1, week := 1281, avail := 2 }] ∧
         s.freePlacements 1 none none = [{ car := 0, carrier := 5, count := 2 }] ∧
         s.carrier 0 5 = some { five with placements := [⟨1, 4, 2, 0⟩] } ∧
         placementOf 1 [⟨1, 4, 2, 0⟩] = some ⟨1, 4, 2, 0⟩ ∧ { five with placements := [⟨1, 4, 2, 0⟩] }.takesNew = true ∧
         findLive 0 0 0 5 1 s.book.pool = none ∧ s.book.pool.length < 512 ∧ s.order 0 = some order ∧
         s.linesWhere (fun x => x.article = line.article) = [(0, 0)]) ∧
      (let l := { line with reserved := 0 }
       let s : State := { (cellOrder { order with lines := [l] }) with lots := [] }
       s.candidates 5 none none = [] ∧ l.state = .waiting ∧ l.waitingReported = false ∧
         s.linesWhere (fun x => x.article = l.article) = [(0, 0)] ∧ s.mgmt.notices.length < 64) := by decide +kernel

theorem witness_compartments :
    let s := (cellOrder { order with state := .opened, comp := none }).modBook fun b => { b with pool := [] }
    s.order 0 = some { order with state := .opened, comp := none } ∧ order.leaving = false ∧
      cell.order 0 = some order ∧ order.state ≠ .opened ∧ cell.order 9 = none ∧
      (let u := cell.modBook fun b => { b with pool := [] }
       u.order 0 = some order ∧ u.livePlaces (fun r => r.order = 0) = [] ∧ u.book.freed = false ∧ order.state = .picking) ∧
      (let o := { order with state := .cancelled }
       let u := (cellOrder o).modBook fun b => { b with pool := [] }
       u.order 0 = some o ∧ u.livePlaces (fun r => r.order = 0) = [] ∧ u.struckLeft 0 = false ∧
         twf u.book.orders = true) ∧
      s.livePlaces (fun r => r.order = 0) = [] := by decide +kernel

theorem witness_transit_reports :
    let l := { line with quantity := 2, reserved := 0, inTransit := 1, delivered := 1, taken := [1281] }
    let o := { order with lines := [l] }
    let s := (cellOrder o).modBook fun b => { b with pool := [] }
    s.order 0 = some o ∧ o.lines[0]? = some l ∧ 1 ≤ l.inTransit ∧
      Order.allDelivered { o with lines := o.lines.set 0 (Line.settled { l with inTransit := 0, delivered := 2 }) } = true ∧
      o.state = .picking ∧ s.mgmt.notices.length < 64 ∧ s.struckLeft 0 = false ∧ twf s.book.orders = true ∧
      (let p := { o with state := .opened, comp := none }; (cellOrder p).order 0 = some p ∧ p.leaving = false) ∧
      (let p := { order with lines := [{ l with quantity := 3 }] }
       (cellOrder p).order 0 = some p ∧
         Order.allDelivered { p with lines := p.lines.set 0 (Line.settled { l with quantity := 3, inTransit := 0, delivered := 2 }) } =
           false) ∧
      (let p := { o with state := .cancelled }
       (cellOrder p).order 0 = some p ∧ p.state ≠ .picking ∧ p.state ≠ .opened ∧
         Order.allDelivered { p with lines := p.lines.set 0 (Line.settled { l with inTransit := 0, delivered := 2 }) } = true) ∧
      (let p := { order with state := .complete }; (cellOrder p).order 0 = some p ∧ p.state = .complete) ∧
      cell.order 9 = none := by decide +kernel

theorem witness_reservation_reports :
    let x := { held with state := .presented, expiry := none }
    let y := { held with state := .held }
    let z := { x with struck := true }
    cell.resOf ⟨0, 0⟩ = some held ∧ held.state ≠ .held ∧ held.state ≠ .presented ∧ (cellRes x).resOf ⟨0, 0⟩ = some x ∧
      (cellRes y).resOf ⟨0, 0⟩ = some y ∧ (cellRes z).resOf ⟨0, 0⟩ = some z ∧ cell.resOf ⟨1, 0⟩ = none ∧
      newestOf 0 4 1 cell.book.pool = none ∧ newestOf 0 5 1 cell.book.pool = some (0, held) ∧
      cell.reservation 0 = some held ∧ twf cell.book.pool = true ∧ held.substitute = false ∧ cell.order 0 = some order ∧
      order.lines[0]? = some line ∧ order.leaving = false ∧ cell.book.poolFull = false ∧ cell.book.freed = false ∧
      2 ≤ held.count ∧
      (let w := { held with count := 1 }; (cellRes w).resOf ⟨0, 0⟩ = some w ∧ w.count = 1) := by decide +kernel

theorem witness_releases :
    let x := { held with state := .presented, expiry := none }
    cell.reservation 0 = some held ∧ held.struck = false ∧ held.substitute = false ∧ 1 ≤ held.count ∧
      twf cell.book.pool = true ∧ held.seq < cell.book.creations ∧ held.expiry ≠ none ∧ cell.mgmt.cell ≠ .halted ∧
      held.state ≠ .presented ∧ (cellRes x).reservation 0 = some x ∧ x.state = .presented ∧ x.count ≤ 2 ∧
      cell.livePlaces (fun r => r.lot = 9) = [] ∧ cell.livePlaces (fun r => r.car = 1 && r.carrier ∈ [5]) = [] ∧
      cell.resOf ⟨9, 0⟩ = none ∧ x.expiry = none := by decide +kernel

theorem witness_trims :
    let x := { held with state := .presented, expiry := none }
    cell.reservedAt 0 5 1 ≤ 2 ∧ cell.trimOrder 0 5 1 = 0 :: [] ∧ cell.reservation 0 = some held ∧
      1 = cell.reservedAt 0 5 1 - 1 ∧ 1 < held.count ∧ cell.resOf ⟨0, 0⟩ = some held ∧ held.state ≠ .presented ∧
      (cellRes x).resOf ⟨0, 0⟩ = some x ∧ 2 ≠ x.lot ∧
      1 ≤ (cellRes x).reservedAt 0 5 1 ∧ (cellRes x).book.poolFull = false ∧ 1 ≤ line.reserved ∧
      (let y := { x with substitute := true }; (cellRes y).resOf ⟨0, 0⟩ = some y ∧ y.substitute = true) := by decide +kernel

/-- A line with a window of 2 weeks, and one with a window of 1: lot 2 is two weeks younger than lot 1. -/
theorem witness_substitution_allowed :
    let x := { held with state := .presented, expiry := none }
    let y := (cellRes x).modOrder 0 fun o => { o with lines := o.lines.map fun l => { l with window := some 2 } }
    let z := (cellRes x).modOrder 0 fun o => { o with lines := o.lines.map fun l => { l with window := some 1 } }
    y.lotActive 2 = true ∧ y.book.pool.length < 512 ∧ y.carrier x.car x.carrier = some five ∧ five.state = .normal ∧
      five.excluded = false ∧ placementOf 2 five.placements = some ⟨2, 3, 0, 0⟩ ∧
      (y.line 0 0).any (fun l => decide (l.window = some 2) && l.taken.isEmpty) = true ∧ y.lotWeek 2 = y.lotWeek 1 + 2 ∧
      y.maySubstitute x 0 2 = true ∧ z.maySubstitute x 0 2 = false := by decide +kernel

/-! ## Witnesses: stations -/

theorem witness_readiness :
    (cell.stn 0).atRest ∧ (desk.attention.find? fun j => (desk.ready.set 0 true)[j]) = some 0 ∧ (cell.stn 0).serving = true ∧
      cell.mgmt.cell = .running ∧ (cell.stn 0).grant = .absent ∧
      (desk.attention.find? fun j => (desk.ready.set 0 false)[j]) = none ∧ (cell.stn 0).wait ≠ .conveyor ∧
      (let x := { desk with queue := [⟨.opening, ⟨5, ⟨24, 10⟩⟩⟩], wait := .conveyor }
       let s := (cellStn x).modMgmt fun m => { m with cell := .halted }
       (s.stn 0).wait = .conveyor ∧ s.mgmt.cell ≠ .running ∧ (s.stn 0).queue ≠ []) := by
  unfold Stn.atRest; decide +kernel

theorem witness_scans :
    servingTwo.takes (field 24) ∧ servingTwo.fe.ring = .up ∧ servingTwo.disposal (field 24) 11 = .field .openingReader 0 false ∧
      servingTwo.disposal (field 28) 11 = .field .inboundReader 0 false ∧ (servingTwo.stn 0).serving = true ∧
      (servingTwo.stn 0).atRest ∧ servingTwo.mgmt.cell = .running ∧ (servingTwo.stn 0).grant = .held 0 pickView ∧
      (∀ x ∈ servingTwo.lots, x.2.article ≠ 8) ∧ (servingTwo.stn 0).mode ≠ .none ∧
      servingTwo.lotOf label = some (1, ⟨5, ⟨24, 10⟩, 200, 16, 10, .active, 4, 2, 1⟩) ∧
      [(⟨⟨0, 0⟩, 1, 2, .opened, false⟩ : ViewPick)].find? (fun r => r.lot = 1 && viewOpen r) =
        some ⟨⟨0, 0⟩, 1, 2, .opened, false⟩ ∧
      0 = tfree 0 servingTwo.transit.places ∧ servingTwo.pickTakes 0 5 1 = true ∧
      servingTwo.resOf ⟨0, 0⟩ = some { held with state := .presented } ∧ servingTwo.order 0 = some order ∧
      order.lines[0]? = some line ∧ servingTwo.holding 0 = some (0, 0, ⟨.picking, some ⟨0, 0, 30⟩⟩) ∧
      (servingTwo.lane 0).state = .coupled ∧ servingTwo.nodeOf .sorter 0 = some 40 ∧ servingTwo.fe.queue.length < 32 ∧
      (servingTwo.stn 0).mode = .every ∧ servingTwo.mgmt.notices.length < 64 ∧
      (servingTwo.seq 0).taskOf ⟨0, 0⟩ = some two ∧ (∃ z ∈ two.picks, z.res ≠ ⟨0, 0⟩ ∧ z.opened = true) := by
  unfold State.takes Stn.atRest; decide +kernel

theorem witness_other_scans :
    let s := cellStn { desk with mode := .none }
    let u := cellStn { desk with opened := false }
    s.takes (field 24) ∧ s.disposal (field 24) 11 = .field .openingReader 0 false ∧ (s.stn 0).atRest ∧
      (s.stn 0).grant = .absent ∧ (s.stn 0).nextReady = none ∧ (s.stn 0).mode = .none ∧ (u.stn 0).serving = false ∧
      (let x := cellStn { desk with queue := List.replicate 8 ⟨.opening, label⟩ }
       (x.stn 0).serving = true ∧ 8 ≤ (x.stn 0).queue.length) ∧
      (loading.stn 0).serving = true ∧ (loading.stn 0).queue.length < 8 ∧ loading.mgmt.cell ≠ .running ∧
      (auditing.stn 0).atRest ∧ (auditing.stn 0).serving = true ∧
      (auditing.stn 0).grant = .held 0 { carrier := 5, cls := 1, body := .audit false } ∧
      cell.lotOf label = some (1, ⟨5, ⟨24, 10⟩, 200, 16, 10, .active, 4, 2, 1⟩) ∧ (cell.stn 0).batch = none ∧
      (cell.stn 0).nextReady = none := by
  unfold State.takes Stn.atRest; decide +kernel

/-- The served pick with a WRONG-LOT lock of an opening entry. -/
def locked : State :=
  serving.modStn 0 fun x => { x with queue := [⟨.opening, label⟩], lock := some .wrongLot, timer := .suspended }

theorem witness_station_keys :
    let closed := cellStn { desk with opened := false }
    closed.keyActs 0 .signOn ∧ (closed.stn 0).opened = false ∧ (closed.stn 0).atRest ∧ (closed.stn 0).nextReady = none ∧
      cell.keyActs 0 .signOn ∧ (cell.stn 0).opened = true ∧ cell.keyActs 0 .signOff ∧ (cell.stn 0).grant = .absent ∧
      (cell.stn 0).planning = none ∧ closed.keyActs 0 .signOff := by
  unfold State.keyActs Stn.atRest; decide +kernel

theorem witness_clear_keys :
    locked.keyActs 0 .clearReject ∧ locked.keyActs 0 .recount ∧ (locked.stn 0).serving = true ∧
      (locked.stn 0).lock = some .wrongLot ∧ (locked.stn 0).grant = .held 0 pickView ∧
      (locked.stn 0).queue = [⟨.opening, label⟩] ∧ (cell.stn 0).lock = none := by
  unfold State.keyActs; decide +kernel

theorem witness_task_keys :
    serving.keyActs 0 .short ∧ shortPick pickView = some ⟨⟨0, 0⟩, 1, 2, .opened, false⟩ ∧ (serving.stn 0).queue = [] ∧
      (serving.stn 0).lock = none ∧ (cell.stn 0).holder = none ∧ auditing.keyActs 0 .confirm ∧
      (auditing.stn 0).grant = .held 0 { carrier := 5, cls := 1, body := .audit false } ∧ locked.keyActs 0 .short ∧
      locked.keyActs 0 .confirm := by
  unfold State.keyActs; decide +kernel

theorem witness_batch_end :
    let b : Batch := { lot := 3, count := 1, closing := false }
    let s := cellStn { desk with batch := some b }
    let u := cellStn { desk with
      batch := some b, planning := some ⟨1, 2, 2, 0, 0⟩, waitList := List.replicate 4 ⟨0, 5, 1, 1, 2, 0⟩ }
    s.keyActs 0 .batchEnd ∧ (s.stn 0).batch = some b ∧ (s.stn 0).plannerFull = false ∧ s.lotActive 3 = false ∧
      (u.stn 0).plannerFull = true ∧ (u.stn 0).serving = true := by
  unfold State.keyActs; decide +kernel

theorem witness_accept :
    let s := serving.modStn 0 fun x =>
      { x with queue := [⟨.opening, ⟨5, ⟨24, 12⟩⟩⟩], lock := some .wrongLot, timer := .suspended }
    let p : ViewPick := ⟨⟨0, 0⟩, 1, 2, .opened, false⟩
    let x := { held with state := .presented, expiry := none }
    s.keyActs 0 .clearAccept ∧ (s.stn 0).serving = true ∧ (s.stn 0).lock ≠ none ∧
      s.acceptAllowed 0 = some (⟨.opening, ⟨5, ⟨24, 12⟩⟩⟩, 0, pickView, p, 2) ∧ 0 = tfree 0 s.transit.places ∧
      s.book.poolFull = false ∧ s.book.freed = false ∧ s.resOf ⟨0, 0⟩ = some x ∧
      (takeSubstitution ⟨0, 0⟩ 2 s).2 = some ⟨1, 1⟩ ∧ (takeSubstitution ⟨0, 0⟩ 2 s).1.pickTakes 0 5 2 = true ∧
      s.holding 0 = some (0, 0, ⟨.picking, some ⟨0, 0, 30⟩⟩) ∧ (s.lane 0).state = .coupled ∧
      ((s.order 0).any fun o => !o.leaving) = true ∧ twf s.book.pool = true ∧
      (let u := s.modStn 0 fun x => { x with lock := some .unknown }; u.acceptAllowed 0 = none ∧ (u.stn 0).lock ≠ none) ∧
      (let u := s.modTransit fun t => { t with places := (List.range 64).map fun n => (n, .held 1) }
       (u.acceptAllowed 0).isSome = true ∧ 64 ≤ tfree 0 u.transit.places) := by
  unfold State.keyActs; decide +kernel

theorem witness_views_and_panels :
    (∀ v, (cell.stn 0).grant ≠ .held 0 v) ∧ (serving.stn 0).grant = .held 0 pickView ∧
      serving.resOf ⟨0, 0⟩ = some { held with state := .presented, expiry := none } ∧
      (let p : Part := ⟨0, 4, 1, 2, 2, 0⟩
       let s := (cellSeq { still with state := .ready }).setStn 0 { desk with waitList := [p] }
       (s.stn 0).waitList = [p] ∧ p.car = 0 ∧ (s.stn 0).planning = none ∧ s.closedTo 0 4 = false ∧
         (s.seq 0).taskFor .put 4 = none ∧ (s.seq 0).queue.length < 16 ∧ (s.seq 0).state ≠ .idle) ∧
      (let s := cellStn { desk with opened := false }
       (s.stn 0).panelLost = false ∧ (s.stn 0).opened = false ∧ (s.stn 0).curtains[0] ≠ .broken) ∧
      (let s := cellStn { desk with opened := false, panelLost := true }
       s.takes (field 20) ∧ s.disposal (field 20) 10 = .field .panel 0 false ∧ (s.stn 0).configured = true ∧
         (s.stn 0).panelLost = true ∧ (s.stn 0).opened = false ∧ (s.stn 0).atRest) := by
  unfold State.takes Stn.atRest
  refine ⟨fun v h => ?_, by decide +kernel⟩
  have e : (cell.stn 0).grant = .absent := by decide +kernel
  rw [e] at h; cases h

/-! ## Witnesses: the conveyor and the lanes -/

/-- A tyre of order 0 on its way to lane 0. -/
def onBelt : Place := .entry 0 30 0 1 1281 0 0 0 120000 0 false

theorem witness_transit_list :
    let s := cell.modTransit fun t => { t with places := [(0, .held 0)] }
    let u := cell.modTransit fun t => { t with places := (List.range 64).map fun n => (n, .held 1) }
    let w := cell.modTransit fun t => { t with places := [(0, onBelt)] }
    twf s.transit.places = true ∧ tfree 0 s.transit.places < 64 ∧ twf u.transit.places = true ∧
      64 ≤ tfree 0 u.transit.places ∧ s.place 0 = some (.held 0) ∧ s.place 1 ≠ some (.held 0) ∧ s.nodeOf .sorter 0 = some 40 ∧
      s.fe.queue.length < 32 ∧ s.holding 0 = some (0, 0, ⟨.picking, some ⟨0, 0, 30⟩⟩) ∧ (s.lane 0).state = .coupled ∧
      s.holding 9 = none ∧ s.mgmt.notices.length < 64 ∧ twf w.transit.places = true ∧ w.place 0 = some onBelt ∧
      (w.lane 0).state ≠ .flushing ∧ w.takes (field 36) ∧ w.disposal (field 36) 11 = .field .laneReader 0 false ∧
      w.nodeOf .laneController 0 = some 32 ∧ w.arriving 0 label = some (0, onBelt) ∧ w.arriving 0 ⟨9, ⟨24, 10⟩⟩ = none := by
  unfold State.takes; decide +kernel

/-- A lane in a state with its contacts, without a cart. -/
def bare (st : LaneState) (made : Bool) : LaneRec :=
  { LaneRec.powerOn with configured := true, state := st, input := ⟨made, made, false⟩ }

theorem witness_tags_and_contacts :
    let s := cellLane { bare .identifying true with timer := some 5000 }
    let e := cellLane (bare .empty false)
    let c := cell
    s.nodeOf .laneController 0 = some 32 ∧ s.fe.queue.length < 32 ∧ s.takes (field 36) ∧ s.fe.ring = .up ∧
      s.disposal (field 36) 17 = .field .laneReader 0 false ∧ (s.lane 0).state = .identifying ∧
      (s.lane 0).controllerLost = false ∧ s.transit.waiting = [] ∧ (e.lane 0).state ≠ .identifying ∧
      e.takes (field 32) ∧ e.disposal (field 32) 12 = .field .laneController 0 false ∧ (e.lane 0).state = .empty ∧
      (e.lane 0).input.contactA ≠ true ∧ (s.lane 0).input.contactA = true ∧ c.takes (field 32) ∧
      c.disposal (field 32) 12 = .field .laneController 0 false ∧ (c.lane 0).state = .coupled ∧ (c.lane 0).orders = [0] ∧
      c.transit.places = [] ∧ (c.lane 0).lostOrders = [(0, 30)] ∧
      c.laneNamed 0 = false ∧ c.mgmt.notices.length < 64 ∧ (∀ m : Lane, m ≠ 0 → (c.lane m).state ≠ .flushing) ∧
      (c.lane 0).controllerLost = false := by
  unfold State.takes; decide +kernel

/-- Bytes by R39, R137, R144 and R147: the order's reference follows its handle. -/
theorem test_notices_carry_references :
    bNotice (.transitLost 3 0x01020304 1 5 (some (2, 4)) 0 false) = [3, 1, 2, 3, 4, 1, 0, 5, 2, 4, 0, 0] ∧
      bNotice (.cartLost 1 0x0A [(3, 0x01020304)] 2) = [1, 0, 0, 0, 10, 1, 3, 1, 2, 3, 4, 2] ∧
      (cell.lane 0).requestComps = [(0, 30, .picking)] := by decide +kernel

theorem witness_button_and_timers :
    let w := cellLane (bare .releaseWait true)
    let d := cellLane { bare .seating true with timer := some 2000 }
    let i := cellLane { bare .identifying true with timer := some 5000 }
    let f := cellLane { bench with comps := [freeComp] }
    (cell.lane 0).configured = true ∧ (cell.lane 0).controllerLost = false ∧ (cell.lane 0).input.button = false ∧
      (cell.lane 0).state = .coupled ∧ (∃ c ∈ (cell.lane 0).comps, c.working = true) ∧
      (∀ c ∈ (f.lane 0).comps, c.working = false) ∧ f.laneNamed 0 = false ∧ (i.lane 0).state = .identifying ∧
      (w.lane 0).state = .releaseWait ∧ (d.lane 0).state = .seating ∧ (d.lane 0).timer = some 2000 ∧
      d.nodeOf .laneReader 0 = some 36 ∧ d.fe.queue.length < 32 ∧ (cell.lane 0).state ≠ .seating ∧
      (i.lane 0).timer = some 5000 ∧ i.mgmt.notices.length < 64 ∧ (cell.lane 0).state ≠ .identifying ∧
      cell.nodeOf .laneController 0 = some 32 := by decide +kernel

theorem witness_assignment :
    let e := cellLane (bare .empty false)
    let x : Waiting := { handle := 3, seq := 4, ref := 31, cls := 1, lanes := none }
    let s := e.modTransit fun t => { t with waiting := [x] }
    let p := cellLane { bench with comps := [⟨.pending, some ⟨0, 0, 30⟩⟩] }
    (∀ l : Lane, (e.lane l).state ≠ .coupled) ∧ s.transit.waiting.find? (fun y => y.handle = 3) = some x ∧
      e.transit.waiting.find? (fun y => y.handle = 3) = none ∧ (∀ m : Lane, (cell.lane m).state = .coupled ↔ m = 0) ∧
      (cell.lane 0).controllerLost = false ∧ position (fun x => decide (x.state = .free)) (cell.lane 0).comps = some 1 ∧
      cell.transit.waiting = [] ∧ x.admits 0 = true ∧ cell.holding 0 = some (0, 0, ⟨.picking, some ⟨0, 0, 30⟩⟩) ∧
      (cell.lane 0).state ≠ .releaseWait ∧ cell.holding 9 = none ∧
      (p.lane 0).comps[0]? = some { state := .pending, order := some ⟨0, 0, 30⟩ } ∧
      (cell.lane 0).comps[0]? ≠ some { state := .pending, order := some ⟨0, 0, 30⟩ } ∧
      (let q := cellLane { bench with comps := [⟨.complete, some ⟨0, 0, 30⟩⟩] }
       q.holding 0 = some (0, 0, ⟨.complete, some ⟨0, 0, 30⟩⟩)) := by decide +kernel

/-! ## Witnesses: audits -/

/-- An audit request of carrier 5. -/
def asked (st : Stage) : AuditReq := ⟨0, 5, false, 1, .host, 0, st⟩

theorem witness_audit_requests :
    let s : State := { cell with requests := [asked .listed] }
    let f : State := { cell with requests := (List.range 32).map fun n => { asked .queued with carrier := n + 6 } }
    let b : State := { ready with requests := [asked .listed] }
    let t : State := { cell with requests := [{ asked .queued with carrier := 4 }] }
    let z : State := (cellCar { five with excluded := true }).modSeq 0 fun q => { q with state := .ready }
    s.auditReq 0 5 = some (asked .listed) ∧ (asked .listed).stage ≠ .queued ∧ cell.auditReq 0 5 = none ∧
      f.auditReq 0 5 = none ∧ 32 ≤ f.requests.length ∧ cell.requests.length < 32 ∧ cell.carrier 0 5 = some five ∧
      (five.placements.map (·.lot)).Nodup ∧ (t.auditReq 0 5 = none ∧ t.taskStanding 0 = true) ∧
      (ready.taskStanding 0 = false ∧ ready.nextAudit 0 = none ∧ (ready.seq 0).state ≠ .disabled ∧
        (ready.seq 0).state ≠ .idle ∧ (ready.seq 0).queue.length < 16 ∧ (ready.seq 0).taskFor .audit 5 = none) ∧
      (b.taskStanding 0 = false ∧ b.nextAudit 0 = some (asked .listed) ∧ b.closedTo 0 5 = false ∧ (b.seq 0).taskFor .audit 5 = none) ∧
      (let u : State := { z with requests := [asked .queued] }
       u.requests = [asked .queued] ∧ (asked .queued).car = 0 ∧ (asked .queued).stage = .queued ∧ u.closedTo 0 5 = true ∧
         (u.seq 0).taskFor .audit 5 = none) ∧
      (let u := b.modSeq 0 fun q => { q with queue := [{ putTask with body := .audit false }] }
       u.taskStanding 0 = false ∧ u.nextAudit 0 = some (asked .listed) ∧ u.closedTo 0 5 = false ∧
         ((u.seq 0).taskFor .audit 5).isSome = true) ∧
      (let u := b.modSeq 0 fun q => { q with queue := List.replicate 16 pickTask }
       u.taskStanding 0 = false ∧ u.nextAudit 0 = some (asked .listed) ∧ 16 ≤ (u.seq 0).queue.length ∧
         (u.seq 0).taskFor .audit 5 = none) := by decide +kernel

/-- R164: the counted carrier 5 is closed by a window, whose hand-back waits; the window goes and the request is cancelled, so that it
is offered anew; the hand-back then leaves its one task and its stage. -/
theorem test_stale_hand_back :
    let s := [Instr.windowSet req 0 (some (5, 5)), .windowSet req 0 none, .auditCancel req 0 5, .auditHandBack 0 (some 5)].foldl
      (fun s c => after c s) { auditing with requests := [asked .inProgress] }
    (s.requests.map fun r => (r.carrier, r.abandons, r.stage)) = [(5, 1, .queued)] ∧
      ((s.seq 0).queue.map fun t => (t.kind, t.carrier)) = [(.audit, 5)] ∧ .auditHandBack 0 (some 5) ∈ s.mail := by
  decide +kernel

/-- R71: an AUDIT offer for a carrier whose AUDIT task stands places no second one. -/
theorem test_second_audit_offer :
    let s := after (.auditOffer 0 5 true 0) (ready.modSeq 0 fun q => { q with queue := [{ putTask with body := .audit false }] })
    s.answer = .duplicate ∧ (s.seq 0).queue = [{ putTask with body := .audit false }] := by decide +kernel

theorem witness_audit_counts :
    let x : Session := ⟨5, false, [(1, 4)], 0, 0, .running 180000⟩
    let y : Session := { x with tally := (List.range 8).map fun n => (n, 1) }
    let c := { five with state := .auditPending, placements := [⟨1, 4, 0, 0⟩] }
    let g : State := { auditing.setStock 0 (some (shelves c)) with requests := [asked .queued] }
    let r : State := { auditing with requests := [asked .inProgress] }
    let n : State := g.setSession 0 none
    n.auditReq 0 5 = some (asked .queued) ∧ n.auditHeld 0 5 = true ∧ n.carrier 0 5 = some c ∧ n.session 0 = none ∧
      c.state = .auditPending ∧ (∀ p ∈ c.placements, p.incoming = 0) ∧ r.auditReq 0 5 = some (asked .inProgress) ∧
      r.auditHeld 0 5 = true ∧ (asked .inProgress).stage = .inProgress ∧ r.session 0 = some x ∧ (∃ e ∈ x.tally, e.1 = 1) ∧
      (∀ e ∈ x.tally, e.1 ≠ 2) ∧ x.tally.length < 8 ∧ (∀ e ∈ y.tally, e.1 ≠ 9) ∧ 8 ≤ y.tally.length ∧
      (r.setSession 0 (some y)).session 0 = some y ∧ (asked .inProgress).abandons = 0 ∧
      (r.carrier 0 5).map (·.state) = some .auditLocked := by decide +kernel

/-- Carousel 0 PRESENTING an AUDIT task of carrier 5 without a session, among such tasks, with the carrier and the requests given. -/
def offered (q : List Task) (z : Carrier) (rs : List AuditReq) : State :=
  { ((auditing.setStock 0 (some (shelves z))).modSeq 0 fun x => { x with queue := q }).setSession 0 none with requests := rs }

/-- That AUDIT task. -/
def auditTask : Task := { num := 1, cls := 1, carrier := 5, body := .audit false }

/-- Carrier 5 AUDIT-PENDING, with a tyre incoming. -/
def pending : Carrier := { five with state := .auditPending }

theorem witness_offered (q : List Task) (z : Carrier) (rs : List AuditReq) (h : q = [auditTask] ∨ q = [{ putTask with num := 0 }, auditTask]) :
    (offered q z rs).presents 0 0 auditTask { carrier := 5, cls := 1, body := .audit false } := by
  have f (x : List Task) : (offered x z rs).seq 0 = { (auditing.seq 0) with queue := x } := by
    simp [offered, State.modSeq, State.setSession, State.seq, State.setSeq, State.setStock]
  have e : ((offered q z rs).seq 0).currentTask = some auditTask := by
    rw [f]; rcases h with rfl | rfl <;> decide +kernel
  have a : auditing.presents 0 0 auditTask { carrier := 5, cls := 1, body := .audit false } := by
    unfold State.presents; decide +kernel
  have c : ((offered q z rs).seq 0).state = (auditing.seq 0).state ∧ ((offered q z rs).seq 0).held = (auditing.seq 0).held := by
    rw [f]; exact ⟨rfl, rfl⟩
  exact ⟨a.1, c.1.trans a.2.1, e, c.2.trans a.2.2.2.1, a.2.2.2.2.1, a.2.2.2.2.2⟩

theorem witness_audit_grants_turned_away :
    let y : Task := { putTask with num := 0 }
    let b := offered [y, auditTask] pending [asked .queued]
    let c := offered [auditTask] pending [asked .queued]
    let d := offered [auditTask] five [asked .queued]
    (offered [auditTask] five []).auditReq 0 5 = none ∧ (b.seq 0).queue = [y, auditTask] ∧ b.auditReq 0 5 = some (asked .queued) ∧
      b.session 0 = none ∧ b.carrier 0 5 = some pending ∧ (∃ p ∈ pending.placements, 0 < p.incoming) ∧ y.num ≠ auditTask.num ∧
      y.carrier = 5 ∧ y.body = .put 1 1 1 0 ∧ (b.seq 0).index = some 5 ∧ b.mgmt.cell ≠ .loading ∧
      (c.seq 0).queue = [auditTask] ∧ c.requests = [asked .queued] ∧ c.auditReq 0 5 = some (asked .queued) ∧
      c.session 0 = none ∧ c.carrier 0 5 = some pending ∧ (d.seq 0).queue = [auditTask] ∧ d.requests = [asked .queued] ∧
      d.auditReq 0 5 = some (asked .queued) ∧ d.session 0 = none ∧ d.carrier 0 5 = some five ∧ five.state ≠ .auditPending := by
  decide +kernel

theorem witness_audit_ends :
    let x : Task := { num := 1, cls := 1, carrier := 5, body := .audit false }
    let v : TaskView := { carrier := 5, cls := 1, body := .audit false }
    let y : Session := ⟨5, false, [(1, 4)], 0, 0, .running 180000⟩
    let r : AuditReq := ⟨0, 5, false, 1, .host, 1, .inProgress⟩
    let z : Carrier := { five with state := .auditLocked, placements := [⟨1, 4, 0, 0⟩, ⟨2, 3, 0, 0⟩] }
    auditing.resetLow = false ∧ (auditing.seq 0).state = .presenting ∧ (auditing.seq 0).currentTask = some x ∧
      (auditing.seq 0).queue = [x] ∧ x.body = .audit false ∧ (auditing.seq 0).held = [] ∧ auditing.grantedBy 0 = some 0 ∧
      (auditing.stn 0).grant = .held 0 v ∧ (auditing.stn 0).group = [] ∧ (auditing.stn 0).queue = [] ∧
      auditing.session 0 = some y ∧ y.carrier = x.carrier ∧ auditing.requests = [r] ∧ r.car = 0 ∧ r.carrier = x.carrier ∧
      auditing.carrier 0 5 = some z ∧ z.state = .auditLocked ∧ (z.placements.map (·.lot)).Nodup ∧
      (∀ p ∈ z.placements, p.reserved = 0) ∧ auditing.mgmt.notices.length < 64 ∧ y.timer = .running 180000 ∧
      1 ≤ r.abandons := by decide +kernel

/-! ## Witnesses: the Management Unit -/

/-- A notice that waits. -/
def note : Notice := { seq := 0, body := .cartUnread 0 }

/-- A notice of a fault. -/
def faultNote : Notice := { seq := 0, body := .carouselFault 0 .drive none .idle }

theorem witness_notices_and_replies :
    let one := cell.modMgmt fun m => { m with notices := [note] }
    let many := cell.modMgmt fun m => { m with notices := List.replicate 64 faultNote }
    let mix := cell.modMgmt fun m => { m with notices := note :: List.replicate 63 faultNote }
    let p : Reply := { dest := 2, kind := 64, tag := 7, result := .done, content := [] }
    let rep := cell.modMgmt fun m => { m with replies := [p] }
    let all := cell.modMgmt fun m => { m with replies := List.replicate 16 p }
    cell.mgmt.notices.length < 64 ∧ 64 ≤ many.mgmt.notices.length ∧ noticeFaultGroup (.cartUnread 0) = false ∧
      (∀ n ∈ many.mgmt.notices, noticeFaultGroup n.body = true) ∧
      mix.mgmt.notices = [] ++ note :: List.replicate 63 faultNote ∧ noticeFaultGroup faultNote.body = true ∧
      noticeFaultGroup note.body = false ∧ cell.mgmt.replies = [] ∧ cell.mgmt.resend = [] ∧ cell.mgmt.notices = [] ∧
      one.mgmt.notices = note :: [] ∧ one.nodeOf .gateway 0 = some 2 ∧ one.fe.queue.length < 32 ∧ rep.mgmt.replies = p :: [] ∧
      cell.takes req.hdr ∧ cell.disposal req.hdr 0 = .request ∧ 16 ≤ all.mgmt.replies.length := by
  unfold State.takes; decide +kernel

theorem witness_second_sendings :
    let p : Reply := { dest := 2, kind := 64, tag := 7, result := .done, content := [] }
    let again := cell.modMgmt fun m => { m with resend := [faultNote], notices := [note] }
    let both := cell.modMgmt fun m => { m with replies := [p], notices := [note] }
    let f := (full.modMgmt fun m => { m with replies := [p], notices := [note] })
    let g := cell.modFe fun e => { e with nodes := [] }
    again.mgmt.replies = [] ∧ again.mgmt.resend = faultNote :: [] ∧ again.nodeOf .gateway 0 = some 2 ∧
      again.fe.queue.length < 32 ∧ both.mgmt.replies = [p] ∧ both.mgmt.resend = [] ∧ both.mgmt.notices = note :: [] ∧
      both.nodeOf .gateway 0 = some 2 ∧ both.fe.queue.length < 31 ∧ 32 ≤ f.fe.queue.length ∧ f.mgmt.replies ≠ [] ∧
      (f.nodeOf .gateway 0).isSome = true ∧ f.mgmt.notices ≠ [] ∧ g.mgmt.replies = [] ∧ g.nodeOf .gateway 0 = none := by
  decide +kernel

theorem witness_halts :
    let trip : Move := { target := 3, dir := .forward, dist := 2, speed := .normal, timeout := 50, deadline := 9000,
                         resent := false, stop := none }
    let away (q : List Task) (i : Nat) : State :=
      cellSeq { still with state := .moving, index := some i, queue := q, current := some 1, move := some trip }
    let queued (s : State) : State :=
      s.modFe fun e => { e with queue := [{ dest := 10, urgent := false, block := .seq 0, payload := .move .forward 2 3 .normal }] }
    let w := queued (away [putTask] 1)
    let u := queued (away [putTask] 5)
    ((away [putTask] 1).seq 0).state = .moving ∧ (away [putTask] 1).fe.queue.any (isFrameOf (.seq 0) 1) = false ∧
      w.fe.queue.any (isFrameOf (.seq 0) 1) = true ∧ w.asks req ∧ w.mgmt.cell = .running ∧ w.fe.queue.length < 32 ∧
      (∀ x ∈ (w.seq 0).queue, (w.seq 0).index ≠ some x.carrier) ∧ (u.seq 0).queue = [putTask] ∧
      (u.seq 0).index = some putTask.carrier ∧ u.presentable 0 putTask = true ∧
      (serving.seq 0).state = .presenting ∧ (serving.seq 0).currentTask = some pickTask ∧ serving.grantedBy 0 = some 0 ∧
      (serving.stn 0).grant = .held 0 pickView ∧ (serving.seq 0).held = [] ∧ ((serving.seq 0).queue.map (·.num)).Nodup ∧
      serving.asks req ∧ serving.mgmt.cell = .running := by
  unfold State.asks State.takes; decide +kernel

theorem witness_requests :
    cell.asks req ∧ loading.asks req ∧ cell.mgmt.cell = .running ∧ loading.mgmt.cell ≠ .running ∧ loading.mayRun = true ∧
      (∀ i : Station, (loading.stn i).queue = []) ∧ (State.powerOn 9).mayRun = false ∧
      (let s := cell.modMgmt fun m => { m with cell := .halted }; s.asks req ∧ s.mgmt.cell = .halted ∧ s.mayRun = true) ∧
      (let s := cell.modFe fun e => { e with ring := .restoring, restore := [(10, false)], restoreDeadline := some 5 }
       s.asks req ∧ s.fe.ring = .restoring ∧ restoreNodes s ≠ []) ∧
      (loading.seq 0).state = .idle ∧ (loading.nodeOf .drive 0).isSome = true ∧ cell.fe.ring = .up := by
  unfold State.asks State.takes; decide +kernel

theorem witness_setting_requests :
    roleOfCode 1 = some .drive ∧ (50 : Nat) ≠ loading.own ∧ 3 < roleUnits .drive ∧ loading.nodeTaken 50 .drive 3 = false ∧
      loading.mgmt.cell = .loading ∧ (∀ k : Carousel, (loading.seq k).claim = none) ∧ loading.own ∉ [10, 11] ∧ [10, 11].Nodup ∧
      (let s := loading.setLane 0 (bare .empty false)
       s.asks req ∧ s.mgmt.cell = .loading ∧ (s.lane 0).state = .empty ∧ (s.lane 0).input.contactA = false) := by
  unfold State.asks State.takes; decide +kernel

theorem witness_unit_writes :
    let c : CarouselCfg := ⟨1, 8, 480, 15, 400, 60, 150, true, 5, 3, 6⟩
    let b : Vector (Option Nat) 4 := (Vector.replicate 4 none).set 1 (some 2)
    carouselInRange c = true ∧ (loading.seq 1).state = .unconfigured ∧ loading.stockCar 1 = none ∧ loading.bal 1 = none ∧
      (loading.nodeOf .drive 1).isSome = true ∧ modeOfCode 2 = some .grouped ∧ loading.mgmt.cell = .loading ∧
      (∀ j : Station, j ≠ 1 → (loading.stn j).has 2 = false) ∧ (loading.stn 1).configured = false ∧
      (loading.stn 1).waitList = [] ∧ (loading.stn 1).bays = Vector.replicate 4 none ∧ (loading.stn 1).group = [] ∧
      b = (Vector.replicate 4 none).set 1 (some 2) := by decide +kernel

theorem witness_lots_and_carriers :
    let x : Carrier := { five with placements := [⟨1, 4, 0, 0⟩] }
    let s := (cellCar x).modMgmt fun m => { m with cell := .loading }
    (cell.lot 1).map (·.state) = some .active ∧ (cell.lot 3).map (·.state) = some .held ∧ cell.lot 9 = none ∧
      cell.lotInUse 1 = true ∧ cell.lotInUse 3 = false ∧ twf cell.lots = true ∧
      (∃ e ∈ cell.lots, e.1 ≠ 9 ∧ e.2.article = 5 ∧ e.2.week = ⟨24, 10⟩) ∧
      (∀ e ∈ cell.lots, e.1 ≠ 9 → e.2.article = 8 → e.2.week ≠ ⟨24, 10⟩) ∧ cell.lotInUse 9 = false ∧
      s.asks req ∧ s.carrier 0 5 = some x ∧ [(1, 4), (2, 0)].length ≤ 4 ∧ ([(1, 4), (2, 0)].map (·.1)).Nodup ∧
      (∀ e ∈ [(1, 4), (2, 0)], e.1 ≤ 1023 ∧ e.2 ≤ 63 ∧ (s.lot e.1).isSome = true) ∧ s.mgmt.cell = .loading ∧
      (∀ p ∈ x.placements, p.reserved = 0 ∧ p.incoming = 0) ∧ (∃ p ∈ five.placements, 0 < p.reserved ∨ 0 < p.incoming) := by
  unfold State.asks State.takes; decide +kernel

theorem witness_orders :
    let o := { order with state := .suspended, comp := none }
    let e := cell.modBook fun b => { b with pool := [] }
    let full := cell.modBook fun b => { b with orders := (List.range 256).map fun n => (n, order) }
    1 = tfree 0 cell.book.orders ∧ cell.mgmt.cell ≠ .loading ∧ loading.mgmt.cell = .loading ∧
      256 ≤ tfree 0 full.book.orders ∧ cell.order 9 = none ∧ (cellOrder o).order 0 = some o ∧
      (cellOrder o).struckLeft 0 = false ∧ twf (cellOrder o).book.orders = true ∧ e.order 0 = some order ∧
      order.state = .picking ∧ e.livePlaces (fun r => r.order = 0) = [] ∧ e.book.freed = false ∧
      (let p := { order with state := .complete }; (cellOrder p).order 0 = some p) := by decide +kernel

theorem witness_carousels :
    let a := cellSeq { still with state := .fault, fault := some .drive }
    let m := cellSeq { still with state := .manual }
    let d := cellSeq { still with state := .disabled }
    let r := cellSeq { still with state := .ready }
    cell.asks req ∧ (cell.seq 1).state = .unconfigured ∧ (cell.seq 0).state = .idle ∧ (a.seq 0).state = .fault ∧
      (a.nodeOf .drive 0).isSome = true ∧ (m.seq 0).state = .manual ∧ (d.seq 0).state = .disabled ∧
      cell.stockCar 0 = some (shelves five) ∧ (shelves five).carriers ≠ [] ∧ (cell.seq 0).queue = [] ∧ (cell.seq 0).held = [] ∧
      (∀ x ∈ (shelves five).carriers, (x.placements.map (·.lot)).Nodup) ∧ (cell.seq 0).move = none ∧
      (r.seq 0).state = .ready ∧ (r.seq 0).window = none ∧ 6 < (shelves five).carriers.length ∧ a.asks req ∧ m.asks req ∧
      d.asks req ∧ r.asks req := by
  unfold State.asks State.takes; decide +kernel

theorem witness_carrier_and_lane_requests :
    let t : State := { cell with requests := [{ asked .queued with carrier := 4 }] }
    let p : State := { cellCar { five with state := .auditPending } with requests := [asked .listed] }
    let f : State := { cell with requests := (List.range 32).map fun n => { asked .queued with carrier := n + 6 } }
    let w := (cellLane { bench with state := .releaseWait }).modTransit fun t => { t with places := [(0, onBelt)] }
    t.asks req ∧ t.auditReq 0 5 = none ∧ t.requests.length < 32 ∧ t.taskStanding 0 = true ∧ t.carrier 0 5 = some five ∧
      f.auditReq 0 5 = none ∧ 32 ≤ f.requests.length ∧ p.auditReq 0 5 = some (asked .listed) ∧ locked.asks req ∧
      (locked.stn 0).lock = some .wrongLot ∧ (locked.stn 0).queue = [⟨.opening, label⟩] ∧ (cell.stn 0).lock = none ∧
      w.asks req ∧ (w.lane 0).state = .releaseWait ∧ w.laneNamed 0 = true ∧
      (let s := cellLane (bare .identifying true)
       s.asks req ∧ (s.lane 0).state = .identifying ∧ (s.lane 0).controllerLost = false ∧ s.transit.waiting = []) ∧
      (let s := cellLane (bare .closed false); s.asks req ∧ (s.lane 0).state = .closed) := by
  unfold State.asks State.takes; decide +kernel

/-! ## Witnesses: the invariants -/

/-- The small cell, with nothing left to do but to let time pass. -/
def calm : State := { cell with book := { cell.book with pool := [] } }

theorem witness_balance_kept : calm.balanceSound ∧ step calm = .next calm.tick := by
  refine ⟨fun k b h => ?_, by rfl⟩
  have a : ∀ k : Carousel, (calm.bal k).all Balance.sound = true := by decide +kernel
  have e := a k
  rw [h] at e
  exact e

theorem witness_settings_kept : calm.settingsSound ∧ calm.tablesWf = true := by
  unfold State.settingsSound; decide +kernel

theorem witness_bounds_kept :
    (calm.queuesBounded ∧ calm.placesBounded) ∧ calm.tasksNumbered ∧ calm.lawL11 ∧ step calm = .next calm.tick :=
  ⟨by unfold State.queuesBounded State.placesBounded; decide +kernel, by unfold State.tasksNumbered; decide +kernel,
    by unfold State.lawL11; decide +kernel, witness_balance_kept.2⟩

/-! ## Witnesses: ring traffic beside the plain case -/

/-- Two frames of the part's own that are out, to different drives. -/
def twoOut : State :=
  cell.modFe fun e => { e with outstanding := [sent, { sent with frame := frameTo (.seq 1) 11 (.statusQuery 0) }] }

/-- A HALT to the group G0 of drives 10 and 11 is out. -/
def groupOut : State :=
  cell.modFe fun e =>
    { e with groups := e.groups.set 0 [10, 11], outstanding := [⟨frameTo .management 64 (.halt false), 5⟩] }

theorem witness_other_returns :
    let h : Hdr := { hdr 9 with dest := 11 }
    twoOut.resetLow = false ∧ twoOut.fe.ring = .up ∧ h.source = twoOut.own ∧ h.flags.getLsbD 0 = false ∧
      twoOut.fe.outstanding[1]? = some { sent with frame := frameTo (.seq 1) 11 (.statusQuery 0) } ∧ h.dest < 64 ∧
      payloadKind (.statusQuery 0) = 4 ∧ (∀ o ∈ twoOut.fe.outstanding.take 1, o.frame.dest < 64 ∧ entryIs h.dest 4 o = false) ∧
      (∀ o ∈ twoOut.fe.outstanding, entryIs 12 4 o = false) := by decide +kernel

theorem witness_group_frames :
    let o : Outstanding := ⟨frameTo .management 64 (.halt false), 5⟩
    let h : Hdr := { hdr 9 with dest := 64 }
    groupOut.resetLow = false ∧ groupOut.fe.ring = .up ∧ groupOut.fe.outstanding = o :: [] ∧ o.frame.dest = 64 + (0 : Fin 8).val ∧
      h.source = groupOut.own ∧ h.flags.getLsbD 0 = false ∧ h.dest = o.frame.dest ∧ (groupOut.node 10).role = .drive ∧
      (groupOut.node 10).unit = (0 : Carousel).val ∧ (groupOut.node 20).role ≠ .drive := by decide +kernel

/-- A transmit queue of 32 frames of a block and a payload. -/
def fullOf (b : Block) (p : Payload) : State := moving.modFe fun e => { e with queue := List.replicate 32 (frameTo b 10 p) }

theorem witness_pushed_out :
    let ok (b : Block) (p : Payload) : Prop := (fullOf b p).resetLow = false ∧ 32 ≤ (fullOf b p).fe.queue.length ∧
      (fullOf b p).fe.queue.getLast? = some (frameTo b 10 p) ∧ (frameTo b 10 p).urgent = false
    cell.address (.node .drive 0) = some 10 ∧ payloadUrgent (.halt false) = true ∧ ok (.seq 1) (.statusQuery 0) ∧
      ok (.station 0) (.panelShow { light := none, view := .closed, message := none }) ∧
      ok .management (.reply 64 7 .done []) ∧ ok .management (.notice note false) ∧ ok (.seq 0) (.move .forward 3 5 .normal) ∧
      ((fullOf (.seq 0) (.move .forward 3 5 .normal)).seq 0).move = some trip := by decide +kernel

theorem witness_no_node :
    let s := cellStn { desk with opened := false }
    cell.address (.node .drive 7) = none ∧ (cell.seq 0).state.away = true ∧ (s.stn 0).opened = false ∧
      (s.stn 0).panelLost = false ∧ s.fe.queue.any (isFrameOf (.station 0) 9) = false ∧ s.address (.node .panel 3) = none := by
  decide +kernel

/-- The closed display's content. -/
def shut : Content := { light := none, view := .closed, message := none }

/-- A station whose content waits to be sent. -/
def waits : State := cellStn { desk with display := { sent := none, waiting := some shut } }

theorem witness_space_reports :
    let f := frameTo (.seq 0) 10 (.statusQuery 0)
    let s := cell.modFe fun e => { e with kept := [f] }
    let u := cell.modMgmt fun m => { m with replies := [⟨2, 64, 7, .done, []⟩], notices := [note] }
    s.fe.kept = [f] ∧ f.block = .seq 0 ∧ s.fe.queue.length < 32 ∧ (s.seq 0).built = none ∧ cell.fe.kept = [] ∧
      (cell.stn 0).display.waiting = none ∧ waits.fe.kept = [] ∧ (waits.stn 0).display.waiting = some shut ∧
      (waits.stn 0).configured = true ∧ (waits.stn 0).panelLost = false ∧ waits.nodeOf .panel 0 = some 20 ∧
      waits.fe.queue.any (isFrameOf (.station 0) 9) = false ∧ u.fe.kept = [] ∧ u.mgmt.replies = [⟨2, 64, 7, .done, []⟩] ∧
      u.mgmt.resend = [] ∧ u.mgmt.notices = [note] ∧ u.gateway = some 2 ∧ u.fe.queue.length < 31 ∧ cell.mgmt.replies = [] ∧
      cell.mgmt.resend = [] ∧ cell.mgmt.notices = [] := by decide +kernel

theorem witness_ring_states_at_blocks :
    let s := dark.setSeq 0 { still with queue := [pickTask], current := some 0, index := some 2 }
    (cell.seq 7).state = .unconfigured ∧ (s.seq 0).state = .idle ∧ (s.seq 0).currentTask = some pickTask ∧
      s.presentable 0 pickTask = true ∧ (s.seq 0).index ≠ some pickTask.carrier ∧ s.fe.ring = .down ∧
      (ready.seq 0).state ≠ .idle ∧ (cell.stn 0).latest = none ∧ (waits.stn 0).latest ≠ none ∧
      (waits.stn 0).configured = true ∧ (waits.stn 0).panelLost = false ∧ waits.nodeOf .panel 0 = some 20 := by decide +kernel

theorem witness_restore_answers :
    let f (s : State) : State := s.modFe fun e => { e with ring := .restoring, restore := [(10, false), (20, true)] }
    let s := f (cellSeq { still with state := .fault })
    let u := f ((cellStn { desk with configured := false }).setLane 0 { bench with configured := false })
    s.takes (field 10) ∧ s.fe.ring = .restoring ∧ s.disposal (field 10) 5 = .field .drive 0 false ∧ (s.seq 0).state = .fault ∧
      5 < s.carriersOf 0 ∧ u.takes (field 20) ∧ u.disposal (field 20) 10 = .field .panel 0 false ∧
      (u.stn 0).configured = false ∧ u.takes (field 32) ∧ u.disposal (field 32) 12 = .field .laneController 0 false ∧
      (u.lane 0).configured = false ∧ u.transit.waiting = [] := by
  unfold State.takes; decide +kernel

/-! ## Witnesses: drives in motion, and tasks -/

theorem witness_drive_motion :
    let s := moving.modSeq 0 fun q => { q with curtain := .broken }
    let u := stopping.modSeq 0 fun q => { q with curtain := .broken, move := some { trip with stop := some .curtain } }
    let v := cellSeq { still with state := .stopping, move := some trip }
    let w := cellSeq { still with state := .unknown }
    moving.takes (field 10) ∧ moving.fe.ring = .up ∧ moving.disposal (field 10) 5 = .field .drive 0 false ∧ 4 < moving.carriersOf 0 ∧
      moving.nodeOf .drive 0 = some 10 ∧ moving.fe.queue.length < 32 ∧ (∀ y ∈ (moving.seq 0).queries, y.afterMove = true → y.deadline = none) ∧
      (moving.seq 0).state = .moving ∧ (moving.seq 0).move = some trip ∧ (moving.seq 0).currentTask = some pickTask ∧
      4 ≠ trip.target ∧ (moving.seq 0).short = 0 ∧
      moving.travelPlan 0 4 5 = .plan ⟨.forward, 1, .slow, 11, 72⟩ ∧ s.takes (field 10) ∧ (s.seq 0).curtain ≠ .clear ∧
      s.mgmt.cell = .running ∧ s.presentable 0 pickTask = true ∧ 4 ≠ pickTask.carrier ∧
      ((moving.modSeq 0 fun q => { q with short := 1 }).seq 0).short ≠ 0 ∧ 3 ≠ trip.target ∧ u.takes (field 10) ∧
      (u.seq 0).state = .stopping ∧ (u.seq 0).move = some { trip with stop := some .curtain } ∧ (u.seq 0).curtain ≠ .clear ∧
      (u.seq 0).currentTask = some pickTask ∧ (v.seq 0).state = .stopping ∧ trip.stop ≠ some .curtain ∧
      (v.seq 0).queue.find? (v.presentable 0) = none ∧ (w.seq 0).state = .unknown ∧
      (w.seq 0).queue.find? (w.presentable 0) = none ∧ (cell.seq 0).state = .idle ∧ (ready.seq 0).state = .ready ∧
      (ready.seq 0).index ≠ some 4 ∧ (ready.seq 0).index = some 5 ∧ 5 < ready.carriersOf 0 := by
  unfold State.takes; decide +kernel

theorem witness_pick_classes :
    (ready.seq 0).state ≠ .idle ∧ ready.order 0 = some order ∧
      (ready.seq 0).queue.filter (fun x => x.picks.any fun p => p.order = order.seq) = [pickTask] ∧
      ((ready.seq 0).queue.map (·.num)).Nodup ∧
      (∀ cls ∈ ([0, 1] : List Sys2Proof.Class),
        (pickTask.picks.map fun p => if p.order = order.seq then { p with cls := cls } else p) = [{ pick with cls := cls }] ∧
          { pick with cls := cls }.struck = false) := by decide +kernel

theorem witness_queued_drops :
    let s := cellSeq { still with state := .moving, queue := [two], arrivals := 2 }
    let u := cellSeq { still with state := .moving, queue := [pickTask], arrivals := 2 }
    s.resetLow = false ∧ (s.seq 0).taskOf ⟨0, 0⟩ = some two ∧ (s.seq 0).current ≠ some two.num ∧ (s.seq 0).state ≠ .idle ∧
      (s.seq 0).held = [] ∧ (s.seq 0).queue.length ≤ 16 ∧ ((s.seq 0).queue.map (·.num)).Nodup ∧ two.kind = .pick ∧
      two.picks.filter (fun p => !(p.res = ⟨0, 0⟩)) ≠ [] ∧
      (u.seq 0).taskOf ⟨0, 0⟩ = some pickTask ∧ pickTask.picks.filter (fun p => !(p.res = ⟨0, 0⟩)) = [] := by decide +kernel

theorem witness_release_counts :
    let o : Order := { order with state := .opened }
    let s := cellOrder o
    let x : Reservation := { held with count := 3 }
    let u := s.modBook fun b => { b with pool := [(0, x)] }
    s.reservation 0 = some held ∧ held.struck = false ∧ held.substitute = false ∧ twf s.book.pool = true ∧
      s.book.poolFull = false ∧ s.book.freed = false ∧ s.order 0 = some o ∧ o.lines[0]? = some line ∧ o.state ≠ .picking ∧
      o.leaving = false ∧ 1 ≤ held.count ∧ (releaseEntry 0 5 1 2 s).2 = held.count ∧ (releaseEntry 0 5 1 3 u).2 < x.count ∧
      u.reservation 0 = some x ∧ s.livePlaces (fun r => r.lot = held.lot) = [0] ∧ held.expiry = some 300000 ∧
      s.mgmt.cell ≠ .halted ∧ held.state ≠ .presented ∧ s.mgmt.notices.length < 64 ∧ s.trimOrder 0 5 1 = 0 :: [] ∧
      1 = s.reservedAt 0 5 1 - 1 ∧ 1 < held.count ∧ (five.placements.map (·.lot)).Nodup ∧ s.carrier 0 5 = some five := by
  decide +kernel

/-! ## Witnesses: puts, locks and displays -/

/-- A PUT task of three tyres of lot 1, served with two remaining. -/
def puttingMore : State :=
  let y : Task := { putTask with body := .put 1 3 2 0 }
  (cellSeq { still with state := .presenting, queue := [y], current := some 1 }).setStn 0
    { desk with grant := .held 0 { carrier := 5, cls := 1, body := .put 1 2 }, timer := .running 30000 }

theorem witness_put_scans :
    putting.takes (field 24) ∧ putting.fe.ring = .up ∧ putting.disposal (field 24) 11 = .field .openingReader 0 false ∧
      (putting.stn 0).serving = true ∧ (putting.stn 0).atRest ∧ putting.mgmt.cell = .running ∧
      (putting.stn 0).grant = .held 0 { carrier := 5, cls := 1, body := .put 1 1 } ∧
      putting.lotOf label = some (1, ⟨5, ⟨24, 10⟩, 200, 16, 10, .active, 4, 2, 1⟩) ∧ (commitPutEntry 0 5 1 putting).2 = true ∧
      (putting.stn 0).mode = .every ∧ putting.mgmt.notices.length < 63 ∧ (putting.seq 0).taskFor .put 5 = some putTask ∧
      ((putting.seq 0).queue.map (·.num)).Nodup ∧ (putting.seq 0).currentTask = some putTask ∧ putting.grantedBy 0 = some 0 ∧
      (∀ q : Carousel, q ≠ 0 → (putting.stn 0).ready[q] = false) ∧ puttingMore.takes (field 24) ∧
      (puttingMore.stn 0).grant = .held 0 { carrier := 5, cls := 1, body := .put 1 2 } ∧ (puttingMore.stn 0).atRest ∧
      (commitPutEntry 0 5 1 puttingMore).2 = true ∧
      (puttingMore.seq 0).taskFor .put 5 = some { putTask with body := .put 1 3 2 0 } := by
  unfold State.takes Stn.atRest; decide +kernel

/-- A put of a lot with some remaining. -/
def putOf (lot n : Nat) : State :=
  putting.modStn 0 fun x => { x with grant := .held 0 { carrier := 5, cls := 1, body := .put lot n } }

theorem witness_scan_locks :
    let done : List ViewPick := [⟨⟨0, 0⟩, 1, 0, .finished, false⟩]
    cell.takes (field 24) ∧ cell.disposal (field 24) 11 = .field .openingReader 0 false ∧ (cell.stn 0).serving = true ∧
      (cell.stn 0).atRest ∧ cell.mgmt.cell = .running ∧ (cell.stn 0).grant = .absent ∧ (cell.stn 0).nextReady = none ∧
      (cell.stn 0).mode ≠ .none ∧ cell.mgmt.notices.length < 64 ∧ (∃ p ∈ done, p.lot = 1) ∧
      (∀ p ∈ done, p.lot = 1 → p.mark ≠ .opened ∨ p.remaining = 0) := by
  unfold State.takes Stn.atRest; decide +kernel

theorem witness_scan_locks_at_picks :
    (serving.stn 0).grant = .held 0 pickView ∧ serving.takes (field 24) ∧ (serving.stn 0).atRest ∧
      (∃ e ∈ serving.lots, e.2.article = label.article) ∧
      serving.lotOf ⟨6, ⟨24, 10⟩⟩ = some (3, ⟨6, ⟨24, 10⟩, 200, 16, 9, .held, 0, 0, 0⟩) ∧
      serving.lotOf label = some (1, ⟨5, ⟨24, 10⟩, 200, 16, 10, .active, 4, 2, 1⟩) ∧
      serving.lotOf ⟨5, ⟨24, 12⟩⟩ = some (2, ⟨5, ⟨24, 12⟩, 200, 16, 12, .active, 3, 0, 0⟩) ∧
      serving.lotOf ⟨6, ⟨24, 11⟩⟩ = none ∧ (∃ e ∈ serving.lots, e.2.article = 6) := by
  unfold State.takes Stn.atRest; decide +kernel

theorem witness_scan_locks_at_puts :
    ((putOf 1 1).stn 0).grant = .held 0 { carrier := 5, cls := 1, body := .put 1 1 } ∧ (putOf 1 1).takes (field 24) ∧
      ¬ (∃ e ∈ (putOf 1 1).lots, e.2.article = 8) ∧
      (putOf 1 1).lotOf ⟨6, ⟨24, 10⟩⟩ = some (3, ⟨6, ⟨24, 10⟩, 200, 16, 9, .held, 0, 0, 0⟩) ∧
      (putOf 1 0).lotOf label = some (1, ⟨5, ⟨24, 10⟩, 200, 16, 10, .active, 4, 2, 1⟩) ∧
      ((putOf 1 1).labelOf 1).article = 5 ∧ ((putOf 1 1).labelOf 1).article ≠ 6 := by
  unfold State.takes; decide +kernel

/-- A PANEL-SHOW for station 0 still waits in the transmit queue. -/
def shown : State :=
  (cellStn { desk with opened := false }).modFe fun e => { e with queue := [frameTo (.station 0) 20 (.panelShow shut)] }

theorem witness_displays :
    let c : ViewChange := .struck ⟨0, 0⟩ .other
    let new : Content := { light := some 0, view := .pick 5 [⟨5, ⟨24, 10⟩, 2, .doNotPick⟩], message := some .doNotPick }
    (serving.stn 0).grant = .held 0 pickView ∧ (putting.stn 0).grant = .held 0 { carrier := 5, cls := 1, body := .put 1 1 } ∧
      (auditing.stn 0).grant = .held 0 { carrier := 5, cls := 1, body := .audit false } ∧
      (auditing.carrier 0 5).isSome = true ∧ (cell.stn 0).holder = none ∧ (serving.stn 0).configured = true ∧
      (serving.stn 0).panelLost = false ∧ (serving.stn 0).latest ≠ some new ∧ serving.nodeOf .panel 0 = some 20 ∧
      (serving.begun.modStn 0 fun x => { x with
        grant := .held 0 (changeView (serving.viewNow c) pickView), message := some .doNotPick }).content 0 = new ∧
      (shown.stn 0).opened = false ∧ (shown.stn 0).panelLost = false ∧ shown.fe.queue.any (isFrameOf (.station 0) 9) = true ∧
      (serving.seq 0).queue = [pickTask] ∧ (serving.seq 0).currentTask = some pickTask ∧ serving.grantedBy 0 = some 0 ∧
      (serving.stn 0).mode = .every ∧ (serving.stn 0).group = [] ∧ cell.asks req := by
  unfold State.asks State.takes; decide +kernel

theorem witness_setting_limits :
    let c : Claim := { node := 41, carriers := [3], all := false, deadline := none }
    let s := loading.setSeq 0 { still with state := .manual, claim := some c }
    roleOfCode 1 = some .drive ∧ roleUnits .drive ≤ 8 ∧ s.asks req ∧ (s.seq 0).state = .manual ∧ (s.seq 0).claim = some c ∧
      (∀ j : Carousel, j ≠ 0 → (s.seq j).claim = none) ∧ roleOfCode 0 = some .none ∧ (41 : Nat) ≠ s.own ∧
      0 < roleUnits .none ∧ s.mgmt.cell = .loading ∧ s.fe.ring = .up ∧ s.nodeOf .drive 0 = some 10 ∧ s.fe.queue.length < 32 ∧
      s.mgmt.notices.length < 64 ∧ twf s.fe.nodes = true := by
  unfold State.asks State.takes; decide +kernel

theorem witness_records :
    cell.asks req ∧ cell.lot 1 = some ⟨5, ⟨24, 10⟩, 200, 16, 10, .active, 4, 2, 1⟩ ∧ cell.stockCar 7 = none ∧
      cell.bal 7 = none ∧ cell.order 9 = none := by
  unfold State.asks State.takes; decide +kernel

/-! ## Witnesses: moves that are allowed, and kept frames -/

/-- A carousel that may move: its cell runs, its ring is UP, its curtain is CLEAR and its station is OPEN with its panel. -/
theorem witness_may_move (s : State) (h : s.mgmt.cell = .running ∧ s.fe.ring = .up ∧ (s.seq 0).curtain = .clear ∧
    (s.seq 0).place = some (0, 0) ∧ (s.stn 0).configured = true ∧ (s.stn 0).opened = true ∧ (s.stn 0).panelLost = false) :
    s.mayMove 0 := ⟨h.1, h.2.1, h.2.2.1, (0, 0), h.2.2.2⟩

theorem witness_moves_allowed :
    (cellSeq { still with queue := [pickTask], index := some 2 }).mayMove 0 ∧ moving.mayMove 0 ∧
      ¬ (cellSeq { still with curtain := .broken }).mayMove 0 :=
  ⟨witness_may_move _ (by decide +kernel), witness_may_move _ (by decide +kernel),
    fun h => absurd h.2.2.1 (by decide +kernel)⟩

theorem witness_kept_move :
    let f := frameTo (.seq 0) 10 (.move .forward 3 5 .normal)
    let s := (cellSeq { still with index := some 2 }).modFe fun e => { e with kept := [f] }
    let u := s.modSeq 0 fun q => { q with curtain := .broken }
    let m := moving.modFe fun e => { e with kept := [f] }
    s.fe.kept = [f] ∧ f.block = .seq 0 ∧ (s.seq 0).built = none ∧ (s.seq 0).state = .idle ∧ s.mayMove 0 ∧
      s.nodeOf .drive 0 = some 10 ∧ s.fe.queue.length < 32 ∧ ¬ u.mayMove 0 ∧ u.fe.kept = [f] ∧ (u.seq 0).built = none ∧
      m.fe.kept = [f] ∧ (m.seq 0).built = none ∧ (m.seq 0).state ≠ .idle :=
  ⟨by decide +kernel, by decide +kernel, by decide +kernel, by decide +kernel, witness_may_move _ (by decide +kernel),
    by decide +kernel, by decide +kernel, fun h => absurd h.2.2.1 (by decide +kernel), by decide +kernel⟩

/-- Carousel 0 IDLE with a built MOVE to its task's carrier. -/
def built : State :=
  let m : Built := { target := 5, dir := .forward, dist := 3, speed := .normal, timeout := 78, resent := none }
  cellSeq { still with queue := [pickTask], current := some 0, index := some 2, built := some m }

theorem witness_speed_class :
    built.mayMove 0 ∧ (built.seq 0).state = .idle ∧ (built.seq 0).built.isSome = true ∧
      (built.seq 0).currentTask = some pickTask ∧ built.presentable 0 pickTask = true ∧ (built.seq 0).index = some 2 ∧
      2 ≠ pickTask.carrier ∧ built.travelPlan 0 2 5 = .plan ⟨.forward, 3, .slow, 23, 96⟩ ∧ built.nodeOf .drive 0 = some 10 ∧
      built.fe.queue.length < 32 :=
  ⟨witness_may_move _ (by decide +kernel), by decide +kernel⟩

theorem witness_kept_query :
    let f := frameTo (.seq 0) 10 (.statusQuery 0)
    let s := cell.modFe fun e => { e with kept := [f], nodes := [] }
    s.fe.kept = [f] ∧ f.block = .seq 0 ∧ (s.seq 0).built = none ∧ s.nodeOf .drive 0 = none ∧ (s.seq 0).state.away = true := by
  decide +kernel

/-! ## Witnesses: drops, audits and laws -/

/-- A task of two picks whose second is of an order of class 2. -/
def mixed : State :=
  cellSeq { still with
    state := .moving, arrivals := 2,
    queue := [{ pickTask with body := .pick [pick, { pick with res := ⟨1, 1⟩, order := 1, cls := 2 }] }] }

theorem witness_class_changing_drop :
    let x : Task := { pickTask with body := .pick [pick, { pick with res := ⟨1, 1⟩, order := 1, cls := 2 }] }
    let left := x.picks.filter fun p => !(p.res = ⟨0, 0⟩) && p.opened
    (mixed.seq 0).taskOf ⟨0, 0⟩ = some x ∧ (mixed.seq 0).current ≠ some x.num ∧ (mixed.seq 0).state ≠ .idle ∧
      (mixed.seq 0).held = [] ∧ (mixed.seq 0).queue.length ≤ 16 ∧ ((mixed.seq 0).queue.map (·.num)).Nodup ∧ x.kind = .pick ∧
      left ≠ [] ∧ (∃ p ∈ left, p.cls = 2) ∧ (∀ p ∈ left, 2 ≤ p.cls) ∧ (2 : Sys2Proof.Class) ≠ x.cls := by decide +kernel

theorem witness_found_lots :
    let x : Carrier := { five with state := .auditLocked, placements := [⟨1, 4, 2, 0⟩] }
    let tally := [(1, 3), (3, 70)]
    let fresh := tally.filter fun e => (placementOf e.1 x.placements).isNone
    (cellCar x).carrier 0 5 = some x ∧ (x.placements.map (·.lot)).Nodup ∧ (∀ p ∈ x.placements, p.incoming = 0) ∧
      (∀ p ∈ x.placements, p.reserved ≤ min (tallyOf p.lot tally) 63) ∧ fresh = [(3, 70)] ∧ (fresh.map (·.1)).Nodup ∧
      (∀ e ∈ fresh, 1 ≤ e.2) := by decide +kernel

theorem witness_laws_kept : calm.shelvesSound ∧ calm.lawL6 ∧ calm.tasksNumbered := by
  refine ⟨fun k car h x hx => ?_, by unfold State.lawL6; decide +kernel, by unfold State.tasksNumbered; decide +kernel⟩
  have a : ∀ k : Carousel, (calm.stockCar k).all (fun car => car.carriers.all fun x => decide
      ((x.placements.map (·.lot)).Nodup ∧ (∀ p ∈ x.placements, p.reserved ≤ p.onHand ∧ p.onHand + p.incoming ≤ 63) ∧
        (x.state = .auditLocked → ∀ p ∈ x.placements, p.incoming = 0))) = true := by decide +kernel
  have e := a k
  rw [h] at e
  exact of_decide_eq_true (List.all_eq_true.mp e x hx)

/-! ## Witnesses: lines -/

/-- Order 0 with a line as given, nothing reserved in the pool, and lot 1 alone. -/
def asks (l : Line) : State := { hungry with book := { hungry.book with orders := [(0, { order with lines := [l] })], pool := [] } }

/-- The shelves with lot 1 on carriers 4 and 5. -/
def pair : StockCar :=
  { shelves { five with placements := [⟨1, 4, 2, 0⟩] } with
    carriers := (shelves { five with placements := [⟨1, 4, 2, 0⟩] }).carriers.set 4 { newCarrier false with placements := [⟨1, 2, 0, 0⟩] } }

theorem witness_line_amounts :
    let l := { line with avoid := some 0 }
    let total (s : State) (a : Option Carousel) : Nat := ((s.candidates 5 a none).map (·.avail)).sum
    (asks line).order 0 = some { order with lines := [line] } ∧ line.window = none ∧ 0 < line.need ∧
      (asks line).book.freed = false ∧ twf (asks line).book.pool = true ∧ (asks line).book.pool.length + line.need ≤ 512 ∧
      twf (asks line).lots = true ∧ twf (asks l).lots = true ∧
      (asks line).linesWhere (fun x => x.article = 5) = [(0, 0)] ∧ 0 < total (asks line) none ∧
      total (asks l) (some 0) = 0 ∧ 0 < total (asks l) none ∧ (asks l).linesWhere (fun x => decide (0 < x.need)) = [(0, 0)] ∧
      (let s : State := { (asks { line with reserved := 0 }) with lots := [] }
       total s none = 0 ∧ Line.state { line with reserved := 0 } = .waiting ∧ s.mgmt.notices.length < 64 ∧
         s.linesWhere (fun x => x.article = 5) = [(0, 0)]) := by decide +kernel

theorem witness_line_windows :
    let l := { line with window := some 1 }
    let m := { line with window := some 1, reserved := 0 }
    let a : CandLot := { lot := 1, week := 1281, avail := 2 }
    l.avoid = none ∧ 0 < l.need ∧ twf (asks l).lots = true ∧ twf (asks m).lots = true ∧ (asks l).candidates 5 none none = [a] ∧ l.taken = [] ∧ (asks l).book.pool = [] ∧
      l.need ≤ (([a].filter fun e => decide (a.week ≤ e.week) && decide (e.week ≤ a.week + 1)).map (·.avail)).sum ∧
      (asks l).linesWhere (fun x => x.article = 5) = [(0, 0)] ∧ (asks m).candidates 5 none none = [a] ∧
      ¬ m.need ≤ (([a].filter fun e => decide (a.week ≤ e.week) && decide (e.week ≤ a.week + 1)).map (·.avail)).sum ∧
      (asks m).linesWhere (fun x => x.article = 5) = [(0, 0)] ∧ m.state = .waiting ∧ m.waitingReported = false := by
  decide +kernel

theorem witness_line_placements :
    hungry.candidates 5 none none = [{ lot := 1, week := 1281, avail := 2 }] ∧ line.avoid = none ∧ 0 < line.need ∧
      twf hungry.book.pool = true ∧ hungry.freePlacements 1 none none = [{ car := 0, carrier := 5, count := 2 }] ∧
      hungry.reservation 0 = some held ∧ findLive 0 0 0 5 1 hungry.book.pool = some (0, held) ∧
      (let l := { line with reserved := 0 }
       let s := (asks l).setStock 0 (some pair)
       s.candidates 5 none none = [{ lot := 1, week := 1281, avail := 4 }] ∧
         s.freePlacements 1 none none = [⟨0, 4, 2⟩, ⟨0, 5, 2⟩] ∧ 2 < l.need ∧ findLive 0 0 0 4 1 s.book.pool = none ∧
         findLive 0 0 0 5 1 s.book.pool = none ∧ s.book.pool.length + 2 ≤ 512 ∧
         s.linesWhere (fun x => x.article = 5) = [(0, 0)]) := by decide +kernel

/-- A pool of so many reservations of another order. -/
def crowd (n : Nat) : Table Reservation := (List.range n).map fun p => (p, { held with order := 9, lot := 9, seq := p })

theorem witness_full_pool :
    let l := { line with reserved := 0 }
    let s := (asks l).modBook fun b => { b with pool := crowd 512 }
    s.book.freed = false ∧ twf s.book.pool = true ∧ 512 ≤ s.book.pool.length ∧ s.order 0 = some { order with lines := [l] } ∧
      l.avoid = none ∧ 0 < l.need ∧ l.window = none ∧ s.mgmt.notices.length < 64 ∧
      (∀ e ∈ s.book.pool, e.2.order ≠ 0 ∨ e.2.line ≠ 0) ∧ s.linesWhere (fun x => x.article = 5) = [(0, 0)] ∧
      (∃ e ∈ s.candidates 5 none none, 0 < e.avail) ∧ l.waitingReported = false := by decide +kernel

/-- A line with a window that two placements cover, and room for one reservation. -/
def lastPlace : State :=
  ((asks { line with reserved := 0, window := some 1 }).setStock 0 (some pair)).modBook fun b => { b with pool := crowd 511 }

theorem witness_window_in_full_pool :
    let l := { line with reserved := 0, window := some 1 }
    let a : CandLot := { lot := 1, week := 1281, avail := 4 }
    lastPlace.book.pool.length = 511 ∧ twf lastPlace.lots = true ∧ twf lastPlace.book.pool = true ∧ lastPlace.candidates 5 none none = [a] ∧ l.taken = [] ∧
      l.need ≤ a.avail ∧ (∀ f ∈ lastPlace.freePlacements 1 none none, f.count < l.need) ∧
      (∀ k : Carousel, (lastPlace.stockCar k).all fun car => car.carriers.all fun x => decide (x.placements.map (·.lot)).Nodup) ∧
      lastPlace.linesWhere (fun x => x.article = 5) = [(0, 0)] ∧
      (∀ e ∈ lastPlace.book.pool, e.2.order ≠ 0 ∨ e.2.line ≠ 0) := by decide +kernel

theorem witness_pool_freed :
    let x := { held with count := 1 }
    let s := (cellRes x).modBook fun b => { b with poolFull := true }
    s.resOf ⟨0, 0⟩ = some x ∧ x.count = 1 ∧ x.substitute = false ∧ s.book.poolFull = true ∧ s.order 0 = some order ∧
      order.lines[0]? = some line ∧ order.leaving = false ∧ s.book.freed = false ∧ twf s.book.pool = true := by decide +kernel

theorem witness_receipt_without_need :
    let o := { order with state := .opened, comp := none, lines := [{ line with reserved := 4 }] }
    let s := cellOrder o
    s.order 0 = some o ∧ o.leaving = false ∧ s.book.freed = false ∧ ∀ x ∈ o.lines, x.need = 0 := by decide +kernel

/-! ## Witnesses: puts that are planned -/

/-- Only carrier 5 of carousel 0 is open, and station 0 ends a batch of lot 1; carousel 0 moves. -/
def planned (n : Nat) (q : List Task) : State :=
  let closed : Carrier := { newCarrier false with excluded := true }
  (((cell.setStock 0 (some { shelves five with carriers := (List.replicate 8 closed).set 5 five })).setSeq 0
    { still with state := .moving, queue := q })).setStn 0 { desk with batch := some { lot := 1, count := n, closing := false } }

theorem witness_one_candidate (n : Nat) (q : List Task) (k : Carousel) (c : Nat) (h : (planned n q).putCandidate 0 k c) :
    k = 0 ∧ c = 5 := by
  obtain ⟨⟨b, hb⟩, -, ⟨x, hx, -, he⟩, -, -⟩ := h
  have hk : k = 0 := by
    have a : ∀ (b : Bay) (k : Carousel), desk.bays[b] = some k → k = 0 := by decide +kernel
    exact a b k hb
  subst hk
  have a : ∀ c < 8, ((planned 0 []).carrier 0 c).any (fun x => !x.excluded) = true → c = 5 := by decide +kernel
  have hx' : (planned 0 []).carrier 0 c = some x := hx
  have hc : c < 8 := by
    by_contra hc
    have : ((List.replicate 8 ({ newCarrier false with excluded := true } : Carrier)).set 5 five)[c]? = some x := hx'
    rw [List.getElem?_eq_none (by simp; omega)] at this
    cases this
  exact ⟨rfl, a c hc (by rw [hx']; simp [he])⟩

/-- Of a batch of `b` tyres `n` fit, here all that the balance lets in. -/
theorem witness_put_choice (b n : Nat) (q : List Task)
    (h : ((planned b q).balanceQuery 0 5 ((planned b q).lotOr 1).mass b).map (·.1) = some n ∧
      min ((planned b q).roomQuery 0 5 1 b) n = n ∧ 1 ≤ n ∧ (planned b q).travelPlan 0 5 5 = .there) :
    (planned b q).putChoice 0 1 b 0 5 n := by
  obtain ⟨⟨m, f⟩, e, hm⟩ := Option.map_eq_some_iff.mp h.1
  subst hm
  have fig : (planned b q).putFigures 0 5 1 b m f.worst 0 :=
    ⟨m, f, e, h.2.1.symm, h.2.2.1, fun _ => rfl, fun hn => absurd rfl hn, fun _ => absurd ‹_› (by simp [planned, cell, still, State.seq, State.setSeq, State.setStn, State.setStock]), fun j hj => by
      have : j = 5 := by simpa [planned, cell, still, State.seq, State.setSeq, State.setStn, State.setStock] using hj.symm
      subst this
      rw [h.2.2.2]⟩
  refine ⟨⟨⟨0, rfl⟩, ?_, ⟨five, rfl, rfl, rfl⟩, ?_, ?_⟩, f.worst, 0, fig, fun k c n' w' d' hc hf => ?_⟩
  · simp [planned, still, State.seq, State.setSeq, State.setStn, State.setStock]
  · simp [planned, desk, Stn.powerOn, State.stn, State.setSeq, State.setStn, State.setStock]
  · simp [planned, desk, Stn.powerOn, State.stn, State.setSeq, State.setStn, State.setStock]
  · obtain ⟨rfl, rfl⟩ := witness_one_candidate b q k c hc
    obtain ⟨-, rfl, rfl⟩ := State.putFigures_unique fig hf
    exact le_refl _

/-- Sixteen tasks. -/
def sixteen : List Task := (List.range 16).map fun n => { num := n, cls := 1, carrier := n + 10, body := .audit false }

theorem witness_put_plans :
    (planned 2 []).putChoice 0 1 2 0 5 2 ∧ (planned 2 sixteen).putChoice 0 1 2 0 5 2 ∧
      (planned 2 []).keyActs 0 .batchEnd ∧ ((planned 2 []).stn 0).serving = true ∧ ((planned 2 []).stn 0).planning = none ∧
      ((planned 2 []).stn 0).waitList.length < 4 ∧ (planned 2 []).lotActive 1 = true ∧
      (planned 2 []).mgmt.notices.length < 64 ∧ (planned 2 []).carrier 0 5 = some five ∧
      (five.placements.map (·.lot)).Nodup ∧ ((planned 2 []).seq 0).taskFor .put 5 = none ∧
      ((planned 2 []).seq 0).state ≠ .idle ∧ 16 ≤ ((planned 2 sixteen).seq 0).queue.length ∧
      ((planned 2 sixteen).seq 0).taskFor .put 5 = none := by
  refine ⟨witness_put_choice 2 2 [] (by decide +kernel), witness_put_choice 2 2 sixteen (by decide +kernel), ?_⟩
  unfold State.keyActs
  decide +kernel

theorem witness_no_candidate (k : Carousel) (c : Nat) :
    ¬ (cellStn { desk with bays := Vector.replicate 4 none, batch := some ⟨1, 2, false⟩ }).putCandidate 0 k c := by
  rintro ⟨⟨b, hb⟩, -⟩
  revert hb
  revert k b
  decide +kernel

/-! ## Witnesses: an ACCEPT that cuts a pick -/

/-- The served pick of `n` tyres with a label of lot 2 under a WRONG-LOT lock. -/
def swap (n : Nat) : State :=
  let t : Task := { pickTask with body := .pick [{ pick with remaining := n }] }
  (((cellRes { held with state := .presented, expiry := none, count := n }).setSeq 0
    { still with state := .presenting, queue := [t], current := some 0 })).setStn 0
    { desk with grant := .held 0 pickView, queue := [⟨.opening, ⟨5, ⟨24, 12⟩⟩⟩], lock := some .wrongLot, timer := .suspended }

theorem witness_accept_clears (n : Nat) (hn : n = 1 ∨ n = 2) :
    let s := swap n
    let x := { held with state := .presented, expiry := none, count := n }
    let y : Task := { pickTask with body := .pick [{ pick with remaining := n }] }
    s.keyActs 0 .clearAccept ∧ (s.stn 0).serving = true ∧
      s.acceptAllowed 0 = some (⟨.opening, ⟨5, ⟨24, 12⟩⟩⟩, 0, pickView, ⟨⟨0, 0⟩, 1, 2, .opened, false⟩, 2) ∧
      (s.stn 0).queue = [⟨.opening, ⟨5, ⟨24, 12⟩⟩⟩] ∧ tfree 0 s.transit.places < 64 ∧ s.resOf ⟨0, 0⟩ = some x ∧ 2 ≠ x.lot ∧
      1 ≤ s.reservedAt 0 5 1 ∧ (takeSubstitution ⟨0, 0⟩ 2 s).2 = some ⟨1, 1⟩ ∧
      (takeSubstitution ⟨0, 0⟩ 2 s).1.pickTakes 0 5 2 = true ∧ s.holding 0 = some (0, 0, ⟨.picking, some ⟨0, 0, 30⟩⟩) ∧
      (s.lane 0).state = .coupled ∧ ((s.order 0).any fun o => !o.leaving) = true ∧ twf s.book.pool = true ∧ s.mail = [] ∧
      s.grantedBy 0 = some 0 ∧ (s.seq 0).taskOf ⟨0, 0⟩ = some y ∧ (s.seq 0).granted = some y ∧
      ((s.seq 0).queue.map (·.num)).Nodup ∧ (s.seq 0).queue = [y] ∧ (s.seq 0).held = [] := by
  unfold State.keyActs
  rcases hn with rfl | rfl <;> decide +kernel

/-! ## Witnesses: requests -/

theorem witness_lot_in_use :
    cell.asks req ∧ (∀ e ∈ cell.lots, e.1 ≠ 1 → e.2.article = 5 → e.2.week ≠ ⟨24, 10⟩) ∧ cell.lotInUse 1 = true ∧
      cell.lot 1 = some ⟨5, ⟨24, 10⟩, 200, 16, 10, .active, 4, 2, 1⟩ ∧ (10 : Nat) ≠ 12 := by
  unfold State.asks State.takes; decide +kernel

theorem witness_room_tests :
    cell.stockCar 0 = some (shelves five) ∧ cell.carrier 0 5 = some five ∧ (five.placements.map (·.lot)).Nodup := by decide +kernel

theorem witness_switches :
    let d := cellSeq { still with state := .disabled }
    let m := moving.modSeq 0 fun q => { q with queue := [], current := none }
    d.asks req ∧ (d.seq 0).state = .disabled ∧ d.nodeOf .drive 0 = some 10 ∧ d.fe.queue.length < 32 ∧ m.asks req ∧
      (m.seq 0).state = .moving ∧ (m.seq 0).move.isSome = true ∧ m.fe.queue.any (isFrameOf (.seq 0) 1) = false ∧
      (m.seq 0).queue = [] ∧ (m.seq 0).held = [] ∧ m.nodeOf .drive 0 = some 10 ∧ m.fe.queue.length < 32 := by
  unfold State.asks State.takes; decide +kernel

theorem witness_windows :
    let audit : Task := { putTask with body := .audit false }
    let s (t : Task) : State := cellSeq { still with state := .unknown, queue := [t], window := some (2, 3) }
    let shut := (List.range 8).filter fun c => inWindow (some (5, 6)) c && !inWindow (some (2, 3)) c
    (s putTask).asks req ∧ (s putTask).stockCar 0 = some (shelves five) ∧
      (∀ x ∈ (shelves five).carriers, (x.placements.map (·.lot)).Nodup) ∧ ((s putTask).seq 0).state ≠ .unconfigured ∧
      ((s putTask).seq 0).state ≠ .idle ∧ (shelves five).carriers.length = 8 ∧
      (∀ t ∈ [putTask, audit], ((s t).seq 0).queue.filter (fun x => decide (x.kind ≠ .pick) && decide (x.carrier ∈ shut)) = [t] ∧
        ((s t).seq 0).current ≠ some t.num ∧ ((s t).seq 0).held = [] ∧ (((s t).seq 0).queue.map (·.num)).Nodup) ∧
      (∀ x ∈ ((s pickTask).seq 0).queue, x.carrier ∈ shut → x.kind = .pick) := by
  unfold State.asks State.takes; decide +kernel

/-! ## What the rules in part lacked -/

/-- R68: each query is judged by the return of its own frame: the older one's times the older one alone, also when it comes last. -/
theorem test_queries_by_their_own_returns :
    let ask (s : State) : State := sendQuery 0 false s
    let s := ask (ask (cellSeq { still with state := .unknown }))
    let t := after (.statusQueryReturn ⟨0, 1⟩ .accepted) s
    (s.fe.queue.map (·.payload)) = [.statusQuery 0, .statusQuery 1] ∧
      (t.seq 0).queries.map (fun x => (x.num, x.deadline.isSome)) = [(0, false), (1, true)] ∧
      ((after (.statusQueryReturn ⟨0, 0⟩ .lost) t).seq 0).fault = some .link ∧
      ((after (.statusQueryReturn ⟨0, 0⟩ .lost) t).seq 0).queries.map (·.num) = [1] := by decide +kernel

/-- R68: a query that a CELL-RUN leaves behind still counts, and one that a status answers ends quietly. -/
theorem test_older_query_stands :
    let s := seqRun 0 (sendQuery 0 false (cellSeq { still with state := .unknown }))
    let t := after (.statusQueryReturn ⟨0, 0⟩ .accepted) s
    (s.seq 0).queries.map (·.num) = [0, 1] ∧ ((after (.queryRoundExpiry 0) t).seq 0).fault = some .link ∧
      ((after (.driveStatus (field 10) .moving 3 4) t).seq 0).queries.map (fun x => (x.num, x.answered)) = [(1, true)] := by
  decide +kernel

/-- R52, R111: a reservation released while its own report waits joins no task, also when an ACCEPT takes the reports. -/
theorem test_release_behind_its_report :
    let o : PickOrder := { seq := 0, cls := 1 }
    let s := { cellSeq { still with state := .moving } with mail := [.newReservation 0 ⟨0, 0⟩ 5 2 o, .pickDrop 0 ⟨0, 0⟩] }
    ((takeOrderReports 0 s).seq 0).queue = [] ∧ (takeOrderReports 0 s).mail.any (orderReport 0) = false ∧
      ((takeOrderReport (.newReservation 0 ⟨0, 0⟩ 5 2 o) s).seq 0).queue ≠ [] := by decide +kernel

/-- R111's worked run: the cut of the last tyre ends the task. -/
theorem test_accept_ends_task :
    ((after (.clearAccept 0) (swap 1)).seq 0).queue = [] ∧ ((after (.clearAccept 0) (swap 1)).seq 0).state = .idle := by
  decide +kernel

/-- R73: a report that a tyre was taken from the last pick of a task that is not granted removes the task. -/
theorem test_ungranted_task_empties :
    let s := cellSeq { still with state := .moving, queue := [{ pickTask with body := .pick [{ pick with remaining := 1 }] }] }
    ((after (.pickTakenReport 0 ⟨0, 0⟩) s).seq 0).queue = [] := by decide +kernel

/-- R142: a tag couples an IDENTIFYING lane that is not configured. -/
theorem test_tag_of_unconfigured_lane :
    let s := cellLane { bare .identifying true with configured := false }
    ((after (.tagRead (field 36) 7 3) s).lane 0).state = .coupled := by decide +kernel

/-- R150: the latch frames of a controller that is LOST leave the transmit queue. -/
theorem test_lost_controller_latches :
    let s := cell.modFe fun e => { e with queue := [frameTo .transit 32 (.lock 0 false), frameTo (.seq 0) 10 (.statusQuery 0)] }
    (after (.nodeNotAnswered .laneController 0) s).fe.queue = [frameTo (.seq 0) 10 (.statusQuery 0)] := by decide +kernel

/-- R169: a kept frame goes to the node that the map then holds. -/
theorem test_kept_frame_follows_the_map :
    let s := cell.modFe fun e => { e with kept := [frameTo (.seq 0) 10 (.statusQuery 0)], nodes := [(12, ⟨.drive, 0, false⟩)] }
    ((after (.spaceReport (.seq 0)) s).fe.queue.map (·.dest)) = [12] := by decide +kernel

/-- R39, R137: a tyre that is lost after its order's handle has been given to another order is told with its own order's reference. -/
theorem test_lost_tyre_keeps_its_reference :
    let s := (cellOrder { order with ref := 77 }).modTransit fun t => { t with places := [(0, onBelt)] }
    (after (.transitTimeout 0) s).mgmt.notices.map (·.body) = [.transitLost 0 30 0 1 (some (0, 0)) 0 false] := by decide +kernel

/-- R111, R114, R115: a pick that an ACCEPT or a SHORT strikes is shown so, also when a new count comes before the strike. -/
theorem test_strikes_behind_a_new_count :
    let marks (why : Cause) : List Mark :=
      match (changeView (.struck ⟨0, 0⟩ why) (changeView (.newCount ⟨0, 0⟩ 1 .other) pickView)).body with
      | .pick ps => ps.map (·.mark)
      | .put .. | .audit _ => []
    marks .accept = [.substituted] ∧ marks .short = [.short] ∧ marks .other = [.doNotPick] := by decide +kernel

/-- R166: the ring goes DOWN 20 ms after the last frame, not before. -/
theorem test_silence_lasts :
    (after .silenceTimerExpiry (after (.forwardedFrame other) { cell with now := 100 })).now = 120 := by decide +kernel

/-- R173: a MOVE frame that finds the transmit queue full is kept by its block, though no move is in flight. -/
theorem test_full_queue_keeps_a_move :
    (after (.frameOffer (.seq 0) (.node .drive 0) (.move .forward 3 5 .normal)) full).fe.kept =
      [frameTo (.seq 0) 10 (.move .forward 3 5 .normal)] := by decide +kernel

end Sys2Proof.Tests
end

namespace Sys2Proof.Machine

/-! ## What the stock reads of a command's beginning -/

@[simp] theorem State.begun_lotOr (s : State) (n : Nat) : s.begun.lotOr n = s.lotOr n := rfl
@[simp] theorem State.begun_lotActive (s : State) (n : Nat) : s.begun.lotActive n = s.lotActive n := rfl
@[simp] theorem State.begun_actualMass (s : State) (ps : List Placement) : s.begun.actualMass ps = s.actualMass ps := rfl
@[simp] theorem State.begun_roomTest (s : State) (k : Carousel) (c lot n : Nat) :
    s.begun.roomTest k c lot n = s.roomTest k c lot n := rfl
@[simp] theorem State.begun_roomQuery (s : State) (k : Carousel) (c lot n : Nat) :
    s.begun.roomQuery k c lot n = s.roomQuery k c lot n := rfl

/-! ## Counts of one lot after a change of its placement -/

theorem onHandOf_change {lot : Nat} {f : Placement → Placement} (hf : ∀ q, (f q).lot = q.lot) {ps : List Placement}
    (hn : (ps.map (·.lot)).Nodup) {p : Placement} (hp : placementOf lot ps = some p) :
    onHandOf lot (changePlacement lot f ps) = (f p).onHand := by
  unfold onHandOf
  rw [placementOf_change hf hn hp]
  split <;> simp_all

theorem reservedOf_change {lot : Nat} {f : Placement → Placement} (hf : ∀ q, (f q).lot = q.lot) {ps : List Placement}
    (hn : (ps.map (·.lot)).Nodup) {p : Placement} (hp : placementOf lot ps = some p) :
    reservedOf lot (changePlacement lot f ps) = (f p).reserved := by
  unfold reservedOf
  rw [placementOf_change hf hn hp]
  split <;> simp_all

theorem incomingOf_change {lot : Nat} {f : Placement → Placement} (hf : ∀ q, (f q).lot = q.lot) {ps : List Placement}
    (hn : (ps.map (·.lot)).Nodup) {p : Placement} (hp : placementOf lot ps = some p) :
    incomingOf lot (changePlacement lot f ps) = (f p).incoming := by
  unfold incomingOf
  rw [placementOf_change hf hn hp]
  split <;> simp_all

theorem onHandOf_some {lot : Nat} {ps : List Placement} {p : Placement} (hp : placementOf lot ps = some p) :
    onHandOf lot ps = p.onHand := by simp [onHandOf, hp]

theorem reservedOf_some {lot : Nat} {ps : List Placement} {p : Placement} (hp : placementOf lot ps = some p) :
    reservedOf lot ps = p.reserved := by simp [reservedOf, hp]

theorem incomingOf_some {lot : Nat} {ps : List Placement} {p : Placement} (hp : placementOf lot ps = some p) :
    incomingOf lot ps = p.incoming := by simp [incomingOf, hp]

/-! ## A carrier changed -/

/-- A change of a carrier that stands: the carrier is replaced and its reports are handed out; the lot totals, the stock records
and the mail alone change. -/
theorem changeCarrier_spec {s : State} {k : Carousel} {c : Nat} {x : Carrier} (hx : s.carrier k c = some x)
    (f : Carrier → Carrier) :
    s.restocked k c (f x) (s.changeCarrier k c f) ∧
    (s.changeCarrier k c f).lots = retotal x.placements (f x).placements s.lots ∧
    (s.changeCarrier k c f).mail = s.mail ++ s.carrierReports k c x (f x) ∧
    s.changeCarrier k c f = { s with lots := (s.changeCarrier k c f).lots, stock := (s.changeCarrier k c f).stock,
                                     mail := (s.changeCarrier k c f).mail } := by
  obtain ⟨car, hc, -⟩ := carrier_stock hx
  rw [changeCarrier_effect hc hx]
  exact ⟨⟨car, hc, rfl⟩, rfl, rfl, rfl⟩

/-- A change of a carrier's record that leaves its placements leaves the lot totals. -/
theorem changeCarrier_lots {s : State} {k : Carousel} {c : Nat} {f : Carrier → Carrier}
    (hf : ∀ x, (f x).placements = x.placements) : (s.changeCarrier k c f).lots = s.lots := by
  cases hx : s.carrier k c with
  | none => simp [State.changeCarrier, hx]
  | some x => rw [(changeCarrier_spec hx f).2.1, hf, retotal_same]

/-- The totals of a lot whose placement on one carrier changes move with it; no other lot's do (R1). -/
theorem retotalled_change {s t : State} {lot : Nat} {f : Placement → Placement} (hf : ∀ q, (f q).lot = q.lot)
    {ps : List Placement} (hn : (ps.map (·.lot)).Nodup) {p : Placement} (hp : placementOf lot ps = some p)
    (ht : t.lots = retotal ps (changePlacement lot f ps) s.lots) :
    s.retotalled lot (fun l => { l with onHand := l.onHand + (f p).onHand - p.onHand,
                                        reserved := l.reserved + (f p).reserved - p.reserved,
                                        incoming := l.incoming + (f p).incoming - p.incoming }) t := by
  refine ⟨?_, fun m hm => ?_⟩
  · simp only [State.lot, ht, tget_retotal, onHandOf_change hf hn hp, reservedOf_change hf hn hp, incomingOf_change hf hn hp,
      onHandOf_some hp, reservedOf_some hp, incomingOf_some hp]
  · simp [State.lot, ht, tget_retotal, onHandOf, reservedOf, incomingOf, placementOf_change_other hm hf]

/-- What an entry that changes the counts of one lot on one carrier leaves. -/
theorem changeLot_spec {s : State} {k : Carousel} {c lot : Nat} {x : Carrier} {p : Placement} (hx : s.carrier k c = some x)
    (hn : (x.placements.map (·.lot)).Nodup) (hp : placementOf lot x.placements = some p) {f : Placement → Placement}
    (hf : ∀ q, (f q).lot = q.lot) {t : State} (ht : t = s.changePlacements k c (changePlacement lot f)) :
    s.restocked k c { x with placements := countsChanged lot f x.placements } t ∧
    s.retotalled lot (fun l => { l with onHand := l.onHand + (f p).onHand - p.onHand,
                                        reserved := l.reserved + (f p).reserved - p.reserved,
                                        incoming := l.incoming + (f p).incoming - p.incoming }) t ∧
    t.mail = s.mail ++ s.carrierReports k c x { x with placements := changePlacement lot f x.placements } ∧
    t = { s with lots := t.lots, stock := t.stock, mail := t.mail } := by
  subst ht
  obtain ⟨h1, h2, h3, h4⟩ := changeCarrier_spec hx fun y => { y with placements := changePlacement lot f y.placements }
  refine ⟨?_, retotalled_change hf hn hp h2, h3, h4⟩
  rw [← changePlacement_counts]
  exact h1

/-- The same of an entry as a command: it is answered `a`, and nothing but the stock, the mail and the answer has changed. -/
theorem changeLot_answered {s : State} {k : Carousel} {c lot : Nat} {x : Carrier} {p : Placement}
    (hx : s.carrier k c = some x) (hn : (x.placements.map (·.lot)).Nodup) (hp : placementOf lot x.placements = some p)
    {f : Placement → Placement} (hf : ∀ q, (f q).lot = q.lot) (a : Answer) {t : State}
    (ht : t = (s.begun.changePlacements k c (changePlacement lot f)).ans a) :
    t.answer = a ∧
    t.mail = s.mail ++ s.carrierReports k c x { x with placements := changePlacement lot f x.placements } ∧
    s.restocked k c { x with placements := countsChanged lot f x.placements } t ∧
    s.retotalled lot (fun l => { l with onHand := l.onHand + (f p).onHand - p.onHand,
                                        reserved := l.reserved + (f p).reserved - p.reserved,
                                        incoming := l.incoming + (f p).incoming - p.incoming }) t ∧
    s.onlyStock t := by
  obtain ⟨h1, h2, h3, h4⟩ := changeLot_spec (s := s.begun) hx hn hp hf rfl
  subst ht
  refine ⟨rfl, h3, h1, h2, ?_⟩
  rw [State.onlyStock, h4]
  rfl

/-- An entry that leaves every on-hand count makes no report, and moves the reserved and incoming totals alone. -/
theorem changeLot_quiet {s : State} {k : Carousel} {c lot : Nat} {x : Carrier} {p : Placement}
    (hx : s.carrier k c = some x) (hn : (x.placements.map (·.lot)).Nodup) (hp : placementOf lot x.placements = some p)
    {f : Placement → Placement} (hf : ∀ q, (f q).lot = q.lot ∧ (f q).onHand = q.onHand) (a : Answer)
    {g : Lot → Lot} (hg : ∀ l, g l = { l with reserved := l.reserved + (f p).reserved - p.reserved,
                                              incoming := l.incoming + (f p).incoming - p.incoming })
    {t : State} (ht : t = (s.begun.changePlacements k c (changePlacement lot f)).ans a) :
    t.answer = a ∧ t.mail = s.mail ∧
    s.restocked k c { x with placements := countsChanged lot f x.placements } t ∧ s.retotalled lot g t ∧ s.onlyStock t := by
  obtain ⟨h1, h2, h3, h4, h5⟩ := changeLot_answered hx hn hp (fun q => (hf q).1) a ht
  rw [carrierReports_quiet hf s k c hn, List.append_nil] at h2
  refine ⟨h1, h2, h3, ?_, h5⟩
  obtain rfl : g = _ := funext hg
  simpa [(hf p).2] using h4

/-! ## Reserve and release (R15, R16) -/

theorem exec_reserve {s : State} (h : s.resetLow = false) (k : Carousel) (c lot count : Nat) :
    exec (.reserve k c lot count) s =
      .next ((reserveEntry k c lot count s.begun).1.ans (.granted (reserveEntry k c lot count s.begun).2)) := by
  show execReserve k c lot count s = _
  simp only [execReserve, carry_begun h]

theorem exec_release {s : State} (h : s.resetLow = false) (k : Carousel) (c lot count : Nat) :
    exec (.release k c lot count) s =
      .next ((releaseEntry k c lot count s.begun).1.ans (.returned (releaseEntry k c lot count s.begun).2)) := by
  show execRelease k c lot count s = _
  simp only [execRelease, carry_begun h]

/-- What a reserve entry grants of a lot that has a placement (R15). -/
theorem reserveGrant_some {s : State} {k : Carousel} {c lot : Nat} {x : Carrier} {p : Placement}
    (hx : s.carrier k c = some x) (hp : placementOf lot x.placements = some p) (count : Nat) :
    s.reserveGrant k c lot count =
      if x.takesNew && s.lotActive lot then min count (p.onHand - p.reserved) else 0 := by
  simp [State.reserveGrant, hx, hp]

/-- A reserve entry that grants nothing changes nothing. -/
theorem reserveEntry_none {s : State} {k : Carousel} {c lot count : Nat} (h : s.reserveGrant k c lot count = 0) :
    reserveEntry k c lot count s = (s, 0) := by simp [reserveEntry, h]

/-- A reserve entry that grants `g` tyres reserves them. -/
theorem reserveEntry_some {s : State} {k : Carousel} {c lot count g : Nat} (h : s.reserveGrant k c lot count = g)
    (hg : 0 < g) : reserveEntry k c lot count s =
      (s.changePlacements k c (changePlacement lot fun q => { q with reserved := q.reserved + g }), g) := by
  subst h
  simp [reserveEntry, Nat.ne_of_gt hg]

/-- A release entry with nothing to give back changes nothing. -/
theorem releaseEntry_none {s : State} {k : Carousel} {c lot count : Nat} {x : Carrier} (hx : s.carrier k c = some x)
    (h : min count (reservedOf lot x.placements) = 0) : releaseEntry k c lot count s = (s, 0) := by
  simp [releaseEntry, hx, h]

/-- A release entry gives back what is reserved, up to the count (R16). -/
theorem releaseEntry_some {s : State} {k : Carousel} {c lot count g : Nat} {x : Carrier} (hx : s.carrier k c = some x)
    (h : min count (reservedOf lot x.placements) = g) (hg : 0 < g) : releaseEntry k c lot count s =
      (s.changePlacements k c (changePlacement lot fun q => { q with reserved := q.reserved - g }), g) := by
  subst h
  simp only [releaseEntry, hx, if_neg (Nat.ne_of_gt hg)]

/-- Settles O19, from what a change of one lot's counts leaves. -/
theorem reservations : Obligations.Reservations := by
  intro s k c lot count x hs hx hn
  have hb : s.begun.carrier k c = some x := hx
  rw [exec_reserve hs, exec_release hs]
  refine ⟨fun p hp => ⟨?granted, ?returned, ?notGranted, ?notReturned⟩, fun hp => ⟨?absent, ?absentReturned⟩⟩
  case granted =>
    intro g hg h0 hst hex hact
    have hgr : s.begun.reserveGrant k c lot count = g := by
      have ht : (x.takesNew && s.begun.lotActive lot) = true := by simpa [Carrier.takesNew, hst, hex] using hact
      rw [reserveGrant_some hb hp, if_pos ht, hg]
    rw [reserveEntry_some hgr h0]
    refine ⟨_, rfl, changeLot_quiet hx hn hp ?_ _ (fun l => ?_) rfl⟩
    · exact fun q => ⟨rfl, rfl⟩
    · simp [Nat.add_comm p.reserved, ← Nat.add_assoc]
  case returned =>
    intro g hg h0
    rw [releaseEntry_some hb (by rw [reservedOf_some hp]; exact hg.symm) h0]
    refine ⟨_, rfl, changeLot_quiet hx hn hp ?_ _ (fun l => ?_) rfl⟩
    · exact fun q => ⟨rfl, rfl⟩
    · have : g ≤ p.reserved := hg ▸ Nat.min_le_right _ _
      have : l.reserved + (p.reserved - g) - p.reserved = l.reserved - g := by omega
      simp [this]
  case notGranted =>
    intro h
    have h0 : s.begun.reserveGrant k c lot count = 0 := by
      rw [reserveGrant_some hb hp]
      split
      · rename_i ha
        simp only [Carrier.takesNew, Bool.and_eq_true, decide_eq_true_eq, Bool.not_eq_true'] at ha
        obtain ⟨⟨hst, hex⟩, hact : s.lotActive lot = true⟩ := ha
        have : count = 0 ∨ p.onHand ≤ p.reserved := by simpa [hst, hex, hact] using h
        omega
      · rfl
    rw [reserveEntry_none h0]
  case notReturned =>
    intro h
    rw [releaseEntry_none hb (by rw [reservedOf_some hp]; omega)]
  case absent =>
    rw [reserveEntry_none (by simp [State.reserveGrant, hb, hp])]
  case absentReturned =>
    rw [releaseEntry_none hb (by simp [reservedOf, hp])]

/-! ## Return-incoming (R20) -/

theorem exec_returnIncoming {s : State} (h : s.resetLow = false) (k : Carousel) (c lot count : Nat) :
    exec (.returnIncoming k c lot count) s =
      .next ((returnIncomingEntry k c lot count s.begun).1.ans (.returned (returnIncomingEntry k c lot count s.begun).2)) := by
  show execReturnIncoming k c lot count s = _
  simp only [execReturnIncoming, carry_begun h]

/-- A return of nothing changes nothing. -/
theorem returnIncomingEntry_none {s : State} {k : Carousel} {c lot count : Nat} {x : Carrier} (hx : s.carrier k c = some x)
    (h : min count (incomingOf lot x.placements) = 0) : returnIncomingEntry k c lot count s = (s, 0) := by
  simp [returnIncomingEntry, hx, h]

/-- A return gives back what is incoming, up to the count. -/
theorem returnIncomingEntry_some {s : State} {k : Carousel} {c lot count g : Nat} {x : Carrier}
    (hx : s.carrier k c = some x) (h : min count (incomingOf lot x.placements) = g) (hg : 0 < g) :
    returnIncomingEntry k c lot count s =
      (s.changePlacements k c (changePlacement lot fun q => { q with incoming := q.incoming - g }), g) := by
  subst h
  simp only [returnIncomingEntry, hx, if_neg (Nat.ne_of_gt hg)]

/-- Settles O22, from what a change of one lot's counts leaves. -/
theorem returnIncoming : Obligations.ReturnIncoming := by
  intro s k c lot count x hs hx hn
  have hb : s.begun.carrier k c = some x := hx
  rw [exec_returnIncoming hs]
  refine ⟨fun p g hp hg => ⟨fun h0 => ?given, fun h0 => ?nothing⟩, fun hp => ?absent⟩
  case given =>
    rw [returnIncomingEntry_some hb (by rw [incomingOf_some hp]; exact hg.symm) h0]
    refine ⟨_, rfl, changeLot_quiet hx hn hp ?_ _ (fun l => ?_) rfl⟩
    · exact fun q => ⟨rfl, rfl⟩
    · have : g ≤ p.incoming := hg ▸ Nat.min_le_right _ _
      have : l.incoming + (p.incoming - g) - p.incoming = l.incoming - g := by omega
      simp [this]
  case nothing =>
    rw [returnIncomingEntry_none hb (by rw [incomingOf_some hp, ← hg, h0])]
  case absent =>
    rw [returnIncomingEntry_none hb (by simp [incomingOf, hp])]

/-! ## Commits (R17, R18) -/

theorem exec_commitPick {s : State} (h : s.resetLow = false) (k : Carousel) (c lot : Nat) :
    exec (.commitPick k c lot) s =
      .next ((commitPickEntry k c lot s.begun).1.ans (takenOr (commitPickEntry k c lot s.begun).2)) := by
  show execCommitPick k c lot s = _
  simp only [execCommitPick, carry_begun h]

theorem exec_commitPut {s : State} (h : s.resetLow = false) (k : Carousel) (c lot : Nat) :
    exec (.commitPut k c lot) s =
      .next ((commitPutEntry k c lot s.begun).1.ans (takenOr (commitPutEntry k c lot s.begun).2)) := by
  show execCommitPut k c lot s = _
  simp only [execCommitPut, carry_begun h]

theorem pickTakes_iff {s : State} {k : Carousel} {c : Nat} {x : Carrier} (hx : s.carrier k c = some x) (lot : Nat) :
    s.pickTakes k c lot = true ↔ x.serves = true ∧ 1 ≤ reservedOf lot x.placements := by
  simp [State.pickTakes, hx]

theorem putTakes_iff {s : State} {k : Carousel} {c : Nat} {x : Carrier} (hx : s.carrier k c = some x) (lot : Nat) :
    s.putTakes k c lot = true ↔ x.serves = true ∧ 1 ≤ incomingOf lot x.placements := by
  simp [State.putTakes, hx]

/-- A carrier that is AUDIT-LOCKED or DISABLED serves nothing (R10). -/
theorem not_serves {x : Carrier} (h : x.state = .auditLocked ∨ x.state = .disabled) : x.serves = false := by
  rcases h with h | h <;> simp [Carrier.serves, h]

/-- The lots of changed placements are among those that stood, in order. -/
theorem changePlacement_lots {lot : Nat} {f : Placement → Placement} (hf : ∀ q, (f q).lot = q.lot) (ps : List Placement) :
    ((changePlacement lot f ps).map (·.lot)).Sublist (ps.map (·.lot)) := by
  have h : (ps.map fun q => if q.lot = lot then f q else q).map (·.lot) = ps.map (·.lot) := by
    rw [List.map_map]
    exact List.map_congr_left fun q _ => by by_cases e : q.lot = lot <;> simp [e, hf]
  rw [← h]
  exact List.filter_sublist.map _

/-- Of placements of distinct lots, those of one lot are the one found for it. -/
theorem filter_lot {ps : List Placement} (hn : (ps.map (·.lot)).Nodup) (lot : Nat) :
    (ps.filter fun q => decide (q.lot = lot)) = (placementOf lot ps).toList := by
  induction ps with
  | nil => rfl
  | cons q ps ih =>
    simp only [List.map_cons, List.nodup_cons] at hn
    by_cases e : q.lot = lot
    · have hrest : (ps.filter fun r => decide (r.lot = lot)) = [] :=
        List.filter_eq_nil_iff.mpr fun r hr => by
          simpa using fun hrl => hn.1 (List.mem_map.mpr ⟨r, hr, hrl.trans e.symm⟩)
      simp [placementOf, e, hrest]
    · simpa [placementOf, e] using ih hn.2

/-- A sum over a carrier's placements moves with the one placement that changes, where an emptied one adds nothing. -/
theorem sum_changePlacement {lot : Nat} {f : Placement → Placement} (hf : ∀ q, (f q).lot = q.lot) {ps : List Placement}
    (hn : (ps.map (·.lot)).Nodup) {p : Placement} (hp : placementOf lot ps = some p) {w : Placement → Nat}
    (hw : ∀ q : Placement, q.onHand = 0 → q.incoming = 0 → w q = 0) :
    ((changePlacement lot f ps).map w).sum + w p = (ps.map w).sum + w (f p) := by
  obtain ⟨hm, -⟩ := placementOf_some hp
  induction ps with
  | nil => cases hm
  | cons q ps ih =>
    simp only [List.map_cons, List.nodup_cons, List.sum_cons] at hn ⊢
    by_cases e : q.lot = lot
    · obtain rfl : q = p := by
        have : placementOf lot (q :: ps) = some q := by simp [placementOf, e]
        exact Option.some.inj (this.symm.trans hp)
      have hother : ∀ r ∈ ps, r.lot ≠ lot := fun r hr hrl => hn.1 (List.mem_map.mpr ⟨r, hr, hrl.trans e.symm⟩)
      have hrest : changePlacement lot f ps = ps := by
        have hmap : (ps.map fun r => if r.lot = lot then f r else r) = ps :=
          (List.map_congr_left fun r hr => if_neg (hother r hr)).trans (List.map_id _)
        rw [changePlacement, hmap]
        exact List.filter_eq_self.mpr fun r hr => by simp [hother r hr]
      have hcons : changePlacement lot f (q :: ps) =
          if (f q).onHand = 0 ∧ (f q).reserved = 0 ∧ (f q).incoming = 0 then ps else f q :: ps := by
        conv_rhs => rw [← hrest]
        by_cases hz : (f q).onHand = 0 ∧ (f q).reserved = 0 ∧ (f q).incoming = 0
        · rw [if_pos hz, changePlacement, List.map_cons, List.filter_cons_of_neg (by simp [e, hf, hz])]; rfl
        · rw [if_neg hz, changePlacement, List.map_cons, List.filter_cons_of_pos (by simp [e, hf]; tauto), if_pos e]; rfl
      rw [hcons]
      split
      · rename_i hz
        rw [hw _ hz.1 hz.2.2]; omega
      · rw [List.map_cons, List.sum_cons]; omega
    · have hq : placementOf lot ps = some p := by simpa [placementOf, e] using hp
      have hcons : changePlacement lot f (q :: ps) = q :: changePlacement lot f ps := by simp [changePlacement, e]
      have := ih hn.2 hq (placementOf_some hq).1
      rw [hcons, List.map_cons, List.sum_cons]; omega

/-- The actual mass moves with the on-hand count that changes (R11). -/
theorem actualMass_changeLot {s : State} {lot : Nat} {f : Placement → Placement} (hf : ∀ q, (f q).lot = q.lot)
    {ps : List Placement} (hn : (ps.map (·.lot)).Nodup) {p : Placement} (hp : placementOf lot ps = some p) :
    s.actualMass (changePlacement lot f ps) + p.onHand * (s.lotOr lot).mass =
      s.actualMass ps + (f p).onHand * (s.lotOr lot).mass := by
  have h := sum_changePlacement hf hn hp (w := fun q => q.onHand * (s.lotOr q.lot).mass) fun q hq _ => by simp [hq]
  rwa [hf, (placementOf_some hp).2] at h

/-- A carrier whose one placement changes reports a stock rise of that lot alone, where its on-hand count rises and it is
ACTIVE (R14). -/
theorem stockRises_change {s : State} {lot : Nat} {f : Placement → Placement} (hf : ∀ q, (f q).lot = q.lot)
    {ps : List Placement} (hn : (ps.map (·.lot)).Nodup) {p : Placement} (hp : placementOf lot ps = some p) :
    ((changePlacement lot f ps).filter fun q => decide (onHandOf q.lot ps < q.onHand) && s.lotActive q.lot).map
        (fun q => Instr.stockRiseReport (s.labelOf q.lot).article) =
      if p.onHand < (f p).onHand ∧ s.lotActive lot = true then [.stockRiseReport (s.labelOf lot).article] else [] := by
  have hlot : ((changePlacement lot f ps).filter fun q => decide (onHandOf q.lot ps < q.onHand) && s.lotActive q.lot) =
      ((placementOf lot (changePlacement lot f ps)).toList.filter fun q =>
        decide (onHandOf q.lot ps < q.onHand) && s.lotActive q.lot) := by
    rw [← filter_lot ((changePlacement_lots hf ps).nodup hn), List.filter_filter]
    refine List.filter_congr fun q hq => ?_
    suffices q.lot ≠ lot → ¬ onHandOf q.lot ps < q.onHand by by_cases e : q.lot = lot <;> simp_all
    intro e
    have hq' : placementOf q.lot ps = some q := by
      rw [← placementOf_change_other e hf]
      exact placementOf_mem ((changePlacement_lots hf ps).nodup hn) hq rfl
    simp [onHandOf_some hq']
  rw [hlot, placementOf_change hf hn hp]
  have hfl : (f p).lot = lot := (hf p).trans (placementOf_some hp).2
  split
  · rename_i hz
    simp [hz.1]
  · by_cases h : p.onHand < (f p).onHand ∧ s.lotActive lot = true <;>
      simp_all [onHandOf_some hp]

/-- The reports of a commit: the mass, which changes, and the stock rise of an ACTIVE lot whose on-hand count rises (R14). -/
theorem carrierReports_commit {s : State} {k : Carousel} {c lot : Nat} {x : Carrier} {f : Placement → Placement}
    (hf : ∀ q, (f q).lot = q.lot) (hn : (x.placements.map (·.lot)).Nodup) {p : Placement}
    (hp : placementOf lot x.placements = some p) (hne : (f p).onHand ≠ p.onHand) (hm : 0 < (s.lotOr lot).mass) :
    s.carrierReports k c x { x with placements := changePlacement lot f x.placements } =
      .massReport k [(c, min (s.actualMass (changePlacement lot f x.placements)) 2047)] ::
        if p.onHand < (f p).onHand ∧ s.lotActive lot = true then [.stockRiseReport (s.labelOf lot).article] else [] := by
  have hmass : s.actualMass x.placements ≠ s.actualMass (changePlacement lot f x.placements) := by
    have h := actualMass_changeLot (s := s) hf hn hp
    intro e
    rw [e] at h
    exact hne (Nat.eq_of_mul_eq_mul_right hm (Nat.add_left_cancel h)).symm
  simp only [State.carrierReports, if_neg hmass, stockRises_change hf hn hp, Carrier.able, Bool.and_not_self,
    Bool.false_eq_true, if_false, List.append_nil, List.singleton_append, Config.massClamp]

/-- What a commit that moves one tyre of a lot leaves (R17, R18). -/
theorem commit_spec {s : State} {k : Carousel} {c lot : Nat} {x : Carrier} {p : Placement} (hx : s.carrier k c = some x)
    (hn : (x.placements.map (·.lot)).Nodup) (hp : placementOf lot x.placements = some p) (hm : 0 < (s.lotOr lot).mass)
    (f : Placement → Placement) (hf : ∀ q, (f q).lot = q.lot) (hne : (f p).onHand ≠ p.onHand) {g : Lot → Lot}
    (hg : ∀ l, g l = { l with onHand := l.onHand + (f p).onHand - p.onHand,
                              reserved := l.reserved + (f p).reserved - p.reserved,
                              incoming := l.incoming + (f p).incoming - p.incoming }) :
    ∃ t ps, ps = countsChanged lot f x.placements ∧
      Host.Outcome.next (φ := Fault) (ρ := Refusal) ((s.begun.changePlacements k c (changePlacement lot f)).ans .taken) =
        .next t ∧ t.answer = .taken ∧
      t.mail = s.mail ++ .massReport k [(c, min (s.actualMass ps) 2047)] ::
        (if p.onHand < (f p).onHand ∧ s.lotActive lot = true then [.stockRiseReport (s.labelOf lot).article] else []) ∧
      s.restocked k c { x with placements := ps } t ∧ s.retotalled lot g t ∧ s.onlyStock t := by
  obtain ⟨ha, hmail, hr, ht, ho⟩ := changeLot_answered hx hn hp hf .taken rfl
  rw [carrierReports_commit hf hn hp hne hm, changePlacement_counts] at hmail
  obtain rfl : g = _ := funext hg
  exact ⟨_, _, rfl, rfl, ha, hmail, hr, ht, ho⟩

/-- Settles O20, from what a commit leaves. -/
theorem commits : Obligations.Commits := by
  intro s k c lot x hs hx hn hm
  have hb : s.begun.carrier k c = some x := hx
  rw [exec_commitPick hs, exec_commitPut hs]
  refine ⟨fun p hp hserves => ⟨fun h1 hle => ?picked, fun h1 => ?put⟩, fun h => ?noPick, fun h => ?noPut⟩
  case picked =>
    rw [commitPickEntry, if_pos ((pickTakes_iff hb lot).2 ⟨hserves, by rwa [reservedOf_some hp]⟩)]
    have spec := commit_spec hx hn hp hm (fun q => { q with onHand := q.onHand - 1, reserved := q.reserved - 1 })
      (fun _ => rfl) (by dsimp only; omega) (g := fun l => { l with onHand := l.onHand - 1, reserved := l.reserved - 1 })
      fun l => by simp only [Lot.mk.injEq, true_and]; omega
    rwa [if_neg (by dsimp only; omega)] at spec
  case put =>
    rw [commitPutEntry, if_pos ((putTakes_iff hb lot).2 ⟨hserves, by rwa [incomingOf_some hp]⟩)]
    have spec := commit_spec hx hn hp hm (fun q => { q with onHand := q.onHand + 1, incoming := q.incoming - 1 })
      (fun _ => rfl) (by dsimp only; omega) (g := fun l => { l with onHand := l.onHand + 1, incoming := l.incoming - 1 })
      fun l => by simp only [Lot.mk.injEq, true_and]; omega
    simpa [takenOr] using spec
  case noPick =>
    rw [commitPickEntry, if_neg]
    · rfl
    · rw [pickTakes_iff hb]
      rintro ⟨hserves, h1⟩
      rcases h with h | h | h
      · simp [not_serves (.inl h)] at hserves
      · simp [not_serves (.inr h)] at hserves
      · omega
  case noPut =>
    rw [commitPutEntry, if_neg]
    · rfl
    · rw [putTakes_iff hb]
      rintro ⟨hserves, h1⟩
      rcases h with h | h | h
      · simp [not_serves (.inl h)] at hserves
      · simp [not_serves (.inr h)] at hserves
      · omega

/-! ## Planned puts and the room test (R12, R19) -/

theorem exec_roomQuery {s : State} (h : s.resetLow = false) (k : Carousel) (c lot count : Nat) :
    exec (.roomQuery k c lot count) s = .next (s.begun.ans (.room (s.roomQuery k c lot count))) := by
  show execRoomQuery k c lot count s = _
  simp only [execRoomQuery, carry_begun h, State.begun_roomQuery]

theorem exec_planIncoming {s : State} (h : s.resetLow = false) (k : Carousel) (c lot count : Nat) :
    exec (.planIncoming k c lot count) s =
      .next ((planIncomingEntry k c lot count s.begun).1.ans (takenOr (planIncomingEntry k c lot count s.begun).2)) := by
  show execPlanIncoming k c lot count s = _
  simp only [execPlanIncoming, carry_begun h]

/-- Counting down finds the greatest number that passes. -/
theorem greatest_spec (p : Nat → Bool) (count : Nat) :
    greatest p count ≤ count ∧ (1 ≤ greatest p count → p (greatest p count) = true) ∧
      ∀ m, greatest p count < m → m ≤ count → p m = false := by
  induction count with
  | zero => exact ⟨Nat.le_refl 0, fun h => absurd h (by simp [greatest]), fun m h1 h2 => by omega⟩
  | succ n ih =>
    obtain ⟨hle, hp, hgt⟩ := ih
    by_cases h : p (n + 1) = true
    · rw [greatest, if_pos h]
      exact ⟨Nat.le_refl _, fun _ => h, fun m h1 h2 => by omega⟩
    · rw [greatest, if_neg h]
      refine ⟨by omega, hp, fun m h1 h2 => ?_⟩
      rcases Nat.lt_or_ge n m with hm | hm
      · obtain rfl : m = n + 1 := by omega
        simpa using h
      · exact hgt m h1 hm

/-- A lot has a placement when one of the placements is of it. -/
theorem placementOf_isSome_iff {lot : Nat} {ps : List Placement} :
    (placementOf lot ps).isSome = true ↔ ∃ p ∈ ps, p.lot = lot := by
  simp [placementOf, List.find?_isSome]

theorem placementOf_none_iff {lot : Nat} {ps : List Placement} : placementOf lot ps = none ↔ ∀ p ∈ ps, p.lot ≠ lot := by
  simp [placementOf, List.find?_eq_none]

/-- Placements changed in place are found where they stood. -/
theorem placementOf_map {f : Placement → Placement} (hf : ∀ q, (f q).lot = q.lot) (n : Nat) (ps : List Placement) :
    placementOf n (ps.map f) = (placementOf n ps).map f := by
  simp only [placementOf, List.find?_map, Function.comp_def, hf]

/-- Tyres booked for a lot that has a placement. -/
theorem bookIncoming_has {lot count : Nat} {ps : List Placement} (h : (placementOf lot ps).isSome = true) (hc : 1 ≤ count) :
    bookIncoming lot count ps = ps.map fun q => if q.lot = lot then { q with incoming := q.incoming + count } else q := by
  rw [bookIncoming, if_pos h, changePlacement]
  refine List.filter_eq_self.mpr fun p hp => ?_
  obtain ⟨q, -, rfl⟩ := List.mem_map.mp hp
  by_cases e : q.lot = lot
  · simp [e]; omega
  · simp [e]

/-- Tyres booked for a lot that takes a new placement. -/
theorem bookIncoming_new {lot : Nat} {ps : List Placement} (h : placementOf lot ps = none) (count : Nat) :
    bookIncoming lot count ps = ps ++ [{ lot := lot, onHand := 0, reserved := 0, incoming := count }] := by
  simp [bookIncoming, h]

/-- A booking is of placements of distinct lots. -/
theorem bookIncoming_nodup {lot count : Nat} {ps : List Placement} (hn : (ps.map (·.lot)).Nodup) :
    ((bookIncoming lot count ps).map (·.lot)).Nodup := by
  unfold bookIncoming
  split
  · refine (changePlacement_lots ?_ ps).nodup hn
    exact fun _ => rfl
  · rename_i h
    rw [placementOf_isSome_iff] at h
    simp only [List.map_append, List.map_cons, List.map_nil, List.nodup_append, List.nodup_singleton]
    refine ⟨hn, trivial, fun a ha b hb => ?_⟩
    obtain ⟨p, hp, rfl⟩ := List.mem_map.mp ha
    obtain rfl := List.mem_singleton.mp hb
    exact fun e => h ⟨p, hp, e⟩

/-- A booking changes the incoming count of its lot alone. -/
theorem bookIncoming_counts {lot count : Nat} (ps : List Placement) (hc : 1 ≤ count) (n : Nat) :
    onHandOf n (bookIncoming lot count ps) = onHandOf n ps ∧ reservedOf n (bookIncoming lot count ps) = reservedOf n ps ∧
      incomingOf n (bookIncoming lot count ps) = incomingOf n ps + if n = lot then count else 0 := by
  cases h : placementOf lot ps with
  | some p =>
    have hlot : ∀ q : Placement, (if q.lot = lot then { q with incoming := q.incoming + count } else q).lot = q.lot :=
      fun q => by split <;> rfl
    rw [bookIncoming_has (by simp [h]) hc]
    simp only [onHandOf, reservedOf, incomingOf, placementOf_map hlot]
    cases hq : placementOf n ps with
    | none =>
      have : n ≠ lot := fun e => by simp [e, h] at hq
      simp [this]
    | some q =>
      have := (placementOf_some hq).2
      by_cases e : n = lot <;> simp_all
  | none =>
    rw [bookIncoming_new h]
    cases hq : placementOf n ps with
    | some q =>
      have e : n ≠ lot := fun e => by simp [e, h] at hq
      have : placementOf n (ps ++ [{ lot := lot, onHand := 0, reserved := 0, incoming := count }]) = some q := by
        simp only [placementOf] at hq ⊢
        simp [List.find?_append, hq]
      simp [onHandOf, reservedOf, incomingOf, this, hq, e]
    | none =>
      have hnone : placementOf n (ps ++ [{ lot := lot, onHand := 0, reserved := 0, incoming := count }]) =
          if lot = n then some { lot := lot, onHand := 0, reserved := 0, incoming := count } else none := by
        simp only [placementOf] at hq ⊢
        by_cases e : lot = n <;> simp [List.find?_append, hq, e]
      by_cases e : n = lot
      · subst e; simp [onHandOf, reservedOf, incomingOf, hnone, hq]
      · simp [onHandOf, reservedOf, incomingOf, hnone, hq, e, Ne.symm e]

/-- A change of a carrier that leaves its state, its mark and every on-hand count makes no report (R14). -/
theorem carrierReports_none {s : State} {k : Carousel} {c : Nat} {x : Carrier} {ps : List Placement}
    (hn : (ps.map (·.lot)).Nodup) (hm : s.actualMass ps = s.actualMass x.placements)
    (ho : ∀ n, onHandOf n ps = onHandOf n x.placements) : s.carrierReports k c x { x with placements := ps } = [] := by
  have hr : (ps.filter fun p => decide (onHandOf p.lot x.placements < p.onHand) && s.lotActive p.lot) = [] :=
    List.filter_eq_nil_iff.mpr fun p hp => by simp [← ho, onHandOf_some (placementOf_mem hn hp rfl)]
  simp [State.carrierReports, hm, hr, Carrier.able]

/-- A booking leaves the actual mass (R11). -/
theorem actualMass_bookIncoming (s : State) (lot count : Nat) (ps : List Placement) :
    s.actualMass (bookIncoming lot count ps) = s.actualMass ps := by
  unfold bookIncoming
  split
  · refine actualMass_change ?_ s ps
    exact fun _ => ⟨rfl, rfl⟩
  · simp [State.actualMass]

/-- What a plan-incoming entry that is taken leaves (R19). -/
theorem planIncoming_spec {s : State} {k : Carousel} {c lot count : Nat} {x : Carrier} (hx : s.carrier k c = some x)
    (hn : (x.placements.map (·.lot)).Nodup) (hc : 1 ≤ count) (a : Answer) {t : State}
    (ht : t = (s.begun.changePlacements k c (bookIncoming lot count)).ans a) :
    t.answer = a ∧ t.mail = s.mail ∧
      s.restocked k c { x with placements := bookIncoming lot count x.placements } t ∧
      s.retotalled lot (fun l => { l with incoming := l.incoming + count }) t ∧ s.onlyStock t := by
  obtain ⟨h1, h2, h3, h4⟩ := changeCarrier_spec (s := s.begun) hx
    fun y => { y with placements := bookIncoming lot count y.placements }
  have hcounts := bookIncoming_counts (lot := lot) x.placements hc
  rw [carrierReports_none (bookIncoming_nodup hn) (actualMass_bookIncoming _ _ _ _) fun n => (hcounts n).1,
    List.append_nil] at h3
  have hl : t.lots = retotal x.placements (bookIncoming lot count x.placements) s.lots := by rw [ht]; exact h2
  refine ⟨by rw [ht]; rfl, by rw [ht]; exact h3, by rw [ht]; exact h1, ⟨?_, fun m hm => ?_⟩, ?_⟩
  · have hi (j : Nat) : j + (incomingOf lot x.placements + count) - incomingOf lot x.placements = j + count := by omega
    simp only [State.lot, hl, tget_retotal, hcounts, if_true, Nat.add_sub_cancel, hi]
  · simp [State.lot, hl, tget_retotal, hcounts, hm]
  · rw [ht, State.onlyStock, State.changePlacements, h4]; rfl

theorem planTakes_iff {s : State} {k : Carousel} {c : Nat} {x : Carrier} (hx : s.carrier k c = some x) (lot count : Nat) :
    s.planTakes k c lot count = true ↔ 1 ≤ count ∧ (x.state = .normal ∧ x.excluded = false) ∧ s.lotActive lot = true ∧
      s.roomTest k c lot count = true := by
  simp [State.planTakes, hx, Carrier.takesNew, and_assoc]

theorem claim_putBookings : Claims.PutBookings := by
  intro s k c lot count hs
  rw [exec_roomQuery hs, exec_planIncoming hs]
  refine ⟨⟨_, rfl, greatest_spec _ _⟩, fun x hx hn hc => ⟨fun hst hex hact hroom => ?taken, fun h => ?refused⟩⟩
  case taken =>
    have ht : s.begun.planTakes k c lot count = true := (planTakes_iff hx lot count).2 ⟨hc, ⟨hst, hex⟩, hact, hroom⟩
    rw [planIncomingEntry, if_pos ht]
    obtain ⟨ha, hmail, hr, htot, ho⟩ := planIncoming_spec hx hn hc .taken rfl
    exact ⟨_, _, rfl, ha, hmail, fun p hp => bookIncoming_has (by simp [hp]) hc, fun hp => bookIncoming_new hp count, hr,
      htot, ho⟩
  case refused =>
    have ht : ¬ s.begun.planTakes k c lot count = true := by
      rw [planTakes_iff (s := s.begun) hx]
      rintro ⟨-, ⟨hst, hex⟩, hact, hroom⟩
      simp_all
    rw [planIncomingEntry, if_neg ht]
    rfl

/-- The length that a count of a lot's tyres occupies, in the statement's words (R12). -/
theorem occupied_eq (l : Lot) (gap : Nat) (ds : Bool) (n : Nat) :
    l.occupied gap ds n = (n + (if ds = true ∧ l.width ≤ 205 ∧ l.rim ≤ 17 then 2 else 1) - 1) /
      (if ds = true ∧ l.width ≤ 205 ∧ l.rim ≤ 17 then 2 else 1) * ((l.width + gap + 5 - 1) / 5) := by
  have hs : l.stack ds = if ds = true ∧ l.width ≤ 205 ∧ l.rim ≤ 17 then 2 else 1 := by
    simp only [Lot.stack, Bool.and_eq_true, decide_eq_true_eq, and_assoc]
  simp only [Lot.occupied, Lot.pitch, hs, Nat.add_assoc]
  norm_num

/-- The lengths that placements occupy with `n` more tyres of a lot are those of the placements with these booked (R12). -/
theorem occupiedWith_eq (s : State) (gap : Nat) (ds : Bool) {lot n : Nat} (h1 : 1 ≤ n) (ps : List Placement) :
    s.occupiedWith gap ds lot n ps =
      ((bookIncoming lot n ps).map fun p => (s.lotOr p.lot).occupied gap ds (p.onHand + p.incoming)).sum := by
  unfold State.occupiedWith
  cases h : placementOf lot ps with
  | some p =>
    rw [bookIncoming_has (by simp [h]) h1, List.map_map, Option.isSome_some, if_pos rfl, Nat.add_zero]
    refine congrArg List.sum (List.map_congr_left fun q _ => ?_)
    by_cases e : q.lot = lot <;> simp [e, Nat.add_assoc]
  | none =>
    rw [placementOf_none_iff] at h
    rw [bookIncoming_new (placementOf_none_iff.2 h), List.map_append, List.sum_append]
    have hm : (ps.map fun p => (s.lotOr p.lot).occupied gap ds (p.onHand + p.incoming + if p.lot = lot then n else 0)) =
        ps.map fun p => (s.lotOr p.lot).occupied gap ds (p.onHand + p.incoming) :=
      List.map_congr_left fun q hq => by simp [h q hq]
    simp [hm]

/-- The planned mass with `n` more tyres of a lot is that of the placements with these booked (R11). -/
theorem plannedMass_book (s : State) {lot n : Nat} {ps : List Placement} (hn : (ps.map (·.lot)).Nodup) :
    s.plannedMass ps + n * (s.lotOr lot).mass = s.plannedMass (bookIncoming lot n ps) := by
  cases h : placementOf lot ps with
  | some p =>
    have hs := sum_changePlacement (f := fun q => { q with incoming := q.incoming + n }) (fun _ => rfl) hn h
      (w := fun q => (q.onHand + q.incoming) * (s.lotOr q.lot).mass) fun q h1 h2 => by simp [h1, h2]
    rw [bookIncoming, h, Option.isSome_some, if_pos rfl]
    simp only [(placementOf_some h).2, ← Nat.add_assoc, Nat.add_mul _ n] at hs
    simp only [State.plannedMass]
    omega
  | none =>
    rw [bookIncoming_new h]
    simp [State.plannedMass]

/-- The tyres of a lot on hand and incoming once `n` more are booked come to at most a bound. -/
theorem booked_le_iff {lot n m : Nat} (h1 : 1 ≤ n) {ps : List Placement} (hn : (ps.map (·.lot)).Nodup) :
    onHandOf lot ps + incomingOf lot ps + n ≤ m ↔ ∀ p ∈ bookIncoming lot n ps, p.lot = lot → p.onHand + p.incoming ≤ m := by
  obtain ⟨ho, -, hi⟩ := bookIncoming_counts ps h1 lot (lot := lot)
  rw [← ho, Nat.add_assoc, ← show incomingOf lot (bookIncoming lot n ps) = incomingOf lot ps + n by simpa using hi]
  constructor
  · intro h p hp hl
    have hf := placementOf_mem (bookIncoming_nodup hn) hp hl
    rwa [onHandOf_some hf, incomingOf_some hf] at h
  · intro h
    cases hf : placementOf lot (bookIncoming lot n ps) with
    | some p =>
      obtain ⟨hp, hl⟩ := placementOf_some hf
      rw [onHandOf_some hf, incomingOf_some hf]
      exact h p hp hl
    | none => simp [onHandOf, incomingOf, hf]

theorem claim_roomTests : Claims.RoomTests := by
  intro s k c lot n car x hcar hx hn h1 ceil pitch stack occupied has booked
  have hb : booked = bookIncoming lot n x.placements := by
    by_cases hh : has
    · rw [bookIncoming_has (placementOf_isSome_iff.2 hh) h1]; exact if_pos hh
    · rw [bookIncoming_new (placementOf_none_iff.2 fun p hp hl => hh ⟨p, hp, hl⟩)]; exact if_neg hh
  have ho : s.occupiedWith car.gap x.doubleStack lot n x.placements = (booked.map occupied).sum := by
    rw [occupiedWith_eq _ _ _ h1, hb]
    exact congrArg List.sum (List.map_congr_left fun p _ => occupied_eq _ _ _ _)
  have hm := plannedMass_book s hn (lot := lot) (n := n)
  rw [← hb] at hm
  have hc := booked_le_iff h1 hn (lot := lot) (m := 63)
  rw [← hb] at hc
  simp only [State.roomTest, hcar, hx, Bool.and_eq_true, Bool.or_eq_true, decide_eq_true_eq, placementOf_isSome_iff, ho, hm,
    and_assoc]
  exact and_congr Iff.rfl (and_congr hc Iff.rfl)

/-- Settles O21: the query and the booking, and the room test that both use. -/
theorem plannedPuts : Obligations.PlannedPuts := ⟨claim_putBookings, claim_roomTests⟩

/-! ## Exclusions (R10, R14) -/

/-- A restocked carousel, read back: the carrier named, every other carrier, and every other carousel. -/
theorem restocked_reads {s t : State} {k : Carousel} {c : Nat} {x y : Carrier} {car : StockCar}
    (hc : s.stockCar k = some car) (hx : s.carrier k c = some x) (h : s.restocked k c y t) :
    (∃ car', t.stockCar k = some car' ∧ car'.rated = car.rated) ∧
      (t.carrier k c = some { y with overload := decide (car.rated < s.actualMass y.placements) }) ∧
      (∀ d, d ≠ c → t.carrier k d = s.carrier k d) ∧ ∀ j : Carousel, j ≠ k → t.stockCar j = s.stockCar j := by
  obtain ⟨car0, hc0, ht⟩ := h
  obtain rfl : car = car0 := Option.some.inj (hc.symm.trans hc0)
  have hstock : ∀ j, t.stockCar j = (s.setStock k (some { car with
      carriers := car.carriers.set c { y with overload := decide (car.rated < s.actualMass y.placements) } })).stockCar j := by
    intro j; simp only [State.stockCar, ht]
  have hk := (hstock k).trans (State.stockCar_setStock _ _ _)
  have hlen : c < car.carriers.length := by
    simp only [State.carrier, hc] at hx
    exact (List.getElem?_eq_some_iff.mp hx).1
  refine ⟨⟨_, hk, rfl⟩, ?_, fun d hd => ?_, fun j hj => ?_⟩
  · simp [State.carrier, hk, hlen]
  · simp [State.carrier, hk, hc, List.getElem?_set_ne (Ne.symm hd)]
  · rw [hstock, State.stockCar_setStock_ne _ _ hj]

/-- A carrier's excluded mark set or cleared: the reports are of a carrier that becomes able to take new reservations. -/
theorem carrierReports_mark {s : State} {k : Carousel} {c : Nat} {x : Carrier} (hn : (x.placements.map (·.lot)).Nodup)
    (e : Bool) : s.carrierReports k c x { x with excluded := e } =
      if e = false ∧ x.state = .normal ∧ x.excluded = true then [.eligibilityReport k c] else [] := by
  have hr : (x.placements.filter fun p => decide (onHandOf p.lot x.placements < p.onHand) && s.lotActive p.lot) = [] :=
    List.filter_eq_nil_iff.mpr fun p hp => by simp [onHandOf_some (placementOf_mem hn hp rfl)]
  cases e
  · by_cases h : x.state = .normal <;> simp [State.carrierReports, hr, Carrier.able, h]
  · simp [State.carrierReports, hr, Carrier.able]

/-- The excluded marks of several carriers set or cleared one after another. -/
def State.mark (s : State) (k : Carousel) (e : Bool) (cs : List Nat) : State :=
  cs.foldl (fun s c => s.changeCarrier k c fun x => { x with excluded := e }) s

theorem excludeEntry_eq (k : Carousel) (cs : List Nat) (s : State) : excludeEntry k cs s = s.mark k true cs := rfl

theorem admitEntry_eq (k : Carousel) (cs : List Nat) (s : State) : admitEntry k cs s = s.mark k false cs := rfl

/-- What marks set or cleared leave: the marks of the carriers named, with their OVERLOAD marks, and the eligibility reports of
those that become able to take new reservations. -/
theorem State.mark_spec {k : Carousel} (e : Bool) {cs : List Nat} (hcs : cs.Nodup) :
    ∀ {s : State} {car : StockCar}, s.stockCar k = some car →
      (∀ d x, s.carrier k d = some x → (x.placements.map (·.lot)).Nodup) →
      (∀ d, (s.mark k e cs).carrier k d = (s.carrier k d).map fun x => if d ∈ cs then
        { x with excluded := e, overload := decide (car.rated < s.actualMass x.placements) } else x) ∧
      (∀ j : Carousel, j ≠ k → (s.mark k e cs).stockCar j = s.stockCar j) ∧ (s.mark k e cs).lots = s.lots ∧
      (s.mark k e cs).mail = s.mail ++ (cs.filter fun d => (s.carrier k d).any fun x =>
        !e && decide (x.state = .normal) && x.excluded).map (.eligibilityReport k) ∧
      s.mark k e cs = { s with lots := (s.mark k e cs).lots, stock := (s.mark k e cs).stock,
                               mail := (s.mark k e cs).mail } := by
  induction cs with
  | nil =>
    intro s car _ _
    refine ⟨fun d => ?_, fun _ _ => rfl, rfl, (List.append_nil _).symm, rfl⟩
    simp [State.mark]
  | cons c cs ih =>
    intro s car hc hn
    have hcs' := List.nodup_cons.mp hcs
    have hcons : s.mark k e (c :: cs) = (s.changeCarrier k c fun x => { x with excluded := e }).mark k e cs := rfl
    rw [hcons]
    cases hx : s.carrier k c with
    | none =>
      have hs : (s.changeCarrier k c fun x => { x with excluded := e }) = s := by simp [State.changeCarrier, hx]
      obtain ⟨h1, h2, h3, h4, h5⟩ := ih hcs'.2 hc hn
      rw [hs]
      refine ⟨fun d => ?_, h2, h3, by simp [h4, hx], h5⟩
      by_cases hd : d = c
      · subst hd; simp [h1, hx]
      · simp [h1, hd]
    | some x =>
      obtain ⟨hr, -, hm, hf⟩ := changeCarrier_spec hx fun x => { x with excluded := e }
      have hl := changeCarrier_lots (s := s) (k := k) (c := c) (f := fun x => { x with excluded := e }) fun _ => rfl
      obtain ⟨⟨car', hc', hrated⟩, hcc, hother, hcars⟩ := restocked_reads hc hx hr
      generalize (s.changeCarrier k c fun x => { x with excluded := e }) = u at *
      have hmass : ∀ ps, u.actualMass ps = s.actualMass ps := fun ps => by simp [State.actualMass, State.lotOr, State.lot, hl]
      have hn' : ∀ d y, u.carrier k d = some y → (y.placements.map (·.lot)).Nodup := by
        intro d y hy
        by_cases hd : d = c
        · subst hd
          rw [hcc] at hy
          obtain rfl := Option.some.inj hy
          exact hn d x hx
        · exact hn d y (by rwa [← hother d hd])
      obtain ⟨h1, h2, h3, h4, h5⟩ := ih hcs'.2 hc' hn'
      refine ⟨fun d => ?_, fun j hj => (h2 j hj).trans (hcars j hj), h3.trans hl, ?_, by rw [h5, hf]⟩
      · rw [h1, hrated]
        by_cases hd : d = c
        · subst hd; simp [hcc, hx, hcs'.1]
        · simp [hother d hd, hd, hmass]
      · have hcsame : cs.filter (fun d => (u.carrier k d).any fun x => !e && decide (x.state = .normal) && x.excluded) =
            cs.filter fun d => (s.carrier k d).any fun x => !e && decide (x.state = .normal) && x.excluded :=
          List.filter_congr fun d hd => by rw [hother d fun e => hcs'.1 (e ▸ hd)]
        rw [h4, hcsame, hm, carrierReports_mark (hn c x hx), List.append_assoc]
        by_cases hq : e = false ∧ x.state = .normal ∧ x.excluded = true
        · rw [if_pos hq, List.filter_cons_of_pos (by simp [hx, hq]), List.map_cons]; rfl
        · rw [if_neg hq, List.filter_cons_of_neg (by simpa [hx] using fun a b => by simpa [a, b] using hq)]; rfl

theorem exec_exclude {s : State} (h : s.resetLow = false) (k : Carousel) (cs : List Nat) :
    exec (.exclude k cs) s = .next ((s.begun.mark k true cs).ans .done) := by
  show execExclude k cs s = _
  simp only [execExclude, carry_begun h, excludeEntry_eq]

theorem exec_admitCarriers {s : State} (h : s.resetLow = false) (k : Carousel) (cs : List Nat) :
    exec (.admitCarriers k cs) s = .next ((s.begun.mark k false cs).ans .done) := by
  show execAdmitCarriers k cs s = _
  simp only [execAdmitCarriers, carry_begun h, admitEntry_eq]

/-- Settles O24, from what marks set one after another leave. -/
theorem exclusions : Obligations.Exclusions := by
  intro s k cs car hs hcar hcs hn
  have hn' : ∀ d x, s.begun.carrier k d = some x → (x.placements.map (·.lot)).Nodup := fun d x hx => by
    obtain ⟨car', hc', hg⟩ := carrier_stock (s := s) hx
    obtain rfl : car = car' := Option.some.inj (hcar.symm.trans hc')
    exact hn x (List.mem_of_getElem? hg)
  have marked := fun e => State.mark_spec (s := s.begun) e hcs hcar hn'
  rw [exec_exclude hs, exec_admitCarriers hs]
  constructor
  · obtain ⟨h1, h2, h3, h4, h5⟩ := marked true
    exact ⟨_, rfl, ⟨h1, h2, h3, rfl, by rw [State.onlyStock, h5]; rfl⟩, by simpa using h4⟩
  · obtain ⟨h1, h2, h3, h4, h5⟩ := marked false
    exact ⟨_, rfl, ⟨h1, h2, h3, rfl, by rw [State.onlyStock, h5]; rfl⟩, by simpa using h4⟩
end Sys2Proof.Machine

namespace Sys2Proof.Machine

/-! ## The audit states of a carrier (R21, R22) -/

theorem exec_auditMark {s : State} (h : s.resetLow = false) (k : Carousel) (c : Nat) :
    exec (.auditMark k c) s =
      .next ((auditMarkEntry k c s.begun).1.ans (if (auditMarkEntry k c s.begun).2 then .marked else .refused)) := by
  show execAuditMark k c s = _
  simp only [execAuditMark, carry_begun h]

theorem exec_auditClear {s : State} (h : s.resetLow = false) (k : Carousel) (c : Nat) :
    exec (.auditClear k c) s = .next ((auditClearEntry k c s.begun).ans .cleared) := by
  show execAuditClear k c s = _
  simp only [execAuditClear, carry_begun h]

theorem exec_auditLock {s : State} (h : s.resetLow = false) (k : Carousel) (c : Nat) :
    exec (.auditLock k c) s =
      .next ((auditLockEntry k c s.begun).1.ans (lockAnswer (auditLockEntry k c s.begun).2)) := by
  show execAuditLock k c s = _
  simp only [execAuditLock, carry_begun h]

theorem exec_auditUnlock {s : State} (h : s.resetLow = false) (k : Carousel) (c : Nat) :
    exec (.auditUnlock k c) s = .next ((auditUnlockEntry k c s.begun).ans .unlocked) := by
  show execAuditUnlock k c s = _
  simp only [execAuditUnlock, carry_begun h]

theorem carrierState_some {s : State} {k : Carousel} {c : Nat} {x : Carrier} (hx : s.carrier k c = some x) :
    s.carrierState k c = some x.state := by simp [State.carrierState, hx]

/-- A carrier whose state changes reports only that it becomes able to take new reservations (R14). -/
theorem carrierReports_state {s : State} {k : Carousel} {c : Nat} {x : Carrier} (hn : (x.placements.map (·.lot)).Nodup)
    (st : CarrierState) : s.carrierReports k c x { x with state := st } =
      if st = .normal ∧ x.excluded = false ∧ x.state ≠ .normal then [.eligibilityReport k c] else [] := by
  have hr : (x.placements.filter fun p => decide (onHandOf p.lot x.placements < p.onHand) && s.lotActive p.lot) = [] :=
    List.filter_eq_nil_iff.mpr fun p hp => by simp [onHandOf_some (placementOf_mem hn hp rfl)]
  by_cases h1 : st = .normal <;> cases h2 : x.excluded <;> simp [State.carrierReports, hr, Carrier.able, h1, h2]

/-- What a change of a carrier's state leaves. -/
theorem setCarrierState_spec {s : State} {k : Carousel} {c : Nat} {x : Carrier} (hx : s.carrier k c = some x)
    (hn : (x.placements.map (·.lot)).Nodup) (st : CarrierState) (a : Answer) {t : State}
    (ht : t = (s.begun.setCarrierState k c st).ans a) :
    t.answer = a ∧
      t.mail = s.mail ++ (if st = .normal ∧ x.excluded = false ∧ x.state ≠ .normal then [.eligibilityReport k c] else []) ∧
      s.restocked k c { x with state := st } t ∧ t.lots = s.lots ∧ s.onlyStock t := by
  obtain ⟨h1, -, h3, h4⟩ := changeCarrier_spec (s := s.begun) hx fun y => { y with state := st }
  have hl := changeCarrier_lots (s := s.begun) (k := k) (c := c) (f := fun y => { y with state := st }) fun _ => rfl
  rw [carrierReports_state hn] at h3
  subst ht
  exact ⟨rfl, h3, h1, hl, by rw [State.onlyStock, State.setCarrierState, h4]; rfl⟩

theorem claim_auditStates : Claims.AuditStates := by
  intro s k c x hs hx hn becomes
  have hb : s.begun.carrierState k c = some x.state := carrierState_some hx
  have hc : s.begun.carrier k c = some x := hx
  have changed (c' : Instr) (st : CarrierState) (a : Answer) (rs : List Instr)
      (he : exec c' s = .next ((s.begun.setCarrierState k c st).ans a))
      (hr : (if st = .normal ∧ x.excluded = false ∧ x.state ≠ .normal then [.eligibilityReport k c] else []) = rs) :
      becomes c' st a rs := by
    obtain ⟨h1, h2, h3⟩ := setCarrierState_spec hx hn st a rfl
    exact ⟨_, he, h1, hr ▸ h2, h3⟩
  refine ⟨fun h => changed _ _ _ _ ?_ (if_neg (by simp)), fun h => ?_, fun h => ?_, fun h => changed _ _ _ _ ?_ ?_, fun h => ?_,
    fun h hi => changed _ _ _ _ ?_ (if_neg (by simp)), fun h hi => ?_, fun h => ?_,
    fun h => changed _ _ _ _ ?_ (if_neg (by simp)), fun h => ?_⟩
  · rw [exec_auditMark hs]; rcases h with h | h <;> simp [auditMarkEntry, hb, h]
  · rw [exec_auditMark hs]; rcases h with h | h <;> simp [auditMarkEntry, hb, h]
  · rw [exec_auditMark hs]; simp [auditMarkEntry, hb, h]
  · rw [exec_auditClear hs, auditClearEntry, hb, if_pos (by rw [h])]
  · cases hx : x.excluded <;> simp [h]
  · rw [exec_auditClear hs, auditClearEntry, hb, if_neg (by simpa using h)]
  · have hz : (x.placements.all fun p => p.incoming == 0) = true := by simpa using hi
    rw [exec_auditLock hs]; simp only [auditLockEntry, hc, if_pos h, if_pos hz, lockAnswer]
  · have hz : ¬ (x.placements.all fun p => p.incoming == 0) = true := by
      obtain ⟨p, hp, h0⟩ := hi
      simpa using ⟨p, hp, by omega⟩
    rw [exec_auditLock hs]; simp only [auditLockEntry, hc, if_pos h, if_neg hz, lockAnswer]
  · rw [exec_auditLock hs]; simp only [auditLockEntry, hc, if_neg h, lockAnswer]
  · rw [exec_auditUnlock hs, auditUnlockEntry, hb, if_pos (by rw [h])]
  · rw [exec_auditUnlock hs, auditUnlockEntry, hb, if_neg (by simpa using h)]

/-! ## The apply of an audit count (R23) -/

theorem exec_auditApply_some {s u : State} (h : s.resetLow = false) {k : Carousel} {c unknown unplaced : Nat}
    {tally : List (Nat × Nat)} {v : List Variance}
    (hu : auditApplyEntry k c tally unknown unplaced s.begun = (u, some v)) :
    exec (.auditApply k c tally unknown unplaced) s = .next (u.ans (.applied v)) := by
  show execAuditApply k c tally unknown unplaced s = _
  simp only [execAuditApply, carry_begun h, hu]

theorem exec_auditApply_none {s u : State} (h : s.resetLow = false) {k : Carousel} {c unknown unplaced : Nat}
    {tally : List (Nat × Nat)} (hu : auditApplyEntry k c tally unknown unplaced s.begun = (u, none)) :
    exec (.auditApply k c tally unknown unplaced) s = .next (u.ans .refused) := by
  show execAuditApply k c tally unknown unplaced s = _
  simp only [execAuditApply, carry_begun h, hu]

theorem applyTakes_iff {s : State} {k : Carousel} {c : Nat} {x : Carrier} (hx : s.carrier k c = some x)
    (tally : List (Nat × Nat)) : s.applyTakes k c tally = true ↔
      x.state = .auditLocked ∧ ∀ p ∈ x.placements, p.reserved ≤ min (tallyOf p.lot tally) 63 := by
  simp [State.applyTakes, hx, applyTarget, Config.placementTyres]

theorem placementOf_append (n : Nat) (ps qs : List Placement) :
    placementOf n (ps ++ qs) = (placementOf n ps).or (placementOf n qs) := by
  simp [placementOf, List.find?_append]

/-- Of placements of distinct lots, those that a test leaves are found as before. -/
theorem placementOf_filter {ps : List Placement} (hn : (ps.map (·.lot)).Nodup) (n : Nat) (t : Placement → Bool) :
    placementOf n (ps.filter t) = (placementOf n ps).filter t := by
  have hn' : ((ps.filter t).map (·.lot)).Nodup := (List.filter_sublist.map _).nodup hn
  cases h : placementOf n ps with
  | none =>
    rw [placementOf_none_iff] at h
    exact placementOf_none_iff.2 fun p hp => h p (List.mem_filter.1 hp).1
  | some p =>
    obtain ⟨hp, hl⟩ := placementOf_some h
    cases ht : t p with
    | true => rw [Option.filter_some, if_pos ht]; exact placementOf_mem hn' (List.mem_filter.2 ⟨hp, ht⟩) hl
    | false =>
      simp only [Option.filter_some, ht, Bool.false_eq_true, if_false]
      refine placementOf_none_iff.2 fun q hq hql => ?_
      obtain ⟨hq, hqt⟩ := List.mem_filter.1 hq
      obtain rfl : q = p := Option.some.inj ((placementOf_mem hn hq hql).symm.trans h)
      simp [ht] at hqt

/-- The placement that a tallied lot takes when it had none. -/
def newlyTallied (e : Nat × Nat) : Placement := { lot := e.1, onHand := min e.2 63, reserved := 0, incoming := 0 }

/-- The tallied lots that had no placement. -/
def freshTally (old : List Placement) (tally : List (Nat × Nat)) : List (Nat × Nat) :=
  tally.filter fun e => (placementOf e.1 old).isNone

/-- The placements that keep a tyre under a count (R23). -/
def tallyKept (tally : List (Nat × Nat)) (old : List Placement) : List Placement :=
  (old.map fun p => { p with onHand := min (tallyOf p.lot tally) 63 }).filter fun p => decide (0 < p.onHand)

/-- The tyres of a tally that find no place: the excess over 63 of the lots that had a placement or take one of `room` free slots,
and the whole counts of those that find none. -/
def tallyExcess (old : List Placement) (tally : List (Nat × Nat)) (room : Nat) : Nat :=
  ((tally.filter fun e => (placementOf e.1 old).isSome).map fun e => e.2 - 63).sum +
    (((freshTally old tally).take room).map fun e => e.2 - 63).sum + (((freshTally old tally).drop room).map (·.2)).sum

/-- The tallied lots that had no placement take the free slots in tally order (R23). -/
theorem applyNew_spec (old : List Placement) {tally : List (Nat × Nat)} :
    ∀ {ps : List Placement}, ((freshTally old tally).map (·.1)).Nodup → (∀ e ∈ freshTally old tally, 1 ≤ e.2) →
      (∀ e ∈ freshTally old tally, placementOf e.1 ps = none) →
      applyNew old tally ps =
        (ps ++ ((freshTally old tally).take (4 - ps.length)).map newlyTallied, tallyExcess old tally (4 - ps.length)) := by
  induction tally with
  | nil => intro ps _ _ _; simp [applyNew, freshTally, tallyExcess]
  | cons e rest ih =>
    intro ps hn h1 hps
    obtain ⟨lot, n⟩ := e
    cases hold : placementOf lot old with
    | some p =>
      have hf : freshTally old ((lot, n) :: rest) = freshTally old rest := by simp [freshTally, hold]
      have hs : ((lot, n) :: rest).filter (fun e => (placementOf e.1 old).isSome) =
          (lot, n) :: rest.filter fun e => (placementOf e.1 old).isSome := List.filter_cons_of_pos (by simp [hold])
      rw [hf] at hn h1 hps ⊢
      rw [applyNew, if_pos (.inl (by simp [placementOf_append, hold])), ih hn h1 hps]
      simp only [tallyExcess, hf, hs, List.map_cons, List.sum_cons, Config.placementTyres, Prod.mk.injEq, true_and]
      omega
    | none =>
      have hf : freshTally old ((lot, n) :: rest) = (lot, n) :: freshTally old rest := by simp [freshTally, hold]
      have hs : ((lot, n) :: rest).filter (fun e => (placementOf e.1 old).isSome) =
          rest.filter fun e => (placementOf e.1 old).isSome := List.filter_cons_of_neg (by simp [hold])
      rw [hf] at hn h1 hps ⊢
      simp only [List.map_cons, List.nodup_cons] at hn
      have hlot : placementOf lot ps = none := hps _ (List.mem_cons_self ..)
      have hno : ¬ ((placementOf lot (old ++ ps)).isSome = true ∨ n = 0) := by
        have := h1 _ (List.mem_cons_self ..)
        simp [placementOf_append, hold, hlot]; omega
      have h1' : ∀ e ∈ freshTally old rest, 1 ≤ e.2 := fun e he => h1 e (List.mem_cons_of_mem _ he)
      have hps' : ∀ e ∈ freshTally old rest, placementOf e.1 ps = none := fun e he => hps e (List.mem_cons_of_mem _ he)
      rw [applyNew, if_neg hno]
      by_cases hroom : ps.length < 4
      · have hnew : ∀ e ∈ freshTally old rest, placementOf e.1 (ps ++ [newlyTallied (lot, n)]) = none := by
          intro e he
          have : e.1 ≠ lot := fun h => hn.1 (List.mem_map.2 ⟨e, he, h⟩)
          rw [placementOf_append, hps' e he]
          simp [placementOf, newlyTallied, Ne.symm this]
        have hlen : 4 - ps.length = 4 - (ps ++ [newlyTallied (lot, n)]).length + 1 := by
          simp only [List.length_append, List.length_singleton]; omega
        have := ih hn.2 h1' hnew
        rw [if_pos (show ps.length < Config.placements from hroom), hlen]
        simp only [newlyTallied, Config.placementTyres] at this ⊢
        simp only [this, tallyExcess, hf, hs, List.take_succ_cons, List.drop_succ_cons, List.map_cons, List.sum_cons,
          List.append_assoc, List.singleton_append, Prod.mk.injEq, newlyTallied, true_and]
        omega
      · have hlen : 4 - ps.length = 0 := by omega
        rw [if_neg (show ¬ ps.length < Config.placements from hroom), ih hn.2 h1' hps']
        simp only [tallyExcess, hf, hs, hlen, List.take_zero, List.drop_zero, List.map_cons, List.sum_cons, List.map_nil,
          List.sum_nil, Prod.mk.injEq, true_and]
        omega

/-- What keeps a tyre under a count stays, where what is reserved is counted and nothing is incoming. -/
theorem applyKept_eq {tally : List (Nat × Nat)} {old : List Placement} (hi : ∀ p ∈ old, p.incoming = 0)
    (hr : ∀ p ∈ old, p.reserved ≤ min (tallyOf p.lot tally) 63) : applyKept tally old = tallyKept tally old := by
  unfold applyKept tallyKept dropEmpty
  refine List.filter_congr fun q hq => ?_
  obtain ⟨p, hp, rfl⟩ := List.mem_map.1 hq
  have := hr p hp
  rw [Bool.eq_iff_iff]
  simp [hi p hp, applyTarget, Config.placementTyres] at this ⊢
  omega

/-- The placements as an apply leaves them: those that keep a tyre, and the fresh lots that found a slot (R23). -/
def tallied (tally : List (Nat × Nat)) (old : List Placement) : List Placement :=
  tallyKept tally old ++ ((freshTally old tally).take (4 - (tallyKept tally old).length)).map newlyTallied

theorem placementOf_tallyKept {old : List Placement} (hn : (old.map (·.lot)).Nodup) (tally : List (Nat × Nat)) (n : Nat) :
    placementOf n (tallyKept tally old) =
      ((placementOf n old).map fun p => { p with onHand := min (tallyOf p.lot tally) 63 }).filter
        fun p => decide (0 < p.onHand) := by
  rw [tallyKept, placementOf_filter (by simpa [Function.comp_def] using hn), placementOf_map]
  exact fun _ => rfl

/-- Fresh lots are found among no placements that stood. -/
theorem placementOf_fresh {old : List Placement} {tally : List (Nat × Nat)} {n : Nat} {p : Placement} (r : Nat)
    (h : placementOf n old = some p) : placementOf n (((freshTally old tally).take r).map newlyTallied) = none := by
  refine placementOf_none_iff.2 fun q hq => ?_
  obtain ⟨e, he, rfl⟩ := List.mem_map.1 hq
  have he := (List.mem_filter.1 (List.mem_of_mem_take he)).2
  exact fun hl => by simp [show e.1 = n from hl, h] at he

/-- The counts that an apply gives a lot that had a placement. -/
theorem tallied_counts_old {old : List Placement} (hn : (old.map (·.lot)).Nodup) {tally : List (Nat × Nat)} {n : Nat}
    {p : Placement} (h : placementOf n old = some p) (hi : p.incoming = 0) (hr : p.reserved ≤ min (tallyOf p.lot tally) 63) :
    onHandOf n (tallied tally old) = min (tallyOf n tally) 63 ∧ reservedOf n (tallied tally old) = p.reserved ∧
      incomingOf n (tallied tally old) = 0 := by
  have hl := (placementOf_some h).2
  rw [hl] at hr
  simp only [onHandOf, reservedOf, incomingOf, tallied, placementOf_append, placementOf_fresh _ h, Option.or_none,
    placementOf_tallyKept hn, h, Option.map_some, Option.filter_some, hl]
  by_cases h0 : 0 < min (tallyOf n tally) 63
  · simp [h0, hi]
  · have : min (tallyOf n tally) 63 = 0 := by omega
    simp [this]; omega

/-- A lot that had no placement has nothing reserved or incoming after an apply. -/
theorem tallied_counts_new {old : List Placement} (hn : (old.map (·.lot)).Nodup) (tally : List (Nat × Nat)) {n : Nat}
    (h : placementOf n old = none) : reservedOf n (tallied tally old) = 0 ∧ incomingOf n (tallied tally old) = 0 := by
  simp only [reservedOf, incomingOf, tallied, placementOf_append, placementOf_tallyKept hn, h, Option.map_none,
    Option.filter_none, Option.none_or]
  cases hq : placementOf n (((freshTally old tally).take (4 - (tallyKept tally old).length)).map newlyTallied) with
  | none => exact ⟨rfl, rfl⟩
  | some q =>
    obtain ⟨e, -, rfl⟩ := List.mem_map.1 (placementOf_some hq).1
    exact ⟨rfl, rfl⟩

/-- The carrier as an apply leaves it, where its rules hold of the tally and the placements (R23). -/
theorem applyCarrier_spec {tally : List (Nat × Nat)} {x : Carrier} (hn : (x.placements.map (·.lot)).Nodup)
    (hi : ∀ p ∈ x.placements, p.incoming = 0) (hr : ∀ p ∈ x.placements, p.reserved ≤ min (tallyOf p.lot tally) 63)
    (hf : ((freshTally x.placements tally).map (·.1)).Nodup) (h1 : ∀ e ∈ freshTally x.placements tally, 1 ≤ e.2)
    (unknown unplaced : Nat) :
    applyCarrier tally unknown unplaced x =
      let excess := tallyExcess x.placements tally (4 - (tallyKept tally x.placements).length) + unplaced
      { x with placements := tallied tally x.placements, unplaced := min excess 255, unknown := min unknown 255,
               state := if excess = 0 ∧ unknown = 0 then .normal else .unverified } := by
  have hkept : ∀ e ∈ freshTally x.placements tally, placementOf e.1 (tallyKept tally x.placements) = none := fun e he => by
    have := (List.mem_filter.1 he).2
    simp only [Option.isNone_iff_eq_none] at this
    simp [placementOf_tallyKept hn, this]
  have hst : ∀ n m : Nat, (min n 255 = 0 ∧ min m 255 = 0) = (n = 0 ∧ m = 0) := fun n m => propext (by omega)
  simp only [applyCarrier, applyKept_eq hi hr, applyNew_spec x.placements hf h1 hkept, hst, tallied]

/-- The variance lists the old placements' lots, with what the apply gives them, and then the fresh ones (log entry 81). -/
theorem variance_eq {old : List Placement} (hn : (old.map (·.lot)).Nodup) {tally : List (Nat × Nat)}
    (hi : ∀ p ∈ old, p.incoming = 0) (hr : ∀ p ∈ old, p.reserved ≤ min (tallyOf p.lot tally) 63) :
    (varianceLots old tally).map (fun lot =>
        ({ lot := lot, before := onHandOf lot old, after := onHandOf lot (tallied tally old), released := 0 } : Variance)) =
      old.map (fun p => { lot := p.lot, before := p.onHand, after := min (tallyOf p.lot tally) 63, released := 0 }) ++
        (freshTally old tally).map fun e =>
          { lot := e.1, before := 0, after := onHandOf e.1 (tallied tally old), released := 0 } := by
  have hfresh : ((tally.map (·.1)).filter fun lot => !(placementOf lot old).isSome) = (freshTally old tally).map (·.1) := by
    rw [List.filter_map, freshTally]
    exact congrArg _ (List.filter_congr fun e _ => by simp)
  rw [varianceLots, hfresh, List.map_append, List.map_map, List.map_map]
  congr 1
  · refine List.map_congr_left fun p hp => ?_
    have h := placementOf_mem hn hp rfl
    simp [onHandOf_some h, (tallied_counts_old hn h (hi p hp) (hr p hp)).1]
  · refine List.map_congr_left fun e he => ?_
    have := (List.mem_filter.1 he).2
    simp only [Option.isNone_iff_eq_none] at this
    simp [onHandOf, this]

/-- The reports of a carrier that leaves AUDIT-LOCKED with its excluded mark as it was (R14). -/
theorem carrierReports_unlocked (s : State) (k : Carousel) (c : Nat) {x y : Carrier} (hx : x.state = .auditLocked)
    (he : y.excluded = x.excluded) : s.carrierReports k c x y =
      (if s.actualMass x.placements = s.actualMass y.placements then []
       else [.massReport k [(c, min (s.actualMass y.placements) 2047)]]) ++
      ((y.placements.filter fun p => decide (onHandOf p.lot x.placements < p.onHand) && s.lotActive p.lot).map
        fun p => .stockRiseReport (s.labelOf p.lot).article) ++
      (if y.state = .normal ∧ x.excluded = false then [.eligibilityReport k c] else []) := by
  have : (y.able && !x.able) = true ↔ y.state = .normal ∧ x.excluded = false := by simp [Carrier.able, hx, he]
  simp only [State.carrierReports, this, Config.massClamp]

/-- The totals after an apply: the on-hand count of each lot moves with its placements, and nothing else does (R1). -/
theorem retotal_tallied {old : List Placement} (hn : (old.map (·.lot)).Nodup) {tally : List (Nat × Nat)}
    (hi : ∀ p ∈ old, p.incoming = 0) (hr : ∀ p ∈ old, p.reserved ≤ min (tallyOf p.lot tally) 63) (t : Table Lot) (n : Nat) :
    tget n (retotal old (tallied tally old) t) =
      (tget n t).map fun l => { l with onHand := l.onHand + onHandOf n (tallied tally old) - onHandOf n old } := by
  have hsame : reservedOf n (tallied tally old) = reservedOf n old ∧ incomingOf n (tallied tally old) = incomingOf n old := by
    cases h : placementOf n old with
    | none =>
      obtain ⟨h1, h2⟩ := tallied_counts_new hn tally h
      rw [h1, h2]
      simp [reservedOf, incomingOf, h]
    | some p =>
      have hp := (placementOf_some h).1
      obtain ⟨-, h1, h2⟩ := tallied_counts_old hn h (hi p hp) (hr p hp)
      rw [h1, h2, reservedOf_some h, incomingOf_some h, hi p hp]
      exact ⟨rfl, rfl⟩
  simp only [tget_retotal, hsame.1, hsame.2, Nat.add_sub_cancel]

theorem claim_auditApplied : Claims.AuditApplied := by
  intro s k c unknown unplaced tally x hs hx hn hi given fresh stays placed excess
  have hc : s.begun.carrier k c = some x := hx
  refine ⟨fun hst hr hf h1 => ?applied, fun h => ?refused⟩
  case applied =>
    have htake : s.begun.applyTakes k c tally = true := (applyTakes_iff hc tally).2 ⟨hst, hr⟩
    have happ := applyCarrier_spec hn hi hr hf h1 unknown unplaced
    obtain ⟨hre, hl, hm, ho⟩ := changeCarrier_spec hc (applyCarrier tally unknown unplaced)
    have he : auditApplyEntry k c tally unknown unplaced s.begun = (s.begun.changeCarrier k c (applyCarrier tally unknown unplaced),
        some (x.placements.map (fun p => { lot := p.lot, before := p.onHand, after := given p.lot, released := 0 }) ++
          fresh.map fun e => { lot := e.1, before := 0, after := onHandOf e.1 (tallied tally x.placements), released := 0 })) := by
      simp only [auditApplyEntry, hc, if_pos htake, happ, variance_eq hn hi hr]
      rfl
    rw [happ] at hre hl hm
    refine ⟨_, _, exec_auditApply_some hs he, hre, rfl, rfl, rfl, ?_, rfl, rfl, rfl, ?_, fun n => ?_, ?_⟩
    · rfl
    · refine (hm.trans (congrArg (s.mail ++ ·) (carrierReports_unlocked s.begun k c hst ?_))).trans ?_
      · rfl
      · simp only [List.append_assoc]
        rfl
    · exact (congrArg (tget n) hl).trans (retotal_tallied hn hi hr s.lots n)
    · rw [State.onlyStock, ho]; rfl
  case refused =>
    have htake : ¬ s.begun.applyTakes k c tally = true := by
      rw [applyTakes_iff hc]
      rintro ⟨hst, hr⟩
      rcases h with h | ⟨p, hp, hlt⟩
      · exact h hst
      · exact absurd (hr p hp) (Nat.not_le.2 hlt)
    refine exec_auditApply_none hs ?_
    simp only [auditApplyEntry, hc, if_neg htake]

/-- Settles O23: the states of a carrier under audit, and the apply of its count. -/
theorem carrierAudits : Obligations.CarrierAudits := ⟨claim_auditStates, claim_auditApplied⟩
end Sys2Proof.Machine

namespace Sys2Proof.Machine

/-! ## Requests that are carried out and answered (R179) -/

/-- A request answered with a result alone is carried out on the state in which its frame has been forwarded. -/
theorem carry_plain {s : State} {q : Req} (hs : s.asks q) (kind : Nat) (body : State → State × Result) :
    carry s (request q kind (plain body)) =
      .next ((body (s.asked q kind)).1.replied q kind (body (s.asked q kind)).2 []) := by
  rw [carry_begun hs.1.1, request_asked hs]
  exact congrArg _ (addReply_plain q kind _ _)

/-- The same of a request that may end grants, where it leaves the stations as they were. -/
theorem carry_settled {s : State} {q : Req} (hs : s.asks q) (kind : Nat) (body : State → State × Result)
    (hst : (body (s.asked q kind)).1.stations = s.stations) :
    carry s (request q kind (settled body)) =
      .next ((body (s.asked q kind)).1.replied q kind (body (s.asked q kind)).2 []) := by
  rw [carry_begun hs.1.1, request_asked hs]
  have hat : attendEnded (s.asked q kind) (body (s.asked q kind)).1 = (body (s.asked q kind)).1 := attendEnded_stations hst
  simp only [settled, hat, addReply_plain]

/-! ## LOT-DELETE and LOT-RELEASE (R4, R6) -/

theorem exec_lotDelete {s : State} {q : Req} (hs : s.asks q) (n : Nat) :
    exec (.lotDelete q n) s = .next ((lotDeleteRequest n (s.asked q 75)).1.replied q 75
      (lotDeleteRequest n (s.asked q 75)).2 []) := carry_plain hs 75 (lotDeleteRequest n)

theorem exec_lotRelease {s : State} {q : Req} (hs : s.asks q) (n : Nat) :
    exec (.lotRelease q n) s = .next ((lotReleaseRequest n (s.asked q 77)).1.replied q 77
      (lotReleaseRequest n (s.asked q 77)).2 []) := carry_plain hs 77 (lotReleaseRequest n)

@[simp] theorem State.asked_lotInUse (s : State) (q : Req) (kind n : Nat) :
    (s.asked q kind).lotInUse n = s.lotInUse n := rfl

theorem lotDelete_range {n : Nat} (h : 1023 < n) (s : State) : lotDeleteRequest n s = (s, .range) :=
  if_pos (by simp only [Config.lots]; omega)

theorem lotDelete_known {n : Nat} (h : n ≤ 1023) (s : State) : lotDeleteRequest n s =
    match s.lot n with
    | none => (s, .state)
    | some _ => if s.lotInUse n then (s, .busy) else ({ s with lots := tdel n s.lots }, .done) :=
  if_neg (by simp only [Config.lots]; omega)

theorem lotRelease_range {n : Nat} (h : 1023 < n) (s : State) : lotReleaseRequest n s = (s, .range) :=
  if_pos (by simp only [Config.lots]; omega)

theorem lotRelease_known {n : Nat} (h : n ≤ 1023) (s : State) : lotReleaseRequest n s =
    match s.lot n with
    | none => (s, .state)
    | some l => if l.state = .active then (s, .done)
      else ({ s with lots := tput n { l with state := .active } s.lots }.post (.stockRiseReport l.article), .done) :=
  if_neg (by simp only [Config.lots]; omega)

/-- Settles O47, case by case of the record. -/
theorem lotDeletesAndReleases : Obligations.LotDeletesAndReleases := by
  intro s q n hs
  rw [exec_lotDelete hs, exec_lotRelease hs]
  refine ⟨fun h => ?range, fun h hl => ?free, fun l h hl => ⟨fun hu => ?busy, fun hu hw => ?deleted, fun ha => ?active,
    fun hh => ?released⟩⟩
  case range => rw [lotDelete_range h, lotRelease_range h]; exact ⟨rfl, rfl⟩
  case free => simp [lotDelete_known h, lotRelease_known h, hl]
  case busy => simp [lotDelete_known h, hl, hu]
  case deleted =>
    refine ⟨{ (s.asked q 75).doneTo q 75 with lots := tdel n s.lots }, ?_, tget_tdel_same hw,
      fun m hm => tget_tdel_other hm s.lots, ?_, rfl⟩
    · simp only [lotDelete_known h, State.asked_lot, hl, State.asked_lotInUse, hu]
      rfl
    · simp [State.lotOr, State.lot, tget_tdel_same hw]
  case active => simp [lotRelease_known h, hl, ha, State.doneTo]
  case released =>
    refine ⟨{ (s.asked q 77).doneTo q 77 with
        lots := tput n { l with state := .active } s.lots, mail := s.mail ++ [.stockRiseReport l.article] },
      ?_, tget_tput_same n _ s.lots, fun m hm => tget_tput_other hm _ s.lots, rfl⟩
    simp only [lotRelease_known h, State.asked_lot, hl, hh, reduceCtorEq, if_false]
    rfl

/-! ## LOT-WRITE and LOT-HOLD (R2, R3, R5) -/

theorem exec_lotWrite {s : State} {q : Req} (hs : s.asks q) (n : Nat) (a : Article) (w : Week) (width rim mass : Nat) :
    exec (.lotWrite q n a w width rim mass) s = .next ((lotWriteRequest n a w width rim mass (s.asked q 74)).1.replied q 74
      (lotWriteRequest n a w width rim mass (s.asked q 74)).2 []) := carry_plain hs 74 (lotWriteRequest n a w width rim mass)

theorem exec_lotHold {s : State} {q : Req} (hs : s.asks q) (n : Nat) :
    exec (.lotHold q n) s = .next ((lotHoldRequest n (s.asked q 76)).1.replied q 76
      (lotHoldRequest n (s.asked q 76)).2 []) := carry_plain hs 76 (lotHoldRequest n)

/-- The fields of a LOT-WRITE are in their ranges (R3). -/
def lotFieldsOk (n : Nat) (w : Week) (width rim mass : Nat) : Prop :=
  n < 1024 ∧ w.year ≤ 99 ∧ 1 ≤ w.week ∧ w.week ≤ 53 ∧ 125 ≤ width ∧ width ≤ 395 ∧ 12 ≤ rim ∧ rim ≤ 24 ∧ 8 ≤ mass ∧ mass ≤ 160

/-- The record that a LOT-WRITE leaves: a FREE one becomes ACTIVE without tyres. -/
def writtenLot (old : Option Lot) (a : Article) (w : Week) (width rim mass : Nat) : Lot :=
  match old with
  | some l => { l with article := a, week := w, width := width, rim := rim, mass := mass }
  | none => ⟨a, w, width, rim, mass, .active, 0, 0, 0⟩

section
variable {n width rim mass : Nat} {a : Article} {w : Week} {s : State}

theorem lotWrite_range (h : ¬ lotFieldsOk n w width rim mass) : lotWriteRequest n a w width rim mass s = (s, .range) :=
  if_pos h

theorem lotWrite_taken (hr : lotFieldsOk n w width rim mass) (h : ∃ e ∈ s.lots, e.1 ≠ n ∧ e.2.article = a ∧ e.2.week = w) :
    lotWriteRequest n a w width rim mass s = (s, .state) := by
  have hany : s.lots.any (fun e => !(e.1 == n) && e.2.article == a && e.2.week == w) = true := by simpa [and_assoc] using h
  exact (if_neg (not_not.2 hr)).trans (if_pos hany)

/-- A LOT-WRITE in range whose label no other lot holds: a lot in use is changed by none but its own fields. -/
theorem lotWrite_known (hr : lotFieldsOk n w width rim mass) (h : ∀ e ∈ s.lots, e.1 ≠ n → e.2.article = a → e.2.week ≠ w) :
    lotWriteRequest n a w width rim mass s =
      if s.lotInUse n = true ∧ s.lot n ≠ some (writtenLot (s.lot n) a w width rim mass) then (s, .busy)
      else ({ s with lots := tput n (writtenLot (s.lot n) a w width rim mass) s.lots }, .done) := by
  have hany : ¬ s.lots.any (fun e => !(e.1 == n) && e.2.article == a && e.2.week == w) = true := by
    simpa [and_assoc] using h
  refine (if_neg (not_not.2 hr)).trans ((if_neg hany).trans ?_)
  cases hl : s.lot n with
  | none => simp [writtenLot]
  | some l =>
    obtain ⟨a', w', width', rim', mass', st, o, r, i⟩ := l
    simp [writtenLot, imp_iff_not_or]
end

theorem vector_any_iff {α : Type} {m : Nat} (v : Vector α m) (p : α → Bool) :
    v.toList.any p = true ↔ ∃ i : Fin m, p v[i] = true := by
  rw [Vector.any_toList, Vector.any_iff_exists]
  exact ⟨fun ⟨i, hi, h⟩ => ⟨⟨i, hi⟩, h⟩, fun ⟨i, h⟩ => ⟨i.val, i.isLt, h⟩⟩

/-- The places that name a lot in use (R2). -/
theorem lotInUse_iff (s : State) (n : Nat) : s.lotInUse n = true ↔
    (∃ l, s.lot n = some l ∧ (0 < l.onHand ∨ 0 < l.reserved ∨ 0 < l.incoming)) ∨
      (∃ e ∈ s.transit.places, e.2.names n = true) ∨
      (∃ i : Station, (∃ b, (s.stn i).batch = some b ∧ b.lot = n) ∨ ∃ b, (s.stn i).planning = some b ∧ b.lot = n) ∨
      ∃ (k : Carousel) (x : Session), s.session k = some x ∧ ∃ e ∈ x.tally, e.1 = n := by
  unfold State.lotInUse
  rw [Bool.or_eq_true, Bool.or_eq_true, Bool.or_eq_true, or_assoc, or_assoc, vector_any_iff, vector_any_iff]
  refine or_congr ?_ ?_
  · cases s.lot n <;> simp [or_assoc]
  · simp only [List.any_eq_true, Bool.or_eq_true, Option.any_eq_true, beq_iff_eq]
    rfl

theorem lotHold_known {n : Nat} (h : n ≤ 1023) (s : State) : lotHoldRequest n s =
    match s.lot n with
    | none => (s, .state)
    | some l => if l.state = .held then (s, .done)
      else ({ s with lots := tput n { l with state := .held } s.lots }.post (.holdHandover n), .done) :=
  if_neg (by simp only [Config.lots]; omega)

/-! ## CARRIER-WRITE (R13) -/

theorem changeCarrier_stations (s : State) (k : Carousel) (c : Nat) (f : Carrier → Carrier) :
    (s.changeCarrier k c f).stations = s.stations := by
  cases hx : s.carrier k c with
  | none => simp [State.changeCarrier, hx]
  | some x => rw [(changeCarrier_spec hx f).2.2.2]

theorem carrierWriteRequest_stations (kn c : Nat) (ds dis : Bool) (list : List (Nat × Nat)) (s : State) :
    (carrierWriteRequest kn c ds dis list s).1.stations = s.stations := by
  unfold carrierWriteRequest
  split
  · rfl
  · repeat' split
    all_goals first | rfl | exact changeCarrier_stations _ _ _ _

theorem exec_carrierWrite {s : State} {q : Req} (hs : s.asks q) (kn c : Nat) (ds dis : Bool) (list : List (Nat × Nat)) :
    exec (.carrierWrite q kn c ds dis list) s = .next ((carrierWriteRequest kn c ds dis list (s.asked q 78)).1.replied q 78
      (carrierWriteRequest kn c ds dis list (s.asked q 78)).2 []) :=
  carry_settled hs 78 (carrierWriteRequest kn c ds dis list) (carrierWriteRequest_stations _ _ _ _ _ _)

@[simp] theorem car?_val (k : Carousel) : car? k.val = some k := by simp [car?]

/-- A carrier of a carousel written in LOADING with lots that exist: refused while it is under audit or has reserved or incoming
tyres, and taken otherwise. -/
theorem carrierWrite_loading {s : State} {k : Carousel} {c : Nat} {x : Carrier} {list : List (Nat × Nat)} (ds dis : Bool)
    (hx : s.carrier k c = some x) (hlen : list.length ≤ 4) (hn : (list.map (·.1)).Nodup)
    (hl : ∀ e ∈ list, e.1 ≤ 1023 ∧ e.2 ≤ 63 ∧ (s.lot e.1).isSome = true) (hcell : s.mgmt.cell = .loading) :
    carrierWriteRequest k.val c ds dis list s =
      if x.state = .auditPending ∨ x.state = .auditLocked ∨ ∃ p ∈ x.placements, 0 < p.reserved ∨ 0 < p.incoming then (s, .busy)
      else (s.changeCarrier k c (writtenCarrier ds dis list), .done) := by
  have hrange : (decide (Config.placements < list.length) ||
      list.any (fun e => !(decide (e.1 < Config.lots) && decide (e.2 ≤ Config.placementTyres))) ||
      !decide (list.map (·.1)).Nodup) = false := by
    simp only [Config.placements, Config.lots, Config.placementTyres, hn, Bool.or_eq_false_iff, decide_true, Bool.not_true,
      and_true, List.any_eq_false]
    refine ⟨decide_eq_false (by omega), fun e he => ?_⟩
    obtain ⟨h1, h2, -⟩ := hl e he
    have h1' : e.1 < 1024 := by omega
    simp [h1', h2]
  have hfree : list.any (fun e => (s.lot e.1).isNone) = false := by
    rw [List.any_eq_false]
    intro e he
    obtain ⟨-, -, h3⟩ := hl e he
    obtain ⟨l, hl⟩ := Option.isSome_iff_exists.1 h3
    simp [hl]
  have hbusy : (x.placements.any fun p => decide (0 < p.reserved) || decide (0 < p.incoming)) = true ↔
      ∃ p ∈ x.placements, 0 < p.reserved ∨ 0 < p.incoming := by simp
  simp only [carrierWriteRequest, car?_val, hx, Option.isNone_some, Bool.and_false, hrange, hfree, hcell, ne_eq,
    not_true_eq_false, false_and, Bool.false_eq_true, if_false, hbusy]

/-- Settles O48, request by request. -/
theorem stockRequests : Obligations.StockRequests := by
  intro s q n hs
  refine ⟨fun a w width rim mass => ⟨fun h => ?range, fun h1 h2 h3 h4 h5 h6 h7 h8 h9 h10 => ?inRange⟩, lotInUse_iff s n,
    fun l h hl => ?hold, fun k c ds dis list x hx hlen hn hl hcell => ?carrier⟩
  case range =>
    rw [exec_lotWrite hs, lotWrite_range (by unfold lotFieldsOk; omega)]
  case inRange =>
    have hr : lotFieldsOk n w width rim mass := ⟨by omega, h2, h3, h4, h5, h6, h7, h8, h9, h10⟩
    rw [exec_lotWrite hs]
    refine ⟨fun h => ?taken, fun h hu => ?written, fun l h hu hl => ⟨fun hd => ?differs, fun e1 e2 e3 e4 e5 => ?repeated⟩⟩
    case taken => rw [lotWrite_taken (s := s.asked q 74) hr h]
    case written =>
      rw [lotWrite_known (s := s.asked q 74) hr h, if_neg (by simp [hu])]
      refine ⟨_, rfl, fun m hm => tget_tput_other hm _ s.lots, fun hl => ?_, fun l hl => ?_, rfl⟩
      · refine (tget_tput_same n _ s.lots).trans ?_
        simp [writtenLot, hl]
      · refine (tget_tput_same n _ s.lots).trans ?_
        simp [writtenLot, hl]
    case differs =>
      rw [lotWrite_known (s := s.asked q 74) hr h, if_pos]
      refine ⟨hu, ?_⟩
      simp only [State.asked_lot, hl, writtenLot, ne_eq, Option.some.injEq]
      intro e
      rw [e] at hd
      simp at hd
    case repeated =>
      have same : s.lot n = some (writtenLot (s.lot n) a w width rim mass) := by
        rw [hl, ← e1, ← e2, ← e3, ← e4, ← e5]; rfl
      rw [lotWrite_known (s := s.asked q 74) hr h, if_neg fun h => h.2 same]
      refine ⟨_, rfl, fun m => ?_, rfl⟩
      by_cases hm : m = n
      · subst hm
        exact (tget_tput_same m _ s.lots).trans same.symm
      · exact tget_tput_other hm _ s.lots
  case hold =>
    rw [exec_lotHold hs]
    refine ⟨fun hh => ?_, fun ha => ?_⟩
    · simp [lotHold_known h, hl, hh, State.doneTo]
    · refine ⟨{ (s.asked q 76).doneTo q 76 with
          lots := tput n { l with state := .held } s.lots, mail := s.mail ++ [.holdHandover n] },
        ?_, tget_tput_same n _ s.lots, fun m hm => tget_tput_other hm _ s.lots, rfl⟩
      simp only [lotHold_known h, State.asked_lot, hl, ha, reduceCtorEq, if_false]
      rfl
  case carrier =>
    rw [exec_carrierWrite hs, carrierWrite_loading (s := s.asked q 78) ds dis hx hlen hn hl hcell]
    refine ⟨fun h => by rw [if_pos h], fun h1 h2 h3 => ?_⟩
    have hfree : ¬ (x.state = .auditPending ∨ x.state = .auditLocked ∨ ∃ p ∈ x.placements, 0 < p.reserved ∨ 0 < p.incoming) := by
      rintro (h | h | ⟨p, hp, h⟩)
      · exact h1 h
      · exact h2 h
      · have := h3 p hp; omega
    obtain ⟨hr, -, hm, hf⟩ := changeCarrier_spec (s := s.asked q 78) hx (writtenCarrier ds dis list)
    rw [if_neg hfree]
    refine ⟨_, _, rfl, ?_, rfl, hr, ⟨_, hm.symm⟩, ?_⟩
    · rw [State.answeredDone, hf]; rfl
    · rw [hf]; rfl
end Sys2Proof.Machine

namespace Sys2Proof.Machine

/-! # What every step keeps: the canonical tables, law L1 and the stock's part of L4, law L6, and the numbers of tasks

A command is made of many operations; each of them keeps the four invariants, and so does what is composed of them. -/

/-! ## One carousel -/

/-- A sequencer in MANUAL, DISABLED or FAULT has no move in flight and no built MOVE frame (law L6). -/
def Seq.restful (q : Seq) : Prop :=
  q.state = .manual ∨ q.state = .disabled ∨ q.state = .fault → q.move = none ∧ q.built = none

/-- The tasks of a queue have numbers of their own, each below the next arrival (R71). -/
def Seq.numbered (q : Seq) : Prop := (q.queue.map (·.num)).Nodup ∧ ∀ x ∈ q.queue, x.num < q.arrivals

/-- Both of a sequencer's invariants hold of `r` where they hold of `q`, and no arrival number is given back. -/
structure Seq.Follows (q r : Seq) : Prop where
  restful : q.restful → r.restful
  numbered : q.numbered → r.numbered
  arrivals : q.arrivals ≤ r.arrivals

theorem Seq.Follows.refl (q : Seq) : q.Follows q := ⟨id, id, Nat.le_refl _⟩

theorem Seq.Follows.trans {q r u : Seq} (h : q.Follows r) (h' : r.Follows u) : q.Follows u :=
  ⟨h'.restful ∘ h.restful, h'.numbered ∘ h.numbered, Nat.le_trans h.arrivals h'.arrivals⟩

/-! ## One carrier -/

/-- A carrier as `State.shelvesSound` wants it: no lot twice, law L1, and nothing incoming while AUDIT-LOCKED. -/
def Carrier.shelved (x : Carrier) : Prop :=
  (x.placements.map (·.lot)).Nodup ∧ (∀ p ∈ x.placements, p.reserved ≤ p.onHand ∧ p.onHand + p.incoming ≤ 63) ∧
    (x.state = .auditLocked → ∀ p ∈ x.placements, p.incoming = 0)

theorem State.shelvesSound_iff (s : State) : s.shelvesSound ↔
    ∀ (k : Carousel) (car : StockCar), s.stockCar k = some car → ∀ x ∈ car.carriers, x.shelved := Iff.rfl

/-! ## The whole state -/

/-- Every invariant that holds of `s` holds of `t`, law L6 with the exception of the carousel `o`, which is on its way into
another state. -/
structure State.Safe (o : Option Carousel) (s t : State) : Prop where
  lots : twf s.lots = true → twf t.lots = true
  orders : twf s.book.orders = true → twf t.book.orders = true
  pool : twf s.book.pool = true → twf t.book.pool = true
  places : twf s.transit.places = true → twf t.transit.places = true
  nodes : twf s.fe.nodes = true → twf t.fe.nodes = true
  shelves : s.shelvesSound → t.shelvesSound
  restful : s.lawL6 → ∀ j : Carousel, o ≠ some j → (t.seq j).restful
  numbered : s.tasksNumbered → t.tasksNumbered

/-- What every operation but a restart keeps: the invariants, and the arrival numbers given so far. -/
structure State.Keeps (o : Option Carousel) (s t : State) : Prop extends State.Safe o s t where
  arrivals : ∀ k : Carousel, (s.seq k).arrivals ≤ (t.seq k).arrivals

/-- What the invariants speak of: the tables, the stock records and the sequencers. -/
def State.view (s : State) :
    Table Lot × Table Order × Table Reservation × Table Place × Table Node × Vector (Option StockCar) 8 × Vector Seq 8 :=
  (s.lots, s.book.orders, s.book.pool, s.transit.places, s.fe.nodes, s.stock, s.seqs)

namespace State.Keeps
-- These lemmas rest on each other in long chains: each would hold a thread that waits for the one before.
set_option Elab.async false
variable {o : Option Carousel} {s₀ s t : State}

theorem refl (s : State) : s.Keeps none s := 
  ⟨⟨id, id, id, id, id, id, fun h j _ => h j, id⟩, fun _ => Nat.le_refl _⟩

theorem trans (h : s₀.Keeps none s) (h' : s.Keeps o t) : s₀.Keeps o t :=
  ⟨⟨h'.lots ∘ h.lots, h'.orders ∘ h.orders, h'.pool ∘ h.pool, h'.places ∘ h.places, h'.nodes ∘ h.nodes,
    h'.shelves ∘ h.shelves, fun h0 => h'.restful fun j => h.restful h0 j nofun, h'.numbered ∘ h.numbered⟩,
    fun k => Nat.le_trans (h.arrivals k) (h'.arrivals k)⟩

/-- What is kept of every carousel is kept of all but one. -/
theorem but (k : Carousel) (h : s₀.Keeps none s) : s₀.Keeps (some k) s :=
  { h with restful := fun h0 j _ => h.restful h0 j nofun }

/-- The invariants speak of the tables, the stock records and the sequencers alone. -/
theorem of_same (h : s₀.Keeps o s) (hl : t.lots = s.lots) (ho : t.book.orders = s.book.orders)
    (hp : t.book.pool = s.book.pool) (ht : t.transit.places = s.transit.places) (hn : t.fe.nodes = s.fe.nodes)
    (hs : t.stock = s.stock) (hq : t.seqs = s.seqs) : s₀.Keeps o t := by
  have hcar : ∀ k, t.stockCar k = s.stockCar k := fun k => by simp [State.stockCar, hs]
  have hseq : ∀ k, t.seq k = s.seq k := fun k => by simp [State.seq, hq]
  refine ⟨⟨by rw [hl]; exact h.lots, by rw [ho]; exact h.orders, by rw [hp]; exact h.pool, by rw [ht]; exact h.places,
    by rw [hn]; exact h.nodes, fun h0 k car hc => h.shelves h0 k car (by rw [← hcar, hc]), fun h0 j => ?_, fun h0 j => ?_⟩,
    fun j => ?_⟩
  · rw [hseq]; exact h.restful h0 j
  · rw [hseq]; exact h.numbered h0 j
  · rw [hseq]; exact h.arrivals j

theorem of_view (h : s₀.Keeps o s) (hv : t.view = s.view) : s₀.Keeps o t := by
  simp only [State.view, Prod.mk.injEq] at hv
  obtain ⟨h1, h2, h3, h4, h5, h6, h7⟩ := hv
  exact h.of_same h1 h2 h3 h4 h5 h6 h7

/-! ### Updates that touch nothing of the invariants -/

theorem setStn (h : s₀.Keeps o s) {i : Station} {x : Stn} : s₀.Keeps o (s.setStn i x) := h.of_view rfl
theorem modStn (h : s₀.Keeps o s) {i : Station} {f : Stn → Stn} : s₀.Keeps o (s.modStn i f) := h.of_view rfl
theorem setLane (h : s₀.Keeps o s) {l : Lane} {x : LaneRec} : s₀.Keeps o (s.setLane l x) := h.of_view rfl
theorem modLane (h : s₀.Keeps o s) {l : Lane} {f : LaneRec → LaneRec} : s₀.Keeps o (s.modLane l f) := h.of_view rfl
theorem setBal (h : s₀.Keeps o s) {k : Carousel} {b : Option Balance} : s₀.Keeps o (s.setBal k b) := h.of_view rfl
theorem setSession (h : s₀.Keeps o s) {k : Carousel} {x : Option Session} : s₀.Keeps o (s.setSession k x) := h.of_view rfl
theorem modMgmt (h : s₀.Keeps o s) {f : Management → Management} : s₀.Keeps o (s.modMgmt f) := h.of_view rfl
theorem post (h : s₀.Keeps o s) {c : Instr} : s₀.Keeps o (s.post c) := h.of_view rfl
theorem postAll (h : s₀.Keeps o s) {cs : List Instr} : s₀.Keeps o (s.postAll cs) := h.of_view rfl
theorem ans (h : s₀.Keeps o s) {a : Answer} : s₀.Keeps o (s.ans a) := h.of_view rfl
theorem reach (h : s₀.Keeps o s) {d : Nat} : s₀.Keeps o (s.reach d) := h.of_view rfl
theorem handNotice (h : s₀.Keeps o s) {b : NoticeBody} : s₀.Keeps o (handNotice b s) := h.of_view rfl

/-- A change of the Frame Engine's records other than the node map. -/
theorem modFe (h : s₀.Keeps o s) {f : FrameEngine → FrameEngine} (hf : (f s.fe).nodes = s.fe.nodes := by rfl) :
    s₀.Keeps o (s.modFe f) := h.of_same rfl rfl rfl rfl hf rfl rfl

/-- A change of the conveyor's records other than the in-transit list. -/
theorem modTransit (h : s₀.Keeps o s) {f : Transit → Transit} (hf : (f s.transit).places = s.transit.places := by rfl) :
    s₀.Keeps o (s.modTransit f) := h.of_same rfl rfl rfl hf rfl rfl rfl

/-- A change of the Order Book's records other than its tables. -/
theorem modBook (h : s₀.Keeps o s) {f : OrderBook → OrderBook} (ho : (f s.book).orders = s.book.orders := by rfl)
    (hp : (f s.book).pool = s.book.pool := by rfl) : s₀.Keeps o (s.modBook f) := h.of_same rfl ho hp rfl rfl rfl rfl

/-! ### Repetition -/

theorem foldl {α : Type} (h : s₀.Keeps o s) {f : State → α → State} (hf : ∀ t x, s₀.Keeps o t → s₀.Keeps o (f t x))
    (l : List α) : s₀.Keeps o (l.foldl f s) := by
  induction l generalizing s with
  | nil => exact h
  | cons x l ih => exact ih (hf s x h)

theorem handNotices (h : s₀.Keeps o s) {bs : List NoticeBody} : s₀.Keeps o (handNotices bs s) :=
  h.foldl (fun _ _ h => h.handNotice) bs

/-! ### Sequencers -/

theorem numbered_setSeq {k : Carousel} {q : Seq} (hq : (s.seq k).numbered → q.numbered) (h : s.tasksNumbered) :
    (s.setSeq k q).tasksNumbered := by
  intro j
  by_cases hj : j = k
  · subst hj; rw [State.seq_setSeq]; exact hq (h j)
  · rw [State.seq_setSeq_ne _ _ hj]; exact h j

theorem arrivals_setSeq {k : Carousel} {q : Seq} (hq : (s.seq k).arrivals ≤ q.arrivals)
    (h : ∀ j, (s₀.seq j).arrivals ≤ (s.seq j).arrivals) (j : Carousel) : (s₀.seq j).arrivals ≤ ((s.setSeq k q).seq j).arrivals := by
  by_cases hj : j = k
  · subst hj; rw [State.seq_setSeq]; exact Nat.le_trans (h j) hq
  · rw [State.seq_setSeq_ne _ _ hj]; exact h j

theorem setSeq (h : s₀.Keeps o s) {k : Carousel} {q : Seq} (hq : (s.seq k).Follows q) : s₀.Keeps o (s.setSeq k q) where
  lots := h.lots
  orders := h.orders
  pool := h.pool
  places := h.places
  nodes := h.nodes
  shelves := h.shelves
  restful h0 j hj := by
    by_cases hjk : j = k
    · subst hjk; rw [State.seq_setSeq]; exact hq.restful (h.restful h0 j hj)
    · rw [State.seq_setSeq_ne _ _ hjk]; exact h.restful h0 j hj
  numbered h0 := numbered_setSeq hq.numbered (h.numbered h0)
  arrivals := arrivals_setSeq hq.arrivals h.arrivals

theorem modSeq (h : s₀.Keeps o s) {k : Carousel} {f : Seq → Seq} (hf : (s.seq k).Follows (f (s.seq k)) := by exact ⟨id, id, Nat.le_refl _⟩) :
    s₀.Keeps o (s.modSeq k f) := h.setSeq hf

/-- A carousel on its way into another state may break law L6 until it is there. -/
theorem modSeq_away (h : s₀.Keeps (some k) s) {f : Seq → Seq} (hf : (s.seq k).numbered → (f (s.seq k)).numbered := by exact id)
    (ha : (s.seq k).arrivals ≤ (f (s.seq k)).arrivals := by exact Nat.le_refl _) : s₀.Keeps (some k) (s.modSeq k f) :=
  { h with
    restful := fun h0 j hj => by
      rw [State.seq_modSeq_ne _ _ fun e => hj (by rw [e])]; exact h.restful h0 j hj
    numbered := fun h0 => numbered_setSeq hf (h.numbered h0)
    arrivals := arrivals_setSeq ha h.arrivals }

/-- A carousel that was on its way obeys law L6 again. -/
theorem modSeq_there (h : s₀.Keeps (some k) s) {f : Seq → Seq} (hr : (f (s.seq k)).restful)
    (hf : (s.seq k).numbered → (f (s.seq k)).numbered := by exact id)
    (ha : (s.seq k).arrivals ≤ (f (s.seq k)).arrivals := by exact Nat.le_refl _) : s₀.Keeps none (s.modSeq k f) :=
  { h with
    restful := fun h0 j _ => by
      by_cases hj : j = k
      · subst hj; rw [State.seq_modSeq]; exact hr
      · rw [State.seq_modSeq_ne _ _ hj]; exact h.restful h0 j fun e => hj (Option.some.inj e).symm
    numbered := fun h0 => numbered_setSeq hf (h.numbered h0)
    arrivals := arrivals_setSeq ha h.arrivals }

/-! ### Tables -/

theorem setLots (h : s₀.Keeps o s) {ls : Table Lot} (hl : twf s.lots = true → twf ls = true) :
    s₀.Keeps o { s with lots := ls } := { h with lots := hl ∘ h.lots }

theorem modBook_tables (h : s₀.Keeps o s) {f : OrderBook → OrderBook}
    (ho : twf s.book.orders = true → twf (f s.book).orders = true)
    (hp : twf s.book.pool = true → twf (f s.book).pool = true) : s₀.Keeps o (s.modBook f) :=
  { h with orders := ho ∘ h.orders, pool := hp ∘ h.pool }

theorem modTransit_places (h : s₀.Keeps o s) {f : Transit → Transit}
    (ht : twf s.transit.places = true → twf (f s.transit).places = true) : s₀.Keeps o (s.modTransit f) :=
  { h with places := ht ∘ h.places }

theorem modFe_nodes (h : s₀.Keeps o s) {f : FrameEngine → FrameEngine}
    (hn : twf s.fe.nodes = true → twf (f s.fe).nodes = true) : s₀.Keeps o (s.modFe f) :=
  { h with nodes := hn ∘ h.nodes }

end State.Keeps
end Sys2Proof.Machine

namespace Sys2Proof.Machine

/-! ## The Stock Table Unit keeps its carriers sound (R9, R13, R15 to R24) -/

/-- Counts of one lot changed within law L1 leave a carrier sound. -/
theorem Carrier.shelved_change {x : Carrier} (hx : x.shelved) {lot : Nat} {f : Placement → Placement}
    (hlot : ∀ q, (f q).lot = q.lot)
    (hf : ∀ p, placementOf lot x.placements = some p →
      (f p).reserved ≤ (f p).onHand ∧ (f p).onHand + (f p).incoming ≤ 63 ∧ (p.incoming = 0 → (f p).incoming = 0)) :
    ({ x with placements := changePlacement lot f x.placements } : Carrier).shelved := by
  obtain ⟨hn, hl, ha⟩ := hx
  have key : ∀ p ∈ changePlacement lot f x.placements, ∃ q ∈ x.placements, p = if q.lot = lot then f q else q := fun p hp => by
    obtain ⟨q, hq, rfl⟩ := List.mem_map.1 (List.mem_filter.1 hp).1
    exact ⟨q, hq, rfl⟩
  refine ⟨(changePlacement_lots hlot _).nodup hn, fun p hp => ?_, fun hst p hp => ?_⟩ <;> obtain ⟨q, hq, rfl⟩ := key p hp
  · split
    · rename_i e
      obtain ⟨h1, h2, -⟩ := hf q (placementOf_mem hn hq e)
      exact ⟨h1, h2⟩
    · exact hl q hq
  · split
    · rename_i e
      exact (hf q (placementOf_mem hn hq e)).2.2 (ha hst q hq)
    · exact ha hst q hq

/-- A carrier that changes its state stays sound unless it becomes AUDIT-LOCKED with tyres incoming. -/
theorem Carrier.shelved_state {x : Carrier} (hx : x.shelved) {st : CarrierState}
    (hst : st = .auditLocked → ∀ p ∈ x.placements, p.incoming = 0) : ({ x with state := st } : Carrier).shelved :=
  ⟨hx.1, hx.2.1, hst⟩

/-- A carrier with tyres booked where the room test passes, and which is not AUDIT-LOCKED, stays sound (R12, R19). -/
theorem Carrier.shelved_book {x : Carrier} (hx : x.shelved) {lot count : Nat} (hc : 1 ≤ count) (hst : x.state ≠ .auditLocked)
    (hroom : onHandOf lot x.placements + incomingOf lot x.placements + count ≤ 63) :
    ({ x with placements := bookIncoming lot count x.placements } : Carrier).shelved := by
  obtain ⟨hn, hl, -⟩ := hx
  refine ⟨bookIncoming_nodup hn, fun p hp => ?_, fun h => absurd h hst⟩
  have hbound := (booked_le_iff hc hn).1 hroom p hp
  cases h : placementOf lot x.placements with
  | some r =>
    rw [bookIncoming_has (by simp [h]) hc] at hp
    obtain ⟨q, hq, rfl⟩ := List.mem_map.1 hp
    have := hl q hq
    by_cases e : q.lot = lot
    · simp only [e, if_true] at hbound ⊢
      exact ⟨this.1, hbound trivial⟩
    · simpa [e] using this
  | none =>
    rw [bookIncoming_new h] at hp
    rcases List.mem_append.1 hp with hp | hp
    · exact hl p hp
    · obtain rfl := List.mem_singleton.1 hp
      exact ⟨Nat.le_refl _, hbound rfl⟩

/-- The fresh lots of a tally placed after the old ones: none twice, and within law L1 (R23). -/
theorem applyNew_sound (old : List Placement) (tally : List (Nat × Nat)) : ∀ {ps : List Placement},
    (ps.map (·.lot)).Nodup → (∀ p ∈ ps, p.reserved ≤ p.onHand ∧ p.onHand + p.incoming ≤ 63 ∧ p.incoming = 0) →
    ((applyNew old tally ps).1.map (·.lot)).Nodup ∧
      ∀ p ∈ (applyNew old tally ps).1, p.reserved ≤ p.onHand ∧ p.onHand + p.incoming ≤ 63 ∧ p.incoming = 0 := by
  induction tally with
  | nil => exact fun hn hp => ⟨hn, hp⟩
  | cons e rest ih =>
    obtain ⟨lot, n⟩ := e
    intro ps hn hp
    unfold applyNew
    split
    · exact ih hn hp
    · rename_i hno
      split
      · have hlot : ∀ p ∈ ps, p.lot ≠ lot := by
          simp only [not_or, placementOf_append, Bool.not_eq_true, Option.isSome_eq_false_iff, Option.isNone_iff_eq_none,
            Option.or_eq_none_iff] at hno
          exact placementOf_none_iff.1 hno.1.2
        refine ih ?_ fun p h => ?_
        · rw [List.map_append, List.nodup_append]
          refine ⟨hn, by simp, fun a ha b hb => ?_⟩
          obtain ⟨p, hpm, rfl⟩ := List.mem_map.1 ha
          obtain rfl : b = lot := by simpa using hb
          exact hlot p hpm
        · rcases List.mem_append.1 h with h | h
          · exact hp p h
          · obtain rfl := List.mem_singleton.1 h
            exact ⟨Nat.zero_le _, Nat.min_le_right _ _, rfl⟩
      · exact ih hn hp

/-- A carrier as an apply leaves it is sound (R23). -/
theorem Carrier.shelved_apply {x : Carrier} (hx : x.shelved) {tally : List (Nat × Nat)} (unknown unplaced : Nat)
    (hst : x.state = .auditLocked) (hr : ∀ p ∈ x.placements, p.reserved ≤ min (tallyOf p.lot tally) 63) :
    (applyCarrier tally unknown unplaced x).shelved := by
  obtain ⟨hn, -, ha⟩ := hx
  have hkept : ∀ p ∈ applyKept tally x.placements, p.reserved ≤ p.onHand ∧ p.onHand + p.incoming ≤ 63 ∧ p.incoming = 0 := by
    intro p hp
    obtain ⟨q, hq, rfl⟩ := List.mem_map.1 (List.mem_filter.1 hp).1
    have h0 := ha hst q hq
    exact ⟨hr q hq, by simp [h0, applyTarget, Config.placementTyres], h0⟩
  have hlots : ((applyKept tally x.placements).map (·.lot)).Nodup :=
    (List.filter_sublist.map _).nodup (by simpa [Function.comp_def] using hn)
  obtain ⟨h1, h2⟩ := applyNew_sound x.placements tally hlots hkept
  exact ⟨h1, fun p hp => ⟨(h2 p hp).1, (h2 p hp).2.1⟩, fun _ p hp => (h2 p hp).2.2⟩

/-- A carrier as CARRIER-WRITE leaves it is sound (R13). -/
theorem Carrier.shelved_written {list : List (Nat × Nat)} (hn : (list.map (·.1)).Nodup) (hl : ∀ e ∈ list, e.2 ≤ 63)
    (ds dis : Bool) (x : Carrier) : (writtenCarrier ds dis list x).shelved := by
  have key : ∀ p ∈ (writtenCarrier ds dis list x).placements, ∃ e ∈ list, p = ⟨e.1, e.2, 0, 0⟩ := fun p hp => by
    obtain ⟨e, he, rfl⟩ := List.mem_map.1 hp
    exact ⟨e, (List.mem_filter.1 he).1, rfl⟩
  refine ⟨?_, fun p hp => ?_, fun _ p hp => ?_⟩
  · have hs : ((list.filter fun e => decide (0 < e.2)).map (·.1)).Nodup := (List.filter_sublist.map _).nodup hn
    simpa [writtenCarrier, Function.comp_def] using hs
  all_goals obtain ⟨e, he, rfl⟩ := key p hp
  · exact ⟨Nat.zero_le _, hl e he⟩
  · rfl

/-- A carrier as CELL-RESTART leaves it is sound (R24). -/
theorem Carrier.shelved_restart {x : Carrier} (hx : x.shelved) (excluded overload : Bool) :
    (restartCarrier excluded overload x).shelved := by
  obtain ⟨hn, hl, -⟩ := hx
  have hlots : ((restartCarrier excluded overload x).placements.map (·.lot)).Nodup :=
    (List.filter_sublist.map _).nodup (by simpa [Function.comp_def] using hn)
  have key : ∀ p ∈ (restartCarrier excluded overload x).placements, ∃ q ∈ x.placements, p = ⟨q.lot, q.onHand, 0, 0⟩ :=
    fun p hp => by
      obtain ⟨q, hq, rfl⟩ := List.mem_map.1 (List.mem_filter.1 hp).1
      exact ⟨q, hq, rfl⟩
  refine ⟨hlots, fun p hp => ?_, fun _ p hp => ?_⟩ <;> obtain ⟨q, hq, rfl⟩ := key p hp
  · have := hl q hq
    exact ⟨Nat.zero_le _, by show q.onHand + 0 ≤ 63; omega⟩
  · rfl

theorem mem_restartCarriers {excluded : Nat → Bool} {overload : Carrier → Bool} {y : Carrier} {l : List Carrier} :
    ∀ {i : Nat}, y ∈ restartCarriers excluded overload i l → ∃ x ∈ l, ∃ e o, y = restartCarrier e o x := by
  induction l with
  | nil => intro i h; cases h
  | cons x l ih =>
    intro i h
    rcases List.mem_cons.1 h with rfl | h
    · exact ⟨x, List.mem_cons_self, _, _, rfl⟩
    · obtain ⟨z, hz, h⟩ := ih h
      exact ⟨z, List.mem_cons_of_mem _ hz, h⟩

namespace State.Keeps
-- These lemmas rest on each other in long chains: each would hold a thread that waits for the one before.
set_option Elab.async false
variable {o : Option Carousel} {s₀ s t : State} {k : Carousel} {c lot count : Nat}

/-- A carousel's carriers replaced by sound ones. -/
theorem setStock (h : s₀.Keeps o s) {car : Option StockCar}
    (hc : s.shelvesSound → ∀ y, car = some y → ∀ x ∈ y.carriers, x.shelved) : s₀.Keeps o (s.setStock k car) :=
  { h with
    shelves := fun h0 j y hy => by
      by_cases hj : j = k
      · subst hj; rw [State.stockCar_setStock] at hy; exact hc (h.shelves h0) y hy
      · rw [State.stockCar_setStock_ne _ _ hj] at hy; exact h.shelves h0 j y hy }

/-- A carrier changed by what leaves a sound one sound. -/
theorem changeCarrier (h : s₀.Keeps o s) {f : Carrier → Carrier}
    (hf : ∀ x, s.carrier k c = some x → x.shelved → (f x).shelved) : s₀.Keeps o (s.changeCarrier k c f) := by
  cases hx : s.carrier k c with
  | none => simpa [State.changeCarrier, hx] using h
  | some x =>
    obtain ⟨car, hcar, hg⟩ := carrier_stock hx
    rw [changeCarrier_effect hcar hx]
    refine ((h.setLots fun hl => (twf_tmap _ _).trans hl).setStock fun h0 y hy z hz => ?_).postAll
    obtain rfl := Option.some.inj hy
    have hx' := h0 k car hcar x (List.mem_of_getElem? hg)
    rcases List.mem_or_eq_of_mem_set hz with hz | rfl
    · exact h0 k car hcar z hz
    · exact hf x hx hx'

/-- The counts of one lot on one carrier changed within law L1. -/
theorem changeLot (h : s₀.Keeps o s) {f : Placement → Placement} (hlot : ∀ q, (f q).lot = q.lot)
    (hf : ∀ x p, s.carrier k c = some x → placementOf lot x.placements = some p → p.reserved ≤ p.onHand →
      p.onHand + p.incoming ≤ 63 →
        (f p).reserved ≤ (f p).onHand ∧ (f p).onHand + (f p).incoming ≤ 63 ∧ (p.incoming = 0 → (f p).incoming = 0)) :
    s₀.Keeps o (s.changePlacements k c (changePlacement lot f)) :=
  h.changeCarrier fun x hx hs => Carrier.shelved_change hs hlot fun p hp =>
    have hl := hs.2.1 p (placementOf_some hp).1
    hf x p hx hp hl.1 hl.2

theorem reserveEntry (h : s₀.Keeps o s) : s₀.Keeps o (reserveEntry k c lot count s).1 := by
  unfold Machine.reserveEntry
  dsimp only
  split
  · exact h
  · refine h.changeLot (by intro q; rfl) fun x p hx hp h1 h2 => ?_
    have hg : s.reserveGrant k c lot count ≤ p.onHand - p.reserved := by
      rw [reserveGrant_some hx hp]; split <;> omega
    exact ⟨by dsimp only; omega, h2, id⟩

theorem releaseEntry (h : s₀.Keeps o s) : s₀.Keeps o (releaseEntry k c lot count s).1 := by
  cases hx : s.carrier k c with
  | none => simpa [Machine.releaseEntry, hx] using h
  | some x =>
    simp only [Machine.releaseEntry, hx]
    split
    · exact h
    · exact h.changeLot (by intro q; rfl) fun _ p _ _ h1 h2 => ⟨by dsimp only; omega, h2, id⟩

theorem commitPickEntry (h : s₀.Keeps o s) : s₀.Keeps o (commitPickEntry k c lot s).1 := by
  unfold Machine.commitPickEntry
  split
  · rename_i ht
    refine h.changeLot (by intro q; rfl) fun x p hx hp h1 h2 => ?_
    have hr := ((pickTakes_iff hx lot).1 ht).2
    rw [reservedOf_some hp] at hr
    exact ⟨by dsimp only; omega, by dsimp only; omega, id⟩
  · exact h

theorem commitPutEntry (h : s₀.Keeps o s) : s₀.Keeps o (commitPutEntry k c lot s).1 := by
  unfold Machine.commitPutEntry
  split
  · rename_i ht
    refine h.changeLot (by intro q; rfl) fun x p hx hp h1 h2 => ?_
    have hr := ((putTakes_iff hx lot).1 ht).2
    rw [incomingOf_some hp] at hr
    exact ⟨by dsimp only; omega, by dsimp only; omega, by dsimp only; omega⟩
  · exact h

theorem planIncomingEntry (h : s₀.Keeps o s) : s₀.Keeps o (planIncomingEntry k c lot count s).1 := by
  unfold Machine.planIncomingEntry
  split
  · rename_i ht
    refine h.changeCarrier fun x hx hs => ?_
    obtain ⟨hc, ⟨hst, -⟩, -, hroom⟩ := (planTakes_iff hx lot count).1 ht
    obtain ⟨car, hcar, -⟩ := carrier_stock hx
    simp only [State.roomTest, hcar, hx, Bool.and_eq_true, decide_eq_true_eq] at hroom
    exact Carrier.shelved_book hs hc (by simp [hst]) hroom.1.1.2
  · exact h

theorem returnIncomingEntry (h : s₀.Keeps o s) : s₀.Keeps o (returnIncomingEntry k c lot count s).1 := by
  cases hx : s.carrier k c with
  | none => simpa [Machine.returnIncomingEntry, hx] using h
  | some x =>
    simp only [Machine.returnIncomingEntry, hx]
    split
    · exact h
    · exact h.changeLot (by intro q; rfl) fun _ p _ _ h1 h2 => ⟨h1, by dsimp only; omega, by dsimp only; omega⟩

/-- A carrier put into a state other than AUDIT-LOCKED. -/
theorem setCarrierState (h : s₀.Keeps o s) {st : CarrierState} (hst : st ≠ .auditLocked) :
    s₀.Keeps o (s.setCarrierState k c st) :=
  h.changeCarrier fun _ _ hs => Carrier.shelved_state hs fun e => absurd e hst

theorem auditMarkEntry (h : s₀.Keeps o s) : s₀.Keeps o (auditMarkEntry k c s).1 := by
  unfold Machine.auditMarkEntry
  split
  · exact h.setCarrierState nofun
  · exact h.setCarrierState nofun
  all_goals exact h

theorem auditClearEntry (h : s₀.Keeps o s) : s₀.Keeps o (auditClearEntry k c s) := by
  unfold Machine.auditClearEntry
  split
  · exact h.setCarrierState nofun
  · exact h

theorem auditLockEntry (h : s₀.Keeps o s) : s₀.Keeps o (auditLockEntry k c s).1 := by
  unfold Machine.auditLockEntry
  split
  · rename_i x hx
    split
    · split
      · rename_i hi
        refine h.changeCarrier fun y hy hs => Carrier.shelved_state hs fun _ p hp => ?_
        obtain rfl : x = y := Option.some.inj (hx.symm.trans hy)
        simpa using List.all_eq_true.1 hi p hp
      · exact h
    · exact h
  · exact h

theorem auditUnlockEntry (h : s₀.Keeps o s) : s₀.Keeps o (auditUnlockEntry k c s) := by
  unfold Machine.auditUnlockEntry
  split
  · exact h.setCarrierState nofun
  · exact h

theorem auditApplyEntry (h : s₀.Keeps o s) {tally : List (Nat × Nat)} {unknown unplaced : Nat} :
    s₀.Keeps o (auditApplyEntry k c tally unknown unplaced s).1 := by
  unfold Machine.auditApplyEntry
  split
  · split
    · rename_i ht
      refine h.changeCarrier fun y hy hs => ?_
      obtain ⟨hst, hr⟩ := (applyTakes_iff hy tally).1 ht
      exact Carrier.shelved_apply hs unknown unplaced hst hr
    · exact h
  · exact h

theorem excludeEntry (h : s₀.Keeps o s) {cs : List Nat} : s₀.Keeps o (excludeEntry k cs s) := by
  refine h.foldl (fun _ _ h => h.changeCarrier ?_) cs
  exact fun _ _ hs => hs

theorem admitEntry (h : s₀.Keeps o s) {cs : List Nat} : s₀.Keeps o (admitEntry k cs s) := by
  refine h.foldl (fun _ _ h => h.changeCarrier ?_) cs
  exact fun _ _ hs => hs

theorem configureStock (h : s₀.Keeps o s) {p shelf gap rated : Nat} {excluded : Nat → Bool} :
    s₀.Keeps o (configureStock k p shelf gap rated excluded s) := by
  have hnew : ∀ x ∈ newCarriers p excluded, x.shelved := fun x hx => by
    obtain ⟨n, -, rfl⟩ := List.mem_map.1 hx
    simp [newCarrier, Carrier.shelved]
  unfold Machine.configureStock
  split
  · rename_i car hcar
    dsimp only
    split
    · refine h.setStock fun h0 y hy x hx => ?_
      obtain rfl := Option.some.inj hy
      obtain ⟨z, hz, rfl⟩ := List.mem_map.1 hx
      exact h0 k car hcar z hz
    · exact h.setStock fun _ y hy => by obtain rfl := Option.some.inj hy; exact hnew
  · exact h.setStock fun _ y hy => by obtain rfl := Option.some.inj hy; exact hnew

theorem restartStock (h : s₀.Keeps o s) {excluded : Carousel → Nat → Bool} : s₀.Keeps o (restartStock excluded s) :=
  { h with
    lots := fun h0 => (twf_tmap _ _).trans (h.lots h0)
    shelves := fun h0 j y hy x hx => by
      have hj : (s.stockCar j).map (fun car => { car with
          carriers := restartCarriers (excluded j) (fun x => s.overloaded car.rated x.placements) 0 car.carriers }) = some y := by
        rw [← hy]; simp [State.stockCar, Machine.restartStock]
      obtain ⟨car, hcar, rfl⟩ := Option.map_eq_some_iff.1 hj
      obtain ⟨z, hz, e, v, rfl⟩ := mem_restartCarriers hx
      exact Carrier.shelved_restart (h.shelves h0 j car hcar z hz) e v }

theorem lotWriteRequest (h : s₀.Keeps o s) {n width rim mass : Nat} {a : Article} {w : Week} :
    s₀.Keeps o (lotWriteRequest n a w width rim mass s).1 := by
  unfold Machine.lotWriteRequest
  dsimp only
  repeat' split
  all_goals first | exact h | exact h.setLots (twf_tput _ _)

theorem lotDeleteRequest (h : s₀.Keeps o s) {n : Nat} : s₀.Keeps o (lotDeleteRequest n s).1 := by
  unfold Machine.lotDeleteRequest
  repeat' split
  all_goals first | exact h | exact h.setLots (twf_tdel _)

theorem lotHoldRequest (h : s₀.Keeps o s) {n : Nat} : s₀.Keeps o (lotHoldRequest n s).1 := by
  unfold Machine.lotHoldRequest
  repeat' split
  all_goals first | exact h | exact (h.setLots (twf_tput _ _)).post

theorem lotReleaseRequest (h : s₀.Keeps o s) {n : Nat} : s₀.Keeps o (lotReleaseRequest n s).1 := by
  unfold Machine.lotReleaseRequest
  repeat' split
  all_goals first | exact h | exact (h.setLots (twf_tput _ _)).post

theorem carrierWriteRequest (h : s₀.Keeps o s) {kn : Nat} {ds dis : Bool} {list : List (Nat × Nat)} :
    s₀.Keeps o (carrierWriteRequest kn c ds dis list s).1 := by
  unfold Machine.carrierWriteRequest
  split
  · exact h
  · split
    · exact h
    · split
      · exact h
      · rename_i hr
        simp only [Bool.or_eq_true, not_or, Bool.not_eq_true', decide_eq_false_iff_not, not_not] at hr
        obtain ⟨⟨-, hl⟩, hn⟩ := hr
        have hl' : ∀ e ∈ list, e.2 ≤ 63 := fun e he => by
          simp only [Bool.not_eq_true, List.any_eq_false, Bool.not_eq_true', Bool.not_eq_false, Bool.and_eq_true,
            decide_eq_true_eq] at hl
          exact (hl e he).2
        repeat' split
        all_goals first
          | exact h
          | exact h.changeCarrier fun x _ _ => Carrier.shelved_written hn hl' _ _ x

end State.Keeps
end Sys2Proof.Machine

namespace Sys2Proof.Machine

/-! ## The Frame Engine -/

namespace State.Keeps
-- These lemmas rest on each other in long chains: each would hold a thread that waits for the one before.
set_option Elab.async false
variable {o : Option Carousel} {s₀ s t : State}

theorem passFrame (h : s₀.Keeps o s) {g : Hdr} {kind : Nat} : s₀.Keeps o (passFrame g kind s) := by
  unfold Machine.passFrame
  split
  · exact h.of_view rfl
  · exact h

theorem sendFrame (h : s₀.Keeps o s) {f : TxFrame} : s₀.Keeps o (sendFrame f s) := h.of_view rfl

theorem joinWaiting (h : s₀.Keeps o s) {b : Block} : s₀.Keeps o (joinWaiting b s) := h.of_view rfl

theorem spaceFreed (h : s₀.Keeps o s) : s₀.Keeps o (spaceFreed s) := h.of_view rfl

theorem keepFrame (h : s₀.Keeps o s) {f : TxFrame} : s₀.Keeps o (keepFrame f s) := h.of_view rfl

/-- A MOVE frame that is handed back puts its carousel into IDLE. -/
theorem handBack (h : s₀.Keeps o s) {f : TxFrame} : s₀.Keeps o (handBack f s) := by
  unfold Machine.handBack
  split
  · split
    · exact h.modSeq ⟨fun _ => nofun, id, Nat.le_refl _⟩
    · exact h.keepFrame
  · exact h.modStn
  · exact h.modMgmt
  · exact h.modMgmt
  · exact h.keepFrame

theorem offerFrame (h : s₀.Keeps o s) {f : TxFrame} : s₀.Keeps o (offerFrame f s).1 := by
  unfold Machine.offerFrame
  split
  · exact h.of_view rfl
  · split
    · split
      · exact h.modFe.spaceFreed.handBack.joinWaiting
      · exact h.joinWaiting
    · exact h.joinWaiting

theorem offer (h : s₀.Keeps o s) {b : Block} {a : Target} {p : Payload} : s₀.Keeps o (offer b a p s).1 := by
  unfold Machine.offer
  split
  · exact h
  · exact h.offerFrame

theorem offerOrKeep (h : s₀.Keeps o s) {f : TxFrame} : s₀.Keeps o (offerOrKeep f s) := by
  unfold Machine.offerOrKeep
  dsimp only
  split
  · exact h.offerFrame.keepFrame
  · exact h.offerFrame

theorem sendOrKeep (h : s₀.Keeps o s) {b : Block} {a : Target} {p : Payload} : s₀.Keeps o (sendOrKeep b a p s).1 := by
  unfold Machine.sendOrKeep
  split
  · exact h
  · exact h.offerOrKeep

theorem reofferKept (h : s₀.Keeps o s) {b : Block} {unheard : Payload → State → State}
    (hu : ∀ p {t : State}, s₀.Keeps o t → s₀.Keeps o (unheard p t)) : s₀.Keeps o (reofferKept b unheard s) := by
  refine h.modFe.foldl (fun t f ht => ?_) _
  split
  · exact ht.offerOrKeep
  · exact hu _ ht

theorem withdrawFrame (h : s₀.Keeps o s) {b : Block} {kind : Nat} : s₀.Keeps o (withdrawFrame b kind s).1 := by
  unfold Machine.withdrawFrame
  split
  · exact h.modFe.spaceFreed
  · exact h

theorem withdrawWhere (h : s₀.Keeps o s) {p : TxFrame → Bool} : s₀.Keeps o (withdrawWhere p s) := by
  unfold Machine.withdrawWhere
  split
  · exact h.modFe.spaceFreed
  · exact h

theorem withdrawFrames (h : s₀.Keeps o s) {b : Block} {kind : Nat} : s₀.Keeps o (withdrawFrames b kind s) := h.withdrawWhere

theorem replacePayload (h : s₀.Keeps o s) {b : Block} {p : Payload} : s₀.Keeps o (replacePayload b p s).1 := by
  unfold Machine.replacePayload
  split
  · exact h.of_view rfl
  · exact h

theorem sendHead (h : s₀.Keeps o s) : s₀.Keeps o (sendHead s) := by
  unfold Machine.sendHead
  split
  · exact h
  · split
    · exact h.modFe.sendFrame.spaceFreed
    · exact h

theorem reportEntry (h : s₀.Keeps o s) {f : TxFrame} {fate : Fate} {i : Option (BitVec 16)} :
    s₀.Keeps o (reportEntry f fate i s) := h.postAll

theorem restoreReturned (h : s₀.Keeps o s) : s₀.Keeps o (restoreReturned s) := by
  unfold Machine.restoreReturned
  split
  · exact h.modFe
  · exact h

theorem reportLost (h : s₀.Keeps o s) {l : List Outstanding} : s₀.Keeps o (reportLost l s) :=
  h.foldl (fun _ _ h => h.reportEntry) l

theorem frameReturned (h : s₀.Keeps o s) {g : Hdr} {kind : Nat} {i : Bool} : s₀.Keeps o (frameReturned g kind i s) := by
  unfold Machine.frameReturned
  split
  · exact h
  · split
    · split
      · exact h
      · dsimp only
        split
        · exact h
        · exact h.modFe.reportLost.reportEntry.restoreReturned
    · exact h.modFe.reportEntry.restoreReturned

theorem roundExpired (h : s₀.Keeps o s) {i : Nat} : s₀.Keeps o (roundExpired i s) := by
  unfold Machine.roundExpired
  split
  · exact h
  · exact h.reach.modFe.reportEntry.restoreReturned

theorem setRing (h : s₀.Keeps o s) {r : Ring} : s₀.Keeps o (setRing r s) := h.modFe.postAll

theorem endRestore (h : s₀.Keeps o s) : s₀.Keeps o (endRestore s) := h.postAll.modFe.setRing

theorem sendQueries (h : s₀.Keeps o s) : s₀.Keeps o (sendQueries s) := by
  unfold Machine.sendQueries
  split
  · exact h.foldl (fun _ _ h => h.sendFrame) _
  · exact h

theorem startQueries (h : s₀.Keeps o s) : s₀.Keeps o (startQueries s) := by
  unfold Machine.startQueries
  dsimp only
  split
  · exact h.modFe.endRestore
  · exact h.modFe.sendQueries

theorem resumeQueries (h : s₀.Keeps o s) : s₀.Keeps o (resumeQueries s) := by
  unfold Machine.resumeQueries
  split
  · exact h.sendQueries
  · exact h

theorem beginRestore (h : s₀.Keeps o s) : s₀.Keeps o (beginRestore s) := h.setRing.startQueries

theorem restartSilence (h : s₀.Keeps o s) : s₀.Keeps o (restartSilence s) := h.modFe

theorem goodFrame (h : s₀.Keeps o s) : s₀.Keeps o (goodFrame s) := by
  unfold Machine.goodFrame
  dsimp only
  split
  · exact h.restartSilence.beginRestore
  · exact h.restartSilence

theorem restoreAnswered (h : s₀.Keeps o s) {a : Nat} : s₀.Keeps o (restoreAnswered a s) := by
  unfold Machine.restoreAnswered
  split
  · dsimp only
    split
    · exact h.modFe.endRestore
    · exact h.modFe
  · exact h

theorem restoreExpired (h : s₀.Keeps o s) : s₀.Keeps o (restoreExpired s) := by
  unfold Machine.restoreExpired
  split
  · split
    · exact h.reach.endRestore
    · exact h
  · exact h

theorem silenceExpired (h : s₀.Keeps o s) : s₀.Keeps o (silenceExpired s) := by
  unfold Machine.silenceExpired
  split
  · exact h
  · exact h.reach.modFe.setRing.postAll

theorem badFrame (h : s₀.Keeps o s) {g : Hdr} {kind : Nat} : s₀.Keeps o (badFrame g kind s) := by
  unfold Machine.badFrame
  dsimp only
  split
  · exact h.restartSilence.modFe.frameReturned
  · exact h.restartSilence.modFe.passFrame

theorem receive (h : s₀.Keeps o s) {g : Hdr} {kind : Nat} {act : Disposal → State → State}
    (ha : ∀ d {t : State}, s₀.Keeps o t → s₀.Keeps o (act d t)) : s₀.Keeps o (receive g kind act s) := by
  unfold Machine.receive
  dsimp only
  split
  · split
    · exact h.goodFrame.frameReturned
    · exact h.goodFrame.passFrame
  · exact ha _ h.goodFrame

end State.Keeps
end Sys2Proof.Machine

namespace Sys2Proof.Machine

/-! ## The Order Book -/

namespace State.Keeps
-- These lemmas rest on each other in long chains: each would hold a thread that waits for the one before.
set_option Elab.async false
variable {o : Option Carousel} {s₀ s t : State} {k : Carousel} {c lot p n i l week cls : Nat} {hd : Nat}

theorem setOrder (h : s₀.Keeps o s) {x : Order} : s₀.Keeps o (s.setOrder hd x) := h.modBook_tables (twf_tput _ _) id

theorem modOrder (h : s₀.Keeps o s) {f : Order → Order} : s₀.Keeps o (s.modOrder hd f) :=
  h.modBook_tables (twf_tmod _ _ _).trans id

theorem modLine (h : s₀.Keeps o s) {f : Line → Line} : s₀.Keeps o (s.modLine hd i f) := h.modOrder

theorem setRes (h : s₀.Keeps o s) {r : Reservation} : s₀.Keeps o (s.setRes p r) := h.modBook_tables id (twf_tput _ _)

theorem leaveTable (h : s₀.Keeps o s) : s₀.Keeps o (leaveTable hd s) := by
  unfold Machine.leaveTable
  split
  · exact h.modOrder
  · exact h.modBook_tables (twf_tdel _) id

theorem vacate (h : s₀.Keeps o s) : s₀.Keeps o (vacate p hd s) := by
  have hp := h.modBook_tables (f := fun b => { b with pool := tdel p b.pool }) id (twf_tdel _)
  unfold Machine.vacate
  dsimp only
  split
  · split
    · exact hp.leaveTable
    · exact hp
  · exact hp

theorem leavePool (h : s₀.Keeps o s) : s₀.Keeps o (leavePool p hd s) := h.modBook.vacate

theorem releaseRes (h : s₀.Keeps o s) {why : Cause} : s₀.Keeps o (releaseRes why p n s).1 := by
  unfold Machine.releaseRes
  split
  · exact h
  · have hl := fun (r : Reservation) {f} => (h.releaseEntry (k := r.car) (c := r.carrier) (lot := r.lot) (count := n)).modLine
      (hd := r.order) (i := r.line) (f := f)
    dsimp only
    split
    · exact (hl _).postAll.leavePool
    · split
      · split
        · exact (hl _).setRes
        · exact (hl _).setRes.post
      · split
        · exact (hl _).setRes
        · exact (hl _).setRes.post

theorem releaseWhole (h : s₀.Keeps o s) : s₀.Keeps o (releaseWhole p s).1 := by
  unfold Machine.releaseWhole
  split
  · split
    · exact h.releaseRes
    · exact h
  · exact h

theorem releaseAll (h : s₀.Keeps o s) {ps : List Nat} : s₀.Keeps o (releaseAll ps s) :=
  h.foldl (fun _ _ h => h.releaseWhole) ps

theorem createRes (h : s₀.Keeps o s) {g : Nat} : s₀.Keeps o (createRes hd i k c lot g s).1 := h.setRes.modBook.post

theorem enlargeRes (h : s₀.Keeps o s) {r : Reservation} {g : Nat} : s₀.Keeps o (enlargeRes p r g s) := h.setRes.post

theorem askPlacement {a : Asking} (h : s₀.Keeps o a.s) {f : Free} : s₀.Keeps o (askPlacement hd i lot a f).s := by
  unfold Machine.askPlacement
  split
  · exact h
  · dsimp only
    split
    · exact h
    · split
      · exact h.reserveEntry
      · split
        · exact h.reserveEntry.modLine.enlargeRes
        · exact h.reserveEntry.modLine.createRes

theorem askLots {a : Asking} (h : s₀.Keeps o a.s) {avoid : Option Carousel} {skip : Option (Carousel × Nat)}
    {lots : List Nat} : s₀.Keeps o (askLots hd i avoid skip lots a).s := by
  have inner : ∀ (lot : Nat) (l : List Free) {a : Asking}, s₀.Keeps o a.s →
      s₀.Keeps o (l.foldl (Machine.askPlacement hd i lot) a).s := fun lot l => by
    induction l with
    | nil => exact id
    | cons f l ih => exact fun h => ih h.askPlacement
  unfold Machine.askLots
  induction lots generalizing a with
  | nil => exact h
  | cons lot lots ih => exact ih (inner lot _ h)

theorem giveBackOne (h : s₀.Keeps o s) {g : Nat} : s₀.Keeps o (giveBackOne p g s) := by
  unfold Machine.giveBackOne
  split
  · exact h
  · dsimp only
    split
    · exact h.releaseEntry.modLine.postAll.vacate
    · exact h.releaseEntry.modLine.setRes.post

theorem giveBack (h : s₀.Keeps o s) {added : List (Nat × Nat)} : s₀.Keeps o (giveBack added s) :=
  h.foldl (fun _ _ h => h.giveBackOne) added

theorem takeLots (h : s₀.Keeps o s) {x : Line} {avoid : Option Carousel} {skip : Option (Carousel × Nat)} {lots : List Nat} :
    s₀.Keeps o (takeLots hd i x avoid skip lots s).s := by
  have ha : s₀.Keeps o (Machine.askLots hd i avoid skip lots { s := s, need := x.need, added := [], stopped := false }).s :=
    askLots h
  unfold Machine.takeLots
  dsimp only
  split
  · dsimp only
    split
    · exact ha.giveBack.modLine.modBook
    · exact ha.modBook
  · dsimp only
    split
    · exact ha.giveBack.modLine
    · exact ha

theorem resolveLine (h : s₀.Keeps o s) {x : Line} {skip : Option (Carousel × Nat)} :
    s₀.Keeps o (resolveLine hd i x skip s).s := by
  unfold Machine.resolveLine
  split
  · exact h.takeLots
  · split
    · exact h
    · dsimp only
      split
      · exact h.modLine.takeLots
      · exact h.modLine

theorem reportWaiting (h : s₀.Keeps o s) {r : WaitReason} : s₀.Keeps o (reportWaiting hd i r s) := by
  unfold Machine.reportWaiting
  split
  · split
    · exact h.modLine.handNotice
    · exact h
  · exact h

theorem passLine {a : State × Bool} (h : s₀.Keeps o a.1) {skip : Option (Carousel × Nat)} {x : Nat × Nat} :
    s₀.Keeps o (passLine skip a x).1 := by
  unfold Machine.passLine
  dsimp only
  split
  · split
    · split
      · exact h.reportWaiting
      · exact h.resolveLine.reportWaiting
    · exact h
  · exact h

theorem resolvePass (h : s₀.Keeps o s) {lines : List (Nat × Nat)} {skip : Option (Carousel × Nat)} :
    s₀.Keeps o (resolvePass lines skip s) := by
  have pass : ∀ (l : List (Nat × Nat)) {a : State × Bool}, s₀.Keeps o a.1 → s₀.Keeps o (l.foldl (Machine.passLine skip) a).1 :=
    fun l => by
      induction l with
      | nil => exact id
      | cons x l ih => exact fun h => ih h.passLine
  exact pass _ h

theorem finishPool (h : s₀.Keeps o s) : s₀.Keeps o (finishPool s) := by
  unfold Machine.finishPool
  split
  · exact h.modBook.resolvePass
  · exact h

theorem passAfter (h : s₀.Keeps o s) {lines : List (Nat × Nat)} {skip : Option (Carousel × Nat)} :
    s₀.Keeps o (passAfter lines skip s) := h.resolvePass.finishPool

theorem releaseWhere (h : s₀.Keeps o s) {f : Reservation → Bool} : s₀.Keeps o (releaseWhere f s) := h.releaseAll.passAfter

theorem postWaiting (h : s₀.Keeps o s) : s₀.Keeps o (postWaiting hd s) := by
  unfold Machine.postWaiting
  split
  · exact h.post
  · exact h

theorem orderAddRequest (h : s₀.Keeps o s) {ref : OrderRef} {lanes : Option (List Nat)} {lines : List LineReq} :
    s₀.Keeps o (orderAddRequest ref cls lanes lines s).1 := by
  unfold Machine.orderAddRequest
  repeat' first | split | dsimp only
  all_goals first | exact h | exact h.setOrder.modBook.postWaiting

theorem releaseOrder (h : s₀.Keeps o s) : s₀.Keeps o (releaseOrder hd s) := h.releaseAll

theorem orderCancelRequest (h : s₀.Keeps o s) : s₀.Keeps o (orderCancelRequest hd s).1 := by
  unfold Machine.orderCancelRequest
  split
  · exact h
  split
  · exact h
  split
  · exact h
  split
  · exact h
  · exact h
  · exact h.leaveTable.post
  · exact h.leaveTable
  · exact h.releaseOrder.modOrder.post.finishPool

theorem orderClassRequest (h : s₀.Keeps o s) : s₀.Keeps o (orderClassRequest hd cls s).1 := by
  unfold Machine.orderClassRequest
  split
  · exact h
  split
  · exact h
  split
  · exact h
  split
  · exact h
  · exact h
  all_goals
    refine postAll ?_
    split
    all_goals first | exact h.modOrder | exact h.modOrder.post

theorem orderResumeRequest (h : s₀.Keeps o s) : s₀.Keeps o (orderResumeRequest hd s).1 := by
  unfold Machine.orderResumeRequest
  split
  · exact h
  split
  · exact h
  split
  · exact h
  split
  · exact h.modOrder.postWaiting
  · exact h

theorem takeReceipt (h : s₀.Keeps o s) {sq comp : Nat} {x : Lane} : s₀.Keeps o (takeReceipt hd sq x comp s).1 := by
  unfold Machine.takeReceipt
  split
  · exact h.modOrder.post.passAfter
  · exact h.post

theorem takeWithdrawal (h : s₀.Keeps o s) {why : Withdrawal} : s₀.Keeps o (takeWithdrawal hd why s) := by
  unfold Machine.takeWithdrawal
  split
  · exact h
  split
  · exact h.releaseOrder.modOrder.postWaiting.finishPool
  · exact h.releaseOrder.modOrder.finishPool
  · exact h.releaseOrder.modOrder.finishPool
  · exact h.leaveTable
  · exact h

theorem takeDelivery (h : s₀.Keeps o s) : s₀.Keeps o (takeDelivery hd i s) := by
  unfold Machine.takeDelivery
  split
  · split
    · exact h
    · dsimp only
      split
      · exact h.modLine
      split
      · split
        · exact h.modLine.modOrder.handNotice.post
        · split
          · exact h.modLine
          · exact h.modLine.handNotices.leaveTable.post
        all_goals exact h.modLine
      · exact h.modLine
  · exact h

theorem takeRemoval (h : s₀.Keeps o s) {why : RemovalReason} : s₀.Keeps o (takeRemoval hd i week why s) := by
  unfold Machine.takeRemoval
  split
  · split
    · exact h
    · dsimp only
      split
      · exact h.modLine.passAfter
      · exact h.modLine
  · exact h

theorem takeDispatch (h : s₀.Keeps o s) {x : Lane} {comp : Nat} {cart : CartId} :
    s₀.Keeps o (takeDispatch hd x comp cart s) := by
  unfold Machine.takeDispatch
  split
  · exact h
  split
  all_goals first | exact h | exact h.handNotice.leaveTable

theorem changeRes (h : s₀.Keeps o s) {r : ResId} {f : Reservation → Reservation} : s₀.Keeps o (changeRes r f s) := by
  unfold Machine.changeRes
  split
  · exact h.setRes
  · exact h

theorem resJoined (h : s₀.Keeps o s) {r : ResId} : s₀.Keeps o (resJoined r s) := h.changeRes

theorem resPresented (h : s₀.Keeps o s) {r : ResId} : s₀.Keeps o (resPresented r s) := h.changeRes

theorem resWithdrawn (h : s₀.Keeps o s) {r : ResId} : s₀.Keeps o (resWithdrawn r s) := h.changeRes

theorem chargeCommit (h : s₀.Keeps o s) {r : Reservation} {told : Bool} : s₀.Keeps o (chargeCommit p r week told s) := by
  unfold Machine.chargeCommit
  dsimp only
  split
  · refine finishPool (leavePool ?_)
    split
    · exact h.modLine.post
    · exact h.modLine
  · split
    · exact h.modLine.setRes.post
    · exact h.modLine.setRes

theorem takeCommit (h : s₀.Keeps o s) {r : ResId} : s₀.Keeps o (takeCommit r k c lot week s).1 := by
  unfold Machine.takeCommit
  split
  · exact h.chargeCommit
  · exact h

theorem resExpired (h : s₀.Keeps o s) : s₀.Keeps o (resExpired p s) := by
  unfold Machine.resExpired
  split
  · exact h
  split
  · exact h
  split
  · exact h
  · exact h.reach.releaseWhole.modLine.handNotice.passAfter

theorem takeHold (h : s₀.Keeps o s) : s₀.Keeps o (takeHold lot s) := h.releaseWhere

theorem takeCarrierRelease (h : s₀.Keeps o s) {cs : List Nat} : s₀.Keeps o (takeCarrierRelease k cs s) := h.releaseWhere

theorem trimOne {a : State × List (Nat × Nat)} (h : s₀.Keeps o a.1) {target : Nat} :
    s₀.Keeps o (trimOne k c lot target a p).1 := by
  unfold Machine.trimOne
  dsimp only
  split
  · exact h
  split
  · exact h.releaseRes
  · exact h

theorem takeTrim (h : s₀.Keeps o s) {target : Nat} : s₀.Keeps o (takeTrim k c lot target s).1 := by
  have trim : ∀ (l : List Nat) {a : State × List (Nat × Nat)}, s₀.Keeps o a.1 →
      s₀.Keeps o (l.foldl (Machine.trimOne k c lot target) a).1 := fun l => by
    induction l with
    | nil => exact id
    | cons x l ih => exact fun h => ih h.trimOne
  exact (trim _ h).passAfter

theorem takeShort (h : s₀.Keeps o s) {r : ResId} : s₀.Keeps o (takeShort r n s) := by
  unfold Machine.takeShort
  split
  · split
    · exact h.releaseRes.passAfter
    · exact h
  · exact h

theorem takeSubstitution (h : s₀.Keeps o s) {r : ResId} : s₀.Keeps o (takeSubstitution r lot s).1 := by
  unfold Machine.takeSubstitution
  split
  · exact h
  split
  · dsimp only
    split
    · exact h.reserveEntry
    · exact h.reserveEntry.setRes.modBook.modLine.releaseRes.finishPool
  · exact h

theorem takeSubstituteRelease (h : s₀.Keeps o s) {r : ResId} : s₀.Keeps o (takeSubstituteRelease r s) := by
  unfold Machine.takeSubstituteRelease
  split
  · split
    · exact h.releaseRes.passAfter
    · exact h
  · exact h

theorem shiftExpiries (h : s₀.Keeps o s) {d : Nat} : s₀.Keeps o (shiftExpiries d s) :=
  h.modBook_tables id (twf_tmap _ _).trans

theorem restartBook (h : s₀.Keeps o s) : s₀.Keeps o (restartBook s) :=
  h.modBook_tables (f := fun _ => (Machine.restartBook s).book) (fun _ => rfl) fun _ => rfl

/-! ## The Balance Unit -/

theorem rebalance (h : s₀.Keeps o s) {f : Balance → Balance} : s₀.Keeps o (rebalance k f s) := by
  unfold Machine.rebalance
  split
  · unfold balanceReports
    dsimp only
    split <;> split
    · exact h.setBal
    · exact h.setBal.post
    · exact h.setBal.handNotice
    · exact h.setBal.post.handNotice
  · exact h

theorem takeMasses (h : s₀.Keeps o s) {report : List (Nat × Nat)} : s₀.Keeps o (takeMasses k report s) := h.rebalance

theorem configureBalance (h : s₀.Keeps o s) {cfg : CarouselCfg} : s₀.Keeps o (configureBalance k cfg s) := by
  unfold Machine.configureBalance
  split
  · exact h.setBal.rebalance
  · exact h.setBal

theorem restartBalance (h : s₀.Keeps o s) : s₀.Keeps o (restartBalance s) := h.foldl (fun _ _ h => h.rebalance) _

end State.Keeps
end Sys2Proof.Machine

namespace Sys2Proof.Machine

/-! ## Task queues -/

theorem Task.withPicks_num (x : Task) (ps : List Pick) : (x.withPicks ps).num = x.num := by
  unfold Task.withPicks
  split <;> rfl

theorem withoutTask_sublist (n : Nat) (q : List Task) : (withoutTask n q).Sublist q := List.filter_sublist

/-- A queue with some of its tasks is numbered like the queue itself. -/
theorem Seq.numbered_sublist {q : Seq} {l : List Task} (h : l.Sublist q.queue) (hq : q.numbered) :
    ({ q with queue := l } : Seq).numbered :=
  ⟨(h.map _).nodup hq.1, fun x hx => hq.2 x (h.subset hx)⟩

/-- A queue with the same numbers is numbered like the queue itself. -/
theorem Seq.numbered_map {q : Seq} {f : Task → Task} (h : ∀ u ∈ q.queue, (f u).num = u.num) (hq : q.numbered) :
    ({ q with queue := q.queue.map f } : Seq).numbered := by
  refine ⟨?_, fun x hx => ?_⟩
  · have : (q.queue.map f).map (·.num) = q.queue.map (·.num) := by
      rw [List.map_map]; exact List.map_congr_left h
    exact this ▸ hq.1
  · obtain ⟨u, hu, rfl⟩ := List.mem_map.1 hx
    rw [h u hu]; exact hq.2 u hu

/-- A task placed under a number that the queue does not use, below the next arrival. -/
theorem placeTask_numbered {x : Task} {l : List Task} {a : Nat} (hn : (l.map (·.num)).Nodup) (hx : x.num ∉ l.map (·.num))
    (hl : ∀ u ∈ l, u.num < a) (ha : x.num < a) :
    ((placeTask x l).map (·.num)).Nodup ∧ ∀ u ∈ placeTask x l, u.num < a := by
  have hp := placeTask_holds x l
  refine ⟨(hp.map _).nodup_iff.2 (List.nodup_cons.2 ⟨hx, hn⟩), fun u hu => ?_⟩
  rcases List.mem_cons.1 (hp.subset hu) with rfl | hu
  · exact ha
  · exact hl u hu

theorem num_notMem_withoutTask (n : Nat) (l : List Task) : n ∉ (withoutTask n l).map (·.num) := by
  intro h
  obtain ⟨u, hu, hnum⟩ := List.mem_map.1 h
  have := (List.mem_filter.1 hu).2
  simp [hnum] at this

/-- A task placed anew keeps its number to itself. -/
theorem Seq.numbered_replace {q : Seq} {y : Task} (hy : y.num < q.arrivals) (hq : q.numbered) :
    ({ q with queue := placeTask y (withoutTask y.num q.queue) } : Seq).numbered :=
  placeTask_numbered (((withoutTask_sublist _ _).map _).nodup hq.1) (num_notMem_withoutTask _ _)
    (fun u hu => hq.2 u ((withoutTask_sublist _ _).subset hu)) hy

/-- A new task takes the next arrival number. -/
theorem Seq.numbered_new {q : Seq} (cls : Class) (carrier : Nat) (body : TaskBody) (hq : q.numbered) :
    ({ q with queue := placeTask { num := q.arrivals, cls := cls, carrier := carrier, body := body } q.queue,
              arrivals := q.arrivals + 1 } : Seq).numbered := by
  refine placeTask_numbered hq.1 (fun h => ?_) (fun u hu => Nat.lt_succ_of_lt (hq.2 u hu)) (Nat.lt_succ_self _)
  obtain ⟨u, hu, hnum⟩ := List.mem_map.1 h
  exact absurd (hq.2 u hu) (by simp [hnum])

theorem Seq.taskFor_mem {q : Seq} {kind : TaskKind} {c : Nat} {x : Task} (h : q.taskFor kind c = some x) : x ∈ q.queue :=
  List.mem_of_find?_eq_some h

theorem Seq.currentTask_mem {q : Seq} {x : Task} (h : q.currentTask = some x) : x ∈ q.queue := by
  obtain ⟨n, -, hn⟩ := Option.bind_eq_some_iff.1 h
  exact List.mem_of_find?_eq_some hn

theorem Seq.granted_mem {q : Seq} {x : Task} (h : q.granted = some x) : x ∈ q.queue := by
  unfold Seq.granted at h
  split at h
  · exact Seq.currentTask_mem h
  · cases h

theorem Seq.taskOf_mem {q : Seq} {r : ResId} {x : Task} (h : q.taskOf r = some x) : x ∈ q.queue :=
  List.mem_of_find?_eq_some h

/-- A sequencer in none of MANUAL, DISABLED and FAULT obeys law L6 whatever it holds. -/
theorem Seq.restful_of_state {q : Seq} (h : q.state ≠ .manual) (h' : q.state ≠ .disabled) (h'' : q.state ≠ .fault) :
    q.restful := by
  rintro (e | e | e)
  · exact absurd e h
  · exact absurd e h'
  · exact absurd e h''

/-! ## The Station Controllers' grants and displays, as the sequencers use them -/

namespace State.Keeps
-- These lemmas rest on each other in long chains: each would hold a thread that waits for the one before.
set_option Elab.async false
variable {o : Option Carousel} {s₀ s t : State} {k : Carousel} {st : Station} {c : Nat}

theorem flushGroup (h : s₀.Keeps o s) {kind : TaskKind} : s₀.Keeps o (flushGroup st k kind s) := by
  unfold Machine.flushGroup
  split
  · exact h
  · exact h.handNotice.modStn

theorem endGrant (h : s₀.Keeps o s) {how : GrantEnd} : s₀.Keeps o (endGrant st how s) := by
  unfold Machine.endGrant
  split
  · exact h
  · exact h
  · refine modStn ?_
    split
    · split
      · exact h.flushGroup
      · exact h.flushGroup.handNotice
    all_goals exact h.flushGroup

theorem endGrantOf (h : s₀.Keeps o s) {how : GrantEnd} : s₀.Keeps o (endGrantOf k how s) := by
  unfold Machine.endGrantOf
  split
  · exact h.endGrant
  · exact h

theorem sendContent (h : s₀.Keeps o s) {x : Content} : s₀.Keeps o (sendContent st x s) := by
  unfold Machine.sendContent
  dsimp only
  split
  · exact h.replacePayload.modStn
  · split
    · exact h.replacePayload.offer.modStn
    · exact h.replacePayload.offer.modStn
    · exact h.replacePayload.offer.modStn.post

theorem refresh (h : s₀.Keeps o s) : s₀.Keeps o (refresh st s) := by
  unfold Machine.refresh
  dsimp only
  split
  · exact h.sendContent
  · exact h

theorem resend (h : s₀.Keeps o s) : s₀.Keeps o (resend st s) := by
  unfold Machine.resend
  dsimp only
  split
  · exact h.sendContent
  · exact h

theorem showMessage (h : s₀.Keeps o s) {m : Message} : s₀.Keeps o (showMessage st m s) := h.modStn

theorem takeViewReport (h : s₀.Keeps o s) {v : ViewChange} : s₀.Keeps o (takeViewReport st k v s) := by
  unfold Machine.takeViewReport
  split
  · exact h
  · split
    · dsimp only
      split
      · exact h.showMessage.modStn.refresh
      · exact h.modStn.refresh
    · exact h

/-! ## The sequencers' task queues -/

/-- A change of a sequencer that leaves its state, its move and its built frame. -/
theorem modSeq_queue (h : s₀.Keeps o s) {f : Seq → Seq} (hs : (f (s.seq k)).state = (s.seq k).state)
    (hm : (f (s.seq k)).move = (s.seq k).move) (hb : (f (s.seq k)).built = (s.seq k).built)
    (hn : s₀.tasksNumbered → (s.seq k).numbered → (f (s.seq k)).numbered) (ha : (s.seq k).arrivals ≤ (f (s.seq k)).arrivals) :
    s₀.Keeps o (s.modSeq k f) :=
  { h with
    restful := fun h0 j hj => by
      by_cases hjk : j = k
      · subst hjk; rw [State.seq_modSeq]; unfold Seq.restful; rw [hs, hm, hb]; exact h.restful h0 j hj
      · rw [State.seq_modSeq_ne _ _ hjk]; exact h.restful h0 j hj
    numbered := fun h0 => numbered_setSeq (hn h0) (h.numbered h0)
    arrivals := arrivals_setSeq ha h.arrivals }

/-- A change of a sequencer that ends in none of MANUAL, DISABLED and FAULT. -/
theorem modSeq_state (h : s₀.Keeps o s) {f : Seq → Seq}
    (hs : (f (s.seq k)).state ≠ .manual ∧ (f (s.seq k)).state ≠ .disabled ∧ (f (s.seq k)).state ≠ .fault := by
      exact ⟨nofun, nofun, nofun⟩)
    (hn : (s.seq k).numbered → (f (s.seq k)).numbered := by exact id)
    (ha : (s.seq k).arrivals ≤ (f (s.seq k)).arrivals := by exact Nat.le_refl _) : s₀.Keeps o (s.modSeq k f) :=
  h.modSeq ⟨fun _ => Seq.restful_of_state hs.1 hs.2.1 hs.2.2, hn, ha⟩

/-- A change of a sequencer that leaves no built MOVE frame. -/
theorem modSeq_unbuilt (h : s₀.Keeps o s) {f : Seq → Seq} (hs : (f (s.seq k)).state = (s.seq k).state)
    (hm : (f (s.seq k)).move = (s.seq k).move) (hb : (f (s.seq k)).built = none)
    (hn : (s.seq k).numbered → (f (s.seq k)).numbered := by exact id)
    (ha : (s.seq k).arrivals ≤ (f (s.seq k)).arrivals := by exact Nat.le_refl _) : s₀.Keeps o (s.modSeq k f) :=
  h.modSeq ⟨fun hr e => ⟨by rw [hm]; exact (hr (hs ▸ e)).1, hb⟩, hn, ha⟩

/-- The number of a task in a queue was given before. -/
theorem num_lt (h : s₀.Keeps o s) {x : Task} (hx : x ∈ (s.seq k).queue) (h0 : s₀.tasksNumbered) : x.num < (s.seq k).arrivals :=
  (h.numbered h0 k).2 x hx

theorem reclassTask (h : s₀.Keeps o s) {x : Task} (hx : s₀.tasksNumbered → x.num < (s.seq k).arrivals) {cls : Class} :
    s₀.Keeps o (reclassTask k x cls s) := by
  unfold Machine.reclassTask
  refine h.modSeq_queue ?_ ?_ ?_ (fun h0 => ?_) ?_
  case refine_4 =>
    split
    · exact Seq.numbered_map fun u _ => by split <;> simp_all
    · exact Seq.numbered_replace (y := { x with cls := cls }) (hx h0)
  case refine_5 => exact Nat.le_of_eq (by split <;> rfl)
  all_goals split <;> rfl

theorem setPicks (h : s₀.Keeps o s) {x : Task} (hx : x ∈ (s.seq k).queue) {ps : List Pick} :
    s₀.Keeps o (setPicks k x ps s) := 
  h.reclassTask fun h0 => by rw [x.withPicks_num]; exact h.num_lt hx h0

theorem newTask (h : s₀.Keeps o s) {cls : Class} {body : TaskBody} : s₀.Keeps o (newTask k cls c body s) :=
  h.modSeq ⟨id, Seq.numbered_new cls c body, Nat.le_succ _⟩

theorem tellView (h : s₀.Keeps o s) {v : ViewChange} : s₀.Keeps o (tellView k v s) := by
  unfold Machine.tellView
  split
  · exact h.takeViewReport
  · exact h

theorem showAudit (h : s₀.Keeps o s) : s₀.Keeps o (showAudit k c s) := by
  unfold Machine.showAudit
  split
  · split
    · exact h.modStn.refresh
    · exact h
  · exact h

theorem joinTask (h : s₀.Keeps o s) {i : HeldItem} {u : State} (hu : joinTask k i s = some u) : s₀.Keeps o u := by
  unfold Machine.joinTask at hu
  dsimp only at hu
  split at hu
  · rename_i x hx
    have hp := h.setPicks (Seq.taskFor_mem hx) (ps := x.picks ++ [i.pick])
    split at hu
    · split at hu
      · obtain rfl := Option.some.inj hu
        split
        · exact hp.post.tellView
        · exact hp.post
      · obtain rfl := Option.some.inj hu
        exact hp.post
    · cases hu
  · split at hu
    · obtain rfl := Option.some.inj hu
      exact h.newTask.post
    · cases hu

theorem takeReservation (h : s₀.Keeps o s) {i : HeldItem} : s₀.Keeps o (takeReservation k i s) := by
  unfold Machine.takeReservation
  split
  · rename_i u hu
    exact h.joinTask hu
  · exact h.modSeq

theorem retryHeld (h : s₀.Keeps o s) : s₀.Keeps o (retryHeld k s) :=
  (h.modSeq (f := fun q => { q with held := [] })).foldl (fun _ _ h => h.takeReservation) _

theorem placeFreed (h : s₀.Keeps o s) : s₀.Keeps o (placeFreed k s) := by
  unfold Machine.placeFreed
  dsimp only
  split
  · refine post ?_
    split
    · exact h.retryHeld.post
    · exact h.retryHeld
  · exact h.retryHeld

theorem withdrawPicks (h : s₀.Keeps o s) : s₀.Keeps o (withdrawPicks k s) := by
  unfold Machine.withdrawPicks
  split
  · rename_i x hx
    exact (h.setPicks (Seq.granted_mem hx)).postAll
  · exact h

theorem shedFreed (h : s₀.Keeps o s) {b : Bool} : s₀.Keeps o (shedFreed k b s) := by
  unfold Machine.shedFreed
  split
  · exact h.placeFreed
  · exact h

/-- A carousel leaves its state for one in which law L6 asks nothing. -/
theorem leaveOpening (h : s₀.Keeps o s) {next : CarState} (hn : next ≠ .manual ∧ next ≠ .disabled ∧ next ≠ .fault := by exact ⟨nofun, nofun, nofun⟩) :
    s₀.Keeps o (leaveOpening k next s) := by
  unfold Machine.leaveOpening
  split
  · refine modSeq_state ?_ hn
    split
    · exact h.post
    · exact h
  · exact (h.withdrawPicks.endGrantOf.modSeq_state hn).shedFreed
  all_goals exact h.modSeq_state hn

/-- A carousel leaves its state for any, and is on its way until law L6 holds of it again. -/
theorem leaveOpening_away (h : s₀.Keeps (some k) s) {next : CarState} : s₀.Keeps (some k) (Machine.leaveOpening k next s) := by
  unfold Machine.leaveOpening
  split
  · refine modSeq_away ?_
    split
    · exact h.post
    · exact h
  · exact (h.withdrawPicks.endGrantOf.modSeq_away).shedFreed
  all_goals exact h.modSeq_away

theorem withdrawGrant (h : s₀.Keeps o s) : s₀.Keeps o (withdrawGrant k s) := by
  unfold Machine.withdrawGrant
  split
  · exact (h.withdrawPicks.endGrantOf.modSeq_state).shedFreed
  all_goals exact h

theorem withdrawMove (h : s₀.Keeps o s) : s₀.Keeps o (withdrawMove k s).1 := h.withdrawFrame

theorem abandonAudit (h : s₀.Keeps o s) : s₀.Keeps o (abandonAudit k s) := by
  unfold Machine.abandonAudit
  split
  · exact h.post
  · exact h

/-- A carousel that enters FAULT gives up its move and its built frame (R82). -/
theorem enterFault (h : s₀.Keeps none s) {why : FaultCause} : s₀.Keeps none (enterFault k why s) := by
  unfold Machine.enterFault
  dsimp only
  split
  · refine handNotice (modSeq_there ?_ fun _ => ⟨rfl, rfl⟩)
    exact (h.but k).withdrawMove.leaveOpening_away.abandonAudit
  · exact h

theorem sendQuery (h : s₀.Keeps none s) {b : Bool} : s₀.Keeps none (sendQuery k b s) := by
  unfold Machine.sendQuery
  dsimp only
  split
  · exact h.sendOrKeep.enterFault
  · exact h.sendOrKeep.modSeq

theorem enterUnknown (h : s₀.Keeps none s) : s₀.Keeps none (enterUnknown k s) := by
  have hu := (h.leaveOpening (k := k) (next := .unknown)).modSeq (k := k) (f := fun q =>
    { q with fault := none, move := none, built := none, current := none, short := 0 }) ⟨fun _ _ => ⟨rfl, rfl⟩, id, Nat.le_refl _⟩
  unfold Machine.enterUnknown
  dsimp only
  split
  · exact hu.sendQuery
  · exact hu

theorem sendHalt (h : s₀.Keeps o s) {b : Bool} : s₀.Keeps o (sendHalt k b s).1 := h.sendOrKeep

theorem comeToRest (h : s₀.Keeps o s) {b : Bool} : s₀.Keeps o (comeToRest k b s) := by
  unfold Machine.comeToRest
  refine h.modSeq ?_
  split <;> exact ⟨fun _ _ => ⟨rfl, rfl⟩, id, Nat.le_refl _⟩

theorem becomeReady (h : s₀.Keeps o s) {x : Task} : s₀.Keeps o (becomeReady k x s) := by
  have hr := h.modSeq (k := k) (f := fun q => { q with
    state := .ready, current := some x.num, move := none, built := none, short := 0 }) ⟨fun _ _ => ⟨rfl, rfl⟩, id, Nat.le_refl _⟩
  unfold Machine.becomeReady
  dsimp only
  split
  · exact hr.post
  · exact hr

theorem planMove (h : s₀.Keeps none s) {x : Task} {d : Option Nat} : s₀.Keeps none (planMove k x d s) := by
  unfold Machine.planMove
  split
  · exact h.comeToRest
  split
  · exact h.enterFault
  · exact h.becomeReady
  · dsimp only
    split
    · exact h.offer.enterFault
    · exact h.offer.modSeq_state
    · exact h.offer.modSeq_state

theorem clearCurrent (h : s₀.Keeps o s) : s₀.Keeps o (clearCurrent k s) := h.modSeq_unbuilt rfl rfl rfl

theorem choose (h : s₀.Keeps none s) : s₀.Keeps none (choose k s) := by
  unfold Machine.choose
  split
  · split
    · exact h.clearCurrent
    · rename_i x _
      have hc : s₀.Keeps none (if (s.seq k).current = some x.num then s else Machine.clearCurrent k s) := by
        split
        · exact h
        · exact h.clearCurrent
      dsimp only
      generalize (if (s.seq k).current = some x.num then s else Machine.clearCurrent k s) = u at hc
      split
      · split
        · exact hc.clearCurrent
        · exact hc.becomeReady
      · split
        · exact hc.planMove
        · exact hc.modSeq_unbuilt rfl rfl rfl
  · exact h

theorem settleQueue (h : s₀.Keeps none s) : s₀.Keeps none (settleQueue k s) := h.placeFreed.choose

theorem takeOut (h : s₀.Keeps o s) {x : Task} : s₀.Keeps o (takeOut k x s) := by
  have hq := h.modSeq (k := k) (f := fun q => { q with queue := withoutTask x.num q.queue })
    ⟨id, Seq.numbered_sublist (withoutTask_sublist _ _), Nat.le_refl _⟩
  unfold Machine.takeOut
  dsimp only
  split
  · exact hq.post
  · exact hq
  · exact hq

theorem dropTask (h : s₀.Keeps o s) {x : Task} : s₀.Keeps o (dropTask k x s) := by
  unfold Machine.dropTask
  dsimp only
  split
  · exact h.leaveOpening.takeOut.clearCurrent
  · exact h.takeOut

theorem endTask (h : s₀.Keeps none s) {x : Task} {out : TaskOutcome} : s₀.Keeps none (endTask k x out s) :=
  (h.takeOut.endGrantOf.modSeq_state (f := fun q => { q with state := .idle })).clearCurrent.settleQueue

theorem checkPicks (h : s₀.Keeps none s) : s₀.Keeps none (checkPicks k s) := by
  unfold Machine.checkPicks
  split
  · split
    · split
      · exact h.dropTask.settleQueue
      · split
        · exact h
        · exact h.endTask
    all_goals exact h
  · exact h

theorem changePicks (h : s₀.Keeps none s) {x : Task} (hx : x ∈ (s.seq k).queue) {ps : List Pick} {v : Option ViewChange} :
    s₀.Keeps none (changePicks k x ps v s) := by
  unfold Machine.changePicks
  split
  · refine checkPicks ?_
    split
    · exact (h.setPicks hx).tellView
    · exact h.setPicks hx
  · dsimp only
    split
    · exact h.setPicks hx
    · refine settleQueue ?_
      split
      · exact (h.setPicks hx).dropTask
      · exact h.setPicks hx

theorem takeNewCount (h : s₀.Keeps none s) {r : ResId} {n : Nat} {why : Cause} :
    s₀.Keeps none (takeNewCount k r n why s) := by
  unfold Machine.takeNewCount
  dsimp only
  split
  · rename_i hx
    exact h.changePicks (Seq.taskOf_mem hx)
  · exact h.modSeq

theorem takeDrop (h : s₀.Keeps none s) {r : ResId} : s₀.Keeps none (takeDrop k r s) := by
  unfold Machine.takeDrop
  split
  · rename_i hx
    exact h.changePicks (Seq.taskOf_mem hx)
  · exact h.modSeq

theorem takeStrike (h : s₀.Keeps none s) {r : ResId} {why : Cause} : s₀.Keeps none (takeStrike k r why s) := by
  unfold Machine.takeStrike
  split
  · rename_i hx
    exact h.changePicks (Seq.taskOf_mem hx)
  · exact h.takeDrop

theorem pickTaken (h : s₀.Keeps none s) {r : ResId} : s₀.Keeps none (pickTaken k r s) := by
  unfold Machine.pickTaken
  split
  · rename_i hx
    exact h.changePicks (Seq.taskOf_mem hx)
  · exact h

theorem putTaken (h : s₀.Keeps none s) : s₀.Keeps none (putTaken k c s) := by
  unfold Machine.putTaken
  split
  · rename_i x _
    split
    · rename_i lot count n st _
      have hq := h.modSeq (k := k) (f := fun q => { q with queue := q.queue.map fun u =>
          if u.num = x.num then { x with body := .put lot count (n - 1) st } else u })
        ⟨id, Seq.numbered_map fun u _ => by split <;> simp_all, Nat.le_refl _⟩
      dsimp only
      split
      · split
        · exact hq.endTask
        · exact hq.dropTask.settleQueue
      · exact hq
    all_goals exact h
  · exact h

end State.Keeps
end Sys2Proof.Machine

namespace Sys2Proof.Machine

/-! ## Task queues, continued -/

theorem insertAt_holds {α : Type} (i : Nat) (x : α) (l : List α) : (insertAt i x l).Perm (x :: l) := by
  unfold insertAt
  exact List.perm_middle.trans (by rw [List.take_append_drop])

/-- An AUDIT task that takes its place again is one of the others' tasks and itself. -/
theorem replaceAudit_holds (x : Task) (q : List Task) : (replaceAudit x q).Perm (x :: withoutTask x.num q) := by
  unfold replaceAudit
  dsimp only
  split
  · exact placeTask_holds _ _
  · exact insertAt_holds _ _ _

theorem Seq.numbered_replaceAudit {q : Seq} {x : Task} (hx : x.num < q.arrivals) (hq : q.numbered) :
    ({ q with queue := replaceAudit x q.queue } : Seq).numbered := by
  have hp := replaceAudit_holds x q.queue
  refine ⟨(hp.map _).nodup_iff.2 (List.nodup_cons.2 ⟨num_notMem_withoutTask _ _,
    ((withoutTask_sublist _ _).map _).nodup hq.1⟩), fun u hu => ?_⟩
  rcases List.mem_cons.1 (hp.subset hu) with rfl | hu
  · exact hx
  · exact hq.2 u ((withoutTask_sublist _ _).subset hu)

theorem reclassTask_arrivals (k : Carousel) (x : Task) (cls : Class) (s : State) :
    ((reclassTask k x cls s).seq k).arrivals = (s.seq k).arrivals := by
  unfold reclassTask
  rw [State.seq_modSeq]
  split <;> rfl

/-- A task taken out of the queue leaves no task of its number. -/
theorem num_notMem_dropTask (k : Carousel) (x : Task) (s : State) :
    x.num ∉ ((dropTask k x s).seq k).queue.map (·.num) := by
  have hout : ∀ t : State, ((takeOut k x t).seq k).queue = withoutTask x.num (t.seq k).queue := fun t => by
    unfold takeOut
    dsimp only
    split <;> simp [State.seq_modSeq]
  unfold dropTask
  dsimp only
  split
  · rw [clearCurrent, State.seq_modSeq]
    dsimp only
    rw [hout]
    exact num_notMem_withoutTask _ _
  · rw [hout]
    exact num_notMem_withoutTask _ _

namespace State.Keeps
-- These lemmas rest on each other in long chains: each would hold a thread that waits for the one before.
set_option Elab.async false
variable {o : Option Carousel} {s₀ s t : State} {k : Carousel} {c : Nat}

/-! ## The sequencers: reports of orders, PUT and AUDIT tasks -/

theorem reclassTasks (h : s₀.Keeps o s) {f : Task → Task} (hf : ∀ x, (f x).num = x.num) {g : Task → Class} {l : List Task}
    (hl : s₀.tasksNumbered → ∀ x ∈ l, x.num < (s.seq k).arrivals) :
    s₀.Keeps o (l.foldl (fun s x => Machine.reclassTask k (f x) (g x) s) s) := by
  induction l generalizing s with
  | nil => exact h
  | cons x l ih =>
    refine ih (h.reclassTask fun h0 => ?_) fun h0 y hy => ?_
    · rw [hf]; exact hl h0 x (List.mem_cons_self ..)
    · rw [reclassTask_arrivals]; exact hl h0 y (List.mem_cons_of_mem _ hy)

theorem takeClass (h : s₀.Keeps none s) {n : Nat} {cls : Class} : s₀.Keeps none (takeClass k n cls s) := by
  refine choose (modSeq (h.reclassTasks (fun x => x.withPicks_num _) fun h0 x hx => ?_))
  exact h.num_lt (List.mem_filter.1 hx).1 h0

theorem takeNewReservation (h : s₀.Keeps none s) {r : ResId} {n : Nat} {x : PickOrder} :
    s₀.Keeps none (takeNewReservation k r c n x s) := h.takeReservation.choose

theorem takeOrderReport (h : s₀.Keeps none s) {i : Instr} : s₀.Keeps none (takeOrderReport i s) := by
  unfold Machine.takeOrderReport
  split
  · exact h.takeNewReservation
  · exact h.takeClass
  · exact h.takeNewCount
  · exact h.takeDrop
  · exact h.takeStrike
  · exact h

theorem takeOrderReports (h : s₀.Keeps none s) : s₀.Keeps none (takeOrderReports k s) := by
  refine foldl ?_ (fun _ _ h => h.takeOrderReport) _
  exact h.of_view rfl

theorem putOffered (h : s₀.Keeps none s) {lot count : Nat} {cls : Class} {st : Station} :
    s₀.Keeps none (putOffered k c lot count cls st s).1 := by
  unfold Machine.putOffered
  split
  · exact h
  split
  · exact h
  split
  · exact h.newTask.choose
  · exact h

theorem auditOffered (h : s₀.Keeps none s) {b : Bool} {cls : Class} : s₀.Keeps none (auditOffered k c b cls s).1 := by
  unfold Machine.auditOffered
  split
  · exact h
  split
  · exact h
  split
  · exact h.newTask.choose
  · exact h

theorem auditRequeued (h : s₀.Keeps none s) : s₀.Keeps none (auditRequeued k c s).1 := by
  unfold Machine.auditRequeued
  split
  · exact h
  · rename_i x hx
    have hlt : s₀.tasksNumbered → x.num < ((Machine.dropTask k x s).seq k).arrivals := fun h0 =>
      Nat.lt_of_lt_of_le (h.num_lt (Seq.taskFor_mem hx) h0) ((refl s).dropTask.arrivals k)
    have hd := h.dropTask (k := k) (x := x)
    have hout := num_notMem_dropTask k x s
    dsimp only
    generalize Machine.dropTask k x s = u at hlt hd hout
    split
    · refine choose (hd.modSeq_queue rfl rfl rfl (fun h0 hq => ?_) (Nat.le_refl _))
      exact placeTask_numbered hq.1 hout hq.2 (hlt h0)
    · exact hd.settleQueue

theorem auditReclassed (h : s₀.Keeps none s) {cls : Class} {b : Bool} : s₀.Keeps none (auditReclassed k c cls b s) := by
  unfold Machine.auditReclassed
  split
  · exact h
  · rename_i x hx
    refine choose (showAudit (h.modSeq_queue rfl rfl rfl (fun h0 => ?_) (Nat.le_refl _)))
    have hlt := h.num_lt (Seq.taskFor_mem hx) h0
    exact Seq.numbered_replaceAudit (x := { x with cls := cls, body := .audit b }) hlt

theorem auditRemoved (h : s₀.Keeps none s) : s₀.Keeps none (auditRemoved k c s) := by
  unfold Machine.auditRemoved
  split
  · exact h
  · exact h.dropTask.settleQueue

theorem auditApplied (h : s₀.Keeps none s) : s₀.Keeps none (auditApplied k c s) := by
  unfold Machine.auditApplied
  split
  · exact h
  split
  · exact h.endTask
  · exact h.dropTask.settleQueue

theorem acceptGrant (h : s₀.Keeps o s) {x : Task} : s₀.Keeps o (acceptGrant k x s) := h.modSeq_state.postAll

theorem confirmTask (h : s₀.Keeps none s) : s₀.Keeps none (confirmTask k s).1 := by
  unfold Machine.confirmTask
  split
  · exact h
  · rename_i x _
    split
    · rename_i ps _
      have hq := (h.postAll (cs := (ps.filter (·.opened)).map fun p => .reservationWithdrawn p.res)).modSeq (k := k)
        (f := fun q => { q with queue := withoutTask x.num q.queue })
        ⟨id, Seq.numbered_sublist (withoutTask_sublist _ _), Nat.le_refl _⟩
      dsimp only
      refine endTask ?_
      split
      · exact hq
      · exact hq.newTask
    · dsimp only
      exact endTask h.returnIncomingEntry
    · exact h

/-! ## The sequencers: the drive's answers -/

theorem moveComplete (h : s₀.Keeps none s) : s₀.Keeps none (moveComplete k s) := by
  unfold Machine.moveComplete
  split
  · exact h.becomeReady
  · exact h.comeToRest.choose

theorem replan (h : s₀.Keeps none s) {d : Option Nat} : s₀.Keeps none (replan k d s) := by
  unfold Machine.replan
  split
  · exact h.comeToRest.choose
  split
  · exact h.planMove
  · exact h.comeToRest.choose

theorem moveShort (h : s₀.Keeps none s) : s₀.Keeps none (moveShort k s) := by
  unfold Machine.moveShort
  split
  · exact h.modSeq.replan
  · exact h.enterFault

theorem stopping (h : s₀.Keeps o s) {why : StopCause} : s₀.Keeps o (stopping k why s) := h.modSeq_state

theorem otherTarget (h : s₀.Keeps o s) : s₀.Keeps o (otherTarget k s) := h.sendHalt.stopping

theorem lostPosition (h : s₀.Keeps none s) : s₀.Keeps none (lostPosition k s) := h.enterUnknown

theorem statusMoving (h : s₀.Keeps none s) {mv : Move} {answer still : Bool} {i n : Nat} :
    s₀.Keeps none (statusMoving k mv answer still i n s) := by
  unfold Machine.statusMoving
  split
  · split
    · exact h.moveComplete
    split
    · split
      · exact h.enterFault
      · exact h.replan
    · exact h.moveShort
  split
  · exact h
  · exact h.otherTarget

theorem statusStopped (h : s₀.Keeps none s) : s₀.Keeps none (statusStopped k s) := h.comeToRest.choose

theorem statusMotion (h : s₀.Keeps none s) {old : Option Nat} {answer still : Bool} {i n : Nat} :
    s₀.Keeps none (statusMotion k old answer still i n s) := by
  unfold Machine.statusMotion
  split
  · split
    · exact h.comeToRest.choose
    · exact h
  · split
    · exact h
    · exact h.lostPosition
  · split
    · exact h
    · exact h.lostPosition
  · split
    · exact h
    · exact h.lostPosition
  · split
    · exact h.statusMoving
    · exact h
  · split
    · exact h.statusStopped
    · exact h
  all_goals exact h

theorem takeStatus (h : s₀.Keeps none s) {m : Motion} {i n : Nat} : s₀.Keeps none (takeStatus k m i n s) := by
  unfold Machine.takeStatus
  dsimp only
  split
  · exact h
  split
  · split
    · exact h.modSeq.enterFault
    · exact h
  split
  · exact h.modSeq.enterFault
  · exact h.modSeq.statusMotion
  · exact h.modSeq.statusMotion

theorem queryExpired (h : s₀.Keeps none s) : s₀.Keeps none (queryExpired k s) := by
  unfold Machine.queryExpired
  split
  · exact h
  dsimp only
  split
  · exact h.reach.modSeq
  · exact h.reach.modSeq.enterFault

theorem queryUnanswered (h : s₀.Keeps none s) {n : Nat} : s₀.Keeps none (queryUnanswered k n s) := h.modSeq.enterFault

theorem queryReturned (h : s₀.Keeps none s) {n : Nat} {f : Fate} : s₀.Keeps none (queryReturned k n f s) := by
  unfold Machine.queryReturned
  split
  · exact h.modSeq
  all_goals exact h.queryUnanswered

theorem moveReturned (h : s₀.Keeps none s) {f : Fate} : s₀.Keeps none (moveReturned k f s) := by
  unfold Machine.moveReturned
  dsimp only
  split
  · exact h
  · split
    · exact h.enterFault
    · exact h
  all_goals
    split
    · exact h
    · exact h.sendQuery

theorem haltReturned (h : s₀.Keeps none s) {f : Fate} : s₀.Keeps none (haltReturned k f s) := by
  unfold Machine.haltReturned
  split
  · exact h.enterFault
  · exact h

theorem moveTimedOut (h : s₀.Keeps none s) : s₀.Keeps none (moveTimedOut k s) := by
  unfold Machine.moveTimedOut
  split
  · exact h
  split
  · exact h.reach.sendHalt.enterFault
  · exact h.reach.enterFault
  all_goals exact h

/-! ## The sequencers: curtains, missing drives, ring and cell -/

theorem stopMove (h : s₀.Keeps none s) : s₀.Keeps none (stopMove k s) := by
  unfold Machine.stopMove
  split
  · dsimp only
    split
    · exact h.withdrawMove.comeToRest.choose
    · exact h.withdrawMove.sendHalt.stopping
  · exact h

theorem curtainBreaks (h : s₀.Keeps none s) {b : Bool} : s₀.Keeps none (curtainBreaks k b s) := h.modSeq.stopMove.choose

theorem curtainClears (h : s₀.Keeps none s) : s₀.Keeps none (curtainClears k s) := by
  unfold Machine.curtainClears
  split
  · exact h.modSeq
  · exact h.modSeq
  all_goals exact h

theorem curtainSettles (h : s₀.Keeps none s) : s₀.Keeps none (curtainSettles k s) := by
  unfold Machine.curtainSettles
  split
  · exact h
  split
  · exact h.reach.modSeq.choose
  · exact h

theorem driveMissing (h : s₀.Keeps none s) : s₀.Keeps none (driveMissing k s) := by
  unfold Machine.driveMissing
  split
  · dsimp only
    split
    · exact h.sendHalt.enterFault
    · exact h.sendHalt
  · exact h

theorem speedReported (h : s₀.Keeps none s) : s₀.Keeps none (speedReported k s) := by
  unfold Machine.speedReported
  split
  · exact h.choose
  · exact h

theorem driveUnheard (h : s₀.Keeps none s) {p : Payload} : s₀.Keeps none (driveUnheard k p s) := by
  unfold Machine.driveUnheard
  split
  · exact h.queryUnanswered
  · exact h.enterFault
  · exact h.enterFault
  all_goals exact h

theorem discardMoves (h : s₀.Keeps o s) : s₀.Keeps o (discardMoves k s) := h.modFe

theorem seqSpace (h : s₀.Keeps none s) : s₀.Keeps none (seqSpace k s) := by
  have hr : ∀ {u : State}, s₀.Keeps none u → s₀.Keeps none (Machine.reofferKept (.seq k) (Machine.driveUnheard k) u) :=
    fun hu => hu.reofferKept fun _ {_} h => h.driveUnheard
  unfold Machine.seqSpace
  dsimp only
  split <;> split
  · exact (hr h).choose
  · exact hr h
  · exact (hr h.discardMoves).choose
  · exact hr h.discardMoves

theorem takePlace (h : s₀.Keeps none s) {p : Option (Station × Bay)} : s₀.Keeps none (takePlace k p s) := by
  refine choose (h.modSeq ?_)
  split <;> exact ⟨id, id, Nat.le_refl _⟩

theorem takeStationState (h : s₀.Keeps none s) {b : Bool} : s₀.Keeps none (takeStationState k b s) := by
  unfold Machine.takeStationState
  split
  · dsimp only
    split
    · exact h.withdrawMove.comeToRest.choose
    · exact h.withdrawMove
  · exact h.choose

theorem seqRingDown (h : s₀.Keeps none s) : s₀.Keeps none (seqRingDown k s) := by
  have hq := h.modSeq (k := k) (f := fun q => { q with queries := q.queries.filter (s.queryStands k) })
  unfold Machine.seqRingDown
  dsimp only
  split
  · exact hq.withdrawMove.modSeq_state
  · exact hq.withdrawMove.modSeq_state
  · exact hq.choose
  all_goals exact hq

theorem seqRing (h : s₀.Keeps none s) {r : Ring} : s₀.Keeps none (seqRing k r s) := by
  unfold Machine.seqRing
  split
  · exact h.seqRingDown
  all_goals exact h.choose

theorem seqHalt (h : s₀.Keeps none s) : s₀.Keeps none (seqHalt k s) := by
  unfold Machine.seqHalt
  split
  · dsimp only
    split
    · exact h.withdrawMove.comeToRest.choose
    · exact h.withdrawMove.stopping
  · exact h.stopping
  · exact h.choose
  all_goals exact h

theorem seqRun (h : s₀.Keeps none s) : s₀.Keeps none (seqRun k s) := by
  unfold Machine.seqRun
  split
  · exact h.enterUnknown
  · exact h.enterUnknown
  · exact h.enterUnknown
  · exact h.enterUnknown
  all_goals exact h

/-! ## The sequencers: windows, disabled carousels and claims -/

theorem closePut (h : s₀.Keeps o s) {x : Task} : s₀.Keeps o (closePut k s x) := by
  unfold Machine.closePut
  split
  · exact h.returnIncomingEntry.dropTask
  all_goals exact h

theorem closeAudit (h : s₀.Keeps o s) {x : Task} : s₀.Keeps o (closeAudit k s x) := by
  unfold Machine.closeAudit
  split
  · exact h.dropTask.post
  all_goals exact h

theorem closeCarriers (h : s₀.Keeps o s) {cs : List Nat} : s₀.Keeps o (closeCarriers k cs s) := by
  unfold Machine.closeCarriers
  split
  · exact h
  dsimp only
  split
  · exact foldl (foldl h.excludeEntry.post (fun _ _ h => h.closePut) _) (fun _ _ h => h.closeAudit) _
  · exact placeFreed (foldl (foldl h.excludeEntry.post (fun _ _ h => h.closePut) _) (fun _ _ h => h.closeAudit) _)

theorem openCarriers (h : s₀.Keeps o s) {cs : List Nat} : s₀.Keeps o (openCarriers k cs s) := by
  unfold Machine.openCarriers
  split
  · exact h
  · exact h.admitEntry.post

theorem windowSetRequest (h : s₀.Keeps none s) {n : Nat} {b : Option (Nat × Nat)} :
    s₀.Keeps none (windowSetRequest n b s).1 := by
  unfold Machine.windowSetRequest
  split
  · exact h
  rename_i k _
  dsimp only
  split
  · exact h
  split
  · exact h
  have hc := fun cs => (h.modSeq (k := k) (f := fun q => { q with window := b })).closeCarriers (k := k) (cs := cs)
  split
  · exact (hc _).choose
  · exact (hc _).openCarriers.choose

/-- A carousel that is disabled gives up its move and its built frame (R87). -/
theorem disableRequest (h : s₀.Keeps none s) {n : Nat} : s₀.Keeps none (disableRequest n s).1 := by
  unfold Machine.disableRequest
  split
  · exact h
  rename_i k _
  split
  · exact h
  · exact h
  · exact h
  all_goals
    dsimp only
    refine modSeq_there (leaveOpening_away (closeCarriers ?_)) fun _ => ⟨rfl, rfl⟩
    split
    · split
      · exact (h.but k).withdrawMove
      · exact (h.but k).withdrawMove.sendHalt
    · exact h.but k

theorem enableRequest (h : s₀.Keeps none s) {n : Nat} : s₀.Keeps none (enableRequest n s).1 := by
  unfold Machine.enableRequest
  split
  · exact h
  split
  · exact h
  · exact h.openCarriers.enterUnknown
  · exact h.enterUnknown
  all_goals exact h

theorem restartIdle (h : s₀.Keeps o s) {n : Nat} : s₀.Keeps o (restartIdle k n s) := h.modSeq

/-- A carousel that enters MANUAL gives up its move and its built frame (R88). -/
theorem takeClaim (h : s₀.Keeps none s) {n : Nat} : s₀.Keeps none (takeClaim k n s) := by
  unfold Machine.takeClaim
  split
  · exact h
  · exact h
  · exact h.restartIdle
  all_goals
    exact handNotice (modSeq_there ((h.but k).withdrawMove.leaveOpening_away.abandonAudit) fun _ => ⟨rfl, rfl⟩)

theorem takeAccess (h : s₀.Keeps o s) {n : Nat} : s₀.Keeps o (takeAccess k n s) := by
  unfold Machine.takeAccess
  split
  · exact h.modSeq.restartIdle
  · exact h

theorem takeMaintFrame (h : s₀.Keeps o s) {n : Nat} : s₀.Keeps o (takeMaintFrame k n s) := by
  unfold Machine.takeMaintFrame
  split
  · exact h.restartIdle
  · exact h

theorem endClaim (h : s₀.Keeps none s) {b : Bool} : s₀.Keeps none (endClaim k b s) := by
  unfold Machine.endClaim
  split
  · exact h.postAll.handNotice.modSeq.enterUnknown
  · exact h

theorem takeRelease (h : s₀.Keeps none s) {n : Nat} : s₀.Keeps none (takeRelease k n s) := by
  unfold Machine.takeRelease
  split
  · exact h.endClaim
  · exact h

theorem manualIdleExpired (h : s₀.Keeps none s) : s₀.Keeps none (manualIdleExpired k s) := by
  unfold Machine.manualIdleExpired
  split
  · exact h.reach.endClaim
  · exact h

theorem endClaimsOf (h : s₀.Keeps none s) {n : Nat} : s₀.Keeps none (endClaimsOf n s) :=
  h.foldl (fun _ _ h => h.takeRelease) _

theorem configureSeq (h : s₀.Keeps none s) : s₀.Keeps none (configureSeq k s) := by
  unfold Machine.configureSeq
  split
  · exact h.modSeq.enterUnknown
  · exact h.modSeq

end State.Keeps
end Sys2Proof.Machine

namespace Sys2Proof.Machine
namespace State.Keeps
-- These lemmas rest on each other in long chains: each would hold a thread that waits for the one before.
set_option Elab.async false
variable {o : Option Carousel} {s₀ s t : State} {k : Carousel} {st : Station} {l : Lane} {c n i lot hd : Nat}

/-! ## Frames that a command carries in -/

theorem addReply (h : s₀.Keeps o s) {q : Req} {kind : Nat} {a : Answered} : s₀.Keeps o (addReply q kind a s) := h.modMgmt

theorem answerRequest (h : s₀.Keeps o s) {q : Req} {kind : Nat} {body : State → State × Answered}
    (hb : ∀ {t : State}, s₀.Keeps o t → s₀.Keeps o (body t).1) : s₀.Keeps o (answerRequest q kind body s) := by
  unfold Machine.answerRequest
  split
  · exact h.ans
  · exact (hb h).addReply

theorem malformed (h : s₀.Keeps o s) {g : Hdr} {kind : Nat} {p : List Byte} : s₀.Keeps o (malformed g kind p s) :=
  h.passFrame.answerRequest id

theorem maintAct (h : s₀.Keeps none s) {kind source : Nat} : s₀.Keeps none (maintAct kind k source s) := by
  unfold Machine.maintAct
  split
  · exact h.takeClaim
  · exact h.takeAccess
  · exact h.takeRelease
  · exact h.takeMaintFrame

theorem takeForeignFrame (h : s₀.Keeps o s) {g : Hdr} {kind : Nat} : s₀.Keeps o (takeForeignFrame k g kind s) :=
  h.handNotice

theorem redirect (h : s₀.Keeps none s) {d : Disposal} {g : Hdr} {kind : Nat} {p : List Byte} :
    s₀.Keeps none (redirect d g kind p s) := by
  unfold Machine.redirect
  split
  · exact h.frameReturned
  · exact h.malformed
  · exact h.takeForeignFrame
  · exact h.passFrame.maintAct
  all_goals exact h.passFrame

theorem fieldFrame (h : s₀.Keeps none s) {g : Hdr} {kind : Nat} {p : List Byte} {owner : Role → Nat → State → State}
    (ho : ∀ r u {t : State}, s₀.Keeps none t → s₀.Keeps none (owner r u t)) :
    s₀.Keeps none (fieldFrame g kind p owner s) := by
  refine h.receive fun d t ht => ?_
  split
  · rename_i role unit mirror
    have hm : s₀.Keeps none (owner role unit (if mirror then Machine.passFrame g kind t else t)) := by
      refine ho _ _ ?_
      split
      · exact ht.passFrame
      · exact ht
    dsimp only
    split
    · exact hm.restoreAnswered
    · exact hm
  · exact ht.redirect

/-! ## The in-transit list and the diverts -/

theorem freePlace (h : s₀.Keeps o s) : s₀.Keeps o (freePlace n s) := h.postAll.modTransit_places (twf_tdel n)

theorem askPlace (h : s₀.Keeps o s) : s₀.Keeps o (askPlace st s).1 := by
  unfold Machine.askPlace
  dsimp only
  split
  · dsimp only
    exact h.modTransit_places (twf_tput _ _)
  · exact h.of_view rfl

theorem givePlace (h : s₀.Keeps o s) : s₀.Keeps o (givePlace st n s) := by
  unfold Machine.givePlace
  split
  · exact h.freePlace
  · exact h

theorem sendDivert (h : s₀.Keeps o s) {x : Label} {d : Option Lane} {b : Bool} : s₀.Keeps o (sendDivert x d b s) :=
  h.sendOrKeep

theorem unrouted (h : s₀.Keeps o s) {ref : OrderRef} {line week : Nat} {x : Label} :
    s₀.Keeps o (handOverPlace.unrouted st n hd ref line lot week x s) :=
  (h.freePlace.sendDivert.post).handNotice

theorem handOverPlace (h : s₀.Keeps o s) {ref : OrderRef} {line week : Nat} :
    s₀.Keeps o (handOverPlace st n hd ref line lot week s) := by
  unfold Machine.handOverPlace
  split
  · dsimp only
    split
    · split
      · exact (h.modTransit_places (twf_tput _ _)).sendDivert
      · exact h.unrouted
    · exact h.unrouted
  · exact h

theorem divertReturned (h : s₀.Keeps o s) {x : Label} {d : Option Lane} {b : Bool} {f : Fate} :
    s₀.Keeps o (divertReturned x d b f s) := by
  unfold Machine.divertReturned
  split
  · split
    · exact h
    · exact h.sendDivert
  · split
    · exact h
    · exact h.sendDivert
  all_goals exact h

/-! ## Lane controllers -/

theorem loseController (h : s₀.Keeps o s) : s₀.Keeps o (loseController l s) := by
  unfold Machine.loseController
  exact h.withdrawWhere.modFe.modLane

theorem sendLatch (h : s₀.Keeps o s) {a b : Bool} : s₀.Keeps o (sendLatch l a b s) := by
  unfold Machine.sendLatch
  split
  · exact h
  dsimp only
  generalize (if a = true then Payload.lock l b else Payload.unlock l s.mgmt.timers.latch b) = p
  split
  · exact h.sendOrKeep.modLane.loseController
  · exact h.sendOrKeep.modLane

theorem latchReturned (h : s₀.Keeps o s) {a b : Bool} {f : Fate} : s₀.Keeps o (latchReturned l a b f s) := by
  unfold Machine.latchReturned
  split
  · exact h
  split
  · exact h.loseController
  · exact h.sendLatch

theorem showAtLane (h : s₀.Keeps o s) {x : LaneShow} : s₀.Keeps o (showAtLane l x s) := h.sendOrKeep

theorem laneUnheard (h : s₀.Keeps o s) {p : Payload} : s₀.Keeps o (laneUnheard p s) := by
  unfold Machine.laneUnheard
  split
  · exact h.loseController
  · exact h.loseController
  all_goals exact h

/-! ## Lanes -/

theorem modComp (h : s₀.Keeps o s) {f : Comp → Comp} : s₀.Keeps o (modComp l c f s) := h.modLane

theorem assignLane (h : s₀.Keeps o s) : s₀.Keeps o (assignLane l n s) := by
  induction n generalizing s with
  | zero => exact h
  | succ n ih =>
    unfold Machine.assignLane
    split
    · exact ih h.modComp.modTransit.post
    · exact h

theorem assignRound (h : s₀.Keeps o s) : s₀.Keeps o (assignRound s) := by
  refine h.foldl (fun t l ht => ?_) _
  split
  · exact ht.assignLane
  · exact ht

theorem enterReleasing (h : s₀.Keeps o s) : s₀.Keeps o (enterReleasing l s) := h.modLane.sendLatch.postAll

theorem checkFlush (h : s₀.Keeps o s) : s₀.Keeps o (checkFlush l s) := by
  unfold Machine.checkFlush
  split
  · exact h.enterReleasing
  · exact h

theorem enterFlushing (h : s₀.Keeps o s) : s₀.Keeps o (enterFlushing l s) := h.postAll.modLane.checkFlush

theorem permitTest (h : s₀.Keeps o s) : s₀.Keeps o (permitTest l s) := by
  unfold Machine.permitTest
  split
  · exact h.enterFlushing
  · exact h

theorem enterSeating (h : s₀.Keeps o s) : s₀.Keeps o (enterSeating l s) := h.modLane

theorem seatIfMade (h : s₀.Keeps o s) : s₀.Keeps o (seatIfMade l s) := by
  unfold Machine.seatIfMade
  dsimp only
  split
  · exact h.enterSeating
  · exact h

theorem emptyLane (h : s₀.Keeps o s) : s₀.Keeps o (emptyLane l s) := h.modLane

theorem coupleCart (h : s₀.Keeps o s) {id : CartId} {source : CartSource} : s₀.Keeps o (coupleCart l id c source s) :=
  h.modLane.sendLatch.assignRound

theorem cartLost (h : s₀.Keeps o s) : s₀.Keeps o (cartLost l s) := by
  unfold Machine.cartLost
  dsimp only
  refine seatIfMade (foldl (handNotice (sendLatch (emptyLane (postAll (foldl h (fun _ _ h => ?_) _)))))
    (fun _ _ h => h.checkFlush) _)
  exact h.freePlace.postAll

theorem pressRelease (h : s₀.Keeps o s) : s₀.Keeps o (pressRelease l s) := by
  unfold Machine.pressRelease
  split
  · exact h.sendLatch
  · exact h.sendLatch
  · exact h.modLane.handNotice.permitTest
  all_goals exact h

theorem contactsChanged (h : s₀.Keeps o s) {old : LaneInput} : s₀.Keeps o (contactsChanged l old s) := by
  unfold Machine.contactsChanged
  dsimp only
  split
  · exact h.seatIfMade
  · split
    · exact h.emptyLane
    · exact h
  · split
    · exact h.emptyLane
    · exact h
  · split
    · exact h.cartLost
    · exact h
  · split
    · exact h.cartLost
    · exact h
  · split
    · exact h.cartLost
    · exact h
  · split
    · exact h
    · exact h.emptyLane
  · exact h

/-- What a lane does with its contacts and its button (R132, R141). -/
theorem laneInput (h : s₀.Keeps o s) {a b : Prop} [Decidable a] [Decidable b] {old : LaneInput} :
    s₀.Keeps o (if b then Machine.pressRelease l (if a then s else Machine.contactsChanged l old s)
      else if a then s else Machine.contactsChanged l old s) := by
  have hc : s₀.Keeps o (if a then s else Machine.contactsChanged l old s) := by
    split
    · exact h
    · exact h.contactsChanged
  split
  · exact hc.pressRelease
  · exact hc

theorem takeLaneInput (h : s₀.Keeps o s) {x : LaneInput} : s₀.Keeps o (takeLaneInput l x s) := by
  unfold Machine.takeLaneInput
  dsimp only
  split <;> split
  · exact h.modLane.laneInput.assignRound
  · exact h.modLane.assignRound
  · exact h.modLane.laneInput
  · exact h.modLane

theorem momentaryRelease (h : s₀.Keeps o s) : s₀.Keeps o (momentaryRelease l s) := by
  unfold Machine.momentaryRelease
  dsimp only
  split
  · exact h
  split <;> split
  · exact h.modLane.pressRelease.assignRound
  · exact h.modLane.assignRound
  · exact h.pressRelease
  · exact h

theorem laneSettled (h : s₀.Keeps o s) : s₀.Keeps o (laneSettled l s) := by
  unfold Machine.laneSettled
  split
  · exact h.reach.sendOrKeep.modLane
  · exact h

theorem tagExpires (h : s₀.Keeps o s) : s₀.Keeps o (tagExpires l s) := by
  unfold Machine.tagExpires
  split
  · exact h.reach.modLane.handNotice
  · exact h

theorem takeTag (h : s₀.Keeps o s) {id : CartId} : s₀.Keeps o (takeTag l id c s) := by
  unfold Machine.takeTag
  split
  · exact h.coupleCart
  · exact h

theorem takeArrival (h : s₀.Keeps o s) {x : Label} : s₀.Keeps o (takeArrival l x s) := by
  unfold Machine.takeArrival
  split
  · exact h.freePlace.post.showAtLane.checkFlush
  · exact h.handNotice.showAtLane

theorem transitExpired (h : s₀.Keeps o s) : s₀.Keeps o (transitExpired n s) := by
  unfold Machine.transitExpired
  split
  · exact h.reach.freePlace.post.handNotice.checkFlush
  all_goals exact h

theorem takeWaiting (h : s₀.Keeps o s) {w : Waiting} : s₀.Keeps o (takeWaiting w s) := h.modTransit.assignRound

theorem takeOrderClass (h : s₀.Keeps o s) {cls : Class} : s₀.Keeps o (takeOrderClass hd cls s) := h.modTransit.assignRound

theorem takeGone (h : s₀.Keeps o s) : s₀.Keeps o (takeGone hd s) := h.modTransit

theorem closeComp (h : s₀.Keeps o s) {x : CompState} : s₀.Keeps o (closeComp hd x s) := by
  unfold Machine.closeComp
  split
  · split
    · exact h.modComp.permitTest
    · exact h
  · exact h

theorem takeCancel (h : s₀.Keeps o s) {b : Bool} : s₀.Keeps o (takeCancel hd b s) := by
  have hp : s₀.Keeps o (s.modTransit fun t => { t with places := tmap (fun _ p => p.cancel hd) t.places }) :=
    h.modTransit_places fun hw => (twf_tmap _ _).trans hw
  unfold Machine.takeCancel
  dsimp only
  split
  · exact hp.closeComp
  · exact hp.takeGone

theorem takeCompletion (h : s₀.Keeps o s) : s₀.Keeps o (takeCompletion hd s) := h.closeComp

theorem takeReceiptAnswer (h : s₀.Keeps o s) {sq : Nat} {b : Bool} : s₀.Keeps o (takeReceiptAnswer l c hd sq b s) := by
  unfold Machine.takeReceiptAnswer
  split
  · split
    · exact h.modComp
    · exact h.modComp.assignRound
  · exact h

theorem lanePermitRequest (h : s₀.Keeps o s) : s₀.Keeps o (lanePermitRequest n s).1 := by
  unfold Machine.lanePermitRequest
  split
  · exact h
  split
  · exact h.enterFlushing
  all_goals exact h

theorem laneAssignRequest (h : s₀.Keeps o s) {id : CartId} : s₀.Keeps o (laneAssignRequest n id c s).1 := by
  unfold Machine.laneAssignRequest
  split
  · exact h
  split
  · exact h
  split
  · dsimp only
    exact h.coupleCart
  · exact h

theorem laneCloseRequest (h : s₀.Keeps o s) : s₀.Keeps o (laneCloseRequest n s).1 := by
  unfold Machine.laneCloseRequest
  split
  · exact h
  split
  · exact h.of_view rfl
  all_goals exact h

theorem laneOpenRequest (h : s₀.Keeps o s) : s₀.Keeps o (laneOpenRequest n s).1 := by
  unfold Machine.laneOpenRequest
  split
  · exact h
  split
  · dsimp only
    split
    · exact h.modLane.enterSeating
    · exact h.modLane
  · exact h

theorem configureLane (h : s₀.Keeps o s) {b : Bool} : s₀.Keeps o (configureLane l b n s) := by
  unfold Machine.configureLane
  dsimp only
  split
  · refine seatIfMade ?_
    split
    · exact h.modLane
    · exact h.modLane.modLane
  split
  · exact h.modLane
  · exact h.modLane.emptyLane

theorem restartLanes (h : s₀.Keeps o s) : s₀.Keeps o (restartLanes s) :=
  { h with
    places := fun _ => rfl
    restful := h.restful
    numbered := h.numbered
    arrivals := h.arrivals }

end State.Keeps
end Sys2Proof.Machine

namespace Sys2Proof.Machine
namespace State.Keeps
-- These lemmas rest on each other in long chains: each would hold a thread that waits for the one before.
set_option Elab.async false
variable {o : Option Carousel} {s₀ s t : State} {k : Carousel} {st : Station} {c n lot : Nat}

/-! ## The planners -/

theorem refusePut (h : s₀.Keeps o s) {whole planned : Nat} {why : RefuseReason} :
    s₀.Keeps o (refusePut st lot whole planned n why s) := h.modStn.handNotice

theorem refuseBatch (h : s₀.Keeps o s) {b : Planning} {why : RefuseReason} : s₀.Keeps o (refuseBatch st b why s) :=
  h.modStn.refusePut

theorem offerPart (h : s₀.Keeps none s) {p : Part} : s₀.Keeps none (offerPart st p s).1 := by
  unfold Machine.offerPart
  dsimp only
  split
  · dsimp only
    exact h.putOffered.modStn
  · exact h.putOffered
  · exact h.putOffered.returnIncomingEntry.refusePut
  · exact h.putOffered.returnIncomingEntry.refusePut

theorem makePart (h : s₀.Keeps none s) {b : Planning} {r : Reading} : s₀.Keeps none (makePart st b r s) := by
  unfold Machine.makePart
  dsimp only
  split
  · split
    · exact h.planIncomingEntry.modStn.offerPart.modStn
    · exact h.planIncomingEntry.modStn.offerPart
  · exact h.planIncomingEntry

theorem planBatch (h : s₀.Keeps none s) : s₀.Keeps none (planBatch st n s) := by
  induction n generalizing s with
  | zero => exact h
  | succ n ih =>
    unfold Machine.planBatch
    split
    · exact h
    split
    · exact h.modStn
    split
    · exact h.refuseBatch
    split
    · exact h
    split
    · split
      · exact h.refuseBatch
      · exact ih h.makePart
    · exact h.refuseBatch

theorem handBatch (h : s₀.Keeps none s) {b : Batch} : s₀.Keeps none (handBatch st b s) := h.modStn.planBatch

theorem roomSteps (h : s₀.Keeps none s) {b : Bool} : s₀.Keeps none (roomSteps st b s) := by
  have hr : ∀ {u : State}, s₀.Keeps none u → s₀.Keeps none (if (u.stn st).roomWaiter && !(u.stn st).plannerFull then
      (u.modStn st fun x => { x with roomWaiter := false }).post (.plannerRoomReport st) else u) := fun hu => by
    split
    · exact hu.modStn.post
    · exact hu
  unfold Machine.roomSteps
  split
  · refine hr ?_
    split
    · split
      · exact h.handBatch
      · exact h
    · exact h
  · exact h

theorem offerParts (h : s₀.Keeps none s) {l : List Part} : s₀.Keeps none (offerParts st k l s) := by
  induction l generalizing s with
  | nil => exact h
  | cons p l ih =>
    unfold Machine.offerParts
    split
    · dsimp only
      split
      · exact h.offerPart
      · exact ih h.offerPart.modStn
    · exact ih h

theorem takePlaceReport (h : s₀.Keeps none s) : s₀.Keeps none (takePlaceReport st k s) := h.offerParts.planBatch.roomSteps

theorem takePutLeft (h : s₀.Keeps o s) : s₀.Keeps o (takePutLeft st k c lot s) := h.modStn

theorem accumulate (h : s₀.Keeps none s) : s₀.Keeps none (accumulate st lot s).1 := by
  unfold Machine.accumulate
  dsimp only
  split
  · exact h.of_view rfl
  split
  · exact h
  split
  · split
    · exact h.of_view rfl
    split
    · exact h.of_view rfl
    · exact h.handBatch
  split
  · exact h
  · dsimp only
    exact h.handBatch.modStn

theorem inboundEntry (h : s₀.Keeps none s) {x : Label} : s₀.Keeps none (inboundEntry st x s).1 := by
  unfold Machine.inboundEntry
  split
  · split
    · exact h
    · exact h.accumulate
  · exact h

theorem endBatch (h : s₀.Keeps none s) : s₀.Keeps none (endBatch st s) := by
  unfold Machine.endBatch
  split
  · exact h
  split
  · exact h
  split
  · exact h.modStn
  · exact h.handBatch

theorem closePlanner (h : s₀.Keeps o s) : s₀.Keeps o (closePlanner st s) := by
  unfold Machine.closePlanner
  dsimp only
  split
  · exact h.modStn.refuseBatch
  · exact h.modStn

theorem returnPart (h : s₀.Keeps o s) {p : Part} : s₀.Keeps o (returnPart st s p) := h.returnIncomingEntry.refusePut

theorem dropParts (h : s₀.Keeps none s) {f : Carousel → Bool} : s₀.Keeps none (dropParts st f s) := by
  unfold Machine.dropParts
  dsimp only
  split
  · exact h.modStn.foldl (fun _ _ h => h.returnPart) _
  · exact roomSteps (planBatch (h.modStn.foldl (fun _ _ h => h.returnPart) _))

/-! ## Grants, timers and the scan queue -/

theorem tryGrant (h : s₀.Keeps o s) : s₀.Keeps o (tryGrant st s) := by
  unfold Machine.tryGrant
  dsimp only
  split
  · split
    · exact h.modStn.post
    · exact h
  · exact h

theorem startTimer (h : s₀.Keeps o s) : s₀.Keeps o (startTimer st s) := h.modStn
theorem settleTimer (h : s₀.Keeps o s) : s₀.Keeps o (settleTimer st s) := h.modStn
theorem popHead (h : s₀.Keeps o s) : s₀.Keeps o (popHead st s) := h.modStn
theorem clearMessage (h : s₀.Keeps o s) : s₀.Keeps o (clearMessage st s) := h.modStn

theorem lockQueue (h : s₀.Keeps o s) {x : Cond} {e : ScanEntry} : s₀.Keeps o (lockQueue st x e s) := by
  unfold Machine.lockQueue
  dsimp only
  split
  · exact h.modStn
  · exact h.modStn.handNotice

theorem reportTaken (h : s₀.Keeps o s) {kind : TaskKind} {x : ScanItem} : s₀.Keeps o (reportTaken st k kind x s) := by
  unfold Machine.reportTaken
  dsimp only
  split
  · exact h.handNotice
  · split
    · exact h
    · exact h.modStn.handNotice
  · split
    · exact h.modStn
    · exact h.modStn.handNotice
  all_goals exact h

theorem reportCommit (h : s₀.Keeps o s) {r : ResId} : s₀.Keeps o (reportCommit st n r k c lot s).1 := by
  unfold Machine.reportCommit
  dsimp only
  split
  · exact h.takeCommit.handOverPlace
  · exact h.takeCommit.givePlace

theorem takePick (h : s₀.Keeps none s) {v : TaskView} {p : ViewPick} {e : ScanEntry} :
    s₀.Keeps none (takePick st k v p e s).1 := by
  unfold Machine.takePick
  dsimp only
  split
  · dsimp only
    exact h.askPlace.modStn.showMessage
  split
  · dsimp only
    exact pickTaken (h.askPlace.commitPickEntry.reportCommit.clearMessage.popHead.modStn.startTimer.reportTaken)
  · dsimp only
    exact h.askPlace.commitPickEntry.givePlace.lockQueue

theorem takePut (h : s₀.Keeps none s) {v : TaskView} {e : ScanEntry} : s₀.Keeps none (takePut st k v lot e s).1 := by
  unfold Machine.takePut
  dsimp only
  split
  · dsimp only
    exact putTaken (h.commitPutEntry.clearMessage.popHead.modStn.startTimer.reportTaken)
  · exact h.commitPutEntry.lockQueue

theorem evalInbound (h : s₀.Keeps none s) {e : ScanEntry} : s₀.Keeps none (evalInbound st e s).1 := by
  unfold Machine.evalInbound
  dsimp only
  split
  · exact h.clearMessage.inboundEntry.popHead
  · exact h.lockQueue
  · exact h.of_view rfl

theorem evalOpening (h : s₀.Keeps none s) {e : ScanEntry} : s₀.Keeps none (evalOpening st e s).1 := by
  unfold Machine.evalOpening
  split
  · exact h.lockQueue
  split
  · split
    · exact h.takePick
    · exact h.lockQueue
  · split
    · exact h.takePut
    · exact h.lockQueue
  · exact h.post.popHead.startTimer

theorem evalHead (h : s₀.Keeps none s) : s₀.Keeps none (evalHead st s).1 := by
  unfold Machine.evalHead
  split
  · exact h
  split
  · split
    · exact h.evalInbound
    · exact h.evalOpening
  · exact h

theorem evalLoop (h : s₀.Keeps none s) : s₀.Keeps none (evalLoop st n s) := by
  induction n generalizing s with
  | zero => exact h
  | succ n ih =>
    unfold Machine.evalLoop
    dsimp only
    split
    · exact ih h.tryGrant.evalHead
    · exact h.tryGrant.evalHead

theorem attend (h : s₀.Keeps none s) : s₀.Keeps none (attend st s) := h.evalLoop.settleTimer.refresh

theorem attendEnded (h : s₀.Keeps none s) {u : State} : s₀.Keeps none (attendEnded u s) := by
  refine h.foldl (fun t st ht => ?_) _
  split
  · exact ht.attend
  · exact ht

/-! ## Reports to the Station Controllers -/

theorem takeReady (h : s₀.Keeps none s) : s₀.Keeps none (takeReady st k s) := h.modStn.attend
theorem takeNotReady (h : s₀.Keeps none s) : s₀.Keeps none (takeNotReady st k s) := h.modStn.attend
theorem declineGrant (h : s₀.Keeps none s) : s₀.Keeps none (declineGrant st k s) := h.modStn.attend

theorem holdGrant (h : s₀.Keeps none s) {x : Task} {v : TaskView} : s₀.Keeps none (holdGrant st k x v s) :=
  h.acceptGrant.modStn.startTimer.attend

theorem takeGrant (h : s₀.Keeps none s) : s₀.Keeps none (takeGrant k s) := by
  unfold Machine.takeGrant
  split
  · exact h
  split
  · exact h.holdGrant
  · exact h.declineGrant

theorem takeGrantAnswer (h : s₀.Keeps none s) {v : Option TaskView} : s₀.Keeps none (takeGrantAnswer st k v s) := by
  unfold Machine.takeGrantAnswer
  split
  · split
    · exact h.holdGrant
    · exact h.declineGrant
  · exact h

theorem takeTaskEnd (h : s₀.Keeps none s) {x : TaskOutcome} : s₀.Keeps none (takeTaskEnd st k x s) := by
  unfold Machine.takeTaskEnd
  split
  · split
    · exact h.endTask.attendEnded
    · exact h.endGrant.attendEnded
  · exact h

theorem takeWithdrawalReport (h : s₀.Keeps none s) : s₀.Keeps none (takeWithdrawalReport st k s) := by
  unfold Machine.takeWithdrawalReport
  split
  · split
    · exact h.withdrawGrant.attendEnded
    · exact h.endGrant.attendEnded
  · exact h

theorem dropGrant (h : s₀.Keeps o s) : s₀.Keeps o (dropGrant st s) := by
  unfold Machine.dropGrant
  split
  · exact h
  · exact h.modStn
  · split
    · exact h.withdrawGrant
    · exact h.endGrant

theorem attentionExpired (h : s₀.Keeps none s) : s₀.Keeps none (attentionExpired st s) := by
  unfold Machine.attentionExpired
  split
  · exact h.reach.dropGrant.attendEnded
  · exact h

theorem takePlaceFree (h : s₀.Keeps none s) : s₀.Keeps none (takePlaceFree st s) := by
  unfold Machine.takePlaceFree
  split
  · exact h.modStn.attend
  · exact h

theorem takeRoom (h : s₀.Keeps none s) : s₀.Keeps none (takeRoom st s) := by
  unfold Machine.takeRoom
  split
  · exact h.modStn.attend
  · exact h

theorem takeLabel (h : s₀.Keeps none s) {r : Reader} {x : Label} : s₀.Keeps none (takeLabel st r x s) := by
  unfold Machine.takeLabel
  dsimp only
  split
  · split
    · exact h.modStn.settleTimer.attend
    · exact h.modStn.refresh
  · exact h

/-! ## Keys -/

theorem liftLock (h : s₀.Keeps o s) : s₀.Keeps o (liftLock st s) := h.popHead.modStn.startTimer

theorem clearLock (h : s₀.Keeps none s) : s₀.Keeps none (clearLock st s) := h.liftLock.attend

theorem rejectClear (h : s₀.Keeps none s) {b : Bool} : s₀.Keeps none (rejectClear st b s).1 := by
  unfold Machine.rejectClear
  dsimp only
  split
  · refine clearLock ?_
    split
    · split
      · exact h.post
      · exact h
    · exact h
  · exact h

theorem acceptClear (h : s₀.Keeps none s) : s₀.Keeps none (acceptClear st s).1 := by
  unfold Machine.acceptClear
  split
  · exact h.showMessage.refresh
  dsimp only
  split
  · exact h.askPlace.showMessage.refresh
  split
  · dsimp only
    exact h.askPlace.takeSubstitution.givePlace.showMessage.refresh
  split
  · dsimp only
    exact (h.askPlace.takeSubstitution.commitPickEntry.reportCommit.clearMessage.reportTaken.liftLock
      |>.takeOrderReports).attend
  · dsimp only
    exact (h.askPlace.takeSubstitution.commitPickEntry.givePlace.takeSubstituteRelease.modStn
      |>.takeOrderReports).attendEnded.refresh

theorem tellStations (h : s₀.Keeps o s) {b : Bool} : s₀.Keeps o (tellStations st b s) := h.postAll

theorem signOnKey (h : s₀.Keeps none s) : s₀.Keeps none (signOnKey st s) := by
  unfold Machine.signOnKey
  dsimp only
  split
  · exact h.modStn.tellStations.attend
  · exact h

theorem closeStation (h : s₀.Keeps o s) : s₀.Keeps o (closeStation st s) :=
  h.dropGrant.modStn.closePlanner.tellStations.refresh

theorem signOffKey (h : s₀.Keeps o s) : s₀.Keeps o (signOffKey st s) := by
  unfold Machine.signOffKey
  split
  · exact h.modStn.closeStation
  · exact h

theorem confirmKey (h : s₀.Keeps none s) : s₀.Keeps none (confirmKey st s) := by
  unfold Machine.confirmKey
  dsimp only
  split
  · exact h
  split
  · split
    · exact h.startTimer.confirmTask.attendEnded
    · exact h.startTimer.confirmTask.attendEnded
    · exact h.startTimer.post
  · exact h.showMessage.refresh

theorem shortKey (h : s₀.Keeps o s) : s₀.Keeps o (shortKey st s) := by
  unfold Machine.shortKey
  dsimp only
  split
  · exact h
  split
  · exact h
  · exact h
  split
  · split
    · exact h
    · exact h.postAll.modStn.startTimer
  · exact h.showMessage.refresh

theorem actKey (h : s₀.Keeps none s) {key : Key} : s₀.Keeps none (actKey st key s) := by
  unfold Machine.actKey
  split
  · exact h.signOnKey
  all_goals split
  · exact h.acceptClear
  · exact h
  · exact h.rejectClear
  · exact h
  · exact h.rejectClear
  · exact h
  · exact h.shortKey
  · exact h
  · exact h.confirmKey
  · exact h
  · exact h.endBatch.refresh
  · exact h
  · exact h.signOffKey
  · exact h

theorem pressKey (h : s₀.Keeps none s) {key : Key} : s₀.Keeps none (pressKey st key s) := by
  unfold Machine.pressKey
  dsimp only
  split
  · exact h.actKey
  · exact h

/-! ## Panels -/

theorem takeBayCurtain (h : s₀.Keeps o s) {b : Bay} {x : Bool} : s₀.Keeps o (takeBayCurtain st b x s) := by
  unfold Machine.takeBayCurtain
  dsimp only
  generalize (if x = true then BayCurtain.broken else BayCurtain.clear) = new
  split
  · exact h
  split
  · exact h.modStn.post
  · exact h.modStn

theorem bayCurtainInput (h : s₀.Keeps o s) {b : Bay} {x : Bool} : s₀.Keeps o (bayCurtainInput st b x s) := by
  unfold Machine.bayCurtainInput
  dsimp only
  split
  · exact h.takeBayCurtain
  · exact h

theorem takeKeys (h : s₀.Keeps none s) {old new : Keys} : s₀.Keeps none (takeKeys st old new s) := by
  refine h.foldl (fun t key ht => ?_) _
  split
  · exact ht.actKey
  · exact ht

theorem takePanelInput (h : s₀.Keeps none s) {i : PanelInput} : s₀.Keeps none (takePanelInput st i s) := by
  unfold Machine.takePanelInput
  dsimp only
  split
  · split
    · have hc := (h.modStn (i := st) (f := fun x => { x with panelLost := false, display := { sent := none, waiting := none } })
        ).foldl (fun _ b h => h.takeBayCurtain (st := st) (b := b) (x := i.broken[b])) bayList
      refine attend ?_
      split
      · exact hc.modStn.tellStations
      · exact hc.modStn
    · exact modStn (takeKeys (h.foldl (fun _ _ h => h.takeBayCurtain) _))
  · exact h

theorem losePanel (h : s₀.Keeps o s) : s₀.Keeps o (losePanel st s) := by
  unfold Machine.losePanel
  dsimp only
  split
  · exact h
  · refine postAll ?_
    split
    · exact h.withdrawFrames.modStn.closeStation
    · exact h.withdrawFrames.modStn

theorem panelReturned (h : s₀.Keeps o s) {f : Fate} : s₀.Keeps o (panelReturned st f s) := by
  unfold Machine.panelReturned
  split
  · exact h
  · exact h.resend
  · exact h.losePanel
  · exact h.losePanel

theorem stationSpace (h : s₀.Keeps o s) : s₀.Keeps o (stationSpace st s) := by
  unfold Machine.stationSpace
  split
  · exact h.resend
  · exact h

theorem stationRing (h : s₀.Keeps o s) {r : Ring} : s₀.Keeps o (stationRing st r s) := by
  unfold Machine.stationRing
  split
  · split
    · exact h.resend
    · exact h
  all_goals exact h

theorem stationConfigRequest (h : s₀.Keeps none s) {x : StationCfg} : s₀.Keeps none (stationConfigRequest x s).1 := by
  unfold Machine.stationConfigRequest
  split
  · dsimp only
    split
    · exact h
    split
    · exact h
    split
    · exact h
    split
    · exact h
    · exact h.modStn.postAll.dropParts.refresh
  · exact h

theorem scanClearRequest (h : s₀.Keeps none s) {a : Nat} : s₀.Keeps none (scanClearRequest n a s).1 := by
  unfold Machine.scanClearRequest
  split
  · split
    · exact h
    split
    · exact h.acceptClear
    · exact h.rejectClear
    · exact h.rejectClear
  · exact h

theorem stationHalt (h : s₀.Keeps none s) : s₀.Keeps none (stationHalt st s) := h.dropGrant.attend

theorem stationRun (h : s₀.Keeps none s) : s₀.Keeps none (stationRun st s) := h.modStn.attend

end State.Keeps
end Sys2Proof.Machine

namespace Sys2Proof.Machine
namespace State.Keeps
-- These lemmas rest on each other in long chains: each would hold a thread that waits for the one before.
set_option Elab.async false
variable {o : Option Carousel} {s₀ s t : State} {k : Carousel} {c n : Nat}

/-! ## Audit requests and sessions -/

theorem modReq (h : s₀.Keeps o s) {f : AuditReq → AuditReq} : s₀.Keeps o (modReq k c f s) := h.of_view rfl
theorem dropReq (h : s₀.Keeps o s) : s₀.Keeps o (dropReq k c s) := h.of_view rfl

theorem offerAudits (h : s₀.Keeps none s) : s₀.Keeps none (offerAudits k n s) := by
  induction n generalizing s with
  | zero => exact h
  | succ n ih =>
    unfold Machine.offerAudits
    split
    · exact h
    split
    · exact h
    dsimp only
    split
    · exact h.auditOffered.modReq
    · exact h.auditOffered.modReq
    · exact h.auditOffered
    · exact ih h.auditOffered.modReq

theorem offerAudit (h : s₀.Keeps none s) : s₀.Keeps none (offerAudit k s) := h.offerAudits

theorem raiseAudit (h : s₀.Keeps none s) {b : Bool} {cls : Class} {source : AuditSource} :
    s₀.Keeps none (raiseAudit k c b cls source s).1 := by
  unfold Machine.raiseAudit
  split
  · dsimp only
    split
    · exact h.modReq.auditReclassed
    · exact h.modReq
  split
  · exact h
  dsimp only
  split
  · refine offerAudit ?_
    exact h.auditMarkEntry.of_view rfl
  · exact h.auditMarkEntry

theorem raiseInternal (h : s₀.Keeps none s) {b : Bool} {cls : Class} {source : AuditSource} :
    s₀.Keeps none (raiseInternal k c b cls source s) := by
  unfold Machine.raiseInternal
  dsimp only
  split
  · exact h.raiseAudit.handNotice
  all_goals exact h.raiseAudit

theorem auditRequestRequest (h : s₀.Keeps none s) {b : Bool} {cls : Nat} :
    s₀.Keeps none (auditRequestRequest n c b cls s).1 := by
  unfold Machine.auditRequestRequest
  split
  · exact h
  split
  · exact h
  split
  · exact h
  split
  · exact h
  split
  · exact h
  · exact h.raiseAudit

theorem restartSession (h : s₀.Keeps o s) : s₀.Keeps o (restartSession k s) := h.setSession

theorem startSession (h : s₀.Keeps o s) {r : AuditReq} : s₀.Keeps o (startSession k r s) := h.modReq.setSession.showAudit

theorem takeAuditGranted (h : s₀.Keeps none s) : s₀.Keeps none (takeAuditGranted k c s) := by
  unfold Machine.takeAuditGranted
  split
  · exact h.auditRemoved
  split
  · split
    · exact h.restartSession
    · dsimp only
      split
      · exact h.auditLockEntry.startSession
      · split
        · exact h.auditLockEntry.auditRequeued
        · exact h.auditLockEntry.auditRequeued.modReq
      · exact h.auditLockEntry.auditRemoved.dropReq.handNotice.offerAudit
    · exact h
  · exact h

theorem takeTally (h : s₀.Keeps o s) {lot : Option Nat} : s₀.Keeps o (takeTally k lot s) := by
  unfold Machine.takeTally
  split
  · exact h.setSession.restartSession
  · exact h

theorem trimPlacements (h : s₀.Keeps o s) {tally : List (Nat × Nat)} {lots : List Nat} :
    s₀.Keeps o (trimPlacements k c tally lots s).1 := by
  induction lots generalizing s with
  | nil => exact h
  | cons lot rest ih =>
    unfold Machine.trimPlacements
    dsimp only
    split
    · exact ih h.takeTrim
    · exact ih h

theorem confirmAudit (h : s₀.Keeps none s) : s₀.Keeps none (confirmAudit k s) := by
  unfold Machine.confirmAudit
  split
  · exact h
  dsimp only
  split
  · exact h.trimPlacements.auditApplyEntry.dropReq.setSession.handNotice.auditApplied.attendEnded.offerAudit
  · split
    · exact h.trimPlacements.auditApplyEntry.showMessage.refresh
    · exact h.trimPlacements.auditApplyEntry

theorem reqToHead (h : s₀.Keeps o s) {f : AuditReq → AuditReq} : s₀.Keeps o (reqToHead k c f s) := by
  unfold Machine.reqToHead
  split
  · exact h.of_view rfl
  · exact h

theorem reclassTo (h : s₀.Keeps none s) {r : AuditReq} : s₀.Keeps none (reclassTo r s) := by
  unfold Machine.reclassTo
  split
  · split
    · exact h
    · exact h.auditReclassed
  · exact h

theorem abandonSession (h : s₀.Keeps none s) {f : TaskFate} : s₀.Keeps none (abandonSession k f s) := by
  unfold Machine.abandonSession
  split
  · exact h
  dsimp only
  split
  · exact h.auditUnlockEntry.setSession
  split
  · split
    · exact h.auditUnlockEntry.setSession.reqToHead.reclassTo
    · exact h.auditUnlockEntry.setSession.reqToHead.auditRemoved.attendEnded.offerAudit
    · exact h.auditUnlockEntry.setSession.reqToHead.offerAudit
  · split
    · exact h.auditUnlockEntry.setSession.dropReq.auditClearEntry.handNotice.offerAudit
    · exact h.auditUnlockEntry.setSession.auditRemoved.attendEnded.dropReq.auditClearEntry.handNotice.offerAudit

theorem sessionExpired (h : s₀.Keeps none s) : s₀.Keeps none (sessionExpired k s) := by
  unfold Machine.sessionExpired
  split
  · split
    · exact h.reach.abandonSession
    all_goals exact h
  · exact h

theorem dropAudits (h : s₀.Keeps o s) : s₀.Keeps o (dropAudits k s) := by
  unfold Machine.dropAudits
  exact h.handNotices.of_view rfl

theorem takeHandBack (h : s₀.Keeps none s) {x : Option Nat} : s₀.Keeps none (takeHandBack k x s) := by
  unfold Machine.takeHandBack
  split
  · exact h.dropAudits
  split
  · exact h
  split
  · split
    · exact h.modReq.offerAudit
    · exact h.abandonSession
    all_goals exact h
  · exact h

theorem takeAdmit (h : s₀.Keeps none s) {cs : List Nat} : s₀.Keeps none (takeAdmit k cs s) := by
  refine offerAudit ?_
  exact h.of_view rfl

theorem auditCancelRequest (h : s₀.Keeps none s) : s₀.Keeps none (auditCancelRequest n c s).1 := by
  unfold Machine.auditCancelRequest
  split
  · exact h
  split
  · exact h
  split
  · exact h
  split
  · exact h
  split
  · exact h
  split
  · exact h.dropReq.auditClearEntry
  · exact h.dropReq.auditClearEntry
  · exact h.auditRemoved.attendEnded.dropReq.auditClearEntry.offerAudit
  · exact h.abandonSession

theorem restartAudits (h : s₀.Keeps o s) : s₀.Keeps o (restartAudits s) := h.of_view rfl

/-! ## Replies and notices -/

theorem offerReply (h : s₀.Keeps o s) : s₀.Keeps o (offerReply s) := by
  unfold Machine.offerReply
  split
  · exact h
  dsimp only
  split
  · exact h.modMgmt.offer
  all_goals exact h.modMgmt.offer.modMgmt

theorem offerReplies (h : s₀.Keeps o s) : s₀.Keeps o (offerReplies n s) := by
  induction n generalizing s with
  | zero => exact h
  | succ n ih =>
    unfold Machine.offerReplies
    dsimp only
    split
    · exact ih h.offerReply
    · exact h.offerReply

theorem offerNotice (h : s₀.Keeps o s) : s₀.Keeps o (offerNotice s) := by
  unfold Machine.offerNotice
  split
  · dsimp only
    split
    · exact h.modMgmt.offer
    all_goals exact h.modMgmt.offer.modMgmt
  · dsimp only
    split
    · exact h.modMgmt.offer
    all_goals exact h.modMgmt.offer.modMgmt
  · exact h

theorem sendNotice (h : s₀.Keeps o s) : s₀.Keeps o (sendNotice s) := by
  unfold Machine.sendNotice
  dsimp only
  split
  · exact h.offerReplies.offerNotice
  · exact h.offerReplies

theorem noticeReturned (h : s₀.Keeps o s) {x : Notice} {b : Bool} {f : Fate} : s₀.Keeps o (noticeReturned x b f s) := by
  unfold Machine.noticeReturned
  split
  · exact h
  all_goals exact h.modMgmt

/-- The frames kept for a block are offered again, with nothing to do for one that no node answers. -/
theorem reofferPlain (h : s₀.Keeps o s) {b : Block} : s₀.Keeps o (Machine.reofferKept b (fun _ s => s) s) :=
  h.reofferKept fun _ {_} h => h

theorem managementSpace (h : s₀.Keeps o s) : s₀.Keeps o (managementSpace s) := h.reofferPlain.sendNotice

/-! ## Configuration -/

theorem twf_writeNode {a : Nat} {x : Node} {ns : Table Node} (h : twf ns = true) : twf (writeNode a x ns) = true := by
  unfold writeNode
  split
  · exact twf_tdel a h
  · exact twf_tput a x h

theorem nodeMapWriteRequest (h : s₀.Keeps none s) {a role unit : Nat} {b : Bool} :
    s₀.Keeps none (nodeMapWriteRequest a role unit b s).1 := by
  unfold Machine.nodeMapWriteRequest
  split
  · exact h
  split
  · exact h
  split
  · exact h
  split
  · exact h
  dsimp only
  split
  · exact h.modFe_nodes twf_writeNode
  · exact (h.modFe_nodes twf_writeNode).endClaimsOf

theorem groupWriteRequest (h : s₀.Keeps o s) {l : List Nat} : s₀.Keeps o (groupWriteRequest n l s).1 := by
  unfold Machine.groupWriteRequest
  split
  · split
    · exact h
    dsimp only
    split
    · exact h
    · exact h.of_view rfl
  · exact h

theorem handBackAudits (h : s₀.Keeps o s) : s₀.Keeps o (handBackAudits k s) :=
  dropAudits (h.modSeq ⟨id, Seq.numbered_sublist List.filter_sublist, Nat.le_refl _⟩)

theorem carouselConfigRequest (h : s₀.Keeps none s) {x : CarouselCfg} : s₀.Keeps none (carouselConfigRequest x s).1 := by
  unfold Machine.carouselConfigRequest
  split
  · exact h
  split
  · exact h
  split
  · exact h
  split
  · exact h
  dsimp only
  split
  · exact h.handBackAudits.configureStock.configureBalance.configureSeq
  · exact h.configureStock.configureBalance.configureSeq

theorem laneConfigRequest (h : s₀.Keeps o s) {b : Bool} : s₀.Keeps o (laneConfigRequest n b c s).1 := by
  unfold Machine.laneConfigRequest
  split
  · exact h
  split
  · exact h
  split
  · exact h
  · exact h.configureLane

theorem timerWriteRequest (h : s₀.Keeps o s) {x : Nat} : s₀.Keeps o (timerWriteRequest x n s).1 := by
  unfold Machine.timerWriteRequest
  split
  · exact h.of_view rfl
  · exact h

/-! ## The cell -/

theorem setSessions (h : s₀.Keeps o s) {x : Vector (Option Session) 8} : s₀.Keeps o { s with sessions := x } :=
  h.of_view rfl

theorem endHalt (h : s₀.Keeps o s) : s₀.Keeps o (endHalt s) := h.shiftExpiries.setSessions

theorem runCell (h : s₀.Keeps none s) : s₀.Keeps none (runCell s) := by
  unfold Machine.runCell
  dsimp only
  refine foldl (foldl (modMgmt ?_) (fun _ _ h => h.seqRun) _) (fun _ _ h => h.stationRun) _
  split
  · exact h.endHalt
  · exact h

theorem cellRunRequest (h : s₀.Keeps none s) : s₀.Keeps none (cellRunRequest s).1 := by
  unfold Machine.cellRunRequest
  split
  · exact h
  split
  · dsimp only
    exact h.runCell
  · exact h

theorem haltCell (h : s₀.Keeps none s) : s₀.Keeps none (haltCell s) := by
  unfold Machine.haltCell
  dsimp only
  exact setSessions (foldl (foldl (modMgmt h.sendOrKeep) (fun _ _ h => h.seqHalt) _) (fun _ _ h => h.stationHalt) _)

theorem cellHaltRequest (h : s₀.Keeps none s) : s₀.Keeps none (cellHaltRequest s).1 := by
  unfold Machine.cellHaltRequest
  split
  · exact h
  · exact h
  · dsimp only
    exact h.haltCell

theorem restartFrames (h : s₀.Keeps o s) : s₀.Keeps o (restartFrames s) := h.modFe

theorem restartRestore (h : s₀.Keeps o s) : s₀.Keeps o (restartRestore s) := by
  unfold Machine.restartRestore
  split
  · exact h.startQueries
  · exact h

theorem cellStatusRequest (h : s₀.Keeps o s) : s₀.Keeps o (cellStatusRequest s).1 := h.of_view rfl

theorem addOrder (h : s₀.Keeps o s) {ref : OrderRef} {lanes : Option (List Nat)} {lines : List LineReq} :
    s₀.Keeps o (addOrder ref c lanes lines s).1 := h.orderAddRequest

end State.Keeps
end Sys2Proof.Machine

namespace Sys2Proof.Machine

/-! ## Restarts -/

theorem State.Safe.trans {s t u : State} (h : s.Safe none t) (h' : t.Safe none u) : s.Safe none u :=
  ⟨h'.lots ∘ h.lots, h'.orders ∘ h.orders, h'.pool ∘ h.pool, h'.places ∘ h.places, h'.nodes ∘ h.nodes,
    h'.shelves ∘ h.shelves, fun h0 => h'.restful fun j => h.restful h0 j nofun, h'.numbered ∘ h.numbered⟩

/-- A sequencer after a restart has no move, no built frame and no tasks. -/
theorem Seq.restart_rests (q : Seq) : q.restart.restful ∧ q.restart.numbered :=
  ⟨fun _ => ⟨rfl, rfl⟩, List.nodup_nil, nofun⟩

theorem State.seq_restart (s : State) (ss : Vector Stn 4) (k : Carousel) :
    ({ s with seqs := s.seqs.map Seq.restart, stations := ss } : State).seq k = (s.seq k).restart := by
  simp [State.seq]

/-- The sequencers begin anew: whatever they held, they obey law L6, and their tasks are numbered from the start. -/
theorem State.Safe.restartSeqs {s : State} {ss : Vector Stn 4} :
    s.Safe none { s with seqs := s.seqs.map Seq.restart, stations := ss } where
  lots := id
  orders := id
  pool := id
  places := id
  nodes := id
  shelves := id
  restful _ j _ := by rw [State.seq_restart]; exact (Seq.restart_rests _).1
  numbered _ j := by rw [State.seq_restart]; exact (Seq.restart_rests _).2

theorem State.Keeps.setMail {o : Option Carousel} {s₀ s : State} (h : s₀.Keeps o s) {m : List Instr} :
    s₀.Keeps o { s with mail := m } := h.of_view rfl

theorem State.Keeps.setPending {o : Option Carousel} {s₀ s : State} (h : s₀.Keeps o s) {m : List Instr} :
    s₀.Keeps o { s with pending := m } := h.of_view rfl

/-- CELL-RESTART keeps every invariant, although the arrivals are counted anew. -/
theorem restartCell_safe (s : State) : s.Safe none (restartCell s) := by
  unfold restartCell
  dsimp only
  have hb : s.Keeps none (restartBook (restartAudits (restartLanes (restartStock
      ({ s with mail := s.mail.filter mailKept } : State).keepsExcluded
      (restartFrames { s with mail := s.mail.filter mailKept }))))) :=
    (State.Keeps.refl s).setMail.restartFrames.restartStock.restartLanes.restartAudits.restartBook
  generalize restartBook _ = b at hb ⊢
  have hs := hb.toSafe.trans (State.Safe.restartSeqs (ss := b.stations.map Stn.restart))
  generalize ({ b with seqs := b.seqs.map Seq.restart, stations := b.stations.map Stn.restart } : State) = r at hs ⊢
  exact hs.trans ((State.Keeps.refl r).restartBalance.modMgmt.foldl (fun _ _ h => h.refresh) _).restartRestore.toSafe

/-- The state after a power-on reset obeys every invariant. -/
theorem powerOn_safe (s : State) (strap : BitVec 6) : s.Safe none (State.powerOn strap) where
  lots _ := rfl
  orders _ := rfl
  pool _ := rfl
  places _ := rfl
  nodes _ := rfl
  shelves _ k car h := by simp [State.powerOn, State.stockCar] at h
  restful _ j _ := by simp [State.powerOn, State.seq, Seq.powerOn, Seq.restful]
  numbered _ j := by simp [State.powerOn, State.seq, Seq.powerOn]

/-! ## The rows of commands -/

/-- Whatever the command comes to, every invariant that held before holds after. -/
def Kept (s : State) (r : Host.Outcome State Fault Refusal) : Prop := ∀ t, r = .next t → s.Safe none t

section
variable {s : State}

theorem kept_next {t : State} (h : s.Safe none t) : Kept s (.next t) := by
  intro u hu
  cases hu
  exact h

/-- A command that is carried out whole starts from a state in which the ring output and the answer are empty. -/
theorem kept_of_safe {f : State → State} (hf : ∀ {u : State}, s.Keeps none u → s.Safe none (f u)) : Kept s (carry s f) := by
  refine kept_next ?_
  split
  · exact (State.Keeps.refl s).toSafe
  · exact hf ((State.Keeps.refl s).of_view rfl)

theorem kept_carry {f : State → State} (hf : ∀ {u : State}, s.Keeps none u → s.Keeps none (f u)) : Kept s (carry s f) :=
  kept_of_safe fun h => (hf h).toSafe

theorem kept_stn {f : State → State} (hf : ∀ {u : State}, s.Keeps none u → s.Keeps none (f u)) : Kept s (stnStep s f) :=
  kept_carry fun h => (hf h).attendEnded

theorem kept_seq {f : State → State} (hf : ∀ {u : State}, s.Keeps none u → s.Keeps none (f u)) : Kept s (seqStep s f) :=
  kept_carry fun h => (hf h).attendEnded

/-- What holds of every state that the frame's passing on leads to, and of the state with the reply, holds after a request. -/
theorem request_ind {P : State → Prop} {u : State} {q : Req} {kind : Nat} {body : State → State × Answered}
    (hu : s.Keeps none u) (hk : ∀ t, s.Keeps none t → P t) (hb : ∀ t, s.Keeps none t → P (addReply q kind (body t).2 (body t).1)) :
    P (request q kind body u) := by
  have hans : ∀ t, s.Keeps none t → P (answerRequest q kind body t) := fun t ht => by
    unfold answerRequest
    split
    · exact hk _ ht.ans
    · exact hb t ht
  unfold request receive
  dsimp only
  split
  · split
    · exact hk _ hu.goodFrame.frameReturned
    · exact hk _ hu.goodFrame.passFrame
  · split
    · exact hans _ hu.goodFrame.passFrame
    · exact hk _ hu.goodFrame.redirect

theorem kept_request {q : Req} {kind : Nat} {body : State → State × Answered}
    (hb : ∀ {u : State}, s.Keeps none u → s.Keeps none (body u).1) : Kept s (carry s (request q kind body)) :=
  kept_carry fun h => request_ind h (fun _ h => h) fun _ h => (hb h).addReply

theorem kept_plain {q : Req} {kind : Nat} {body : State → State × Result}
    (hb : ∀ {u : State}, s.Keeps none u → s.Keeps none (body u).1) : Kept s (carry s (request q kind (plain body))) :=
  kept_request hb

theorem kept_settled {q : Req} {kind : Nat} {body : State → State × Result}
    (hb : ∀ {u : State}, s.Keeps none u → s.Keeps none (body u).1) : Kept s (carry s (request q kind (settled body))) :=
  kept_request fun h => (hb h).attendEnded

theorem kept_field {g : Hdr} {kind : Nat} {p : List Byte} {owner : Role → Nat → State → State}
    (ho : ∀ r u {t : State}, s.Keeps none t → s.Keeps none (owner r u t)) : Kept s (carry s (fieldFrame g kind p owner)) :=
  kept_carry fun h => h.fieldFrame ho

theorem kept_cellRestart {q : Req} : Kept s (execCellRestart q s) := by
  unfold execCellRestart
  refine kept_of_safe fun h => request_ind h (fun _ h => h.toSafe) fun t h => ?_
  dsimp only [plain]
  have hr := (State.Keeps.refl (restartCell t)).addReply (q := q) (kind := 67) (a := { result := .done, content := [] })
  exact (h.toSafe.trans (restartCell_safe t)).trans hr.toSafe

end
end Sys2Proof.Machine

namespace Sys2Proof.Machine
namespace State.Keeps
-- These lemmas rest on each other in long chains: each would hold a thread that waits for the one before.
set_option Elab.async false
variable {o : Option Carousel} {s₀ s t : State}

/-! ## What the rows do with the node's unit, the frame or the block they name -/

theorem panelOwner (h : s₀.Keeps none s) {i : PanelInput} {r : Role} {u : Nat} : s₀.Keeps none (panelOwner i r u s) := by
  unfold Machine.panelOwner
  split
  · exact h.takePanelInput
  · exact h

theorem labelOwner (h : s₀.Keeps none s) {x : Label} {r : Role} {u : Nat} : s₀.Keeps none (labelOwner x r u s) := by
  unfold Machine.labelOwner
  split
  · split
    · exact h.takeLabel
    · exact h
  · split
    · exact h.takeLabel
    · exact h
  · split
    · exact h.takeArrival
    · exact h
  all_goals exact h

theorem driveOwner (h : s₀.Keeps none s) {m : Motion} {i n : Nat} {r : Role} {u : Nat} :
    s₀.Keeps none (driveOwner m i n r u s) := by
  unfold Machine.driveOwner
  split
  · exact h.takeStatus
  · exact h

theorem tagOwner (h : s₀.Keeps o s) {x : CartId} {n : Nat} {r : Role} {u : Nat} : s₀.Keeps o (tagOwner x n r u s) := by
  unfold Machine.tagOwner
  split
  · exact h.takeTag
  · exact h

theorem laneOwner (h : s₀.Keeps o s) {i : LaneInput} {r : Role} {u : Nat} : s₀.Keeps o (laneOwner i r u s) := by
  unfold Machine.laneOwner
  split
  · exact h.takeLaneInput
  · exact h

theorem takeForeign (h : s₀.Keeps none s) {g : Hdr} {kind : Nat} : s₀.Keeps none (takeForeign g kind s) := by
  refine h.receive fun d t ht => ?_
  split
  · exact ht.takeForeignFrame
  · exact ht.redirect

theorem maintFrame (h : s₀.Keeps none s) {g : Hdr} {kind : Nat} {act : Carousel → Nat → State → State}
    (ha : ∀ k n {t : State}, s₀.Keeps none t → s₀.Keeps none (act k n t)) : s₀.Keeps none (maintFrame g kind act s) := by
  refine h.receive fun d t ht => ?_
  split
  · exact ha _ _ ht.passFrame
  · exact ht.redirect

theorem takeReturn (h : s₀.Keeps none s) {g : Hdr} {kind : Nat} {b : Bool} : s₀.Keeps none (takeReturn g kind b s) := by
  unfold Machine.takeReturn
  split
  · refine h.receive fun d t ht => ?_
    split
    · exact ht.frameReturned
    · exact ht.redirect.attendEnded
  · exact h.badFrame

theorem takeRing (h : s₀.Keeps none s) {b : Block} {r : Ring} : s₀.Keeps none (takeRing b r s) := by
  unfold Machine.takeRing
  split
  · exact h.seqRing.attendEnded
  · exact h.stationRing
  all_goals exact h

theorem nodeMissing (h : s₀.Keeps none s) {r : Role} {u : Nat} : s₀.Keeps none (nodeMissing r u s) := by
  unfold Machine.nodeMissing
  split
  · split
    · exact h.enterFault.attendEnded
    · exact h
  · split
    · exact h.losePanel.attendEnded
    · exact h
  · split
    · exact h.loseController
    · exact h
  all_goals exact h

theorem offerUnheard (h : s₀.Keeps none s) {b : Block} {p : Payload} : s₀.Keeps none (offerUnheard b p s) := by
  unfold Machine.offerUnheard
  split
  · exact h.driveUnheard
  · exact h.driveUnheard
  · exact h.driveUnheard
  · exact h.losePanel
  · exact h.laneUnheard

theorem takeOffer (h : s₀.Keeps none s) {b : Block} {a : Target} {p : Payload} : s₀.Keeps none (takeOffer b a p s) := by
  unfold Machine.takeOffer
  dsimp only
  split
  · exact h.offer.ans
  · split
    · exact h.offer.handBack.ans
    · exact h.offer.ans
  · exact h.offer.offerUnheard.attendEnded.ans

theorem takeSpace (h : s₀.Keeps none s) {b : Block} : s₀.Keeps none (takeSpace b s) := by
  unfold Machine.takeSpace
  split
  · exact h.seqSpace.attendEnded
  · exact h.reofferPlain.stationSpace
  · exact h.managementSpace
  · exact h.reofferKept fun _ {_} h => h.laneUnheard
  · exact h.reofferPlain

end State.Keeps

/-! ## Every command -/

section
variable {s : State}

theorem kept_maint {g : Hdr} {kind : Nat} {act : Carousel → Nat → State → State}
    (ha : ∀ k n {t : State}, s.Keeps none t → s.Keeps none (act k n t)) : Kept s (seqStep s (maintFrame g kind act)) :=
  kept_seq fun h => h.maintFrame ha

/-- The requests of the Management Unit. -/
theorem kept_runRequest {c : Instr} {r : Host.Outcome State Fault Refusal} (hr : runRequest c s = some r) : Kept s r := by
  cases c <;> simp only [runRequest, Option.some.injEq, reduceCtorEq] at hr
  all_goals subst hr
  case cellRestart => exact kept_cellRestart
  case malformedRequest => exact kept_plain id
  case cellStatus => exact kept_request fun h => h.cellStatusRequest
  case cellRun => exact kept_settled fun h => h.cellRunRequest
  case cellHalt => exact kept_settled fun h => h.cellHaltRequest
  case nodeMapWrite => exact kept_settled fun h => h.nodeMapWriteRequest
  case groupWrite => exact kept_plain fun h => h.groupWriteRequest
  case carouselConfigWrite => exact kept_settled fun h => h.carouselConfigRequest
  case stationConfigWrite => exact kept_settled fun h => h.stationConfigRequest
  case laneConfigWrite => exact kept_plain fun h => h.laneConfigRequest
  case timerWrite => exact kept_request fun h => h.timerWriteRequest
  case lotWrite => exact kept_plain fun h => h.lotWriteRequest
  case lotDelete => exact kept_plain fun h => h.lotDeleteRequest
  case lotHold => exact kept_plain fun h => h.lotHoldRequest
  case lotRelease => exact kept_plain fun h => h.lotReleaseRequest
  case carrierWrite => exact kept_settled fun h => h.carrierWriteRequest
  case recordRead => exact kept_request id
  case orderAdd => exact kept_request fun h => h.addOrder
  case orderCancel => exact kept_plain fun h => h.orderCancelRequest
  case orderClass => exact kept_plain fun h => h.orderClassRequest
  case orderResume => exact kept_plain fun h => h.orderResumeRequest
  case carouselEnable => exact kept_settled fun h => h.enableRequest
  case carouselDisable => exact kept_settled fun h => h.disableRequest
  case windowSet => exact kept_settled fun h => h.windowSetRequest
  case auditRequest => exact kept_settled fun h => h.auditRequestRequest
  case auditCancel => exact kept_settled fun h => h.auditCancelRequest
  case scanClear => exact kept_settled fun h => h.scanClearRequest
  case lanePermit => exact kept_plain fun h => h.lanePermitRequest
  case laneAssign => exact kept_plain fun h => h.laneAssignRequest
  case laneClose => exact kept_plain fun h => h.laneCloseRequest
  case laneOpen => exact kept_plain fun h => h.laneOpenRequest

/-- The commands that a frame of the drives, panels, readers and lane controllers carries in. -/
theorem kept_runFrame {c : Instr} {r : Host.Outcome State Fault Refusal} (hr : runFrame c s = some r) : Kept s r := by
  cases c <;> simp only [runFrame, Option.some.injEq, reduceCtorEq] at hr
  all_goals subst hr
  case driveStatus => exact kept_seq fun h => h.fieldFrame fun _ _ {_} h => h.driveOwner
  case panelRecovery => exact kept_stn fun h => h.fieldFrame fun _ _ {_} h => h.panelOwner
  case stationLabel => exact kept_stn fun h => h.fieldFrame fun _ _ {_} h => h.labelOwner
  case cartContacts => exact kept_field fun _ _ {_} h => h.laneOwner
  case laneArrival => exact kept_field fun _ _ {_} h => h.labelOwner
  case tagRead => exact kept_field fun _ _ {_} h => h.tagOwner
  case foreignCommand => exact kept_carry fun h => h.takeForeign
  case manualClaim => exact kept_maint fun _ _ {_} h => h.takeClaim
  case access => exact kept_maint fun _ _ {_} h => h.takeAccess
  case manualRelease => exact kept_maint fun _ _ {_} h => h.takeRelease
  case maintDriveFrame => exact kept_maint fun _ _ {_} h => h.maintAct
  case frameReturn => exact kept_carry fun h => h.takeReturn

theorem kept_passedOn {f : WireFrame} : Kept s (passedOn f s) :=
  kept_carry fun h => h.receive fun _ {_} h => h.passFrame

/-- A frame's bytes, whatever command they stand for (R178). -/
theorem kept_receiveBytes {f : WireFrame} : Kept s (receiveBytes f s) := by
  unfold receiveBytes
  split
  · split
    · rename_i c _
      cases hq : runRequest c s with
      | some r => exact kept_runRequest hq
      | none =>
        cases hf : runFrame c s with
        | some r => exact kept_runFrame hf
        | none => exact kept_passedOn
    · exact kept_passedOn
  · exact kept_carry fun h => h.badFrame

end
end Sys2Proof.Machine

namespace Sys2Proof.Machine

section
variable {s : State} {k : Carousel} {c : Nat}

theorem kept_resetAssert : Kept s (execResetAssert s) := by
  refine kept_next ((powerOn_safe s s.strap).trans (State.Keeps.toSafe ?_))
  exact (State.Keeps.refl _).of_view rfl

theorem kept_powerOnReset {straps : BitVec 6} : Kept s (execPowerOnReset straps s) := by
  refine kept_next ((powerOn_safe s straps).trans (State.Keeps.toSafe ?_))
  exact (State.Keeps.refl _).of_view rfl

theorem kept_clockLoss : Kept s (execClockLoss s) := by
  refine kept_next (State.Keeps.toSafe ?_)
  exact (State.Keeps.refl s).of_view rfl

theorem kept_clockReturn : Kept s (execClockReturn s) := by
  refine kept_next (State.Keeps.toSafe (State.Keeps.resumeQueries ?_))
  exact (State.Keeps.refl s).of_view rfl

theorem kept_putOffer {lot count : Nat} {cls : Class} {st : Station} : Kept s (execPutOffer k c lot count cls st s) := by
  unfold execPutOffer
  exact kept_seq fun h => h.putOffered.ans

theorem kept_auditOffer {b : Bool} {cls : Class} : Kept s (execAuditOffer k c b cls s) := by
  unfold execAuditOffer
  exact kept_seq fun h => h.auditOffered.ans

theorem kept_auditRequeue : Kept s (execAuditRequeue k c s) := by
  unfold execAuditRequeue
  exact kept_seq fun h => h.auditRequeued.ans

theorem kept_earlyConfirm : Kept s (execEarlyConfirm k s) := by
  unfold execEarlyConfirm
  exact kept_seq fun h => h.confirmTask.ans

theorem kept_taskEndReport {st : Station} {kind : TaskKind} {out : TaskOutcome} :
    Kept s (execTaskEndReport st k c kind out s) := by
  unfold execTaskEndReport
  refine kept_stn fun h => ?_
  split
  · exact h.takeTaskEnd
  · exact h

end

theorem exec_of_runRequest {i : Instr} {s : State} {r : Host.Outcome State Fault Refusal} (h : runRequest i s = some r) :
    exec i s = r := by
  cases i <;> simp only [runRequest, reduceCtorEq, Option.some.injEq] at h <;> exact h

theorem exec_of_runFrame {i : Instr} {s : State} {r : Host.Outcome State Fault Refusal} (h : runFrame i s = some r) :
    exec i s = r := by
  cases i <;> simp only [runFrame, reduceCtorEq, Option.some.injEq] at h <;> exact h

/-- The rows of every command but the requests and the frames of the field's nodes. -/
theorem kept_row {i : Instr} {s : State} (hq : runRequest i s = none) (hf : runFrame i s = none) : Kept s (exec i s) := by
  delta exec
  cases i <;> dsimp only
  case resetAssert => exact kept_resetAssert
  case powerOnReset => exact kept_powerOnReset
  case clockLoss => exact kept_clockLoss
  case clockReturn => exact kept_clockReturn
  case damagedFrameReceived => exact kept_receiveBytes
  case forwardedFrame => exact kept_receiveBytes
  -- the ring and the frames
  case silenceTimerExpiry => exact kept_carry fun h => h.silenceExpired
  case ringStateReport => exact kept_carry fun h => h.takeRing
  case restoreRoundExpiry => exact kept_carry fun h => h.restoreExpired
  case nodeNotAnswered => exact kept_carry fun h => h.nodeMissing
  case roundDeadlineExpiry => exact kept_carry fun h => h.roundExpired
  case frameOffer => exact kept_carry fun h => h.takeOffer
  case frameWithdraw => exact kept_carry fun h => h.withdrawFrame.ans
  case payloadReplace => exact kept_carry fun h => h.replacePayload.ans
  case frameSend => exact kept_carry fun h => h.sendHead
  case spaceReport => exact kept_carry fun h => h.takeSpace
  -- the drives and the claims
  case manualIdleExpiry => exact kept_seq fun h => h.manualIdleExpired
  case queryRoundExpiry => exact kept_seq fun h => h.queryExpired
  case statusQueryReturn => exact kept_seq fun h => h.queryReturned
  case moveReturn => exact kept_seq fun h => h.moveReturned
  case haltReturn => exact kept_seq fun h => h.haltReturned
  case moveTimeout => exact kept_seq fun h => h.moveTimedOut
  case curtainBroken => exact kept_seq fun h => h.curtainBreaks
  case curtainClear => exact kept_seq fun h => h.curtainClears
  case curtainSettleExpiry => exact kept_seq fun h => h.curtainSettles
  case driveMissingReport => exact kept_seq fun h => h.driveMissing
  case speedClassReport => exact kept_seq fun h => h.speedReported
  -- the tasks
  case newReservation => exact kept_seq fun h => h.takeNewReservation
  case putOffer => exact kept_putOffer
  case auditOffer => exact kept_auditOffer
  case auditRequeue => exact kept_auditRequeue
  case auditTaskReclass => exact kept_seq fun h => h.auditReclassed
  case taskRemoveRequest => exact kept_seq fun h => h.auditRemoved
  case pickNewCount => exact kept_seq fun h => h.takeNewCount
  case pickDrop => exact kept_seq fun h => h.takeDrop
  case pickStruck => exact kept_seq fun h => h.takeStrike
  case taskClassReport => exact kept_seq fun h => h.takeClass
  case pickTakenReport => exact kept_seq fun h => h.pickTaken
  case putTakenReport => exact kept_seq fun h => h.putTaken
  case grant => exact kept_seq fun h => h.takeGrant
  case grantWithdrawal => exact kept_seq fun h => h.withdrawGrant
  case earlyConfirm => exact kept_earlyConfirm
  case auditAppliedReport => exact kept_seq fun h => h.auditApplied
  case stationBayReport => exact kept_seq fun h => h.takePlace
  case stationStateReport => exact kept_seq fun h => h.takeStationState
  -- the stock and the balance
  case reserve => exact kept_carry fun h => h.reserveEntry.ans
  case release => exact kept_carry fun h => h.releaseEntry.ans
  case commitPick => exact kept_carry fun h => h.commitPickEntry.ans
  case commitPut => exact kept_carry fun h => h.commitPutEntry.ans
  case planIncoming => exact kept_carry fun h => h.planIncomingEntry.ans
  case returnIncoming => exact kept_carry fun h => h.returnIncomingEntry.ans
  case roomQuery => exact kept_carry fun h => h.ans
  case auditMark => exact kept_carry fun h => h.auditMarkEntry.ans
  case auditClear => exact kept_carry fun h => h.auditClearEntry.ans
  case auditLock => exact kept_carry fun h => h.auditLockEntry.ans
  case auditUnlock => exact kept_carry fun h => h.auditUnlockEntry.ans
  case auditApply => exact kept_carry fun h => h.auditApplyEntry.ans
  case exclude => exact kept_carry fun h => h.excludeEntry.ans
  case admitCarriers => exact kept_carry fun h => h.admitEntry.ans
  case massReport => exact kept_carry fun h => h.takeMasses
  case candidateTest => exact kept_carry fun h => h.ans
  case balanceQuery => exact kept_carry fun h => h.ans
  case travelPlan => exact kept_carry fun h => h.ans
  -- the orders
  case stockRiseReport => exact kept_carry fun h => h.passAfter
  case eligibilityReport => exact kept_carry fun h => h.passAfter
  case compartmentReceipt => exact kept_carry fun h => h.takeReceipt.ans
  case compartmentWithdrawal => exact kept_carry fun h => h.takeWithdrawal
  case deliveryReport => exact kept_carry fun h => h.takeDelivery
  case transitRemoval => exact kept_carry fun h => h.takeRemoval
  case dispatchReport => exact kept_carry fun h => h.takeDispatch
  case reservationJoined => exact kept_carry fun h => h.resJoined
  case reservationPresented => exact kept_carry fun h => h.resPresented
  case reservationWithdrawn => exact kept_carry fun h => h.resWithdrawn
  case commitReport => exact kept_carry fun h => h.takeCommit.ans
  case reservationExpiry => exact kept_carry fun h => h.resExpired
  case holdHandover => exact kept_carry fun h => h.takeHold
  case carrierRelease => exact kept_carry fun h => h.takeCarrierRelease
  case auditTrim => exact kept_carry fun h => h.takeTrim.ans
  case shortReport => exact kept_carry fun h => h.takeShort
  case substitutionRequest => exact kept_carry fun h => h.takeSubstitution.ans
  case substituteRelease => exact kept_carry fun h => h.takeSubstituteRelease
  -- the stations
  case readyReport => exact kept_stn fun h => h.takeReady
  case notReadyReport => exact kept_stn fun h => h.takeNotReady
  case grantAnswer => exact kept_stn fun h => h.takeGrantAnswer
  case taskEndReport => exact kept_taskEndReport
  case grantWithdrawalReport => exact kept_stn fun h => h.takeWithdrawalReport
  case attentionTimeout => exact kept_stn fun h => h.attentionExpired
  case taskViewReport => exact kept_stn fun h => h.takeViewReport
  case transitPlaceReport => exact kept_stn fun h => h.takePlaceFree
  case plannerRoomReport => exact kept_stn fun h => h.takeRoom
  case placeReport => exact kept_stn fun h => h.takePlaceReport.refresh
  case putTaskLeft => exact kept_stn fun h => h.takePutLeft
  case panelShowReturn => exact kept_stn fun h => h.panelReturned
  case bayCurtainChange => exact kept_stn fun h => h.bayCurtainInput
  -- the lanes
  case transitPlaceRequest => exact kept_carry fun h => h.askPlace.ans
  case placeGiveUp => exact kept_carry fun h => h.givePlace
  case handOver => exact kept_carry fun h => h.handOverPlace
  case divertReturn => exact kept_carry fun h => h.divertReturned
  case transitTimeout => exact kept_carry fun h => h.transitExpired
  case releaseButton => exact kept_carry fun h => h.momentaryRelease
  case laneControllerRecovery => exact kept_field fun _ _ {_} h => h.laneOwner
  case laneSettleExpiry => exact kept_carry fun h => h.laneSettled
  case tagTimerExpiry => exact kept_carry fun h => h.tagExpires
  case latchReturn => exact kept_carry fun h => h.latchReturned
  case waitingReport => exact kept_carry fun h => h.takeWaiting
  case orderClassReport => exact kept_carry fun h => h.takeOrderClass
  case goneReport => exact kept_carry fun h => h.takeGone
  case cancelReport => exact kept_carry fun h => h.takeCancel
  case completionReport => exact kept_carry fun h => h.takeCompletion
  case receiptAnswer => exact kept_carry fun h => h.takeReceiptAnswer
  -- the audits
  case auditRequestRaised => exact kept_stn fun h => h.raiseInternal
  case auditPlaceReport => exact kept_stn fun h => h.offerAudit
  case auditGranted => exact kept_stn fun h => h.takeAuditGranted
  case tally => exact kept_stn fun h => h.takeTally
  case auditConfirm => exact kept_stn fun h => h.confirmAudit
  case auditIdleExpiry => exact kept_stn fun h => h.sessionExpired
  case auditAbandonReport => exact kept_stn fun h => h.abandonSession
  case auditHandBack => exact kept_stn fun h => h.takeHandBack
  case admitNotice => exact kept_stn fun h => h.takeAdmit
  -- notices and replies
  case noticeHanded => exact kept_carry fun h => h.handNotice
  case noticeSend => exact kept_carry fun h => h.sendNotice
  case noticeFate => exact kept_carry fun h => h.noticeReturned
  case replyOffer => exact kept_carry fun h => h.offerReply
  -- the keys
  case signOn => exact kept_stn fun h => h.pressKey
  case signOff => exact kept_stn fun h => h.pressKey
  case clearAccept => exact kept_stn fun h => h.pressKey
  case clearReject => exact kept_stn fun h => h.pressKey
  case recount => exact kept_stn fun h => h.pressKey
  case short => exact kept_stn fun h => h.pressKey
  case confirm => exact kept_stn fun h => h.pressKey
  case batchEnd => exact kept_stn fun h => h.pressKey
  -- the requests and the field's frames have their rows above
  all_goals simp only [runRequest, runFrame, reduceCtorEq] at hq hf

theorem kept_exec (i : Instr) (s : State) : Kept s (exec i s) := by
  cases hq : runRequest i s with
  | some r => exact exec_of_runRequest hq ▸ kept_runRequest hq
  | none =>
    cases hf : runFrame i s with
    | some r => exact exec_of_runFrame hf ▸ kept_runFrame hf
    | none => exact kept_row hq hf

/-- Every step keeps every invariant. -/
theorem kept_step (s : State) : Kept s (step s) := by
  have after : ∀ {u : State} {c : Instr}, s.Keeps none u → Kept s (exec c u) := fun hu t ht =>
    hu.toSafe.trans (kept_exec _ _ t ht)
  have refl := State.Keeps.refl s
  unfold step
  split
  · exact after refl.setPending
  unfold ownStep
  split
  · exact kept_next refl.toSafe
  split
  · exact after refl.setMail
  split
  · exact after refl
  · exact kept_next (refl.of_view (t := s.tick) rfl).toSafe

theorem State.tablesWf_iff (s : State) : s.tablesWf = true ↔
    twf s.lots = true ∧ twf s.book.orders = true ∧ twf s.book.pool = true ∧ twf s.transit.places = true ∧
      twf s.fe.nodes = true := by
  simp only [State.tablesWf, Bool.and_eq_true, and_assoc]

/-- Settles O54: every table is written by the table operations alone, each of which keeps it canonical. -/
theorem tablesKept : Obligations.TablesKept := by
  intro s t hs ht
  have hk := kept_step s t ht
  obtain ⟨hlots, horders, hpool, hplaces, hnodes⟩ := s.tablesWf_iff.1 hs
  exact t.tablesWf_iff.2
    ⟨hk.lots hlots, hk.orders horders, hk.pool hpool, hk.places hplaces, hk.nodes hnodes⟩

/-- Settles O57, law by law: every step keeps them, whatever it does. -/
theorem lawsKept : Obligations.LawsKept :=
  ⟨fun s t hs ht => (kept_step s t ht).shelves hs, fun s t hs ht k => (kept_step s t ht).restful hs k nofun,
    fun s t hs ht => (kept_step s t ht).numbered hs⟩

end Sys2Proof.Machine

namespace Sys2Proof.Machine

/-! ## Frames that go out, and the entry to UNKNOWN -/

/-- A NORMAL frame for a known address is queued or kept: the Frame Engine's records change, the node map not among them. -/
theorem sendOrKeep_normal (b : Block) {a : Target} {p : Payload} (hp : payloadUrgent p = false) {s : State} {d : Nat}
    (ha : s.address a = some d) :
    ∃ e, sendOrKeep b a p s = ({ s with fe := e }, false) ∧ e.nodes = s.fe.nodes := by
  have hf : (frameTo b d p).urgent = false := hp
  unfold sendOrKeep offerOrKeep offerFrame
  simp only [ha, hf, Bool.false_and, Bool.false_eq_true, ↓reduceIte]
  split
  · exact ⟨_, rfl, rfl⟩
  · split <;> exact ⟨_, rfl, rfl⟩

theorem State.modSeq_modSeq (s : State) (k : Carousel) (f g : Seq → Seq) :
    (s.modSeq k f).modSeq k g = s.modSeq k fun q => g (f q) := by
  simp [State.modSeq]

/-- A sequencer that has lost its position and its task, its queue kept (R68). -/
structure Seq.Lost (q r : Seq) : Prop where
  state : r.state = .unknown
  current : r.current = none
  move : r.move = none
  queue : r.queue = q.queue
  index : r.index = q.index

/-- A query sent leaves the rest of the sequencer. -/
theorem Seq.Lost.ask {q r : Seq} (h : q.Lost r) (b : Bool) : q.Lost (Seq.ask b r) := ⟨h.1, h.2, h.3, h.4, h.5⟩

/-- A query to a drive with a node changes the Frame Engine's records and the carousel's queries alone. -/
theorem sendQuery_node {k : Carousel} {b : Bool} {s : State} (hn : (s.nodeOf .drive k.val).isSome = true) :
    ∃ e, sendQuery k b s = State.setSeq { s with fe := e } k (Seq.ask b (s.seq k)) ∧ e.nodes = s.fe.nodes := by
  obtain ⟨d, hd⟩ := Option.isSome_iff_exists.1 hn
  obtain ⟨e, he, hnodes⟩ := sendOrKeep_normal (.seq k) (a := driveOf k) (p := .statusQuery (s.seq k).asked) rfl hd
  refine ⟨e, ?_, hnodes⟩
  simp only [sendQuery, he, Bool.false_eq_true, ↓reduceIte]
  rfl

/-- A carousel that leaves its state with no more than reports to its station is in UNKNOWN, without a current task or a move,
when its drive has a node. -/
theorem enterUnknown_node {k : Carousel} {s : State} {m : List Instr}
    (hl : leaveOpening k .unknown s = State.modSeq { s with mail := m } k fun q => { q with state := .unknown })
    (hn : (s.nodeOf .drive k.val).isSome = true) :
    ∃ e q, enterUnknown k s = State.setSeq { s with mail := m, fe := e } k q ∧ e.nodes = s.fe.nodes ∧ (s.seq k).Lost q := by
  have hlost : ∃ q, (leaveOpening k .unknown s).modSeq k (fun q =>
      { q with fault := none, move := none, built := none, current := none, short := 0 }) =
      State.setSeq { s with mail := m } k q ∧ (s.seq k).Lost q := by
    rw [hl]
    exact ⟨_, State.modSeq_modSeq { s with mail := m } k _ _, ⟨rfl, rfl, rfl, rfl, rfl⟩⟩
  obtain ⟨q, hq, hlost⟩ := hlost
  unfold enterUnknown
  rw [hq]
  dsimp only
  split
  · obtain ⟨e, he, hnodes⟩ := sendQuery_node (b := false) (s := State.setSeq { s with mail := m } k q) hn
    refine ⟨e, Seq.ask false q, he.trans ?_, hnodes, hlost.ask false⟩
    rw [State.seq_setSeq]
    exact State.setSeq_setSeq { s with mail := m, fe := e } k _ _
  · exact ⟨s.fe, q, rfl, rfl, hlost⟩

/-! ## CAROUSEL-CONFIG-WRITE (R7, R25, R33, R69) -/

theorem carouselConfigRequest_range {c : CarouselCfg} {s : State} (h : carouselInRange c = false) :
    carouselConfigRequest c s = (s, .range) := by
  unfold carouselConfigRequest
  split
  · rfl
  · simp [h]

theorem not_carouselInRange {c : CarouselCfg} (h : c.p % 2 = 1 ∨ c.p < 8 ∨ 64 < c.p ∨ c.hard < c.soft) :
    carouselInRange c = false := by
  simp only [carouselInRange, decide_eq_false_iff_not]
  omega

/-- The carriers that a first write creates (R7). -/
def firstStock (c : CarouselCfg) : StockCar :=
  { shelf := c.shelf, gap := c.gap, rated := c.rated, carriers := newCarriers c.p fun _ => false }

/-- The balance record that a first write creates (R25, R33). -/
def firstBalance (c : CarouselCfg) : Balance :=
  { p := c.p, masses := List.replicate c.p 0, soft := c.soft, hard := c.hard, total := 0, worst := 0, rotation := 0,
    speed := .normal, overbalance := false, bidirectional := c.bidirectional, start := min c.start 100,
    normalPitch := heldPitch c.normalPitch, slowPitch := heldPitch c.slowPitch }

/-- The first write in range of a carousel whose drive has a node. -/
theorem carouselConfigRequest_first {k : Carousel} {c : CarouselCfg} {s : State} (hk : c.carousel = k.val)
    (hr : carouselInRange c = true) (hst : (s.seq k).state = .unconfigured) (hcar : s.stockCar k = none)
    (hbal : s.bal k = none) (hn : (s.nodeOf .drive k.val).isSome = true) :
    ∃ e q, carouselConfigRequest c s =
      (State.setSeq { (s.setStock k (some (firstStock c))).setBal k (some (firstBalance c)) with fe := e } k q, .done) ∧
      q.state = .unknown ∧ q.index = none := by
  have hidle : s.carIdle k = true := by simp [State.carIdle, hst]
  have hp : s.changesP k c.p = false := by simp [State.changesP, hcar]
  have hstock : configureStock k c.p c.shelf c.gap c.rated (fun _ => (s.seq k).state = .disabled) s =
      s.setStock k (some (firstStock c)) := by
    simp [configureStock, hcar, hst, firstStock]
  generalize hu : s.setStock k (some (firstStock c)) = u at hstock
  have hb : u.bal k = none := by subst hu; exact hbal
  have hbu : configureBalance k c u = u.setBal k (some (firstBalance c)) := by
    simp [configureBalance, hb, firstBalance]
  generalize hv : u.setBal k (some (firstBalance c)) = v at hbu
  have hvst : (v.seq k).state = .unconfigured := by subst hv hu; exact hst
  have hvn : (v.nodeOf .drive k.val).isSome = true := by subst hv hu; exact hn
  have hw : ∃ e q, configureSeq k v = (State.setSeq { v with fe := e } k q) ∧ q.state = .unknown ∧ q.index = none := by
    unfold configureSeq
    rw [if_pos hvst]
    have hl : leaveOpening k .unknown (v.modSeq k fun q => { q with index := none }) =
        State.modSeq { v.modSeq k (fun q => { q with index := none }) with mail := v.mail } k
          fun q => { q with state := .unknown } := by
      simp only [leaveOpening, State.seq_modSeq, hvst]
      rfl
    obtain ⟨e, q, he, -, hlost⟩ := enterUnknown_node hl hvn
    refine ⟨e, q, he.trans ?_, hlost.state, by simpa [State.seq_modSeq] using hlost.index⟩
    exact State.setSeq_setSeq { v with fe := e } k _ q
  obtain ⟨e, q, he, hq⟩ := hw
  refine ⟨e, q, ?_, hq⟩
  simp only [carouselConfigRequest, hk, car?_val, hr, hidle, hp, hstock, hbu, he, Bool.true_eq_false, Bool.false_eq_true,
    false_and, ↓reduceIte]

/-- The same of a request that may end grants, where it leaves every station's grant as it was. -/
theorem carry_settled_grants {s : State} {q : Req} (hs : s.asks q) (kind : Nat) (body : State → State × Result)
    (hg : ∀ i : Station, ((body (s.asked q kind)).1.stn i).grant = (s.stn i).grant) :
    carry s (request q kind (settled body)) =
      .next ((body (s.asked q kind)).1.replied q kind (body (s.asked q kind)).2 []) := by
  rw [carry_begun hs.1.1, request_asked hs]
  have hat : attendEnded (s.asked q kind) (body (s.asked q kind)).1 = (body (s.asked q kind)).1 := attendEnded_grants hg
  simp only [settled, hat, addReply_plain]

theorem exec_carouselConfigWrite {s : State} {q : Req} (hs : s.asks q) {c : CarouselCfg}
    (hst : (carouselConfigRequest c (s.asked q 70)).1.stations = s.stations) :
    exec (.carouselConfigWrite q c) s = .next ((carouselConfigRequest c (s.asked q 70)).1.replied q 70
      (carouselConfigRequest c (s.asked q 70)).2 []) := carry_settled hs 70 (carouselConfigRequest c) hst

/-! ## STATION-CONFIG-WRITE (R95) -/

/-- The bays of a station with one carousel, or one number, in bay `b`. -/
def oneBay {α : Type} (b : Bay) (v : α) : Vector (Option α) 4 := (Vector.replicate 4 none).set b.val (some v) b.isLt

theorem oneBay_getElem {α : Type} (b j : Bay) (v : α) : (oneBay b v)[j] = if j = b then some v else none := by
  simp only [oneBay, Fin.getElem_fin, Vector.getElem_set, Vector.getElem_replicate, Fin.ext_iff, eq_comm]

theorem filterMap_oneBay {α : Type} (b : Bay) (v : α) : bayList.filterMap (fun j => (oneBay b v)[j]) = [v] := by
  simp only [oneBay_getElem]
  fin_cases b <;> rfl

theorem readBays_oneBay (b : Bay) (k : Carousel) : readBays (oneBay b k.val) = oneBay b k := by
  ext j hj
  simp only [readBays, oneBay, Vector.getElem_map, Vector.getElem_set]
  split <;> simp

theorem oneBay_ne {α : Type} (b : Bay) (v : α) : Vector.replicate 4 none ≠ oneBay b v := by
  intro h
  have hb := oneBay_getElem b b v
  rw [← h, if_pos rfl] at hb
  simp at hb

/-- The reports of a station whose first bay is taken (R70): the carousel's place, and its curtain. -/
theorem bayReports_oneBay (i : Station) (b : Bay) (k : Carousel) (cs : Vector BayCurtain 4) :
    bayReports i (Vector.replicate 4 none) (oneBay b k) cs = [.stationBayReport k (some (i, b)), curtainReport k cs[b]] := by
  have hnone : ∀ j : Bay, (Vector.replicate 4 (none : Option Carousel))[j] = none := fun j => by simp
  simp only [bayReports, oneBay_getElem, hnone]
  fin_cases b <;> rfl

theorem dropParts_empty {i : Station} {f : Carousel → Bool} {s : State} (h : (s.stn i).waitList = []) :
    dropParts i f s = s := by
  have hs : (s.modStn i fun x => { x with waitList := x.waitList.filter fun p => !f p.car }) = s := by
    have hx : ({ s.stn i with waitList := (s.stn i).waitList.filter fun p => !f p.car } : Stn) = s.stn i := by
      rw [h, List.filter_nil, ← h]
    rw [State.modStn, hx, State.setStn_stn]
  simp [dropParts, h, hs]

/-- The station as its first configuration leaves it, with carousel `k` in bay `b`. -/
def firstStation (c : StationCfg) (mode : NoticeMode) (b : Bay) (k : Carousel) (x : Stn) : Stn :=
  { x with configured := true, bays := oneBay b k, putClass := c.putClass, mode := mode, attention := [k],
           ready := Vector.replicate 8 false }

/-- The first write of a station with one carousel, in LOADING: its carousel is told, and its display follows. -/
theorem stationConfigRequest_first {i : Station} {c : StationCfg} {b : Bay} {k : Carousel} {mode : NoticeMode} {s : State}
    (hi : c.station = i.val) (hb : c.bays = oneBay b k.val) (hm : modeOfCode c.mode = some mode) (hc : c.putClass ≤ 3)
    (hcell : s.mgmt.cell = .loading) (hother : ∀ j : Station, j ≠ i → (s.stn j).has k = false)
    (hw : (s.stn i).waitList = []) (hbays : (s.stn i).bays = Vector.replicate 4 none) (hg : (s.stn i).group = []) :
    stationConfigRequest c s = (refresh i ((s.modStn i (firstStation c mode b k)).postAll
      [.stationBayReport k (some (i, b)), curtainReport k (s.stn i).curtains[b]]), .done) := by
  have hst : stn? c.station = some i := by simp [hi, stn?]
  have hnamed : bayList.filterMap (fun j => c.bays[j]) = [k.val] := by rw [hb, filterMap_oneBay]
  have hnew : readBays c.bays = oneBay b k := by rw [hb, readBays_oneBay]
  have hrange : (([k.val].any fun n => decide (7 < n)) || decide (3 < c.putClass) || [k.val].isEmpty ||
      !([k.val].Nodup : Bool)) = false := by
    simp; omega
  have htaken : (stationList.any fun o => !(o = i) && (s.stn o).configured &&
      (oneBay b k).toList.any fun j => j.any (s.stn o).has) = false := by
    refine List.any_eq_false.2 fun j _ => ?_
    by_cases hj : j = i
    · simp [hj]
    · have hk : ((oneBay b k).toList.any fun x => x.any (s.stn j).has) = false := by
        refine List.any_eq_false.2 fun x hx => ?_
        obtain ⟨n, hn, rfl⟩ := Vector.mem_iff_getElem.1 (Vector.mem_toList_iff.1 hx)
        have := oneBay_getElem b ⟨n, hn⟩ k
        simp only [Fin.getElem_fin] at this
        rw [this]
        split <;> simp [hother j hj]
      simp [hk]
  have hmod : ∀ f : Stn → Stn, f (s.stn i) = firstStation c mode b k (s.stn i) →
      s.modStn i f = s.modStn i (firstStation c mode b k) := fun f hf => by rw [State.modStn, hf]; rfl
  unfold stationConfigRequest
  simp only [hst, hm, hnamed, hnew, hrange, htaken, hcell, Bool.false_eq_true, ne_eq, not_true_eq_false, false_and, ↓reduceIte]
  rw [hmod, dropParts_empty, hbays, bayReports_oneBay]
  · show ((s.modStn i (firstStation c mode b k)).stn i).waitList = []
    rw [State.stn_modStn]
    exact hw
  · simp only [firstStation, hbays, oneBay_ne, hg, filterMap_oneBay, ↓reduceIte, ite_self]

theorem exec_stationConfigWrite {s : State} {q : Req} (hs : s.asks q) {c : StationCfg}
    (hg : ∀ i : Station, ((stationConfigRequest c (s.asked q 71)).1.stn i).grant = (s.stn i).grant) :
    exec (.stationConfigWrite q c) s = .next ((stationConfigRequest c (s.asked q 71)).1.replied q 71
      (stationConfigRequest c (s.asked q 71)).2 []) := carry_settled_grants hs 71 (stationConfigRequest c) hg

theorem stationConfigRequest_empty {c : StationCfg} {s : State} (h : ∀ b : Bay, c.bays[b] = none) :
    stationConfigRequest c s = (s, .range) := by
  unfold stationConfigRequest
  split
  · have hnamed : bayList.filterMap (fun j => c.bays[j]) = [] := List.filterMap_eq_nil_iff.2 fun b _ => h b
    simp only [hnamed, List.isEmpty_nil, Bool.or_true, Bool.true_or, ↓reduceIte]
  · rfl

/-- A display refreshed after a change of its station and reports to other blocks. -/
theorem refresh_posted (i : Station) (f : Stn → Stn) (rs : List Instr) (s : State) : ∃ e m, ∃ d : Display → Display,
    refresh i ((s.modStn i f).postAll rs) =
      State.modStn { s with fe := e, mail := m } i (fun x => { f x with display := d (f x).display }) ∧ (s.mail ++ rs) <+: m := by
  obtain ⟨e, m, d, h, hm⟩ := refresh_effect i ((s.modStn i f).postAll rs)
  exact ⟨e, m, d, h.trans (State.modStn_modStn { s with fe := e, mail := m } i f fun x => { x with display := d x.display }), hm⟩

theorem State.stn_replied (s : State) (q : Req) (kind : Nat) (r : Result) (content : List Byte) (i : Station) :
    (s.replied q kind r content).stn i = s.stn i := rfl

/-- Settles O46: a first write of a carousel ends in the entry to UNKNOWN, a first write of a station in its new display. -/
theorem unitWrites : Obligations.UnitWrites := by
  intro s q hs
  refine ⟨fun k c hk => ⟨fun hr => ?_, fun hr hst hcar hbal hn => ?_⟩, fun i c hi => ⟨fun hb => ?_, ?_⟩⟩
  · have hreq := carouselConfigRequest_range (s := s.asked q 70) (not_carouselInRange hr)
    rw [exec_carouselConfigWrite hs (by rw [hreq]; rfl), hreq]
  · obtain ⟨e, r, hreq, hstate, hindex⟩ :=
      carouselConfigRequest_first (s := s.asked q 70) hk hr hst hcar hbal hn
    refine ⟨_, exec_carouselConfigWrite hs (by rw [hreq]; rfl), ?_⟩
    rw [hreq]
    refine ⟨rfl, ?_, ?_, ?_, ?_, ?_, rfl⟩
    · refine (State.stockCar_setStock _ k _).trans ?_
      simp [firstStock, newCarriers]
    · exact State.bal_setBal _ k _
    · refine (congrArg Seq.state (State.seq_setSeq _ k r)).trans hstate
    · refine (congrArg Seq.index (State.seq_setSeq _ k r)).trans hindex
    · exact fun j hj => State.seq_setSeq_ne _ r hj
  · have hreq := stationConfigRequest_empty (s := s.asked q 71) hb
    rw [exec_stationConfigWrite hs (by intro i; rw [hreq]; rfl), hreq]
  · intro b k mode hb hm hc hcell hother hconf hw hbays hg
    have hreq := stationConfigRequest_first (s := s.asked q 71) hi hb hm hc hcell hother hw hbays hg
    obtain ⟨e, m, d, hd, hmail⟩ := refresh_posted i (firstStation c mode b k)
      [.stationBayReport k (some (i, b)), curtainReport k ((s.asked q 71).stn i).curtains[b]] (s.asked q 71)
    rw [hd] at hreq
    have hgrant : ∀ j : Station, ((stationConfigRequest c (s.asked q 71)).1.stn j).grant = (s.stn j).grant := fun j => by
      rw [hreq]
      by_cases hj : j = i
      · subst hj; rw [State.stn_modStn]; rfl
      · rw [State.stn_modStn_ne _ _ hj]; rfl
    refine ⟨_, exec_stationConfigWrite hs hgrant, ?_⟩
    rw [hreq]
    generalize hu : ({ s.asked q 71 with fe := e, mail := m } : State) = u at hd hreq ⊢
    have hstn : u.stations = s.stations := by subst hu; rfl
    refine ⟨by subst hu; rfl, ⟨?_, fun j hj => ?_⟩, by subst hu; exact hmail, by subst hu; rfl⟩
    · have hx : u.stn i = s.stn i := by rw [State.stn, hstn]; rfl
      simp only [State.stn_replied, State.stn_modStn, hx]
      rfl
    · rw [State.stn_replied, State.stn_modStn_ne _ _ hj, State.stn, hstn]
      rfl

end Sys2Proof.Machine

namespace Sys2Proof.Machine

/-! ## CELL-RUN (R182) -/

theorem exec_cellRun {s : State} {q : Req} (hs : s.asks q)
    (hg : ∀ i : Station, ((cellRunRequest (s.asked q 65)).1.stn i).grant = (s.stn i).grant) :
    exec (.cellRun q) s = .next ((cellRunRequest (s.asked q 65)).1.replied q 65 (cellRunRequest (s.asked q 65)).2 []) :=
  carry_settled_grants hs 65 cellRunRequest hg

theorem mayRun_iff {s : State} : s.mayRun = true ↔ (s.nodeOf .gateway 0).isSome = true ∧
    (∃ k : Carousel, s.stockCar k ≠ none) ∧ ∃ i : Station, (s.stn i).configured = true := by
  have hk : ∀ k : Carousel, k ∈ carousels := by decide
  have hi : ∀ i : Station, i ∈ stationList := by decide
  simp only [State.mayRun, Bool.and_eq_true, List.any_eq_true, State.gateway, and_assoc]
  refine and_congr_right fun _ => and_congr (exists_congr fun k => ?_) (exists_congr fun i => by simp [hi])
  simp [hk, Option.isSome_iff_ne_none]

/-- What the sequencers' part of a run leaves: the node map and all but the carousels, the ring's records, the notices and the
reports. -/
structure State.Runs (s t : State) : Prop where
  rest : s.onlyCarousels t
  nodes : t.fe.nodes = s.fe.nodes

theorem State.Runs.refl (s : State) : s.Runs s := ⟨rfl, rfl⟩

theorem State.Runs.trans {s t u : State} (h : s.Runs t) (h' : t.Runs u) : s.Runs u := by
  refine ⟨?_, h'.nodes.trans h.nodes⟩
  have ht := h.rest
  have hu := h'.rest
  unfold State.onlyCarousels at ht hu ⊢
  rw [ht] at hu
  exact hu

/-- A fault of a carousel away from a grant leaves the node map. -/
theorem enterFault_nodes (k : Carousel) (c : FaultCause) {s : State} (h : (s.seq k).state.away = true) :
    (enterFault k c s).fe.nodes = s.fe.nodes := by
  unfold enterFault
  obtain ⟨q, w, m, hw⟩ := withdrawMove_effect k s
  dsimp only
  split
  · rw [hw]
    obtain ⟨m', hl⟩ := leaveOpening_away k .fault (s := { s with fe := { s.fe with queue := q, waiting := w }, mail := m }) h
    rw [hl]
    obtain ⟨m'', ha⟩ := abandonAudit_effect k (State.modSeq
      { s with fe := { s.fe with queue := q, waiting := w }, mail := m' } k fun q => { q with state := .fault })
    rw [ha]
    rfl
  · rfl

/-- The states in which a carousel is at rest for a run (R182). -/
def atRest (x : CarState) : Prop := x = .unknown ∨ x = .idle ∨ x = .stopping ∨ x = .ready

/-- The entry to UNKNOWN of a carousel at rest, whether its drive has a node or not. -/
theorem enterUnknown_runs {k : Carousel} {s : State} (h : (s.seq k).state.away = true) :
    s.Runs (enterUnknown k s) ∧ s.othersKept k (enterUnknown k s) ∧
      ((s.nodeOf .drive k.val).isSome = true → (s.seq k).Lost ((enterUnknown k s).seq k)) := by
  obtain ⟨m, hl⟩ := leaveOpening_away k .unknown h
  by_cases hn : (s.nodeOf .drive k.val).isSome = true
  · obtain ⟨e, q, he, hnodes, hlost⟩ := enterUnknown_node hl hn
    rw [he]
    exact ⟨⟨rfl, hnodes⟩, fun j hj => State.seq_setSeq_ne _ q hj, fun _ => by rw [State.seq_setSeq]; exact hlost⟩
  · have hnone : s.nodeOf .drive k.val = none := by simpa using hn
    refine and_assoc.1 ⟨?_, fun hn' => absurd hn' hn⟩
    obtain ⟨r, hr, hst, hrun, hother⟩ : ∃ r, (leaveOpening k .unknown s).modSeq k (fun q =>
        { q with fault := none, move := none, built := none, current := none, short := 0 }) = r ∧
        (r.seq k).state.away = true ∧ s.Runs r ∧ s.othersKept k r := by
      refine ⟨_, rfl, ?_⟩
      rw [hl, State.modSeq_modSeq]
      exact ⟨by rw [State.seq_modSeq]; rfl, ⟨rfl, rfl⟩, fun j hj => State.seq_modSeq_ne _ _ hj⟩
    unfold enterUnknown
    rw [hr]
    dsimp only
    split
    · have hno : sendOrKeep (.seq k) (driveOf k) (.statusQuery (r.seq k).asked) r = (r, true) := by
        refine sendOrKeep_noNode _ _ ?_
        show r.nodeOf .drive k.val = none
        rw [← hnone, State.nodeOf, State.nodeOf, hrun.nodes]
      simp only [sendQuery, hno, ↓reduceIte]
      obtain ⟨⟨-, hkept, -⟩, honly⟩ := enterFault_away k .link hst
      exact ⟨hrun.trans ⟨honly, enterFault_nodes k .link hst⟩, fun j hj => (hkept j hj).trans (hother j hj)⟩
    · exact ⟨hrun, hother⟩

/-- The sequencer's part of a run: a carousel at rest is in UNKNOWN when its drive has a node, and no other carousel changes. -/
theorem seqRun_runs (k : Carousel) (s : State) :
    s.Runs (seqRun k s) ∧ s.othersKept k (seqRun k s) ∧
      (atRest (s.seq k).state → (s.nodeOf .drive k.val).isSome = true → (s.seq k).Lost ((seqRun k s).seq k)) ∧
      (¬ atRest (s.seq k).state → seqRun k s = s) := by
  by_cases h : atRest (s.seq k).state
  · have haway : (s.seq k).state.away = true := by rcases h with h | h | h | h <;> rw [h] <;> rfl
    have hrun : seqRun k s = enterUnknown k s := by
      unfold seqRun
      rcases h with h | h | h | h <;> rw [h]
    rw [hrun]
    obtain ⟨h1, h2, h3⟩ := enterUnknown_runs haway
    exact ⟨h1, h2, fun _ => h3, fun h' => absurd h h'⟩
  · have hrun : seqRun k s = s := by
      unfold seqRun
      cases hs : (s.seq k).state <;> simp_all [atRest]
    rw [hrun]
    exact ⟨State.Runs.refl s, fun _ _ => rfl, fun h' => absurd h' h, fun _ => rfl⟩

/-- The carousels take their parts of a command one after the other: where a part keeps `P` of every other carousel, a carousel's
own part finds `P` kept. -/
theorem foldl_parts {I : State → Prop} {R : State → State → Prop} {P : Carousel → State → State → Prop} (hR : ∀ s, R s s)
    (hRt : ∀ {s t u}, R s t → R t u → R s u) (hP : ∀ k s, P k s s) (hPt : ∀ {k s t u}, P k s t → P k t u → P k s u)
    {f : State → Carousel → State} (hf : ∀ s k, I s → I (f s k) ∧ R s (f s k) ∧ ∀ j, j ≠ k → P j s (f s k))
    {l : List Carousel} (hl : l.Nodup) {s : State} (hs : I s) :
    R s (l.foldl f s) ∧ (∀ k ∉ l, P k s (l.foldl f s)) ∧
      ∀ k ∈ l, ∃ u, I u ∧ R s u ∧ P k s u ∧ P k (f u k) (l.foldl f s) := by
  induction l generalizing s with
  | nil => exact ⟨hR s, fun k _ => hP k s, nofun⟩
  | cons j l ih =>
    obtain ⟨hI, hj, hother⟩ := hf s j hs
    obtain ⟨hrest, hout, hin⟩ := ih (List.nodup_cons.1 hl).2 hI
    refine ⟨hRt hj hrest, fun k hk => ?_, fun k hk => ?_⟩
    · obtain ⟨hkj, hkl⟩ := not_or.1 (List.mem_cons.not.1 hk)
      exact hPt (hother k hkj) (hout k hkl)
    · rcases List.mem_cons.1 hk with rfl | hkl
      · exact ⟨s, hs, hR s, hP k s, hout k (List.nodup_cons.1 hl).1⟩
      · obtain ⟨u, hu, hru, hpu, he⟩ := hin k hkl
        have hkj : k ≠ j := fun e => (List.nodup_cons.1 hl).1 (e ▸ hkl)
        exact ⟨u, hu, hRt hj hru, hPt (hother k hkj) hpu, he⟩

/-- A timer that is settled changes with its station alone. -/
theorem settleTimer_effect (i : Station) (s : State) : ∃ f : Stn → Stn,
    settleTimer i s = s.modStn i f ∧ ∀ x, ∃ t, f x = { x with timer := t } := by
  refine ⟨_, rfl, fun x => ?_⟩
  split
  · split
    · exact ⟨_, rfl⟩
    split
    · exact ⟨_, rfl⟩
    · exact ⟨x.timer, rfl⟩
  · exact ⟨_, rfl⟩

/-- A station with its ready marks cleared (R182). -/
def unready (x : Stn) : Stn := { x with ready := Vector.replicate 8 false }

/-- The station's part of a run, where its scan queue is empty: its ready marks are cleared, and its timer and display follow. -/
theorem stationRun_effect {i : Station} {s : State} (h : (s.stn i).queue = []) : ∃ e m, ∃ f : Stn → Stn,
    stationRun i s = State.modStn { s with fe := e, mail := m } i f ∧
      ∀ x, ∃ t d, f x = { unready x with timer := t, display := d } := by
  have hq : ((s.modStn i unready).stn i).queue = [] := by
    rw [State.stn_modStn]; exact h
  have hgrant : tryGrant i (s.modStn i unready) = s.modStn i unready := by
    have hnone : (unready (s.stn i)).nextReady = none := List.find?_eq_none.2 fun k _ => by simp [unready]
    simp [tryGrant, hnone]
  obtain ⟨g, hg, htimer⟩ := settleTimer_effect i (s.modStn i unready)
  obtain ⟨e, m, d, hr, -⟩ := refresh_modStn i (fun x => g (unready x)) s
  refine ⟨e, m, fun x => { g (unready x) with display := d (g (unready x)).display }, ?_, fun x => ?_⟩
  · show attend i (s.modStn i unready) = _
    rw [attend_empty hq, hgrant, hg, State.modStn_modStn, hr]
  · obtain ⟨t, ht⟩ := htimer (unready x)
    dsimp only
    rw [ht]
    exact ⟨t, _, rfl⟩

/-- What the stations' part of a run keeps, and the ready marks that it has cleared. -/
theorem stationRuns_effect (l : List Station) {s : State} (h : ∀ i, (s.stn i).queue = []) :
    let t := l.foldl (fun s i => stationRun i s) s
    t.seqs = s.seqs ∧ t.mgmt = s.mgmt ∧ t.book = s.book ∧ ∀ i, (t.stn i).grant = (s.stn i).grant ∧
      (i ∈ l ∨ (s.stn i).ready = Vector.replicate 8 false → (t.stn i).ready = Vector.replicate 8 false) := by
  induction l generalizing s with
  | nil => exact ⟨rfl, rfl, rfl, fun i => ⟨rfl, fun h => h.resolve_left List.not_mem_nil⟩⟩
  | cons j l ih =>
    obtain ⟨e, m, f, hj, hf⟩ := stationRun_effect (h j)
    generalize hu : stationRun j s = u at hj
    have hstn : ∀ i, (u.stn i).queue = [] ∧ (u.stn i).grant = (s.stn i).grant ∧
        (i = j ∨ (s.stn i).ready = Vector.replicate 8 false → (u.stn i).ready = Vector.replicate 8 false) := fun i => by
      rw [hj]
      by_cases hi : i = j
      · subst hi
        rw [State.stn_modStn]
        obtain ⟨t, d, hx⟩ := hf (s.stn i)
        have hx : f (State.stn { s with fe := e, mail := m } i) = _ := hx
        rw [hx]
        exact ⟨h i, rfl, fun _ => rfl⟩
      · rw [State.stn_modStn_ne _ _ hi]
        exact ⟨h i, rfl, fun hr => hr.resolve_left hi⟩
    obtain ⟨hseqs, hmgmt, hbook, hi⟩ := ih (s := u) fun i => (hstn i).1
    simp only [List.foldl_cons, hu]
    refine ⟨hseqs.trans (by rw [hj]; rfl), hmgmt.trans (by rw [hj]; rfl), hbook.trans (by rw [hj]; rfl), fun i => ?_⟩
    refine ⟨(hi i).1.trans (hstn i).2.1, fun hr => (hi i).2 ?_⟩
    rcases hr with hr | hr
    · rcases List.mem_cons.1 hr with rfl | hr
      · exact .inr ((hstn i).2.2 (.inl rfl))
      · exact .inl hr
    · exact .inr ((hstn i).2.2 (.inr hr))

end Sys2Proof.Machine

namespace Sys2Proof.Machine

/-- The state in which the parts of a run begin (R182): the halt is over, and the cell is RUNNING. -/
def State.started (s : State) : State :=
  (if s.mgmt.cell = .halted then endHalt s else s).modMgmt fun m => { m with cell := .running }

/-- What has changed before the parts of a run begin. -/
theorem started_effect (s : State) : ∃ b x, s.started =
    { s with book := b, sessions := x, mgmt := { s.mgmt with cell := .running } } ∧
    (s.mgmt.cell = .halted → b.pool = tmap (fun _ r =>
      { r with expiry := r.expiry.map (· + (s.now - s.mgmt.haltedAt)) }) s.book.pool) := by
  by_cases h : s.mgmt.cell = .halted
  · refine ⟨(endHalt s).book, (endHalt s).sessions, ?_, fun _ => rfl⟩
    simp only [State.started, h, ↓reduceIte]
    rfl
  · refine ⟨s.book, s.sessions, ?_, fun h' => absurd h' h⟩
    simp only [State.started, h, ↓reduceIte]
    rfl

/-- A run, of a cell whose scan queues are empty (R182). -/
theorem runCell_effect {s : State} (h : ∀ i : Station, (s.stn i).queue = []) :
    let t := runCell s
    t.mgmt.cell = .running ∧ t.mgmt.replies = s.mgmt.replies ∧
      (∀ k : Carousel, ¬ atRest (s.seq k).state → t.seq k = s.seq k) ∧
      (∀ k : Carousel, atRest (s.seq k).state → (s.nodeOf .drive k.val).isSome = true → (s.seq k).Lost (t.seq k)) ∧
      (∀ i : Station, (t.stn i).ready = Vector.replicate 8 false ∧ (t.stn i).grant = (s.stn i).grant) ∧
      (s.mgmt.cell = .halted → ∀ n r, s.reservation n = some r → t.reservation n =
        some { r with expiry := r.expiry.map fun e => e + (s.now - s.mgmt.haltedAt) }) := by
  obtain ⟨b, x, hu, hb⟩ := started_effect s
  have hk : ∀ k : Carousel, k ∈ carousels := by decide
  have hi : ∀ i : Station, i ∈ stationList := by decide
  obtain ⟨hruns, -, hpart⟩ := foldl_parts (I := fun _ => True) (R := State.Runs) (P := fun k s t => t.seq k = s.seq k)
    (f := fun s k => seqRun k s) State.Runs.refl State.Runs.trans (fun _ _ => rfl) (fun h h' => h'.trans h)
    (fun s k _ => ⟨trivial, (seqRun_runs k s).1, (seqRun_runs k s).2.1⟩) (l := carousels) (by decide) (s := s.started) trivial
  generalize hv : carousels.foldl (fun s k => seqRun k s) s.started = v at hruns hpart
  have hrest := hruns.rest
  unfold State.onlyCarousels at hrest
  obtain ⟨hseqs, hmgmt, hbook, hstn⟩ := stationRuns_effect stationList (s := v) fun i => by rw [hrest, hu]; exact h i
  have ht : runCell s = stationList.foldl (fun s i => stationRun i s) v := by rw [← hv]; rfl
  simp only [ht]
  generalize stationList.foldl (fun s i => stationRun i s) v = t at hseqs hmgmt hbook hstn
  have hseq : ∀ k, t.seq k = v.seq k := fun k => by rw [State.seq, hseqs]; rfl
  have hstart : ∀ k, s.started.seq k = s.seq k := fun k => by rw [hu]; rfl
  refine ⟨by rw [hmgmt, hrest, hu], by rw [hmgmt, hrest, hu], fun k hno => ?_, fun k hat hn => ?_, fun i => ⟨?_, ?_⟩, ?_⟩
  · obtain ⟨w, -, -, hw, he⟩ := hpart k (hk k)
    rw [hstart] at hw
    rw [hseq, he, (seqRun_runs k w).2.2.2 (by rw [hw]; exact hno), hw]
  · obtain ⟨w, -, hwr, hw, he⟩ := hpart k (hk k)
    rw [hstart] at hw
    have hnw : w.nodeOf .drive k.val = s.nodeOf .drive k.val := by rw [State.nodeOf, hwr.nodes, hu]; rfl
    rw [hseq, he, ← hw]
    exact (seqRun_runs k w).2.2.1 (by rw [hw]; exact hat) (by rw [hnw]; exact hn)
  · exact (hstn i).2 (.inl (hi i))
  · rw [(hstn i).1, hrest, hu]; rfl
  · intro hh n r hr
    have hpool : t.book.pool = b.pool := by rw [hbook, hrest, hu]
    rw [State.reservation, hpool, hb hh, tget_tmap]
    exact congrArg (Option.map _) hr

end Sys2Proof.Machine

namespace Sys2Proof.Machine

/-! ## CELL-HALT (R183): the sequencers' parts -/

/-- What the parts of a halt leave: nothing changes but the ring's records, the carousels, the stations, the notices and the
reports; the reports only grow, and a frame of Cell Management in the queue stays there. -/
structure State.Halts (s t : State) : Prop where
  rest : t = { s with fe := t.fe, seqs := t.seqs, stations := t.stations, mail := t.mail, mgmt := { s.mgmt with
    notices := t.mgmt.notices, noticeSeq := t.mgmt.noticeSeq, dropped := t.mgmt.dropped } }
  mail : s.mail <+: t.mail
  frames : ∀ f ∈ s.fe.queue, f.block = .management → f ∈ t.fe.queue

theorem State.Halts.refl (s : State) : s.Halts s := ⟨rfl, List.prefix_refl _, fun _ h _ => h⟩

theorem State.Halts.trans {s t u : State} (h : s.Halts t) (h' : t.Halts u) : s.Halts u := by
  refine ⟨?_, h.mail.trans h'.mail, fun f hf hb => h'.frames f (h.frames f hf hb) hb⟩
  have ht := h.rest
  have hu := h'.rest
  rw [ht] at hu
  exact hu

/-- The cell's state and the replies are no part of it. -/
theorem State.Halts.cell {s t : State} (h : s.Halts t) : t.mgmt.cell = s.mgmt.cell := by rw [h.rest]

/-- Carousel `k` has the record `q`, and no more than reports have been made. -/
def State.became (s : State) (k : Carousel) (q : Seq) (t : State) : Prop :=
  ∃ m, t = State.setSeq { s with mail := m } k q ∧ s.mail <+: m

theorem State.became.refl (s : State) (k : Carousel) : s.became k (s.seq k) s :=
  ⟨s.mail, (State.setSeq_seq s k).symm, List.prefix_refl _⟩

theorem State.became.trans {s t u : State} {k : Carousel} {q r : Seq} (h : s.became k q t) (h' : t.became k r u) :
    s.became k r u := by
  obtain ⟨m, rfl, hm⟩ := h
  obtain ⟨m', rfl, hm'⟩ := h'
  exact ⟨m', State.setSeq_setSeq { s with mail := m' } k q r, hm.trans hm'⟩

theorem State.became.seq {s t : State} {k : Carousel} {q : Seq} (h : s.became k q t) : t.seq k = q := by
  obtain ⟨m, rfl, -⟩ := h
  exact State.seq_setSeq _ k q

theorem State.became.mod {s t : State} {k : Carousel} {q : Seq} (h : s.became k q t) (f : Seq → Seq) :
    s.became k (f q) (t.modSeq k f) := by
  refine h.trans ⟨t.mail, ?_, List.prefix_refl _⟩
  rw [State.modSeq, h.seq]

theorem State.became.post {s t : State} {k : Carousel} {q : Seq} (h : s.became k q t) (i : Instr) : s.became k q (t.post i) := by
  obtain ⟨m, rfl, hm⟩ := h
  exact ⟨m ++ [i], rfl, hm.trans (List.prefix_append _ _)⟩

theorem State.became.halts {s t : State} {k : Carousel} {q : Seq} (h : s.became k q t) : s.Halts t := by
  obtain ⟨m, rfl, hm⟩ := h
  exact ⟨rfl, hm, fun _ h _ => h⟩

/-- A sequencer that is READY with the task numbered `n`. -/
def readied (q : Seq) (n : Nat) : Seq := { q with state := .ready, current := some n, move := none, built := none, short := 0 }

/-- A sequencer without a current task. -/
def unchosen (q : Seq) : Seq := { q with current := none, short := 0, built := none }

/-- A sequencer that keeps the task numbered `n` as its current one, and no other. -/
def keptCurrent (q : Seq) (n : Nat) : Seq := if q.current = some n then q else unchosen q

theorem becomeReady_became (k : Carousel) (x : Task) (s : State) : s.became k (readied (s.seq k) x.num) (becomeReady k x s) := by
  have h := (State.became.refl s k).mod fun q => readied q x.num
  unfold becomeReady
  dsimp only
  split
  · exact h.post _
  · exact h

/-- A choice of a cell in HALTED sends no move (R75): what an IDLE carousel becomes. -/
def chosenHalted (s : State) (k : Carousel) : Seq :=
  match s.chosen k with
  | none => unchosen (s.seq k)
  | some x =>
    if (s.seq k).index = some x.carrier then readied (keptCurrent (s.seq k) x.num) x.num
    else { keptCurrent (s.seq k) x.num with built := none }

theorem choose_halted {k : Carousel} {s : State} (hc : s.mgmt.cell = .halted) (h : (s.seq k).state = .idle) :
    s.became k (chosenHalted s k) (choose k s) := by
  have hclear := (State.became.refl s k).mod unchosen
  unfold choose chosenHalted
  rw [if_pos h]
  cases hx : s.chosen k with
  | none => exact hclear
  | some x =>
    have hkept : s.became k (keptCurrent (s.seq k) x.num) (if (s.seq k).current = some x.num then s else clearCurrent k s) := by
      unfold keptCurrent
      split
      · exact State.became.refl s k
      · exact hclear
    dsimp only
    generalize (if (s.seq k).current = some x.num then s else clearCurrent k s) = u at hkept
    have huc : u.mgmt.cell = .halted := hkept.halts.cell.trans hc
    have hidx : (u.seq k).index = (s.seq k).index := by
      rw [hkept.seq, keptCurrent]
      split <;> rfl
    by_cases hi : (s.seq k).index = some x.carrier
    · rw [if_pos (hidx.trans hi), if_pos hi, if_neg (by rw [huc]; nofun), ← hkept.seq]
      exact hkept.trans (becomeReady_became k x u)
    · have hmove : u.moveAllowed k = false := by simp [State.moveAllowed, huc]
      rw [if_neg hi, if_neg (by rw [hidx]; exact hi), hmove]
      exact hkept.mod fun q => { q with built := none }

/-- What a carousel without a current task becomes: READY with its first task where that one is at the opening, and IDLE without
a current task where none is. -/
theorem chosenHalted_rest {k : Carousel} {s : State} (hcur : (s.seq k).current = none) :
    ((∀ x ∈ (s.seq k).queue, (s.seq k).index ≠ some x.carrier) →
      chosenHalted s k = { s.seq k with current := none, short := 0, built := none }) ∧
    (∀ x xs, (s.seq k).queue = x :: xs → (s.seq k).index = some x.carrier → s.presentable k x = true →
      chosenHalted s k = { s.seq k with state := .ready, current := some x.num, move := none, built := none, short := 0 }) := by
  have hch : s.chosen k = (s.seq k).queue.find? (s.presentable k) := by simp [State.chosen, Seq.currentTask, hcur]
  have hkept : ∀ n, keptCurrent (s.seq k) n = unchosen (s.seq k) := fun n => if_neg (by rw [hcur]; nofun)
  unfold chosenHalted
  refine ⟨fun hno => ?_, fun x xs hq hi hp => ?_⟩
  · cases hx : s.chosen k with
    | none => rfl
    | some x =>
      have hmem : x ∈ (s.seq k).queue := List.mem_of_find?_eq_some (hch ▸ hx)
      simp only [if_neg (hno x hmem), hkept]
      rfl
  · have hx : s.chosen k = some x := by rw [hch, hq, List.find?_cons_of_pos hp]
    simp only [hx, if_pos hi, hkept]
    rfl

/-- Carousel `j` and its MOVE frame in the queue are as they were. -/
def State.movesAlike (j : Carousel) (s t : State) : Prop :=
  t.seq j = s.seq j ∧ t.fe.queue.any (isFrameOf (.seq j) 1) = s.fe.queue.any (isFrameOf (.seq j) 1)

theorem State.movesAlike.refl (j : Carousel) (s : State) : State.movesAlike j s s := ⟨rfl, rfl⟩

theorem State.movesAlike.trans {j : Carousel} {s t u : State} (h : State.movesAlike j s t) (h' : State.movesAlike j t u) :
    State.movesAlike j s u := ⟨h'.1.trans h.1, h'.2.trans h.2⟩

theorem State.became.alike {s t : State} {j k : Carousel} {q : Seq} (h : s.became k q t) (hj : j ≠ k) :
    State.movesAlike j s t := by
  obtain ⟨m, rfl, -⟩ := h
  exact ⟨State.seq_setSeq_ne _ q hj, rfl⟩

theorem mem_dropFirst {α : Type} {p : α → Bool} {l : List α} {x : α} (hx : x ∈ l) (hp : p x = false) : x ∈ dropFirst p l := by
  induction l with
  | nil => exact hx
  | cons y l ih =>
    unfold dropFirst
    rcases List.mem_cons.1 hx with rfl | hx
    · simp [hp]
    · split
      · exact hx
      · exact List.mem_cons_of_mem _ (ih hx)

theorem any_dropFirst {α : Type} {p r : α → Bool} (h : ∀ x, p x = true → r x = false) (l : List α) :
    (dropFirst p l).any r = l.any r := by
  induction l with
  | nil => rfl
  | cons y l ih =>
    unfold dropFirst
    split
    · next hy => simp [h y hy]
    · simp [ih]

/-- A MOVE frame withdrawn is no frame of another block. -/
theorem withdrawMove_halts (k : Carousel) (s : State) :
    s.Halts (withdrawMove k s).1 ∧ (withdrawMove k s).1.seqs = s.seqs ∧ (withdrawMove k s).1.stations = s.stations ∧
      (∀ j, j ≠ k → State.movesAlike j s (withdrawMove k s).1) ∧
      (withdrawMove k s).2 = s.fe.queue.any (isFrameOf (.seq k) 1) := by
  unfold withdrawMove withdrawFrame
  split
  · next h =>
    refine ⟨⟨rfl, List.prefix_append _ _, fun f hf hb => mem_dropFirst hf (by simp [isFrameOf, hb])⟩, rfl, rfl, fun j hj => ?_,
      h.symm⟩
    refine ⟨rfl, any_dropFirst (fun f hf => ?_) _⟩
    have hb : f.block = .seq k := by simp [isFrameOf] at hf; exact hf.1
    simp [isFrameOf, hb, hj.symm]
  · next h => exact ⟨State.Halts.refl s, rfl, rfl, fun j _ => State.movesAlike.refl j s, by simpa using h⟩

/-- The sequencer's part of a halt changes the carousel, and its MOVE frame, alone. -/
theorem seqHalt_halts (k : Carousel) {s : State} (hc : s.mgmt.cell = .halted) :
    s.Halts (seqHalt k s) ∧ (seqHalt k s).stations = s.stations ∧ ∀ j, j ≠ k → State.movesAlike j s (seqHalt k s) := by
  have hbec : ∀ {u t : State} {q : Seq}, s.Halts u → u.stations = s.stations → (∀ j, j ≠ k → State.movesAlike j s u) →
      u.became k q t → s.Halts t ∧ t.stations = s.stations ∧ ∀ j, j ≠ k → State.movesAlike j s t := by
    intro u t q hu hst hj ht
    refine ⟨hu.trans ht.halts, ?_, fun j hjk => (hj j hjk).trans (ht.alike hjk)⟩
    obtain ⟨m, rfl, -⟩ := ht
    exact hst
  have hself : ∀ {t : State} {q : Seq}, s.became k q t → s.Halts t ∧ t.stations = s.stations ∧
      ∀ j, j ≠ k → State.movesAlike j s t :=
    hbec (State.Halts.refl s) rfl fun j _ => State.movesAlike.refl j s
  unfold seqHalt
  cases h : (s.seq k).state <;> dsimp only
  case moving =>
    obtain ⟨hw, -, hst, hj, -⟩ := withdrawMove_halts k s
    generalize (withdrawMove k s).1 = u at hw hst hj
    split
    · have hrest := (State.became.refl u k).mod fun q =>
        { q with state := .idle, move := none, built := none, current := none, short := 0 }
      have hu : comeToRest k false u = u.modSeq k fun q =>
        { q with state := .idle, move := none, built := none, current := none, short := 0 } := by simp [comeToRest]
      rw [← hu] at hrest
      exact hbec hw hst hj (hrest.trans (choose_halted (by rw [hrest.halts.cell, hw.cell, hc]) (by rw [hrest.seq])))
    · exact hbec hw hst hj ((State.became.refl u k).mod _)
  case stopping => exact hself ((State.became.refl s k).mod _)
  case idle => exact hself (choose_halted hc h)
  all_goals exact hself (State.became.refl s k)

/-- A carousel that stops (R183), where its MOVE frame is out of the queue. -/
theorem seqHalt_stopping {k : Carousel} {s : State}
    (h : ((s.seq k).state = .moving ∧ s.fe.queue.any (isFrameOf (.seq k) 1) = false) ∨ (s.seq k).state = .stopping) :
    (seqHalt k s).seq k =
      { s.seq k with state := .stopping, move := (s.seq k).move.map fun m => { m with stop := some .halt } } := by
  rcases h with ⟨h, hout⟩ | h
  · have hw : withdrawMove k s = (s, false) := by
      unfold withdrawMove withdrawFrame
      rw [hout]
      rfl
    simp [seqHalt, h, hw, stopping]
  · simp [seqHalt, h, stopping]

/-- A carousel whose MOVE frame is withdrawn comes to rest without a current task (R183). -/
theorem seqHalt_withdrawn {k : Carousel} {s : State} (hc : s.mgmt.cell = .halted) (h : (s.seq k).state = .moving)
    (hout : s.fe.queue.any (isFrameOf (.seq k) 1) = true) :
    let rest : Seq := { s.seq k with state := .idle, move := none, built := none, current := none, short := 0 }
    ((∀ x ∈ (s.seq k).queue, (s.seq k).index ≠ some x.carrier) → (seqHalt k s).seq k = rest) ∧
    (∀ x xs, (s.seq k).queue = x :: xs → (s.seq k).index = some x.carrier → s.presentable k x = true →
      (seqHalt k s).seq k = { rest with state := .ready, current := some x.num }) := by
  obtain ⟨hw, hseqs, -, -, htrue⟩ := withdrawMove_halts k s
  have hseq : (withdrawMove k s).1.seq k = s.seq k := by rw [State.seq, hseqs]; rfl
  have hrest := (State.became.refl (withdrawMove k s).1 k).mod fun q =>
    { q with state := .idle, move := none, built := none, current := none, short := 0 }
  have he : seqHalt k s = choose k ((withdrawMove k s).1.modSeq k fun q =>
      { q with state := .idle, move := none, built := none, current := none, short := 0 }) := by
    simp [seqHalt, h, htrue, hout, comeToRest]
  rw [hseq] at hrest
  generalize ((withdrawMove k s).1.modSeq k fun q =>
      { q with state := .idle, move := none, built := none, current := none, short := 0 }) = u at hrest he
  have hus : s.Halts u := hw.trans hrest.halts
  have hchoose := choose_halted (k := k) (s := u) (by rw [hus.cell, hc]) (by rw [hrest.seq])
  obtain ⟨h1, h2⟩ := chosenHalted_rest (k := k) (s := u) (by rw [hrest.seq])
  have hpres : ∀ x, u.presentable k x = s.presentable k x := fun x => by
    have hr := hus.rest
    rw [hr]; rfl
  simp only [hrest.seq, hpres] at h1 h2
  rw [he, hchoose.seq]
  exact ⟨h1, h2⟩

/-- A carousel that a halt finds in another state is left as it is. -/
theorem seqHalt_other {k : Carousel} {s : State} (h : (s.seq k).state = .unconfigured ∨ (s.seq k).state = .unknown ∨
    (s.seq k).state = .manual ∨ (s.seq k).state = .fault ∨ (s.seq k).state = .disabled ∨ (s.seq k).state = .ready ∨
    (s.seq k).state = .presenting) : seqHalt k s = s := by
  unfold seqHalt
  rcases h with h | h | h | h | h | h | h <;> rw [h]

end Sys2Proof.Machine

namespace Sys2Proof.Machine

/-! ## CELL-HALT (R183): the stations' parts -/

/-- The part of station `i` in a halt leaves the other stations. -/
structure State.StationPart (i : Station) (s t : State) : Prop where
  halts : s.Halts t
  stations : s.stationsKept i t

theorem State.StationPart.refl (i : Station) (s : State) : State.StationPart i s s := ⟨State.Halts.refl s, fun _ _ => rfl⟩

theorem State.StationPart.trans {i : Station} {s t u : State} (h : State.StationPart i s t) (h' : State.StationPart i t u) :
    State.StationPart i s u := ⟨h.halts.trans h'.halts, fun j hj => (h'.stations j hj).trans (h.stations j hj)⟩

theorem State.became.part {s t : State} {k : Carousel} {q : Seq} (h : s.became k q t) (i : Station) :
    State.StationPart i s t := by
  refine ⟨h.halts, fun j _ => ?_⟩
  obtain ⟨m, rfl, -⟩ := h
  rfl

/-- A station rewritten, with reports and notices at most. -/
theorem modStn_part (i : Station) (f : Stn → Stn) (s : State) : State.StationPart i s (s.modStn i f) :=
  ⟨⟨rfl, List.prefix_refl _, fun _ h _ => h⟩, fun _ hj => State.stn_modStn_ne s f hj⟩

theorem handNotice_part (i : Station) (b : NoticeBody) (s : State) : State.StationPart i s (handNotice b s) :=
  ⟨⟨rfl, List.prefix_refl _, fun _ h _ => h⟩, fun _ _ => rfl⟩

/-- A frame of another block stays in the queue when a display is sent. -/
theorem mem_modFirst {α : Type} {p : α → Bool} {f : α → α} {l : List α} {x : α} (hx : x ∈ l) (hp : p x = false) :
    x ∈ modFirst p f l := by
  induction l with
  | nil => exact hx
  | cons y l ih =>
    unfold modFirst
    rcases List.mem_cons.1 hx with rfl | hx
    · simp [hp]
    · split
      · exact List.mem_cons_of_mem _ hx
      · exact List.mem_cons_of_mem _ (ih hx)

/-- A NORMAL frame offered pushes no frame out of the queue. -/
theorem offerFrame_normal_mem {f g : TxFrame} (hf : f.urgent = false) {s : State} (hg : g ∈ s.fe.queue) :
    g ∈ (offerFrame f s).1.fe.queue := by
  unfold offerFrame
  simp only [hf, Bool.false_and, Bool.false_eq_true, ↓reduceIte]
  split
  · simpa [State.modFe, joinQueue, hf] using .inl hg
  · split <;> exact hg

theorem sendContent_mem {f : TxFrame} (hb : f.block = .management) {s : State} (hf : f ∈ s.fe.queue) (i : Station) (c : Content) :
    f ∈ (sendContent i c s).fe.queue := by
  have hp : isFrameOf (.station i) (payloadKind (.panelShow c)) f = false := by simp [isFrameOf, hb]
  unfold sendContent replacePayload
  by_cases hq : s.fe.queue.any (isFrameOf (.station i) (payloadKind (.panelShow c))) = true
  · simp only [hq, ↓reduceIte]
    exact mem_modFirst hf hp
  · simp only [hq, Bool.false_eq_true, ↓reduceIte]
    have hoffer : f ∈ (offer (.station i) (panelOf i) (.panelShow c) s).1.fe.queue := by
      unfold offer
      split
      · exact hf
      · exact offerFrame_normal_mem rfl hf
    split <;> exact hoffer

theorem refresh_part (i : Station) (s : State) : State.StationPart i s (refresh i s) ∧ (refresh i s).seqs = s.seqs ∧
    ((refresh i s).stn i).grant = (s.stn i).grant := by
  have hframes : ∀ f ∈ s.fe.queue, f.block = .management → f ∈ (refresh i s).fe.queue := fun f hf hb => by
    unfold refresh
    dsimp only
    split
    · exact sendContent_mem hb hf i _
    · exact hf
  obtain ⟨e, m, d, h, hm⟩ := refresh_effect i s
  rw [h] at hframes ⊢
  exact ⟨⟨⟨rfl, hm, hframes⟩, fun j hj => State.stn_modStn_ne _ _ hj⟩, rfl, by rw [State.stn_modStn]; rfl⟩

/-- While the cell is not RUNNING, a station attended to grants nothing and takes no scan: its timer and display follow. -/
theorem attend_part {s : State} (hc : s.mgmt.cell = .halted) (i : Station) : State.StationPart i s (attend i s) ∧
    (attend i s).seqs = s.seqs ∧ ((attend i s).stn i).grant = (s.stn i).grant := by
  have hgrant : tryGrant i s = s := by simp [tryGrant, hc]
  have hhead : evalHead i s = (s, false) := by
    unfold evalHead
    cases (s.stn i).queue with
    | nil => rfl
    | cons e l => simp [State.headFree, hc]
  have hloop : evalLoop i ((s.stn i).queue.length + 1) s = s := by simp [evalLoop, hgrant, hhead]
  obtain ⟨f, hf, htimer⟩ := settleTimer_effect i s
  have hat : attend i s = refresh i (s.modStn i f) := by rw [attend, hloop, hf]
  rw [hat]
  obtain ⟨hpart, hseqs, hg⟩ := refresh_part i (s.modStn i f)
  refine ⟨(modStn_part i f s).trans hpart, hseqs, hg.trans ?_⟩
  obtain ⟨t, ht⟩ := htimer (s.stn i)
  rw [State.stn_modStn, ht]

/-- A grant that ends without its task done (R102). -/
theorem endGrant_part {i : Station} {k : Carousel} {v : TaskView} {how : GrantEnd} {s : State}
    (hg : (s.stn i).grant = .held k v) (hhow : ∀ o, how ≠ .done o) :
    State.StationPart i s (endGrant i how s) ∧ (endGrant i how s).seqs = s.seqs ∧
      ((endGrant i how s).stn i).grant = .absent := by
  have hflush : State.StationPart i s (flushGroup i k (viewKind v) s) ∧ (flushGroup i k (viewKind v) s).seqs = s.seqs := by
    unfold flushGroup
    split
    · exact ⟨State.StationPart.refl i s, rfl⟩
    · exact ⟨(handNotice_part i _ s).trans (modStn_part i _ _), rfl⟩
  unfold endGrant
  rw [hg]
  cases how
  case done o => exact absurd rfl (hhow o)
  all_goals exact ⟨hflush.1.trans (modStn_part i _ _), hflush.2, by rw [State.stn_modStn]⟩

theorem State.became.postAll {s t : State} {k : Carousel} {q : Seq} (h : s.became k q t) (l : List Instr) :
    s.became k q (t.postAll l) := by
  obtain ⟨m, rfl, hm⟩ := h
  exact ⟨m ++ l, rfl, hm.trans (List.prefix_append _ _)⟩

/-- A task and its class are part of the carousel's queue. -/
theorem reclassTask_became (k : Carousel) (x : Task) (c : Class) (s : State) :
    s.became k { s.seq k with queue := ((reclassTask k x c s).seq k).queue } (reclassTask k x c s) := by
  unfold reclassTask
  rw [State.seq_modSeq]
  by_cases hc : c = x.cls
  · simp only [hc, ↓reduceIte]
    exact (State.became.refl s k).mod _
  · simp only [hc, ↓reduceIte]
    exact (State.became.refl s k).mod _

theorem Task.picks_of_kind {x : Task} (h : x.kind ≠ .pick) : x.picks = [] ∧ ∀ ps, x.withPicks ps = x := by
  unfold Task.picks Task.withPicks
  unfold Task.kind at h
  cases hb : x.body <;> simp_all

/-- A task of another kind has no picks to set. -/
theorem setPicks_plain {k : Carousel} {x : Task} {s : State} (hk : x.kind ≠ .pick) (hx : x ∈ (s.seq k).queue)
    (hn : ((s.seq k).queue.map (·.num)).Nodup) {ps : List Pick} (hps : ps = []) :
    ((setPicks k x ps s).seq k).queue = (s.seq k).queue := by
  subst hps
  obtain ⟨hpicks, hwith⟩ := Task.picks_of_kind hk
  have hsame : (s.seq k).queue.map (fun u => if u.num = x.num then x else u) = (s.seq k).queue := by
    refine (List.map_congr_left fun u hu => ?_).trans (List.map_id _)
    split
    · next h => exact List.inj_on_of_nodup_map hn hx hu h.symm
    · rfl
  simp [setPicks, reclassTask, hpicks, hwith, State.seq_modSeq, hsame]

/-- The picks of a granted task that is withdrawn are reported to the Order Book (R85); a task of another kind is as it was. -/
theorem withdrawPicks_became (k : Carousel) {s : State} (hp : (s.seq k).state = .presenting) : ∃ l,
    s.became k { s.seq k with queue := l } (withdrawPicks k s) ∧ ∀ x, (s.seq k).currentTask = some x →
      (∀ p ∈ x.picks, p.opened = true → .reservationWithdrawn p.res ∈ (withdrawPicks k s).mail) ∧
      (x.kind ≠ .pick → ((s.seq k).queue.map (·.num)).Nodup → l = (s.seq k).queue) := by
  have hgr : (s.seq k).granted = (s.seq k).currentTask := if_pos hp
  unfold withdrawPicks
  rw [hgr]
  cases hcur : (s.seq k).currentTask with
  | none => exact ⟨_, State.became.refl s k, nofun⟩
  | some x =>
    refine ⟨_, (reclassTask_became k _ _ s).postAll _, fun y hy => ?_⟩
    obtain rfl := Option.some.inj hy
    refine ⟨fun p hpx ho => List.mem_append_right _ (List.mem_map.2 ⟨p, List.mem_filter.2 ⟨hpx, ho⟩, rfl⟩), fun hk hn => ?_⟩
    have hx : x ∈ (s.seq k).queue := by
      obtain ⟨n, -, hn⟩ := Option.bind_eq_some_iff.1 hcur
      exact List.mem_of_find?_eq_some hn
    exact setPicks_plain hk hx hn (by rw [(Task.picks_of_kind hk).1]; rfl)

/-- A reservation taken into a queue that is not granted changes the queue or the held reservations of its carousel. -/
theorem takeReservation_became {k : Carousel} {s : State} (h : (s.seq k).state ≠ .presenting) (x : HeldItem) :
    ∃ q, s.became k q (takeReservation k x s) ∧ q.state = (s.seq k).state := by
  have hgr : ∀ y, (s.seq k).isGranted y = false := fun y => by simp [Seq.isGranted, Seq.granted, h]
  have hheld := (State.became.refl s k).mod fun q => { q with held := q.held ++ [x] }
  unfold takeReservation joinTask
  dsimp only
  cases (s.seq k).taskFor .pick x.carrier with
  | some y =>
    by_cases hr : y.picks.length < Config.taskPicks
    · simp only [hr, hgr, ↓reduceIte, Bool.false_eq_true]
      exact ⟨_, (reclassTask_became k _ _ s).post _, rfl⟩
    · simp only [hr, ↓reduceIte]
      exact ⟨_, hheld, rfl⟩
  | none =>
    by_cases hr : (s.seq k).hasPlace = true
    · simp only [hr, ↓reduceIte]
      exact ⟨_, ((State.became.refl s k).mod _).post _, rfl⟩
    · simp only [hr, Bool.false_eq_true, ↓reduceIte]
      exact ⟨_, hheld, rfl⟩

/-- A place freed in the queue of a carousel that is not granted takes the held reservations, where there are some. -/
theorem placeFreed_became {k : Carousel} {s : State} (h : (s.seq k).state ≠ .presenting) :
    ∃ q, s.became k q (placeFreed k s) ∧ q.state = (s.seq k).state ∧ ((s.seq k).held = [] → q = s.seq k) := by
  have hfold : ∀ (l : List HeldItem) {u : State}, (u.seq k).state ≠ .presenting →
      ∃ q, u.became k q (l.foldl (fun s i => takeReservation k i s) u) ∧ q.state = (u.seq k).state := by
    intro l
    induction l with
    | nil => exact fun _ => ⟨_, State.became.refl _ k, rfl⟩
    | cons x l ih =>
      intro u hu
      obtain ⟨q, hq, hqs⟩ := takeReservation_became hu x
      obtain ⟨r, hr, hrs⟩ := ih (u := takeReservation k x u) (by rw [hq.seq, hqs]; exact hu)
      exact ⟨r, hq.trans hr, hrs.trans (by rw [hq.seq, hqs])⟩
  have hempty := (State.became.refl s k).mod fun q => { q with held := [] }
  have hretry : ∃ q, s.became k q (retryHeld k s) ∧ q.state = (s.seq k).state ∧ ((s.seq k).held = [] → q = s.seq k) := by
    obtain ⟨q, hq, hqs⟩ := hfold (s.seq k).held (u := s.modSeq k fun q => { q with held := [] }) (by rw [hempty.seq]; exact h)
    refine ⟨q, hempty.trans hq, by rw [hqs, hempty.seq], fun hnone => ?_⟩
    rw [hnone] at hq
    have hsame : ({ s.seq k with held := [] } : Seq) = s.seq k := by rw [← hnone]
    exact (hq.seq.symm.trans hempty.seq).trans hsame
  obtain ⟨q, hq, hqs⟩ := hretry
  refine ⟨q, ?_, hqs⟩
  unfold placeFreed
  dsimp only
  split
  · split
    · exact (hq.post _).post _
    · exact hq.post _
  · exact hq

/-- What a withdrawn grant leaves of the carousel that presented task `x` (R85). -/
structure State.Returned (s : State) (k : Carousel) (x : Task) (t : State) : Prop where
  current : (t.seq k).current = some x.num
  told : ∀ p ∈ x.picks, p.opened = true → .reservationWithdrawn p.res ∈ t.mail
  plain : x.kind ≠ .pick → ((s.seq k).queue.map (·.num)).Nodup → t.seq k = { s.seq k with state := .ready }

/-- A grant withdrawn from a PRESENTING carousel ends at its station, and the carousel is READY. -/
theorem withdrawGrant_part {i : Station} {k : Carousel} {v : TaskView} {s : State} (hp : (s.seq k).state = .presenting)
    (hg : (s.stn i).grant = .held k v) (hi : s.grantedBy k = some i) :
    let t := withdrawGrant k s
    State.StationPart i s t ∧ (t.stn i).grant = .absent ∧ s.othersKept k t ∧ (t.seq k).state = .ready ∧
      ∀ x, (s.seq k).currentTask = some x → (s.seq k).held = [] → s.Returned k x t := by
  obtain ⟨l, hpicks, htask⟩ := withdrawPicks_became k hp
  generalize hu : withdrawPicks k s = u at hpicks htask
  have hstn : u.stations = s.stations := by obtain ⟨m, rfl, -⟩ := hpicks; rfl
  have hui : u.grantedBy k = some i := by rw [← hi, State.grantedBy, State.grantedBy]; simp only [State.stn, hstn]
  have hug : (u.stn i).grant = .held k v := by rw [← hg, State.stn, State.stn, hstn]
  obtain ⟨hend, hseqs, habs⟩ := endGrant_part (how := .withdrawn) hug nofun
  generalize hw : endGrant i .withdrawn u = w at hend hseqs habs
  have hwk : w.seq k = { s.seq k with queue := l } := by rw [← hpicks.seq, State.seq, hseqs]; rfl
  have hready := (State.became.refl w k).mod fun q => { q with state := .ready }
  rw [hwk] at hready
  have ht : withdrawGrant k s = shedFreed k (s.seq k).shedsPick (w.modSeq k fun q => { q with state := .ready }) := by
    simp only [withdrawGrant, hp, hu, endGrantOf, hui, hw]
  generalize hr : (w.modSeq k fun q => { q with state := .ready }) = r at hready ht
  have hshed : ∃ q, w.became k q (withdrawGrant k s) ∧ q.state = .ready ∧
      ((s.seq k).held = [] → q = { s.seq k with queue := l, state := .ready }) := by
    rw [ht]
    unfold shedFreed
    split
    · obtain ⟨q, hq, hqs, hheld⟩ := placeFreed_became (k := k) (s := r) (by rw [hready.seq]; nofun)
      refine ⟨q, hready.trans hq, by rw [hqs, hready.seq], fun h => ?_⟩
      rw [hheld (by rw [hready.seq]; exact h), hready.seq]
    · exact ⟨_, hready, rfl, fun _ => rfl⟩
  obtain ⟨q, hq, hqs, hheld⟩ := hshed
  generalize withdrawGrant k s = t at hq
  dsimp only
  refine ⟨(hpicks.part i).trans (hend.trans (hq.part i)), ?_, fun j hj => ?_, by rw [hq.seq, hqs], fun x hx hh => ?_⟩
  · obtain ⟨m, rfl, -⟩ := hq
    exact habs
  · rw [(hq.alike hj).1, State.seq, hseqs]
    exact (hpicks.alike hj).1
  · obtain ⟨htold, hplain⟩ := htask x hx
    refine ⟨?_, fun p hpx ho => ?_, fun hk hn => ?_⟩
    · rw [hq.seq, hheld hh]
      obtain ⟨n, hn, hfind⟩ := Option.bind_eq_some_iff.1 hx
      have hnum : x.num = n := by simpa using List.find?_some hfind
      exact hn.trans (congrArg some hnum.symm)
    · exact hq.halts.mail.subset (hend.halts.mail.subset (htold p hpx ho))
    · rw [hq.seq, hheld hh, hplain hk hn]

end Sys2Proof.Machine

namespace Sys2Proof.Machine

/-- The end of a station's grant in a halt: the carousel that presented a task for it is READY, and no other one changes. -/
structure State.Drops (i : Station) (s t : State) : Prop where
  part : State.StationPart i s t
  absent : (t.stn i).grant = .absent
  kept : ∀ k, (s.seq k).state ≠ .presenting ∨ (∀ v, (s.stn i).grant ≠ .held k v) → t.seq k = s.seq k
  returned : ∀ k v, (s.stn i).grant = .held k v → (s.seq k).state = .presenting → (t.seq k).state = .ready ∧
    ∀ x, (s.seq k).currentTask = some x → (s.seq k).held = [] → s.Returned k x t

theorem State.Returned.grow {s t u : State} {k : Carousel} {x : Task} (h : s.Returned k x t) (hs : u.seq k = t.seq k)
    (hm : t.mail <+: u.mail) : s.Returned k x u :=
  ⟨hs ▸ h.current, fun p hp ho => hm.subset (h.told p hp ho), fun hk hn => hs.trans (h.plain hk hn)⟩

theorem dropGrant_drops {i : Station} {s : State} (hi : ∀ k v, (s.stn i).grant = .held k v → s.grantedBy k = some i) :
    State.Drops i s (dropGrant i s) := by
  unfold dropGrant
  cases hg : (s.stn i).grant with
  | absent => exact ⟨State.StationPart.refl i s, hg, fun _ _ => rfl, fun k v h => absurd (hg.symm.trans h) nofun⟩
  | offered k =>
    exact ⟨modStn_part i _ s, by rw [State.stn_modStn], fun _ _ => rfl, fun k v h => absurd (hg.symm.trans h) nofun⟩
  | held k v =>
    have hcar : ∀ {j w}, (s.stn i).grant = .held j w → j = k := fun h => by
      rw [hg] at h
      exact (Grant.held.inj h).1.symm
    dsimp only
    split
    · next hp =>
      obtain ⟨hpart, habs, hother, hready, hret⟩ := withdrawGrant_part hp hg (hi k v hg)
      refine ⟨hpart, habs, fun j hj => hother j ?_, fun j w hw hpj => ?_⟩
      · rintro rfl
        exact hj.elim (fun h => h hp) (fun h => h v hg)
      · obtain rfl := hcar hw
        exact ⟨hready, hret⟩
    · next hp =>
      obtain ⟨hpart, hseqs, habs⟩ := endGrant_part (how := .left) hg nofun
      refine ⟨hpart, habs, fun j _ => by rw [State.seq, hseqs]; rfl, fun j w hw hpj => ?_⟩
      obtain rfl := hcar hw
      exact absurd hpj hp

theorem stationHalt_drops {i : Station} {s : State} (hc : s.mgmt.cell = .halted)
    (hi : ∀ k v, (s.stn i).grant = .held k v → s.grantedBy k = some i) : State.Drops i s (stationHalt i s) := by
  obtain ⟨hpart, habs, hkept, hret⟩ := dropGrant_drops hi
  unfold stationHalt
  generalize dropGrant i s = u at hpart habs hkept hret
  obtain ⟨hat, hseqs, hgrant⟩ := attend_part (hpart.halts.cell.trans hc) i
  have hseq : ∀ k, (attend i u).seq k = u.seq k := fun k => by rw [State.seq, hseqs]; rfl
  refine ⟨hpart.trans hat, hgrant.trans habs, fun k hk => (hseq k).trans (hkept k hk), fun k v hg hp => ?_⟩
  obtain ⟨hready, hx⟩ := hret k v hg hp
  exact ⟨by rw [hseq]; exact hready, fun x hcur hh => (hx x hcur hh).grow (hseq k) hat.halts.mail⟩

/-- The first station with a grant of carousel `k` is the one that the parts of a halt reach first. -/
theorem grantedBy_first {s : State} {pre l : List Station} {i : Station} (hl : stationList = pre ++ i :: l)
    (hpre : ∀ j ∈ pre, (s.stn j).grant = .absent) {k : Carousel} {v : TaskView} (hg : (s.stn i).grant = .held k v) :
    s.grantedBy k = some i := by
  unfold State.grantedBy
  rw [hl, List.find?_append, List.find?_eq_none.2 fun j hj => by simp [Stn.holder, hpre j hj], Option.none_or,
    List.find?_cons_of_pos (by simp [Stn.holder, hg])]

/-- The stations' parts of a halt (R183): every grant ends, and a carousel that presents a task is READY. -/
theorem stationHalts_effect {l pre : List Station} (hl : stationList = pre ++ l) {s : State} (hc : s.mgmt.cell = .halted)
    (hpre : ∀ j ∈ pre, (s.stn j).grant = .absent) :
    let t := l.foldl (fun s i => stationHalt i s) s
    s.Halts t ∧ (∀ i ∈ stationList, (t.stn i).grant = .absent) ∧
      (∀ k, (s.seq k).state ≠ .presenting → t.seq k = s.seq k) ∧
      ∀ k i v, (s.seq k).state = .presenting → s.grantedBy k = some i → (s.stn i).grant = .held k v →
        (t.seq k).state = .ready ∧ ∀ x, (s.seq k).currentTask = some x → (s.seq k).held = [] → s.Returned k x t := by
  induction l generalizing pre s with
  | nil =>
    rw [List.append_nil] at hl
    refine ⟨State.Halts.refl s, fun i hi => hpre i (hl ▸ hi), fun _ _ => rfl, fun k i v _ hi hg => ?_⟩
    have hi' : i ∈ stationList := List.mem_of_find?_eq_some hi
    rw [hpre i (hl ▸ hi')] at hg
    cases hg
  | cons i l ih =>
    obtain ⟨hpart, habs, hkept, hret⟩ := stationHalt_drops (i := i) hc fun k v hg => grantedBy_first hl hpre hg
    rw [List.foldl_cons]
    generalize stationHalt i s = u at hpart habs hkept hret
    have hpre' : ∀ j ∈ pre ++ [i], (u.stn j).grant = .absent := fun j hj => by
      by_cases hji : j = i
      · rw [hji]; exact habs
      · rw [hpart.stations j hji]
        rcases List.mem_append.1 hj with hj | hj
        · exact hpre j hj
        · exact absurd (List.mem_singleton.1 hj) hji
    obtain ⟨hhalts, hall, hrest, hlater⟩ := ih (pre := pre ++ [i]) (by rw [hl]; simp) (hpart.halts.cell.trans hc) hpre'
    refine ⟨hpart.halts.trans hhalts, hall, fun k hk => ?_, fun k j v hp hj hg => ?_⟩
    · have hu := hkept k (.inl hk)
      exact (hrest k (by rw [hu]; exact hk)).trans hu
    · by_cases hji : j = i
      · subst hji
        obtain ⟨hready, hx⟩ := hret k v hg hp
        have hk := hrest k (by rw [hready]; nofun)
        exact ⟨by rw [hk]; exact hready, fun x hcur hh => (hx x hcur hh).grow hk hhalts.mail⟩
      · have hno : ∀ w, (s.stn i).grant ≠ .held k w := fun w hw =>
          hji (Option.some.inj (hj.symm.trans (grantedBy_first hl hpre hw)))
        have hu := hkept k (.inr hno)
        have hholds : ∀ n, ((u.stn n).holder.any fun h => h.1 = k) = (s.stn n).holder.any fun h => h.1 = k := fun n => by
          by_cases hn : n = i
          · subst hn
            have hs : ((s.stn n).holder.any fun h => h.1 = k) = false := by
              unfold Stn.holder
              cases hgn : (s.stn n).grant with
              | absent => rfl
              | offered _ => rfl
              | held m w =>
                have : m ≠ k := fun h => hno w (h ▸ hgn)
                simp [this]
            rw [hs]
            simp [Stn.holder, habs]
          · rw [hpart.stations n hn]
        have hby : u.grantedBy k = some j := by rw [← hj, State.grantedBy, State.grantedBy]; simp only [hholds]
        obtain ⟨hready, hx⟩ := hlater k j v (by rw [hu]; exact hp) hby (by rw [hpart.stations j hji]; exact hg)
        rw [hu] at hx
        refine ⟨hready, fun x hcur hh => ?_⟩
        obtain ⟨h1, h2, h3⟩ := hx x hcur hh
        exact ⟨h1, h2, hu ▸ h3⟩

/-- The stations attended to after a halt keep their records. -/
theorem attendEnded_halted (s₀ : State) {s : State} (hc : s.mgmt.cell = .halted) :
    s.Halts (attendEnded s₀ s) ∧ (attendEnded s₀ s).seqs = s.seqs ∧
      ∀ i, ((attendEnded s₀ s).stn i).grant = (s.stn i).grant := by
  unfold attendEnded
  generalize stationList = l
  induction l generalizing s with
  | nil => exact ⟨State.Halts.refl s, rfl, fun _ => rfl⟩
  | cons i l ih =>
    rw [List.foldl_cons]
    split
    · obtain ⟨hat, hseqs, hg⟩ := attend_part hc i
      obtain ⟨h1, h2, h3⟩ := ih (hat.halts.cell.trans hc)
      refine ⟨hat.halts.trans h1, h2.trans hseqs, fun j => (h3 j).trans ?_⟩
      by_cases hj : j = i
      · rw [hj]; exact hg
      · rw [hat.stations j hj]
    · exact ih hc

/-- A frame sent, and one pushed out for it, leave the sessions and the time. -/
theorem sendOrKeep_sessions (b : Block) (a : Target) (p : Payload) (s : State) :
    (sendOrKeep b a p s).1.sessions = s.sessions ∧ (sendOrKeep b a p s).1.now = s.now := by
  have hback : ∀ (f : TxFrame) (u : State), (handBack f u).sessions = u.sessions ∧ (handBack f u).now = u.now := fun f u => by
    unfold handBack
    split
    · split <;> exact ⟨rfl, rfl⟩
    all_goals exact ⟨rfl, rfl⟩
  have hoffer : ∀ (f : TxFrame), (offerFrame f s).1.sessions = s.sessions ∧ (offerFrame f s).1.now = s.now := fun f => by
    unfold offerFrame
    split
    · exact ⟨rfl, rfl⟩
    split
    · split
      · exact hback _ _
      · exact ⟨rfl, rfl⟩
    · exact ⟨rfl, rfl⟩
  unfold sendOrKeep offerOrKeep
  split
  · exact ⟨rfl, rfl⟩
  · dsimp only
    split <;> exact hoffer _

end Sys2Proof.Machine

namespace Sys2Proof.Machine

/-! ## CELL-HALT (R183) -/

/-- What a halt leaves of carousel `k`. -/
structure State.CarouselHalts (s : State) (k : Carousel) (t : State) : Prop where
  other : (s.seq k).state = .unconfigured ∨ (s.seq k).state = .unknown ∨ (s.seq k).state = .manual ∨
    (s.seq k).state = .fault ∨ (s.seq k).state = .disabled ∨ (s.seq k).state = .ready → t.seq k = s.seq k
  stopping : ((s.seq k).state = .moving ∧ s.fe.queue.any (isFrameOf (.seq k) 1) = false) ∨ (s.seq k).state = .stopping →
    t.seq k = { s.seq k with state := .stopping, move := (s.seq k).move.map fun m => { m with stop := some .halt } }
  withdrawn : (s.seq k).state = .moving → s.fe.queue.any (isFrameOf (.seq k) 1) = true →
    let rest : Seq := { s.seq k with state := .idle, move := none, built := none, current := none, short := 0 }
    ((∀ x ∈ (s.seq k).queue, (s.seq k).index ≠ some x.carrier) → t.seq k = rest) ∧
    (∀ x xs, (s.seq k).queue = x :: xs → (s.seq k).index = some x.carrier → s.presentable k x = true →
      t.seq k = { rest with state := .ready, current := some x.num })
  presenting : ∀ i v, (s.seq k).state = .presenting → s.grantedBy k = some i → (s.stn i).grant = .held k v →
    (t.seq k).state = .ready ∧ ∀ x, (s.seq k).currentTask = some x → (s.seq k).held = [] → s.Returned k x t

/-- The carousels' parts of a halt: each finds its carousel, and the MOVE frame of it, as the halt did. -/
theorem seqHalts_effect {s : State} (hc : s.mgmt.cell = .halted) :
    let t := carousels.foldl (fun s k => seqHalt k s) s
    s.Halts t ∧ t.stations = s.stations ∧ ∀ k, ∃ x, x.mgmt.cell = .halted ∧ s.Halts x ∧ State.movesAlike k s x ∧
      t.seq k = (seqHalt k x).seq k := by
  have hk : ∀ k : Carousel, k ∈ carousels := by decide
  obtain ⟨⟨hw, hstn⟩, -, hpart⟩ := foldl_parts (I := fun s => s.mgmt.cell = .halted)
    (R := fun s t => s.Halts t ∧ t.stations = s.stations) (P := State.movesAlike) (f := fun s k => seqHalt k s)
    (fun s => ⟨State.Halts.refl s, rfl⟩) (fun h h' => ⟨h.1.trans h'.1, h'.2.trans h.2⟩) State.movesAlike.refl
    State.movesAlike.trans (fun s k hc => by
      obtain ⟨h1, h2, h3⟩ := seqHalt_halts k hc
      exact ⟨h1.cell.trans hc, ⟨h1, h2⟩, h3⟩) (l := carousels) (by decide) hc
  refine ⟨hw, hstn, fun k => ?_⟩
  obtain ⟨x, hxc, hx, halike, hend⟩ := hpart k (hk k)
  exact ⟨x, hxc, hx.1, halike, hend.1⟩

/-- The parts of the carousels and the stations in a halt. -/
def haltParts (s : State) : State :=
  stationList.foldl (fun s i => stationHalt i s) (carousels.foldl (fun s k => seqHalt k s) s)

theorem haltParts_effect {s : State} (hc : s.mgmt.cell = .halted) :
    s.Halts (haltParts s) ∧ (∀ i, ((haltParts s).stn i).grant = .absent) ∧ ∀ k, s.CarouselHalts k (haltParts s) := by
  have hi : ∀ i : Station, i ∈ stationList := by decide
  have hcar := seqHalts_effect hc
  unfold haltParts
  generalize carousels.foldl (fun s k => seqHalt k s) s = w at hcar
  obtain ⟨hw, hstn, hpart⟩ := hcar
  have hsts := stationHalts_effect (l := stationList) (pre := []) rfl (s := w) (hw.cell.trans hc) nofun
  generalize stationList.foldl (fun s i => stationHalt i s) w = v at hsts
  obtain ⟨hv, habs, hkept, hret⟩ := hsts
  refine ⟨hw.trans hv, fun i => habs i (hi i), fun k => ?_⟩
  obtain ⟨x, hxc, hx, ⟨hseq, hany⟩, hend⟩ := hpart k
  have hpres : ∀ y, x.presentable k y = s.presentable k y := fun y => by
    have hr := hx.rest
    rw [hr]; rfl
  have hfinal : ∀ {q : Seq}, (seqHalt k x).seq k = q → q.state ≠ .presenting → v.seq k = q := fun hq hne => by
    have hwq := hend.trans hq
    exact (hkept k (by rw [hwq]; exact hne)).trans hwq
  have hsame : ((s.seq k).state = .unconfigured ∨ (s.seq k).state = .unknown ∨ (s.seq k).state = .manual ∨
      (s.seq k).state = .fault ∨ (s.seq k).state = .disabled ∨ (s.seq k).state = .ready ∨ (s.seq k).state = .presenting) →
      (seqHalt k x).seq k = s.seq k := fun h => by rw [seqHalt_other (by rw [hseq]; exact h), hseq]
  refine ⟨fun h => ?_, fun h => ?_, fun hm hout => ?_, fun i v hp hg hgi => ?_⟩
  · refine hfinal (hsame ?_) ?_
    · rcases h with h | h | h | h | h | h <;> simp [h]
    · rcases h with h | h | h | h | h | h <;> rw [h] <;> nofun
  · refine hfinal ?_ (by nofun)
    rw [seqHalt_stopping (by rw [hseq, hany]; exact h), hseq]
  · obtain ⟨h1, h2⟩ := seqHalt_withdrawn (k := k) hxc (by rw [hseq]; exact hm) (by rw [hany]; exact hout)
    simp only [hseq, hpres] at h1 h2
    exact ⟨fun h => hfinal (h1 h) nofun, fun y ys hq hidx hy => hfinal (h2 y ys hq hidx hy) nofun⟩
  · have hwk : w.seq k = s.seq k := hend.trans (hsame (by simp [hp]))
    obtain ⟨hready, hx⟩ := hret k i v (by rw [hwk]; exact hp)
      (by rw [← hg, State.grantedBy, State.grantedBy]; simp only [State.stn, hstn]) (by rw [← hgi, State.stn, State.stn, hstn])
    rw [hwk] at hx
    refine ⟨hready, fun y hcur hh => ?_⟩
    obtain ⟨h1, h2, h3⟩ := hx y hcur hh
    exact ⟨h1, h2, hwk ▸ h3⟩

/-- The state in which the parts of a halt begin: the HALT for group 0 has been offered, and the cell is HALTED. -/
def State.haltBegun (s : State) : State :=
  let s := (sendOrKeep .management (.group 0) (.halt false) s).1
  s.modMgmt fun m => { m with cell := .halted, haltedAt := s.now }

theorem haltBegun_cell (s : State) : s.haltBegun.mgmt.cell = .halted := rfl

/-- The audit sessions paused. -/
def State.sessionsPaused (s : State) : State := { s with sessions := s.sessions.map fun o => o.map (pauseSession s.now) }

theorem State.sessionsPaused_cell (s : State) : s.sessionsPaused.mgmt.cell = s.mgmt.cell := rfl

theorem haltCell_eq (s : State) : haltCell s = (haltParts s.haltBegun).sessionsPaused := rfl

/-- With room in the transmit queue, the HALT joins it, and nothing is pushed out. -/
theorem haltBegun_room {s : State} (h : s.fe.queue.length < 32) : ∃ l,
    s.haltBegun = { s with fe := { s.fe with queue := l }, mgmt := { s.mgmt with cell := .halted, haltedAt := s.now } } ∧
      frameTo .management 64 (.halt false) ∈ l ∧
      ∀ k : Carousel, l.any (isFrameOf (.seq k) 1) = s.fe.queue.any (isFrameOf (.seq k) 1) := by
  refine ⟨joinQueue (frameTo .management 64 (.halt false)) s.fe.queue, ?_, ?_, fun k => ?_⟩
  · simp only [State.haltBegun, sendOrKeep_room .management (t := .group 0) (.halt false) rfl h]
    rfl
  · unfold joinQueue
    split <;> simp
  · have hno : isFrameOf (.seq k) 1 (frameTo .management 64 (.halt false)) = false := by simp [isFrameOf, frameTo]
    unfold joinQueue
    split
    · rw [List.any_append, List.any_cons, hno, Bool.false_or, ← List.any_append, List.takeWhile_append_dropWhile]
    · simp [hno]

theorem exec_cellHalt {s : State} {q : Req} (hs : s.asks q) : exec (.cellHalt q) s =
    .next ((attendEnded (s.asked q 66) (cellHaltRequest (s.asked q 66)).1).replied q 66 (cellHaltRequest (s.asked q 66)).2 []) := by
  have h : exec (.cellHalt q) s = carry s (request q 66 (settled cellHaltRequest)) := rfl
  rw [h, carry_begun hs.1.1, request_asked hs]
  simp only [settled, addReply_plain]

/-- A halt of a RUNNING cell: the cell is HALTED, every grant ends, the sessions are paused, and with room for the HALT of
group 0 the carousels stop. -/
theorem cellHalt_running {s : State} {q : Req} (hs : s.asks q) (hc : s.mgmt.cell = .running) :
    ∃ t, exec (.cellHalt q) s = .next t ∧ t.mgmt.cell = .halted ∧ t.mgmt.haltedAt = s.now ∧
      (∀ i : Station, (t.stn i).grant = .absent) ∧ (∃ rs, t.mgmt.replies = rs ++ [replyTo q 66 .done []]) ∧
      (∀ k : Carousel, t.session k = (s.session k).map (pauseSession s.now)) ∧
      (s.fe.queue.length < 32 → s.answeredDone q 66 t ∧ frameTo .management 64 (.halt false) ∈ t.fe.queue ∧
        ∀ k : Carousel, s.CarouselHalts k t) := by
  have hreq : cellHaltRequest (s.asked q 66) = (haltCell (s.asked q 66), .done) := by
    unfold cellHaltRequest
    rw [show (s.asked q 66).mgmt.cell = .running from hc]
  obtain ⟨hses, hnow⟩ := sendOrKeep_sessions .management (.group 0) (.halt false) (s.asked q 66)
  obtain ⟨hparts, habs, hcar⟩ := haltParts_effect (haltBegun_cell (s.asked q 66))
  have hcell : (haltParts (s.asked q 66).haltBegun).mgmt.cell = .halted := hparts.cell.trans (haltBegun_cell _)
  have hat := attendEnded_halted (s.asked q 66) (s := haltCell (s.asked q 66)) (by
    rw [haltCell_eq, State.sessionsPaused_cell, hcell])
  refine ⟨_, exec_cellHalt hs, ?_⟩
  rw [hreq]
  generalize attendEnded (s.asked q 66) (haltCell (s.asked q 66)) = t at hat
  obtain ⟨hhalts, hseqs, hgrant⟩ := hat
  rw [haltCell_eq] at hhalts hseqs hgrant
  generalize haltParts (s.asked q 66).haltBegun = v at hcell hparts habs hcar hhalts hseqs hgrant
  have hvr := hparts.rest
  have htr := hhalts.rest
  have hvnow : v.now = s.now := by rw [hvr]; exact hnow
  have hvses : v.sessions = s.sessions := by rw [hvr]; exact hses
  have htseq : ∀ k, t.seq k = v.seq k := fun k => by rw [State.seq, hseqs]; rfl
  refine ⟨hhalts.cell.trans hcell, ?_, fun i => (hgrant i).trans (habs i), ⟨_, rfl⟩, fun k => ?_, fun hroom => ?_⟩
  · show t.mgmt.haltedAt = s.now
    rw [htr]
    show v.mgmt.haltedAt = s.now
    rw [hvr]
    exact hnow
  · show t.session k = _
    rw [htr]
    simp only [State.session, State.sessionsPaused, hvses, hvnow, Vector.getElem_map, Fin.getElem_fin]
  · obtain ⟨l, hl, hmem, hany⟩ := haltBegun_room (s := s.asked q 66) hroom
    rw [hl] at hparts hcar
    refine ⟨?_, hhalts.frames _ (hparts.frames _ hmem rfl) rfl, fun k => ?_⟩
    · have hr : t.mgmt.replies = s.mgmt.replies := by
        rw [htr]
        show v.mgmt.replies = _
        rw [hparts.rest]
        rfl
      exact congrArg (· ++ [replyTo q 66 .done []]) hr
    · obtain ⟨h1, h2, h3, h4⟩ := hcar k
      have hanyk := hany k
      refine ⟨fun h => (htseq k).trans (h1 h), fun h => (htseq k).trans (h2 ?_), fun hm hout => ?_, fun i w hp hg hgi => ?_⟩
      · exact h.imp_left fun h => ⟨h.1, hanyk.trans h.2⟩
      · obtain ⟨h5, h6⟩ := h3 hm (hanyk.trans hout)
        exact ⟨fun h => (htseq k).trans (h5 h), fun x xs hx hi hp => (htseq k).trans (h6 x xs hx hi hp)⟩
      · obtain ⟨hready, hx⟩ := h4 i w hp hg hgi
        refine ⟨(congrArg Seq.state (htseq k)).trans hready, fun x hcur hh => ?_⟩
        obtain ⟨h5, h6, h7⟩ := hx x hcur hh
        exact ⟨(congrArg Seq.current (htseq k)).trans h5, fun p hpx ho => hhalts.mail.subset (h6 p hpx ho),
          fun hk hn => (htseq k).trans (h7 hk hn)⟩

end Sys2Proof.Machine

namespace Sys2Proof.Machine

/-! ## CELL-RESTART (R185): the records one by one -/

theorem dropEmpty_counted (ps : List Placement) : dropEmpty (ps.map fun p => { p with reserved := 0, incoming := 0 }) =
    (ps.filter fun p => decide (0 < p.onHand)).map fun p => { p with reserved := 0, incoming := 0 } := by
  rw [dropEmpty, List.filter_map]
  congr 1
  refine List.filter_congr fun p _ => ?_
  rw [Bool.eq_iff_iff]
  simp [Nat.pos_iff_ne_zero]

theorem restartState_eq (x : CarrierState) :
    restartState x = if x = .auditPending ∨ x = .auditLocked then .normal else x := by cases x <;> rfl

theorem restartCarriers_getElem? (ex : Nat → Bool) (ov : Carrier → Bool) (i : Nat) (l : List Carrier) (c : Nat) :
    (restartCarriers ex ov i l)[c]? = l[c]?.map fun x => restartCarrier (ex (i + c)) (ov x) x := by
  induction l generalizing i c with
  | nil => rfl
  | cons x l ih =>
    cases c with
    | zero => rfl
    | succ c =>
      simp only [restartCarriers, List.getElem?_cons_succ, ih]
      rw [Nat.add_right_comm, Nat.add_assoc]

theorem LaneRec.restart_eq (x : LaneRec) : x.restart = { x with
    state := if x.state = .releaseWait ∨ x.state = .flushing then .coupled else x.state,
    comps := x.comps.map fun _ => { state := .free, order := none } } := by
  unfold LaneRec.restart
  cases x.state <;> rfl

/-- What the balance part of a restart leaves: the notices and reports about the balances change with them. -/
structure State.Rebalanced (s t : State) : Prop where
  rest : t = { s with balance := t.balance, mail := t.mail, mgmt := { s.mgmt with
    notices := t.mgmt.notices, noticeSeq := t.mgmt.noticeSeq, dropped := t.mgmt.dropped } }

theorem State.Rebalanced.trans {s t u : State} (h : s.Rebalanced t) (h' : t.Rebalanced u) : s.Rebalanced u := by
  obtain ⟨ht⟩ := h
  obtain ⟨hu⟩ := h'
  rw [ht] at hu
  exact ⟨hu⟩

theorem balanceReports_rebalanced (k : Carousel) (old new : Balance) (s : State) :
    s.Rebalanced (balanceReports k old new s) ∧ (balanceReports k old new s).balance = s.balance := by
  unfold balanceReports
  dsimp only
  split <;> split <;> exact ⟨⟨rfl⟩, rfl⟩

theorem rebalance_effect (k : Carousel) (s : State) : s.Rebalanced (rebalance k id s) ∧
    (rebalance k id s).bal k = (s.bal k).map Balance.recompute ∧ ∀ j, j ≠ k → (rebalance k id s).bal j = s.bal j := by
  unfold rebalance
  cases hb : s.bal k with
  | none => exact ⟨⟨rfl⟩, hb, fun _ _ => rfl⟩
  | some old =>
    have hset : s.Rebalanced (s.setBal k (some old.recompute)) := ⟨rfl⟩
    obtain ⟨hrep, hbal⟩ := balanceReports_rebalanced k old old.recompute (s.setBal k (some old.recompute))
    dsimp only [id]
    refine ⟨hset.trans hrep, ?_, fun j hj => ?_⟩
    · rw [State.bal, hbal]
      exact State.bal_setBal s k _
    · rw [State.bal, hbal]
      exact State.bal_setBal_ne s _ hj

theorem rebalances_effect {l : List Carousel} (hl : l.Nodup) (s : State) :
    let t := l.foldl (fun s k => rebalance k id s) s
    s.Rebalanced t ∧ ∀ k, t.bal k = if k ∈ l then (s.bal k).map Balance.recompute else s.bal k := by
  induction l generalizing s with
  | nil => exact ⟨⟨rfl⟩, fun _ => rfl⟩
  | cons j l ih =>
    obtain ⟨hj, hself, hother⟩ := rebalance_effect j s
    rw [List.foldl_cons]
    obtain ⟨hrest, hbal⟩ := ih (List.nodup_cons.1 hl).2 (rebalance j id s)
    refine ⟨hj.trans hrest, fun k => (hbal k).trans ?_⟩
    by_cases hk : k = j
    · subst hk
      rw [if_neg (List.nodup_cons.1 hl).1, if_pos List.mem_cons_self, hself]
    · rw [hother k hk]
      simp only [List.mem_cons, hk, false_or]

/-- A NORMAL frame offered changes the queue and the blocks that wait alone. -/
theorem offerFrame_normal_fe {f : TxFrame} (hf : f.urgent = false) (s : State) :
    ∃ l w, (offerFrame f s).1.fe = { s.fe with queue := l, waiting := w } := by
  unfold offerFrame
  simp only [hf, Bool.false_and, Bool.false_eq_true, ↓reduceIte]
  split
  · exact ⟨_, _, rfl⟩
  · split <;> exact ⟨_, _, rfl⟩

theorem sendContent_fe (i : Station) (c : Content) (s : State) :
    ∃ l w, (sendContent i c s).fe = { s.fe with queue := l, waiting := w } := by
  unfold sendContent replacePayload
  by_cases hq : s.fe.queue.any (isFrameOf (.station i) (payloadKind (.panelShow c))) = true
  · simp only [hq, ↓reduceIte]
    exact ⟨_, _, rfl⟩
  · simp only [hq, Bool.false_eq_true, ↓reduceIte]
    have hoffer : ∃ l w, (offer (.station i) (panelOf i) (.panelShow c) s).1.fe = { s.fe with queue := l, waiting := w } := by
      unfold offer
      split
      · exact ⟨_, _, rfl⟩
      · exact offerFrame_normal_fe rfl s
    split <;> exact hoffer

/-- What the displays shown anew leave. -/
structure State.Repaneled (s t : State) : Prop where
  rest : t = { s with fe := { s.fe with queue := t.fe.queue, waiting := t.fe.waiting }, stations := t.stations, mail := t.mail }
  stations : ∀ i, t.stn i = { s.stn i with display := (t.stn i).display }

theorem State.Repaneled.trans {s t u : State} (h : s.Repaneled t) (h' : t.Repaneled u) : s.Repaneled u := by
  obtain ⟨ht, hts⟩ := h
  obtain ⟨hu, hus⟩ := h'
  refine ⟨?_, fun i => ?_⟩
  · rw [ht] at hu
    exact hu
  · have := hus i
    rw [hts i] at this
    exact this

theorem refresh_repaneled (i : Station) (s : State) : s.Repaneled (refresh i s) := by
  have hfe : ∃ l w, (refresh i s).fe = { s.fe with queue := l, waiting := w } := by
    unfold refresh
    dsimp only
    split
    · exact sendContent_fe i _ s
    · exact ⟨_, _, rfl⟩
  obtain ⟨l, w, hfe⟩ := hfe
  obtain ⟨e, m, d, h, -⟩ := refresh_effect i s
  rw [h] at hfe ⊢
  obtain rfl : e = { s.fe with queue := l, waiting := w } := hfe
  refine ⟨rfl, fun j => ?_⟩
  by_cases hj : j = i
  · subst hj
    rw [State.stn_modStn]
    rfl
  · rw [State.stn_modStn_ne _ _ hj]
    rfl

theorem refreshes_repaneled (l : List Station) (s : State) : s.Repaneled (l.foldl (fun s i => refresh i s) s) := by
  induction l generalizing s with
  | nil => exact ⟨rfl, fun _ => rfl⟩
  | cons i l ih => exact (refresh_repaneled i s).trans (ih _)

/-- The restore queries sent are outstanding. -/
theorem sendFrames_effect (l : List (Nat × Bool)) (s : State) : ∃ o r,
    l.foldl (fun s e => sendFrame (frameTo .engine e.1 (.statusQuery 0)) s) s =
      { s with out := o, fe := { s.fe with outstanding := s.fe.outstanding ++ r } } ∧
      r.map (·.frame.dest) = l.map (·.1) := by
  induction l generalizing s with
  | nil => exact ⟨s.out, [], by simp, rfl⟩
  | cons e l ih =>
    obtain ⟨o, r, h, hr⟩ := ih (sendFrame (frameTo .engine e.1 (.statusQuery 0)) s)
    refine ⟨o, { frame := frameTo .engine e.1 (.statusQuery 0), deadline := s.now + s.mgmt.timers.round } :: r, ?_, ?_⟩
    · rw [List.foldl_cons, h]
      simp [sendFrame, State.modFe]
    · simp [hr, frameTo]

/-- A restore that starts afresh keeps the node map, the groups, the damaged count and the frames kept. -/
theorem restartRestore_effect (s : State) : ∃ e o m, restartRestore s = { s with fe := e, out := o, mail := m } ∧
    e.nodes = s.fe.nodes ∧ e.groups = s.fe.groups ∧ e.damaged = s.fe.damaged ∧ e.kept = s.fe.kept ∧
    (s.fe.ring = .restoring → restoreNodes s ≠ [] → s.clock = true → e.ring = .restoring ∧ e.restoreDeadline = none ∧
      e.restore = (restoreNodes s).map (fun a => (a, false)) ∧
      e.outstanding.map (·.frame.dest) = s.fe.outstanding.map (·.frame.dest) ++ restoreNodes s) := by
  unfold restartRestore startQueries
  split
  · next hr =>
    dsimp only
    split
    · next hn => exact ⟨_, _, _, rfl, rfl, rfl, rfl, rfl, fun _ h => absurd hn h⟩
    · unfold sendQueries
      obtain ⟨o, r, h, hdest⟩ := sendFrames_effect ((restoreNodes s).map fun a => (a, false))
        (s.modFe fun e => { e with restore := (restoreNodes s).map fun a => (a, false), restoreDeadline := none })
      split
      · refine ⟨_, _, _, h, rfl, rfl, rfl, rfl, fun _ _ _ => ⟨hr, rfl, rfl, ?_⟩⟩
        rw [List.map_append, hdest]
        simp [Function.comp_def, State.modFe]
      · next hc => exact ⟨_, _, _, rfl, rfl, rfl, rfl, rfl, fun _ _ h => absurd h hc⟩
  · next hr => exact ⟨_, _, _, rfl, rfl, rfl, rfl, rfl, fun h => absurd h hr⟩

end Sys2Proof.Machine

namespace Sys2Proof.Machine

/-! ## CELL-RESTART (R185) -/

/-- The records that a restart writes before the balances are recomputed. -/
def restartRecords (s : State) : State :=
  let s := { s with mail := s.mail.filter mailKept }
  let s := restartBook (restartAudits (restartLanes (restartStock s.keepsExcluded (restartFrames s))))
  { s with seqs := s.seqs.map Seq.restart, stations := s.stations.map Stn.restart }

theorem restartCell_eq (s : State) : restartCell s = restartRestore (stationList.foldl (fun s i => refresh i s)
    ((restartBalance (restartRecords s)).modMgmt Management.restart)) := rfl

/-- What a restart leaves: the records written, the balances recomputed, the displays shown anew, and a restore afresh. -/
structure State.Restarted (s t : State) : Prop where
  records : t = { restartRecords s with
    fe := t.fe, out := t.out, mail := t.mail, stations := t.stations, balance := t.balance, mgmt := s.mgmt.restart }
  balances : ∀ k, t.bal k = (s.bal k).map Balance.recompute
  stations : ∀ i, t.stn i = { (s.stn i).restart with display := (t.stn i).display }
  engine : t.fe.nodes = s.fe.nodes ∧ t.fe.groups = s.fe.groups ∧ t.fe.damaged = s.fe.damaged ∧ t.fe.kept = []
  up : s.fe.ring = .up → t.fe.ring = .up ∧ t.fe.outstanding = []
  restoring : s.fe.ring = .restoring → restoreNodes s ≠ [] → s.clock = true →
    t.fe.ring = .restoring ∧ t.fe.restoreDeadline = none ∧ t.fe.restore = (restoreNodes s).map (fun a => (a, false)) ∧
      t.fe.outstanding.map (·.frame.dest) = restoreNodes s

/-- The balances recomputed and the displays shown anew. -/
theorem restartShown_effect (r : State) : ∃ l w b x m,
    stationList.foldl (fun s i => refresh i s) ((restartBalance r).modMgmt Management.restart) =
      { r with fe := { r.fe with queue := l, waiting := w }, mail := m, stations := x, balance := b, mgmt := r.mgmt.restart } ∧
    (∀ k : Carousel, b[k] = (r.bal k).map Balance.recompute) ∧
    ∀ i : Station, x[i] = { r.stn i with display := x[i].display } := by
  have hk : ∀ k : Carousel, k ∈ carousels := by decide
  have hreb : r.Rebalanced (restartBalance r) ∧ ∀ k, (restartBalance r).bal k =
      if k ∈ carousels then (r.bal k).map Balance.recompute else r.bal k := rebalances_effect (by decide) r
  generalize restartBalance r = b at hreb
  obtain ⟨⟨hb⟩, hbal⟩ := hreb
  have hrep := refreshes_repaneled stationList (b.modMgmt Management.restart)
  generalize stationList.foldl (fun s i => refresh i s) (b.modMgmt Management.restart) = p at hrep
  obtain ⟨hp, hstn⟩ := hrep
  have hfe : b.fe = r.fe := by rw [hb]
  have hbstn : ∀ i, (b.modMgmt Management.restart).stn i = r.stn i := fun i => by rw [hb]; rfl
  have hmod : b.modMgmt Management.restart = { r with mail := b.mail, balance := b.balance, mgmt := r.mgmt.restart } := by
    rw [hb]
    rfl
  refine ⟨p.fe.queue, p.fe.waiting, b.balance, p.stations, p.mail, ?_, fun k => ?_, fun i => ?_⟩
  · rw [hmod] at hp
    exact hp
  · exact (hbal k).trans (if_pos (hk k))
  · have := hstn i
    rw [hbstn i] at this
    exact this

theorem restartRecords_stn (s : State) (i : Station) : (restartRecords s).stn i = (s.stn i).restart := by
  simp only [State.stn, restartRecords, Vector.getElem_map, Fin.getElem_fin]
  rfl

theorem restartRecords_kept (s : State) : (restartRecords s).fe = (restartFrames s).fe ∧ (restartRecords s).mgmt = s.mgmt ∧
    (restartRecords s).clock = s.clock ∧ (restartRecords s).balance = s.balance := by
  simp only [restartRecords, restartBook, restartAudits, restartLanes, restartStock, restartFrames, State.modFe, and_self]

theorem restartCell_restarted (s : State) : s.Restarted (restartCell s) := by
  obtain ⟨l, w, b, x, m, hp, hbal, hstn⟩ := restartShown_effect (restartRecords s)
  have hstn' : ∀ i : Station, x[i] = { (s.stn i).restart with display := x[i].display } := fun i => by
    have := hstn i
    rwa [restartRecords_stn] at this
  obtain ⟨hfe, hmgmt, hclock, hbalance⟩ := restartRecords_kept s
  have hbal' : ∀ k : Carousel, b[k] = (s.bal k).map Balance.recompute := fun k => by
    have := hbal k
    rwa [State.bal, hbalance] at this
  rw [hfe, hmgmt] at hp
  rw [restartCell_eq, hp]
  generalize hu : ({ restartRecords s with
    fe := { (restartFrames s).fe with queue := l, waiting := w }, mail := m, stations := x, balance := b,
    mgmt := s.mgmt.restart } : State) = u
  have hufe : u.fe = { (restartFrames s).fe with queue := l, waiting := w } := by rw [← hu]
  have hnodes : restoreNodes u = restoreNodes s := by rw [restoreNodes, restoreNodes, hufe]; rfl
  obtain ⟨e, o, m', ht, h1, h2, h3, h4, hres⟩ := restartRestore_effect u
  refine ⟨?_, ?_, ?_, ?_, fun hup => ?_, fun hr hn hc => ?_⟩
  · rw [ht, ← hu]
  · rw [ht, ← hu]; exact hbal'
  · rw [ht, ← hu]; exact hstn'
  · rw [ht]
    rw [hufe] at h1 h2 h3 h4
    exact ⟨h1, h2, h3, h4⟩
  · have hring : ¬ u.fe.ring = .restoring := by rw [hufe]; exact fun h => absurd (hup.symm.trans h) nofun
    have hstay : restartRestore u = u := if_neg hring
    rw [hstay, hufe]
    exact ⟨hup, rfl⟩
  · obtain ⟨hring, hdl, hrest, hout⟩ := hres (by rw [hufe]; exact hr) (by rw [hnodes]; exact hn)
      (by rw [← hu]; exact hclock.trans hc)
    rw [hnodes] at hrest hout
    rw [ht]
    refine ⟨hring, hdl, hrest, hout.trans ?_⟩
    rw [hufe]
    rfl

end Sys2Proof.Machine

namespace Sys2Proof.Machine

theorem restartRecords_emptied (s : State) :
    (restartRecords s).book = { orders := [], pool := [], arrivals := 0, creations := 0, poolFull := false, freed := false } ∧
      (restartRecords s).transit = { places := [], created := 0, waitStations := [], waiting := [] } ∧
      (restartRecords s).requests = [] ∧ (restartRecords s).sessions = Vector.replicate 8 none := by
  simp only [restartRecords, restartBook, restartAudits, restartLanes, and_self]

theorem restartRecords_seq (s : State) (k : Carousel) : (restartRecords s).seq k = (s.seq k).restart := by
  simp only [State.seq, restartRecords, Vector.getElem_map, Fin.getElem_fin]
  rfl

theorem restartRecords_lane (s : State) (l : Lane) : (restartRecords s).lane l = (s.lane l).restart := by
  simp only [State.lane, restartRecords, restartBook, restartAudits, restartLanes, Vector.getElem_map, Fin.getElem_fin]
  rfl

theorem restartRecords_lot (s : State) (n : Nat) :
    (restartRecords s).lot n = (s.lot n).map fun l => { l with reserved := 0, incoming := 0 } := by
  simp only [State.lot, restartRecords, restartBook, restartAudits, restartLanes, restartStock, tget_tmap]
  rfl

/-- The carriers of a carousel after a restart (R24). -/
def restartedCarriers (s : State) (k : Carousel) (car : StockCar) : List Carrier :=
  restartCarriers (s.keepsExcluded k) (fun x => s.overloaded car.rated x.placements) 0 car.carriers

theorem restartRecords_stockCar (s : State) (k : Carousel) :
    (restartRecords s).stockCar k = (s.stockCar k).map fun car => { car with carriers := restartedCarriers s k car } := by
  simp only [State.stockCar, restartRecords, restartBook, restartAudits, restartLanes, restartStock, Vector.getElem_ofFn,
    Fin.getElem_fin]
  rfl

theorem restartedCarriers_getElem? (s : State) (k : Carousel) (car : StockCar) (c : Nat) :
    (restartedCarriers s k car)[c]? = (car.carriers[c]?).map fun x =>
      { x with placements := (x.placements.filter fun p => decide (0 < p.onHand)).map (fun p =>
                 { p with reserved := 0, incoming := 0 }),
               state := if x.state = .auditPending ∨ x.state = .auditLocked then .normal else x.state,
               excluded := inWindow (s.seq k).window c, overload := decide (car.rated < s.actualMass x.placements) } := by
  rw [restartedCarriers, restartCarriers_getElem?]
  refine congrArg (fun f => Option.map f _) (funext fun x => ?_)
  simp only [restartCarrier, restartState_eq, dropEmpty_counted, Nat.zero_add]
  rfl

theorem exec_cellRestart {s : State} {q : Req} (hs : s.asks q) :
    exec (.cellRestart q) s = .next ((restartCell (s.asked q 67)).replied q 67 .done []) := by
  have h : exec (.cellRestart q) s = carry s (request q 67 (plain fun s => (restartCell s, .done))) := rfl
  rw [h, carry_plain hs]

theorem exec_cellStatus {s : State} {q : Req} (hs : s.asks q) :
    exec (.cellStatus q) s = .next ((((s.asked q 64).modFe fun e => { e with damaged := 0 }).modMgmt fun m =>
      { m with dropped := false }).replied q 64 .done (s.asked q 64).status) := by
  have h : exec (.cellStatus q) s = carry s (request q 64 cellStatusRequest) := rfl
  rw [h, carry_begun hs.1.1, request_asked hs]
  exact congrArg _ (addReply_done q 64 _ _)

/-- A run of a cell that is not RUNNING, where it may run and its scan queues are empty. -/
theorem cellRun_effect {s : State} {q : Req} (hs : s.asks q) (hc : s.mgmt.cell ≠ .running) (hrun : s.mayRun = true)
    (hq : ∀ i : Station, (s.stn i).queue = []) :
    ∃ t, exec (.cellRun q) s = .next t ∧ t.mgmt.cell = .running ∧ s.answeredDone q 65 t ∧
      (∀ k : Carousel, ¬ atRest (s.seq k).state → t.seq k = s.seq k) ∧
      (∀ k : Carousel, atRest (s.seq k).state → (s.nodeOf .drive k.val).isSome = true → (s.seq k).Lost (t.seq k)) ∧
      (∀ i : Station, (t.stn i).ready = Vector.replicate 8 false) ∧
      (s.mgmt.cell = .halted → ∀ n r, s.reservation n = some r → t.reservation n =
        some { r with expiry := r.expiry.map fun e => e + (s.now - s.mgmt.haltedAt) }) := by
  have hmay : (s.asked q 65).mayRun = true := hrun
  have hcell : (s.asked q 65).mgmt.cell ≠ .running := hc
  have hreq : cellRunRequest (s.asked q 65) = (runCell (s.asked q 65), .done) := by
    unfold cellRunRequest
    rw [if_neg hcell, if_pos hmay]
  have heff := runCell_effect (s := s.asked q 65) hq
  have hexec := exec_cellRun hs
  rw [hreq] at hexec
  generalize runCell (s.asked q 65) = t at heff hexec
  obtain ⟨hcell, hrep, hstay, hrest, hstn, hexp⟩ := heff
  refine ⟨_, hexec fun i => (hstn i).2, hcell, ?_, hstay, hrest, fun i => (hstn i).1, hexp⟩
  exact congrArg (· ++ [replyTo q 65 .done []]) hrep

/-- A restart (R185). -/
theorem cellRestart_effect {s : State} {q : Req} (hs : s.asks q) : ∃ t, exec (.cellRestart q) s = .next t ∧
    t.mgmt = { s.mgmt.restart with replies := [replyTo q 67 .done []] } ∧ ∃ u, (s.asked q 67).Restarted u ∧
      t = u.replied q 67 .done [] := by
  have h := restartCell_restarted (s.asked q 67)
  refine ⟨_, exec_cellRestart hs, ?_, _, h, rfl⟩
  have hm : (restartCell (s.asked q 67)).mgmt = s.mgmt.restart := by rw [h.records]; rfl
  rw [State.replied, State.modMgmt]
  dsimp only
  rw [hm]
  rfl

/-- Settles O44: CELL-RUN, CELL-HALT and CELL-RESTART each in the order of their parts, the carousels before the stations. -/
theorem cellRequests : Obligations.CellRequests := by
  intro s q hs
  refine ⟨exec_cellStatus hs, fun hc => ?_, ?_⟩
  · have hreq : cellRunRequest (s.asked q 65) = (s.asked q 65, .done) := if_pos hc
    rw [exec_cellRun hs (by intro i; rw [hreq]; rfl), hreq]
    rfl
  dsimp only
  refine ⟨fun hc hno => ?_, fun hc hmay hq => ?_, fun hc => ?_, fun hc => ?_, fun hc => ?_, ?_⟩
  · have hmay : ¬ (s.asked q 65).mayRun = true := fun h => hno (mayRun_iff.1 h)
    have hcell : (s.asked q 65).mgmt.cell ≠ .running := hc
    have hreq : cellRunRequest (s.asked q 65) = (s.asked q 65, .state) := by
      unfold cellRunRequest
      rw [if_neg hcell, if_neg hmay]
    rw [exec_cellRun hs (by intro i; rw [hreq]; rfl), hreq]
  · obtain ⟨t, ht, hcell, hrep, hstay, hrest, hready, hexp⟩ := cellRun_effect hs hc (mayRun_iff.2 hmay) hq
    refine ⟨t, ht, hcell, hrep, fun k h => hstay k ?_, fun k h hn => ?_, fun i k => ?_, hexp⟩
    · rcases h with h | h | h | h <;> simp [atRest, h]
    · have hl := hrest k h hn
      exact ⟨hl.state, hl.current, hl.move, hl.queue⟩
    · rw [hready]
      simp
  · have hreq : cellHaltRequest (s.asked q 66) = (s.asked q 66, .state) := by
      unfold cellHaltRequest
      rw [show (s.asked q 66).mgmt.cell = .loading from hc]
    rw [exec_cellHalt hs, hreq, attendEnded_stations rfl]
  · have hreq : cellHaltRequest (s.asked q 66) = (s.asked q 66, .done) := by
      unfold cellHaltRequest
      rw [show (s.asked q 66).mgmt.cell = .halted from hc]
    rw [exec_cellHalt hs, hreq, attendEnded_stations rfl]
    rfl
  · obtain ⟨t, ht, hcell, hat, hgr, hrep, hses, hroom⟩ := cellHalt_running hs hc
    refine ⟨t, ht, hcell, hat, hgr, hrep, hses, fun hr => ?_, fun hr k out hout => ?_⟩
    · obtain ⟨hans, hmem, hcar⟩ := hroom hr
      exact ⟨hans, hmem, fun k => (hcar k).other⟩
    · obtain ⟨-, -, hcar⟩ := hroom hr
      subst hout
      refine ⟨(hcar k).stopping, (hcar k).withdrawn, fun i x v hp hx hg hgi hh hn => ?_⟩
      obtain ⟨hready, hret⟩ := (hcar k).presenting i v hp hg hgi
      have hx' := hret x hx hh
      exact ⟨hready, hx'.current, hx'.told, fun hk => hx'.plain hk hn⟩
  · obtain ⟨t, ht, hm, u, hu, rfl⟩ := cellRestart_effect hs
    have hrec := hu.records
    obtain ⟨hbook, htransit, hreqs, hses⟩ := restartRecords_emptied (s.asked q 67)
    obtain ⟨hnodes, hgroups, hdamaged, hkept⟩ := hu.engine
    refine ⟨_, ht, hm, ?_, ?_, ?_, fun k => ⟨?_, ?_⟩, fun l => ?_, hu.stations, fun n => ?_,
      fun k => ⟨fun hno => ?_, fun car hcar => ?_⟩, hu.balances, hnodes, hgroups, hdamaged, hkept, hu.up, fun hr hn => ?_⟩
    · show u.book = _
      rw [hrec]; exact hbook
    · show u.transit = _
      rw [hrec]; exact htransit
    · show u.requests = _
      rw [hrec]; exact hreqs
    · show u.session k = none
      rw [hrec, State.session, hses]
      simp
    · show u.seq k = _
      rw [hrec]; exact restartRecords_seq _ k
    · show u.lane l = _
      rw [hrec]; exact (restartRecords_lane _ l).trans (LaneRec.restart_eq _)
    · show u.lot n = _
      rw [hrec]; exact restartRecords_lot _ n
    · show u.stockCar k = _
      rw [hrec]
      exact (restartRecords_stockCar _ k).trans (congrArg _ hno)
    · refine ⟨restartedCarriers (s.asked q 67) k car, ?_, restartedCarriers_getElem? _ k car⟩
      show u.stockCar k = _
      rw [hrec]
      exact (restartRecords_stockCar _ k).trans (congrArg _ hcar)
    · exact hu.restoring hr hn hs.1.2.1

end Sys2Proof.Machine

namespace Sys2Proof.Machine

/-! # The Balance Unit: the arithmetic of imbalance (R27 to R29, R34, R35) -/

section
variable {m : List Nat} {h n w : Nat}

/-! ## The worst imbalance and the worst rotation -/

theorem worstUpTo_le_iff : worstUpTo m h n ≤ w ↔ ∀ r, r < n → imbalanceAt m h r ≤ w := by
  induction n with
  | zero => simp [worstUpTo]
  | succ n ih => simp only [worstUpTo, max_le_iff, ih, Nat.forall_lt_succ_right]

theorem imbalanceAt_le_worst {r : Nat} (hr : r < n) : imbalanceAt m h r ≤ worstUpTo m h n :=
  worstUpTo_le_iff.1 (Nat.le_refl _) r hr

theorem worstUpTo_attained (hn : 0 < n) : ∃ r, r < n ∧ imbalanceAt m h r = worstUpTo m h n := by
  induction n with
  | zero => cases hn
  | succ n ih =>
    rcases Nat.eq_zero_or_pos n with rfl | hpos
    · exact ⟨0, Nat.one_pos, by simp [worstUpTo]⟩
    obtain ⟨r, hr, he⟩ := ih hpos
    rcases Nat.le_total (imbalanceAt m h n) (worstUpTo m h n) with hle | hle
    · exact ⟨r, Nat.lt_succ_of_lt hr, by rw [worstUpTo, max_eq_left hle, he]⟩
    · exact ⟨n, Nat.lt_succ_self n, by rw [worstUpTo, max_eq_right hle]⟩

theorem firstAt_lt (hn : 0 < n) : firstAt m h w n < n := by
  induction n with
  | zero => cases hn
  | succ n ih =>
    simp only [firstAt]
    split
    · omega
    · split
      · exact Nat.lt_succ_of_lt (ih (by omega))
      · split
        · exact Nat.lt_succ_self n
        · exact Nat.lt_succ_of_lt (ih (by omega))

/-- Where a rotation has the imbalance `w`, the one found has it, and none before it. -/
theorem firstAt_spec (hw : ∃ r, r < n ∧ imbalanceAt m h r = w) :
    imbalanceAt m h (firstAt m h w n) = w ∧ ∀ r, r < firstAt m h w n → imbalanceAt m h r ≠ w := by
  induction n with
  | zero => obtain ⟨r, hr, -⟩ := hw; cases hr
  | succ n ih =>
    obtain ⟨r, hr, he⟩ := hw
    rcases Nat.eq_zero_or_pos n with rfl | hpos
    · obtain rfl : r = 0 := by omega
      exact ⟨by simpa [firstAt] using he, fun i hi => by simp [firstAt] at hi⟩
    simp only [firstAt, if_neg (Nat.ne_of_gt hpos)]
    split
    · next hf => exact ih ⟨_, firstAt_lt hpos, hf⟩
    · next hf =>
      have hnone : ∀ i, i < n → imbalanceAt m h i ≠ w := fun i hi hiw => hf (ih ⟨i, hi, hiw⟩).1
      obtain rfl : r = n := by
        rcases Nat.lt_succ_iff_lt_or_eq.1 hr with hlt | rfl
        · exact absurd he (hnone r hlt)
        · rfl
      rw [if_pos he]
      exact ⟨he, hnone⟩

/-! ## W is at most T (R29) -/

theorem windowSum_le_total (m : List Nat) (h r : Nat) : windowSum m h r ≤ totalMass m :=
  ((List.take_sublist _ _).trans (List.drop_sublist _ _)).sum_le_sum (fun _ _ => Nat.zero_le _)

theorem imbalanceAt_le_total (m : List Nat) (h r : Nat) : imbalanceAt m h r ≤ totalMass m := by
  have := windowSum_le_total m h r
  unfold imbalanceAt
  omega

theorem worstImbalance_le_total (m : List Nat) : worstImbalance m ≤ totalMass m :=
  worstUpTo_le_iff.2 fun r _ => imbalanceAt_le_total m _ r

end

theorem claim_worstImbalance : Claims.WorstImbalance := by
  intro m hm h
  have hpos : 0 < h := Nat.div_pos hm (by decide)
  obtain ⟨hat, hfirst⟩ : imbalanceAt m h (worstRotation m) = worstImbalance m ∧
      ∀ r, r < worstRotation m → imbalanceAt m h r ≠ worstImbalance m := firstAt_spec (worstUpTo_attained hpos)
  have hlt : worstRotation m < h := firstAt_lt hpos
  have hworst : ∀ r, r < h → imbalanceAt m h r ≤ worstImbalance m := fun r => imbalanceAt_le_worst
  exact ⟨hworst, hlt, hat, fun r hr => Nat.lt_of_le_of_ne (hworst r (hr.trans hlt)) (hfirst r hr),
    worstImbalance_le_total m⟩

/-! ## One carrier's mass and the imbalance (R34, R35)

As the mass of one carrier grows, 2 × S_r − T changes by as much in one direction: W is a convex function of it. -/

/-- The sum of a vector with one entry replaced. -/
theorem sum_set_nat {m : List Nat} {c : Nat} (hc : c < m.length) (x : Nat) : (m.set c x).sum + m[c] = m.sum + x := by
  induction m generalizing c with
  | nil => cases hc
  | cons y m ih =>
    cases c with
    | zero => simp only [List.set_cons_zero, List.sum_cons, List.getElem_cons_zero]; omega
    | succ c =>
      have := ih (c := c) (by simpa using hc)
      simp only [List.set_cons_succ, List.sum_cons, List.getElem_cons_succ]
      omega

theorem windowSum_set {m : List Nat} {h r c : Nat} (hc : c < m.length) (x : Nat) :
    windowSum (m.set c x) h r + (if r ≤ c ∧ c < r + h then m[c] else 0) =
      windowSum m h r + (if r ≤ c ∧ c < r + h then x else 0) := by
  unfold windowSum
  by_cases hr : r ≤ c
  · by_cases hh : c < r + h
    · have hlen : c - r < ((m.drop r).take h).length := by
        simp only [List.length_take, List.length_drop]; omega
      have := sum_set_nat hlen x
      rw [if_pos ⟨hr, hh⟩, if_pos ⟨hr, hh⟩, List.drop_set, if_neg (by omega), List.take_set]
      simpa [List.getElem_take, List.getElem_drop, Nat.add_sub_cancel' hr] using this
    · rw [if_neg (by omega), if_neg (by omega), List.drop_set, if_neg (by omega), List.take_set,
        List.set_eq_of_length_le (by simp only [List.length_take, List.length_drop]; omega)]
  · rw [if_neg (by omega), if_neg (by omega), List.drop_set, if_pos (by omega)]

/-- The imbalance of a rotation is the distance of one carrier's mass from a point, on one side of it or the other. -/
theorem imbalanceAt_set {m : List Nat} {h r c : Nat} (hc : c < m.length) :
    ∃ a : Int, ∀ x : Nat, (imbalanceAt (m.set c x) h r : Int) = |(x : Int) - a| := by
  by_cases hin : r ≤ c ∧ c < r + h
  · refine ⟨-(2 * windowSum m h r - 2 * m[c] - (totalMass m - m[c])), fun x => ?_⟩
    have hs := windowSum_set (h := h) (r := r) hc x
    have ht := sum_set_nat hc x
    rw [if_pos hin, if_pos hin] at hs
    rw [imbalanceAt, totalMass, Int.natCast_natAbs]
    unfold totalMass
    congr 1
    omega
  · refine ⟨2 * windowSum m h r - (totalMass m - m[c]), fun x => ?_⟩
    have hs := windowSum_set (h := h) (r := r) hc x
    have ht := sum_set_nat hc x
    rw [if_neg hin, if_neg hin] at hs
    rw [imbalanceAt, totalMass, Int.natCast_natAbs, ← abs_neg]
    unfold totalMass
    congr 1
    omega

/-- W of a vector whose entry `c` is `x`. -/
theorem worstImbalance_set_le_iff {m : List Nat} {c x w : Nat} : worstImbalance (m.set c x) ≤ w ↔
    ∀ r, r < m.length / 2 → imbalanceAt (m.set c x) (m.length / 2) r ≤ w := by
  rw [worstImbalance, List.length_set]
  exact worstUpTo_le_iff

/-- Between two masses of a carrier W is nowhere above both of its ends. -/
theorem worstImbalance_between {m : List Nat} {c x y z w : Nat} (hc : c < m.length) (hxy : x ≤ y) (hyz : y ≤ z)
    (hx : worstImbalance (m.set c x) ≤ w) (hz : worstImbalance (m.set c z) ≤ w) : worstImbalance (m.set c y) ≤ w := by
  rw [worstImbalance_set_le_iff] at hx hz ⊢
  intro r hr
  obtain ⟨a, ha⟩ := imbalanceAt_set (h := m.length / 2) (r := r) hc
  have h1 := hx r hr
  have h2 := hz r hr
  have e1 := ha x
  have e2 := ha y
  have e3 := ha z
  rw [abs_eq_max_neg] at e1 e2 e3
  omega

/-- Where W at the greater end is the smaller one, it is below the other end everywhere but there. -/
theorem worstImbalance_falls {m : List Nat} {c x y z : Nat} (hc : c < m.length) (hxy : x < y) (hyz : y ≤ z)
    (hz : worstImbalance (m.set c z) < worstImbalance (m.set c x)) :
    worstImbalance (m.set c y) < worstImbalance (m.set c x) := by
  generalize hw : worstImbalance (m.set c x) = w at hz ⊢
  have hx := worstImbalance_set_le_iff.1 (Nat.le_of_eq hw)
  have hz' := worstImbalance_set_le_iff.1 (Nat.le_pred_of_lt hz)
  refine Nat.lt_of_le_pred (by omega) (worstImbalance_set_le_iff.2 fun r hr => ?_)
  obtain ⟨a, ha⟩ := imbalanceAt_set (h := m.length / 2) (r := r) hc
  have h1 := hx r hr
  have h2 := hz' r hr
  have e1 := ha x
  have e2 := ha y
  have e3 := ha z
  rw [abs_eq_max_neg] at e1 e2 e3
  rw [Nat.pred_eq_sub_one] at h2 ⊢
  omega

/-! ## The passing counts of the balance query (R35) -/

/-- The candidate test compares the worst imbalances with the limit and with each other. -/
theorem candidateWith_pass_iff {s : State} {k : Carousel} {hard c added : Nat} :
    (s.candidateWith k hard c added).pass = true ↔
      worstImbalance ((s.plannedMasses k).set c (min (s.plannedMassAt k c + added) 2047)) ≤ hard ∨
      worstImbalance ((s.plannedMasses k).set c (min (s.plannedMassAt k c + added) 2047)) < worstImbalance (s.plannedMasses k) := by
  simp only [State.candidateWith, Bool.or_eq_true]
  exact or_congr decide_eq_true_iff decide_eq_true_iff

/-- A carrier's planned mass stands clamped in the vector (R34). -/
theorem plannedMasses_getElem {s : State} {k : Carousel} {c : Nat} (hc : c < (s.plannedMasses k).length) :
    (s.plannedMasses k)[c] = min (s.plannedMassAt k c) 2047 := by
  cases hk : s.stockCar k with
  | none => simp [State.plannedMasses, hk] at hc
  | some car =>
    have hlen : c < car.carriers.length := by simpa [State.plannedMasses, hk] using hc
    simp [State.plannedMasses, State.plannedMassAt, State.carrier, hk, List.getElem?_eq_getElem hlen, Config.massClamp]

theorem claim_passingCountsRun : Claims.PassingCountsRun := by
  intro s k hard c mass n i hn hi hin
  rw [candidateWith_pass_iff] at hn ⊢
  by_cases hc : c < (s.plannedMasses k).length
  swap
  · rwa [List.set_eq_of_length_le (by omega)] at hn ⊢
  have hself : (s.plannedMasses k).set c (min (s.plannedMassAt k c) 2047) = s.plannedMasses k := by
    rw [← plannedMasses_getElem hc, List.set_getElem_self]
  have hmono : i * mass ≤ n * mass := Nat.mul_le_mul_right _ hin
  rcases Nat.lt_or_ge (worstImbalance ((s.plannedMasses k).set c (min (s.plannedMassAt k c + n * mass) 2047)))
    (worstImbalance (s.plannedMasses k)) with hlt | hge
  · right
    have hpos : min (s.plannedMassAt k c) 2047 < min (s.plannedMassAt k c + i * mass) 2047 := by
      refine Nat.lt_of_le_of_ne (by omega) fun he => ?_
      have hsame : min (s.plannedMassAt k c + n * mass) 2047 = min (s.plannedMassAt k c) 2047 := by
        rcases Nat.eq_zero_or_pos mass with rfl | hm
        · simp
        · have := Nat.le_mul_of_pos_left mass hi
          omega
      rw [hsame, hself] at hlt
      exact absurd hlt (Nat.lt_irrefl _)
    have := worstImbalance_falls hc hpos (z := min (s.plannedMassAt k c + n * mass) 2047) (by omega) (by rwa [hself])
    rwa [hself] at this
  · left
    have hle := hn.resolve_right (by omega)
    exact worstImbalance_between hc (x := min (s.plannedMassAt k c) 2047) (by omega) (by omega)
      (by rw [hself]; omega) hle

/-- Settles O26: the search finds the first rotation of the greatest imbalance, and W is convex in one carrier's mass. -/
theorem imbalanceArithmetic : Obligations.ImbalanceArithmetic := ⟨claim_worstImbalance, claim_passingCountsRun⟩

end Sys2Proof.Machine

namespace Sys2Proof.Machine

/-! ## The questions of the Balance Unit (R34, R35, R37, R38) -/

theorem exec_candidateTest {s : State} (h : s.resetLow = false) {k : Carousel} {b : Balance} (hb : s.bal k = some b)
    (c added : Nat) :
    exec (.candidateTest k c added) s = .next (s.begun.ans (.candidate (s.candidateWith k b.hard c added))) := by
  show execCandidateTest k c added s = _
  simp only [execCandidateTest, carry_begun h, State.candidateTest, State.begun_bal, hb, Option.map_some]
  rfl

/-- The count that the balance query answers (R35). -/
def State.passingCount (s : State) (k : Carousel) (hard c mass count : Nat) : Nat :=
  greatest (fun n => (s.candidateWith k hard c (n * mass)).pass) count

theorem exec_balanceQuery {s : State} (h : s.resetLow = false) {k : Carousel} {b : Balance} (hb : s.bal k = some b)
    (c mass count : Nat) :
    exec (.balanceQuery k c mass count) s = .next (s.begun.ans (.balance (s.passingCount k b.hard c mass count)
      (s.candidateWith k b.hard c (max (s.passingCount k b.hard c mass count) 1 * mass)))) := by
  show execBalanceQuery k c mass count s = _
  simp only [execBalanceQuery, carry_begun h, State.balanceQuery, State.begun_bal, hb, Option.map_some]
  rfl

/-- The figures of the candidate test for a carrier that exists (R34). -/
theorem candidateWith_eq {s : State} {k : Carousel} {c : Nat} {car : StockCar} {x : Carrier} (hcar : s.stockCar k = some car)
    (hx : s.carrier k c = some x) (hard added : Nat) :
    let planned := car.carriers.map fun y => min (s.plannedMass y.placements) 2047
    let m := planned.set c (min (s.plannedMass x.placements + added) 2047)
    s.candidateWith k hard c added =
      { pass := decide (worstImbalance m ≤ hard ∨ worstImbalance m < worstImbalance planned), worst := worstImbalance m,
        rotation := worstRotation m, planned := worstImbalance planned, total := m.sum } := by
  simp only [State.candidateWith, State.plannedMasses, State.plannedMassAt, hcar, hx, totalMass, Config.massClamp,
    Bool.decide_or]

theorem claim_balanceAnswers : Claims.BalanceAnswers := by
  intro s k c added mass count b car x h hb hcar hx planned figures
  have hfig : ∀ a, s.candidateWith k b.hard c a = figures a := fun a => candidateWith_eq hcar hx b.hard a
  obtain ⟨hle, hpass, hmore⟩ := greatest_spec (fun n => (s.candidateWith k b.hard c (n * mass)).pass) count
  refine ⟨by rw [exec_candidateTest h hb, hfig], s.passingCount k b.hard c mass count, ?_, hle, ?_, ?_⟩
  · rw [exec_balanceQuery h hb, hfig]
  · simpa only [State.passingCount, hfig] using hpass
  · simpa only [State.passingCount, hfig] using hmore

theorem exec_travelPlan {s : State} (h : s.resetLow = false) (k : Carousel) (i t : Nat) :
    exec (.travelPlan k i t) s = .next (s.begun.ans (travelAnswer (s.travelPlan k i t))) := by
  show execTravelPlan k i t s = _
  simp only [execTravelPlan, carry_begun h]
  rfl

/-- A target inside the carousel, away from the opening, is as many carriers away in either direction as P has them (R37). -/
theorem travel_distance {p i t : Nat} (hi : i < p) (ht : t < p) (hne : t ≠ i) :
    0 < (t + p - i) % p ∧ 0 < (i + p - t) % p := by
  have key : ∀ {a b : Nat}, a < p → b < p → a ≠ b → 0 < (a + p - b) % p := fun {a b} ha hb hab => by
    refine Nat.pos_of_ne_zero fun h0 => ?_
    rcases Nat.lt_or_ge a b with hlt | hge
    · rw [Nat.mod_eq_of_lt (by omega)] at h0
      omega
    · rw [show a + p - b = (a - b) + p by omega, Nat.add_mod_right, Nat.mod_eq_of_lt (by omega)] at h0
      omega
  exact ⟨key ht hi hne, key hi ht hne.symm⟩

/-- A plan of `d` carriers in a direction (R38). -/
def Balance.planOf (b : Balance) (dir : Dir) (d : Nat) : Plan :=
  { dir := dir, dist := d, speed := b.speed, estimate := b.estimate d, timeout := 2 * b.estimate d + 50 }

/-- A move on a carousel that turns both ways takes the shorter one, FORWARD in a tie; else it goes FORWARD (R37). -/
theorem travel_moves {b : Balance} {i t f r : Nat} (hi : i < b.p) (ht : t < b.p) (hne : t ≠ i)
    (hf : f = (t + b.p - i) % b.p) (hr : r = (i + b.p - t) % b.p) :
    b.travel i t = .plan (if b.bidirectional = true ∧ r < f then b.planOf .reverse r else b.planOf .forward f) := by
  obtain ⟨hf0, hr0⟩ := travel_distance hi ht hne
  unfold Balance.travel
  rw [if_neg (by omega), ← hf, ← hr]
  rw [← hf] at hf0
  rw [← hr] at hr0
  cases b.bidirectional with
  | false => simp [Balance.planOf, Nat.ne_of_gt hf0]
  | true =>
    rcases Nat.lt_or_ge r f with hlt | hge
    · simp [Balance.planOf, hlt, min_eq_right (Nat.le_of_lt hlt), Nat.ne_of_gt hr0]
    · simp [Balance.planOf, Nat.not_lt.2 hge, min_eq_left hge, Nat.ne_of_gt hf0]

theorem Balance.estimate_eq (b : Balance) (d : Nat) :
    b.estimate d = min (b.start + d * (if b.speed = .normal then b.normalPitch else b.slowPitch)) 6000 := by
  unfold Balance.estimate Balance.pitch
  cases b.speed <;> rfl

theorem claim_travelPlans : Claims.TravelPlans := by
  intro s k i t h
  rw [exec_travelPlan h]
  refine ⟨fun hb => by simp [State.travelPlan, hb, travelAnswer], fun b hb => ?_⟩
  have htravel : s.travelPlan k i t = b.travel i t := by rw [State.travelPlan, hb]
  rw [htravel]
  refine ⟨fun hout => ?_, fun hi he => ?_, fun f r d dir e hi ht hne hf hr hfwd hrev hone he => ?_⟩
  · rw [Balance.travel, if_pos hout]
    rfl
  · subst he
    have hz : (t + b.p - t) % b.p = 0 := by simp
    rw [Balance.travel, if_neg (by omega), hz]
    simp [travelAnswer]
  · have hplan : b.planOf dir d = { dir := dir, dist := d, speed := b.speed, estimate := e, timeout := 2 * e + 50 } := by
      rw [Balance.planOf, Balance.estimate_eq, ← he]
    rw [travel_moves hi ht hne hf hr, ← hplan]
    split
    · next hlt =>
      obtain ⟨rfl, rfl⟩ := hrev hlt.1 hlt.2
      rfl
    · next hnot =>
      have hd : d = f ∧ dir = .forward := by
        cases hbi : b.bidirectional with
        | false => exact hone hbi
        | true => exact hfwd hbi (Nat.not_lt.1 fun hlt => hnot ⟨hbi, hlt⟩)
      obtain ⟨rfl, rfl⟩ := hd
      rfl

/-- Settles O27: each question is answered from the records that stand. -/
theorem balanceQuestions : Obligations.BalanceQuestions := ⟨claim_balanceAnswers, claim_travelPlans⟩

/-! ## A mass report (R26, R30 to R32) -/

/-- A carousel's record changed by `f` and recomputed. -/
theorem rebalance_some {s : State} {k : Carousel} {b : Balance} (hb : s.bal k = some b) (f : Balance → Balance) :
    rebalance k f s = balanceReports k b (f b).recompute (s.setBal k (some (f b).recompute)) := by
  simp only [rebalance, hb]

/-- What the reports of a recomputation leave: a change of speed class in the mail, a change of OVERBALANCE among the notices. -/
theorem balanceReports_effect (k : Carousel) (old new : Balance) (s : State) :
    let t := balanceReports k old new s
    t.mail = s.mail ++ (if new.speed = old.speed then [] else [.speedClassReport k new.speed]) ∧
      (new.overbalance = old.overbalance → t.mgmt = s.mgmt) ∧
      (new.overbalance ≠ old.overbalance → s.mgmt.notices.length < 64 →
        s.noticed (.balance k new.overbalance new.worst new.rotation new.total) t) ∧
      t = { s with mail := t.mail, mgmt := t.mgmt } := by
  unfold balanceReports
  simp only [eq_comm (a := new.speed)]
  by_cases ho : old.overbalance = new.overbalance
  · rw [if_pos ho]
    split
    · exact ⟨by simp, fun _ => rfl, fun h => absurd ho.symm h, rfl⟩
    · exact ⟨rfl, fun _ => rfl, fun h => absurd ho.symm h, rfl⟩
  · rw [if_neg ho]
    split
    · exact ⟨by simp [handNotice], fun h => absurd h.symm ho, fun _ hl => by rw [handNotice_room _ hl]; rfl, rfl⟩
    · refine ⟨rfl, fun h => absurd h.symm ho, fun _ hl => ?_, rfl⟩
      rw [handNotice_room _ (s := s.post _) hl]
      rfl

theorem exec_massReport {s : State} (h : s.resetLow = false) (k : Carousel) (ms : List (Nat × Nat)) :
    exec (.massReport k ms) s = .next (takeMasses k ms s.begun) := by
  show execMassReport k ms s = _
  rw [execMassReport, carry_begun h]

theorem balanceReports_balance (k : Carousel) (old new : Balance) (s : State) :
    (balanceReports k old new s).balance = s.balance := (balanceReports_rebalanced k old new s).2

/-- Settles O25: the record is the recomputation of the masses written, and its reports are those of the change. -/
theorem massReports : Obligations.MassReports := by
  intro s k ms b h hb
  rw [exec_massReport h, takeMasses, rebalance_some (s := s.begun) hb]
  generalize hn : ({ b with masses := writeMasses b.masses ms } : Balance).recompute = n
  have hmasses : n.masses = ms.foldl (fun v e => v.set e.1 (min e.2 2047)) b.masses := by subst hn; rfl
  have hbal := balanceReports_balance k b n (s.begun.setBal k (some n))
  obtain ⟨hmail, hsame, hnotice, hrest⟩ := balanceReports_effect k b n (s.begun.setBal k (some n))
  generalize balanceReports k b n (s.begun.setBal k (some n)) = t at hbal hmail hsame hnotice hrest ⊢
  have hget : ∀ j, t.bal j = (s.begun.setBal k (some n)).bal j := fun j => by rw [State.bal, hbal]; rfl
  refine ⟨t, n, rfl, ?_, fun j hj => ?_, by subst hn; rfl, hmasses, ?_, ?_, hmail, hsame, hnotice, ?_⟩
  · rw [hget, State.bal_setBal]
  · rw [hget, State.bal_setBal_ne _ _ hj]
    rfl
  · subst hn
    simp [Balance.recompute]
  · subst hn
    simp [Balance.recompute]
  · rw [hrest, ← hbal]
    rfl

end Sys2Proof.Machine

namespace Sys2Proof.Machine

/-! # What the operations leave: the settings

The balance records, the node map, the groups, the timers and the lanes' limits are written by a few requests, mass reports and
resets alone; the strap by a power-on reset, and the queue of commands by none. Every other operation leaves them all. -/

/-- What is set from outside the part, with the balance records. -/
structure Settings where
  balance : Vector (Option Balance) 8
  nodes : Table Node
  groups : Vector (List Nat) 8
  timers : Timers
  limits : Vector Nat 4
  strap : BitVec 6
  pending : List Instr

/-- The settings that a state holds. -/
def State.settings (s : State) : Settings :=
  { balance := s.balance, nodes := s.fe.nodes, groups := s.fe.groups, timers := s.mgmt.timers,
    limits := s.lanes.map LaneRec.limit, strap := s.strap, pending := s.pending }

section
-- These lemmas rest on each other in long chains: each would hold a thread that waits for the one before.
set_option Elab.async false
variable {s : State}

/-! ### Updates of the state -/

@[simp] theorem State.setSeq_settings {k q} : (s.setSeq k q).settings = s.settings := rfl
@[simp] theorem State.modSeq_settings {k f} : (s.modSeq k f).settings = s.settings := rfl
@[simp] theorem State.setStn_settings {i x} : (s.setStn i x).settings = s.settings := rfl
@[simp] theorem State.modStn_settings {i f} : (s.modStn i f).settings = s.settings := rfl
@[simp] theorem State.setStock_settings {k c} : (s.setStock k c).settings = s.settings := rfl
@[simp] theorem State.setSession_settings {k x} : (s.setSession k x).settings = s.settings := rfl
@[simp] theorem State.modBook_settings {f} : (s.modBook f).settings = s.settings := rfl
@[simp] theorem State.modTransit_settings {f} : (s.modTransit f).settings = s.settings := rfl
@[simp] theorem State.post_settings {c} : (s.post c).settings = s.settings := rfl
@[simp] theorem State.postAll_settings {cs} : (s.postAll cs).settings = s.settings := rfl
@[simp] theorem State.ans_settings {a} : (s.ans a).settings = s.settings := rfl
@[simp] theorem State.reach_settings {d} : (s.reach d).settings = s.settings := rfl
@[simp] theorem State.mail_settings {m} : ({ s with mail := m } : State).settings = s.settings := rfl
@[simp] theorem State.lots_settings {l} : ({ s with lots := l } : State).settings = s.settings := rfl
@[simp] theorem State.out_settings {o} : ({ s with out := o } : State).settings = s.settings := rfl
@[simp] theorem State.requests_settings {l} : ({ s with requests := l } : State).settings = s.settings := rfl
@[simp] theorem State.sessions_settings {l} : ({ s with sessions := l } : State).settings = s.settings := rfl

@[simp] theorem State.modFe_settings {f} (hn : ∀ e, (f e).nodes = e.nodes) (hg : ∀ e, (f e).groups = e.groups) :
    (s.modFe f).settings = s.settings := by simp [State.settings, hn, hg]

@[simp] theorem State.modMgmt_settings {f} (ht : ∀ m, (f m).timers = m.timers) : (s.modMgmt f).settings = s.settings := by
  simp [State.settings, ht]

theorem State.setLane_settings {l x} (hx : x.limit = (s.lane l).limit) : (s.setLane l x).settings = s.settings := by
  have hlimits : (s.setLane l x).lanes.map LaneRec.limit = s.lanes.map LaneRec.limit := by
    ext i hi
    by_cases h : l.val = i
    · subst h
      simpa [State.setLane, State.lane] using hx
    · simp [State.setLane, Vector.getElem_set_ne, h]
  simp [State.settings, hlimits]

@[simp] theorem State.modLane_settings {l f} (hf : ∀ x, (f x).limit = x.limit) : (s.modLane l f).settings = s.settings :=
  State.setLane_settings (hf _)

/-! ### Repetition -/

@[simp] theorem foldl_settings {α : Type} {f : State → α → State} (hf : ∀ t x, (f t x).settings = t.settings) (l : List α) :
    (l.foldl f s).settings = s.settings := by
  induction l generalizing s with
  | nil => rfl
  | cons x l ih => rw [List.foldl_cons, ih, hf]

@[simp] theorem foldl_ite_settings {α : Type} {p : State → α → Prop} [∀ t x, Decidable (p t x)] {f : State → α → State}
    (hf : ∀ t x, (f t x).settings = t.settings) (l : List α) :
    (l.foldl (fun t x => if p t x then f t x else t) s).settings = s.settings :=
  foldl_settings (fun t x => by split; exacts [hf t x, rfl]) l

@[simp] theorem foldl_fst_settings {α β : Type} {f : State × β → α → State × β}
    (hf : ∀ t x, (f t x).1.settings = t.1.settings) (l : List α) (a : State × β) :
    (l.foldl f a).1.settings = a.1.settings := by
  induction l generalizing a with
  | nil => rfl
  | cons x l ih => rw [List.foldl_cons, ih, hf]

/-! ### Notices -/

@[simp] theorem handNotice_settings {b} : (handNotice b s).settings = s.settings := by simp [handNotice]
@[simp] theorem handNotices_settings {bs} : (handNotices bs s).settings = s.settings := by simp [handNotices]

/-! ### The Frame Engine -/

@[simp] theorem passFrame_settings {h kind} : (passFrame h kind s).settings = s.settings := by
  unfold passFrame
  split <;> simp

@[simp] theorem sendFrame_settings {f} : (sendFrame f s).settings = s.settings := by simp [sendFrame]
@[simp] theorem joinWaiting_settings {b} : (joinWaiting b s).settings = s.settings := by simp [joinWaiting]
@[simp] theorem spaceFreed_settings : (spaceFreed s).settings = s.settings := by simp [spaceFreed]
@[simp] theorem keepFrame_settings {f} : (keepFrame f s).settings = s.settings := by simp [keepFrame]

@[simp] theorem handBack_settings {f} : (handBack f s).settings = s.settings := by
  unfold handBack
  repeat' split
  all_goals simp

@[simp] theorem offerFrame_settings {f} : (offerFrame f s).1.settings = s.settings := by
  unfold offerFrame
  repeat' split
  all_goals simp

@[simp] theorem offer_settings {b t p} : (offer b t p s).1.settings = s.settings := by
  unfold offer
  split <;> simp

@[simp] theorem offerOrKeep_settings {f} : (offerOrKeep f s).settings = s.settings := by
  unfold offerOrKeep
  dsimp only
  split <;> simp

@[simp] theorem sendOrKeep_settings {b t p} : (sendOrKeep b t p s).1.settings = s.settings := by
  unfold sendOrKeep
  split <;> simp

@[simp] theorem reofferKept_settings {b unheard} (hu : ∀ p t, (unheard p t).settings = t.settings) :
    (reofferKept b unheard s).settings = s.settings := by
  unfold reofferKept
  dsimp only
  rw [foldl_settings fun t f => ?_]
  · simp
  · split
    · simp
    · exact hu _ t

@[simp] theorem withdrawFrame_settings {b kind} : (withdrawFrame b kind s).1.settings = s.settings := by
  unfold withdrawFrame
  split <;> simp

@[simp] theorem withdrawWhere_settings {p} : (withdrawWhere p s).settings = s.settings := by
  unfold withdrawWhere
  split <;> simp

@[simp] theorem withdrawFrames_settings {b kind} : (withdrawFrames b kind s).settings = s.settings := by simp [withdrawFrames]

@[simp] theorem replacePayload_settings {b p} : (replacePayload b p s).1.settings = s.settings := by
  unfold replacePayload
  split <;> simp

@[simp] theorem sendHead_settings : (sendHead s).settings = s.settings := by
  unfold sendHead
  repeat' split
  all_goals simp

@[simp] theorem reportEntry_settings {f fate intact} : (reportEntry f fate intact s).settings = s.settings := by
  simp [reportEntry]

@[simp] theorem restoreReturned_settings : (restoreReturned s).settings = s.settings := by
  unfold restoreReturned
  split <;> simp

@[simp] theorem reportLost_settings {l} : (reportLost l s).settings = s.settings := by simp [reportLost]

@[simp] theorem frameReturned_settings {h kind intact} : (frameReturned h kind intact s).settings = s.settings := by
  unfold frameReturned
  repeat' split
  all_goals simp

@[simp] theorem roundExpired_settings {i} : (roundExpired i s).settings = s.settings := by
  unfold roundExpired
  split <;> simp

@[simp] theorem setRing_settings {r} : (setRing r s).settings = s.settings := by simp [setRing]
@[simp] theorem endRestore_settings : (endRestore s).settings = s.settings := by simp [endRestore]

@[simp] theorem sendQueries_settings : (sendQueries s).settings = s.settings := by
  unfold sendQueries
  split <;> simp

@[simp] theorem startQueries_settings : (startQueries s).settings = s.settings := by
  unfold startQueries
  dsimp only
  split <;> simp

@[simp] theorem resumeQueries_settings : (resumeQueries s).settings = s.settings := by
  unfold resumeQueries
  split <;> simp

@[simp] theorem beginRestore_settings : (beginRestore s).settings = s.settings := by simp [beginRestore]
@[simp] theorem restartSilence_settings : (restartSilence s).settings = s.settings := by simp [restartSilence]

@[simp] theorem goodFrame_settings : (goodFrame s).settings = s.settings := by
  unfold goodFrame
  dsimp only
  split <;> simp

@[simp] theorem restoreAnswered_settings {a} : (restoreAnswered a s).settings = s.settings := by
  unfold restoreAnswered
  dsimp only
  repeat' split
  all_goals simp

@[simp] theorem restoreExpired_settings : (restoreExpired s).settings = s.settings := by
  unfold restoreExpired
  repeat' split
  all_goals simp

@[simp] theorem silenceExpired_settings : (silenceExpired s).settings = s.settings := by
  unfold silenceExpired
  split <;> simp

@[simp] theorem badFrame_settings {h kind} : (badFrame h kind s).settings = s.settings := by
  unfold badFrame
  dsimp only
  split <;> simp

@[simp] theorem receive_settings {g kind act} (ha : ∀ d t, (act d t).settings = t.settings) :
    (receive g kind act s).settings = s.settings := by
  unfold receive
  dsimp only
  split
  · split <;> simp
  · rw [ha, goodFrame_settings]

/-! ### The Stock Table Unit -/

@[simp] theorem State.putCarrier_settings {k c new} : (s.putCarrier k c new).settings = s.settings := by
  unfold State.putCarrier
  split <;> simp

@[simp] theorem State.changeCarrier_settings {k c f} : (s.changeCarrier k c f).settings = s.settings := by
  unfold State.changeCarrier
  split <;> simp

@[simp] theorem State.changePlacements_settings {k c f} : (s.changePlacements k c f).settings = s.settings := by
  simp [State.changePlacements]

@[simp] theorem reserveEntry_settings {k c lot count} : (reserveEntry k c lot count s).1.settings = s.settings := by
  unfold reserveEntry
  dsimp only
  split <;> simp

@[simp] theorem releaseEntry_settings {k c lot count} : (releaseEntry k c lot count s).1.settings = s.settings := by
  unfold releaseEntry
  dsimp only
  repeat' split
  all_goals simp

@[simp] theorem commitPickEntry_settings {k c lot} : (commitPickEntry k c lot s).1.settings = s.settings := by
  unfold commitPickEntry
  split <;> simp

@[simp] theorem commitPutEntry_settings {k c lot} : (commitPutEntry k c lot s).1.settings = s.settings := by
  unfold commitPutEntry
  split <;> simp

@[simp] theorem planIncomingEntry_settings {k c lot count} : (planIncomingEntry k c lot count s).1.settings = s.settings := by
  unfold planIncomingEntry
  split <;> simp

@[simp] theorem returnIncomingEntry_settings {k c lot count} :
    (returnIncomingEntry k c lot count s).1.settings = s.settings := by
  unfold returnIncomingEntry
  dsimp only
  repeat' split
  all_goals simp

@[simp] theorem State.setCarrierState_settings {k c st} : (s.setCarrierState k c st).settings = s.settings := by
  simp [State.setCarrierState]

@[simp] theorem auditMarkEntry_settings {k c} : (auditMarkEntry k c s).1.settings = s.settings := by
  unfold auditMarkEntry
  split <;> simp

@[simp] theorem auditClearEntry_settings {k c} : (auditClearEntry k c s).settings = s.settings := by
  unfold auditClearEntry
  split <;> simp

@[simp] theorem auditLockEntry_settings {k c} : (auditLockEntry k c s).1.settings = s.settings := by
  unfold auditLockEntry
  repeat' split
  all_goals simp

@[simp] theorem auditUnlockEntry_settings {k c} : (auditUnlockEntry k c s).settings = s.settings := by
  unfold auditUnlockEntry
  split <;> simp

@[simp] theorem auditApplyEntry_settings {k c tally unknown unplaced} :
    (auditApplyEntry k c tally unknown unplaced s).1.settings = s.settings := by
  unfold auditApplyEntry
  repeat' split
  all_goals simp

@[simp] theorem excludeEntry_settings {k cs} : (excludeEntry k cs s).settings = s.settings := by simp [excludeEntry]
@[simp] theorem admitEntry_settings {k cs} : (admitEntry k cs s).settings = s.settings := by simp [admitEntry]

@[simp] theorem configureStock_settings {k p shelf gap rated excluded} :
    (configureStock k p shelf gap rated excluded s).settings = s.settings := by
  unfold configureStock
  repeat' split
  all_goals simp

@[simp] theorem restartStock_settings {excluded} : (restartStock excluded s).settings = s.settings := rfl

@[simp] theorem lotWriteRequest_settings {n article week width rim mass} :
    (lotWriteRequest n article week width rim mass s).1.settings = s.settings := by
  unfold lotWriteRequest
  dsimp only
  repeat' split
  all_goals simp

@[simp] theorem lotDeleteRequest_settings {n} : (lotDeleteRequest n s).1.settings = s.settings := by
  unfold lotDeleteRequest
  repeat' split
  all_goals simp

@[simp] theorem lotHoldRequest_settings {n} : (lotHoldRequest n s).1.settings = s.settings := by
  unfold lotHoldRequest
  repeat' split
  all_goals simp

@[simp] theorem lotReleaseRequest_settings {n} : (lotReleaseRequest n s).1.settings = s.settings := by
  unfold lotReleaseRequest
  repeat' split
  all_goals simp

@[simp] theorem carrierWriteRequest_settings {kn c doubleStack disable list} :
    (carrierWriteRequest kn c doubleStack disable list s).1.settings = s.settings := by
  unfold carrierWriteRequest
  repeat' split
  all_goals simp

/-! ### The Order Book -/

@[simp] theorem State.setOrder_settings {h o} : (s.setOrder h o).settings = s.settings := by simp [State.setOrder]
@[simp] theorem State.modOrder_settings {h f} : (s.modOrder h f).settings = s.settings := by simp [State.modOrder]
@[simp] theorem State.modLine_settings {h i f} : (s.modLine h i f).settings = s.settings := by simp [State.modLine]
@[simp] theorem State.setRes_settings {p r} : (s.setRes p r).settings = s.settings := by simp [State.setRes]

@[simp] theorem leaveTable_settings {h} : (leaveTable h s).settings = s.settings := by
  unfold leaveTable
  split <;> simp

@[simp] theorem vacate_settings {p h} : (vacate p h s).settings = s.settings := by
  unfold vacate
  dsimp only
  repeat' split
  all_goals simp

@[simp] theorem leavePool_settings {p h} : (leavePool p h s).settings = s.settings := by simp [leavePool]

@[simp] theorem releaseRes_settings {why p n} : (releaseRes why p n s).1.settings = s.settings := by
  unfold releaseRes
  dsimp only
  repeat' split
  all_goals simp

@[simp] theorem releaseWhole_settings {p} : (releaseWhole p s).1.settings = s.settings := by
  unfold releaseWhole
  repeat' split
  all_goals simp

@[simp] theorem releaseAll_settings {ps} : (releaseAll ps s).settings = s.settings := by simp [releaseAll]
@[simp] theorem createRes_settings {h i k c lot g} : (createRes h i k c lot g s).1.settings = s.settings := by simp [createRes]
@[simp] theorem enlargeRes_settings {p r g} : (enlargeRes p r g s).settings = s.settings := by simp [enlargeRes]

@[simp] theorem giveBackOne_settings {p g} : (giveBackOne p g s).settings = s.settings := by
  unfold giveBackOne
  dsimp only
  repeat' split
  all_goals simp

@[simp] theorem giveBack_settings {added} : (giveBack added s).settings = s.settings := by simp [giveBack]

@[simp] theorem reportWaiting_settings {h i reason} : (reportWaiting h i reason s).settings = s.settings := by
  unfold reportWaiting
  repeat' split
  all_goals simp

theorem askPlacement_settings {h i lot a f} : (askPlacement h i lot a f).s.settings = a.s.settings := by
  unfold askPlacement
  repeat' (first | split | dsimp only)
  all_goals simp

theorem askLots_settings {h i avoid skip lots a} : (askLots h i avoid skip lots a).s.settings = a.s.settings := by
  have inner : ∀ lot (fs : List Free) (a : Asking), (fs.foldl (askPlacement h i lot) a).s.settings = a.s.settings := by
    intro lot fs
    induction fs with
    | nil => exact fun _ => rfl
    | cons f fs ih => exact fun a => (ih _).trans askPlacement_settings
  unfold askLots
  induction lots generalizing a with
  | nil => rfl
  | cons lot lots ih => exact ih.trans (inner _ _ _)

theorem takeLots_settings {h i l avoid skip lots} : (takeLots h i l avoid skip lots s).s.settings = s.settings := by
  have hask : (askLots h i avoid skip lots { s := s, need := l.need, added := [], stopped := false }).s.settings = s.settings :=
    askLots_settings
  unfold takeLots
  dsimp only
  split <;> split <;> simpa using hask

@[simp] theorem resolveLine_settings {h i l skip} : (resolveLine h i l skip s).s.settings = s.settings := by
  unfold resolveLine
  split
  · exact takeLots_settings
  split
  · rfl
  dsimp only
  split
  · exact takeLots_settings.trans (by simp)
  · simp

@[simp] theorem passLine_settings {skip a x} : (passLine skip a x).1.settings = a.1.settings := by
  unfold passLine
  dsimp only
  split
  · split
    · split <;> simp
    · rfl
  · rfl

@[simp] theorem resolvePass_settings {lines skip} : (resolvePass lines skip s).settings = s.settings := by simp [resolvePass]

@[simp] theorem finishPool_settings : (finishPool s).settings = s.settings := by
  unfold finishPool
  split <;> simp

@[simp] theorem passAfter_settings {lines skip} : (passAfter lines skip s).settings = s.settings := by simp [passAfter]
@[simp] theorem releaseWhere_settings {f} : (releaseWhere f s).settings = s.settings := by simp [releaseWhere]

@[simp] theorem postWaiting_settings {h} : (postWaiting h s).settings = s.settings := by
  unfold postWaiting
  split <;> simp

@[simp] theorem orderAddRequest_settings {ref cls lanes lines} :
    (orderAddRequest ref cls lanes lines s).1.settings = s.settings := by
  unfold orderAddRequest
  dsimp only
  repeat' split
  all_goals simp

@[simp] theorem releaseOrder_settings {h} : (releaseOrder h s).settings = s.settings := by simp [releaseOrder]

@[simp] theorem orderCancelRequest_settings {h} : (orderCancelRequest h s).1.settings = s.settings := by
  unfold orderCancelRequest
  repeat' split
  all_goals simp

@[simp] theorem orderClassRequest_settings {h cls} : (orderClassRequest h cls s).1.settings = s.settings := by
  unfold orderClassRequest
  repeat' split
  all_goals simp

@[simp] theorem orderResumeRequest_settings {h} : (orderResumeRequest h s).1.settings = s.settings := by
  unfold orderResumeRequest
  repeat' split
  all_goals simp

@[simp] theorem takeReceipt_settings {h seq l comp} : (takeReceipt h seq l comp s).1.settings = s.settings := by
  unfold takeReceipt
  split <;> simp

@[simp] theorem takeWithdrawal_settings {h reason} : (takeWithdrawal h reason s).settings = s.settings := by
  unfold takeWithdrawal
  repeat' split
  all_goals simp

@[simp] theorem takeDelivery_settings {h i} : (takeDelivery h i s).settings = s.settings := by
  unfold takeDelivery
  dsimp only
  repeat' split
  all_goals simp

@[simp] theorem takeRemoval_settings {h i week reason} : (takeRemoval h i week reason s).settings = s.settings := by
  unfold takeRemoval
  repeat' split
  all_goals simp

@[simp] theorem takeDispatch_settings {h l comp cart} : (takeDispatch h l comp cart s).settings = s.settings := by
  unfold takeDispatch
  repeat' split
  all_goals simp

@[simp] theorem changeRes_settings {r f} : (changeRes r f s).settings = s.settings := by
  unfold changeRes
  split <;> simp

@[simp] theorem resJoined_settings {r} : (resJoined r s).settings = s.settings := by simp [resJoined]
@[simp] theorem resPresented_settings {r} : (resPresented r s).settings = s.settings := by simp [resPresented]
@[simp] theorem resWithdrawn_settings {r} : (resWithdrawn r s).settings = s.settings := by simp [resWithdrawn]

@[simp] theorem chargeCommit_settings {p r week told} : (chargeCommit p r week told s).settings = s.settings := by
  unfold chargeCommit
  dsimp only
  repeat' split
  all_goals simp

@[simp] theorem takeCommit_settings {r k c lot week} : (takeCommit r k c lot week s).1.settings = s.settings := by
  unfold takeCommit
  split <;> simp

@[simp] theorem resExpired_settings {p} : (resExpired p s).settings = s.settings := by
  unfold resExpired
  repeat' split
  all_goals simp

@[simp] theorem takeHold_settings {lot} : (takeHold lot s).settings = s.settings := by simp [takeHold]

@[simp] theorem takeCarrierRelease_settings {k cs} : (takeCarrierRelease k cs s).settings = s.settings := by
  simp [takeCarrierRelease]

@[simp] theorem trimOne_settings {k c lot target a p} : (trimOne k c lot target a p).1.settings = a.1.settings := by
  unfold trimOne
  dsimp only
  repeat' split
  all_goals simp

@[simp] theorem takeTrim_settings {k c lot target} : (takeTrim k c lot target s).1.settings = s.settings := by simp [takeTrim]

@[simp] theorem takeShort_settings {r n} : (takeShort r n s).settings = s.settings := by
  unfold takeShort
  repeat' split
  all_goals simp

@[simp] theorem takeSubstitution_settings {r lot} : (takeSubstitution r lot s).1.settings = s.settings := by
  unfold takeSubstitution
  dsimp only
  repeat' split
  all_goals simp

@[simp] theorem takeSubstituteRelease_settings {r} : (takeSubstituteRelease r s).settings = s.settings := by
  unfold takeSubstituteRelease
  repeat' split
  all_goals simp

@[simp] theorem shiftExpiries_settings {d} : (shiftExpiries d s).settings = s.settings := by simp [shiftExpiries]
@[simp] theorem restartBook_settings : (restartBook s).settings = s.settings := rfl

/-! ### Grants and displays -/

@[simp] theorem flushGroup_settings {st k kind} : (flushGroup st k kind s).settings = s.settings := by
  unfold flushGroup
  split <;> simp

@[simp] theorem endGrant_settings {st how} : (endGrant st how s).settings = s.settings := by
  unfold endGrant
  dsimp only
  repeat' split
  all_goals simp

@[simp] theorem endGrantOf_settings {k how} : (endGrantOf k how s).settings = s.settings := by
  unfold endGrantOf
  split <;> simp

@[simp] theorem sendContent_settings {st c} : (sendContent st c s).settings = s.settings := by
  unfold sendContent
  dsimp only
  repeat' split
  all_goals simp

@[simp] theorem refresh_settings {st} : (refresh st s).settings = s.settings := by
  unfold refresh
  dsimp only
  split <;> simp

@[simp] theorem resend_settings {st} : (resend st s).settings = s.settings := by
  unfold resend
  dsimp only
  split <;> simp

@[simp] theorem showMessage_settings {st m} : (showMessage st m s).settings = s.settings := by simp [showMessage]

@[simp] theorem takeViewReport_settings {st k c} : (takeViewReport st k c s).settings = s.settings := by
  unfold takeViewReport
  repeat' split
  all_goals simp

/-! ### The sequencers -/

@[simp] theorem reclassTask_settings {k t c} : (reclassTask k t c s).settings = s.settings := by simp [reclassTask]
@[simp] theorem setPicks_settings {k t ps} : (setPicks k t ps s).settings = s.settings := by simp [setPicks]

@[simp] theorem newTask_settings {k cls carrier body} : (newTask k cls carrier body s).settings = s.settings := by
  simp [newTask]

@[simp] theorem tellView_settings {k c} : (tellView k c s).settings = s.settings := by
  unfold tellView
  split <;> simp

@[simp] theorem showAudit_settings {k c} : (showAudit k c s).settings = s.settings := by
  unfold showAudit
  repeat' split
  all_goals simp

theorem joinTask_settings {k i t} (h : joinTask k i s = some t) : t.settings = s.settings := by
  unfold joinTask at h
  dsimp only at h
  split at h
  · split at h
    · split at h
      · obtain rfl := Option.some.inj h
        split <;> simp
      · obtain rfl := Option.some.inj h
        simp
    · cases h
  · split at h
    · obtain rfl := Option.some.inj h
      simp
    · cases h

@[simp] theorem takeReservation_settings {k i} : (takeReservation k i s).settings = s.settings := by
  unfold takeReservation
  split
  · next h => exact joinTask_settings h
  · simp

@[simp] theorem retryHeld_settings {k} : (retryHeld k s).settings = s.settings := by simp [retryHeld]

@[simp] theorem placeFreed_settings {k} : (placeFreed k s).settings = s.settings := by
  unfold placeFreed
  dsimp only
  repeat' split
  all_goals simp

@[simp] theorem withdrawPicks_settings {k} : (withdrawPicks k s).settings = s.settings := by
  unfold withdrawPicks
  split <;> simp

@[simp] theorem shedFreed_settings {k shed} : (shedFreed k shed s).settings = s.settings := by
  unfold shedFreed
  split <;> simp

@[simp] theorem leaveOpening_settings {k next} : (leaveOpening k next s).settings = s.settings := by
  unfold leaveOpening
  repeat' split
  all_goals simp

@[simp] theorem withdrawGrant_settings {k} : (withdrawGrant k s).settings = s.settings := by
  unfold withdrawGrant
  split <;> simp

@[simp] theorem withdrawMove_settings {k} : (withdrawMove k s).1.settings = s.settings := by simp [withdrawMove]

@[simp] theorem abandonAudit_settings {k} : (abandonAudit k s).settings = s.settings := by
  unfold abandonAudit
  split <;> simp

@[simp] theorem enterFault_settings {k cause} : (enterFault k cause s).settings = s.settings := by
  unfold enterFault
  dsimp only
  split <;> simp

@[simp] theorem sendQuery_settings {k afterMove} : (sendQuery k afterMove s).settings = s.settings := by
  unfold sendQuery
  dsimp only
  split <;> simp

@[simp] theorem enterUnknown_settings {k} : (enterUnknown k s).settings = s.settings := by
  unfold enterUnknown
  dsimp only
  split <;> simp

@[simp] theorem sendHalt_settings {k forMissing} : (sendHalt k forMissing s).1.settings = s.settings := by simp [sendHalt]
@[simp] theorem comeToRest_settings {k keep} : (comeToRest k keep s).settings = s.settings := by simp [comeToRest]

@[simp] theorem becomeReady_settings {k t} : (becomeReady k t s).settings = s.settings := by
  unfold becomeReady
  dsimp only
  split <;> simp

@[simp] theorem planMove_settings {k t resent} : (planMove k t resent s).settings = s.settings := by
  unfold planMove
  dsimp only
  repeat' split
  all_goals simp

@[simp] theorem clearCurrent_settings {k} : (clearCurrent k s).settings = s.settings := by simp [clearCurrent]

@[simp] theorem choose_settings {k} : (choose k s).settings = s.settings := by
  unfold choose
  dsimp only
  repeat' split
  all_goals simp

@[simp] theorem settleQueue_settings {k} : (settleQueue k s).settings = s.settings := by simp [settleQueue]

@[simp] theorem takeOut_settings {k t} : (takeOut k t s).settings = s.settings := by
  unfold takeOut
  split <;> simp

@[simp] theorem dropTask_settings {k t} : (dropTask k t s).settings = s.settings := by
  unfold dropTask
  dsimp only
  split <;> simp

@[simp] theorem endTask_settings {k t outcome} : (endTask k t outcome s).settings = s.settings := by simp [endTask]

@[simp] theorem checkPicks_settings {k} : (checkPicks k s).settings = s.settings := by
  unfold checkPicks
  repeat' split
  all_goals simp

@[simp] theorem changePicks_settings {k t ps change} : (changePicks k t ps change s).settings = s.settings := by
  unfold changePicks
  dsimp only
  repeat' split
  all_goals simp

@[simp] theorem takeNewCount_settings {k r n why} : (takeNewCount k r n why s).settings = s.settings := by
  unfold takeNewCount
  split <;> simp

@[simp] theorem takeDrop_settings {k r} : (takeDrop k r s).settings = s.settings := by
  unfold takeDrop
  split <;> simp

@[simp] theorem takeStrike_settings {k r why} : (takeStrike k r why s).settings = s.settings := by
  unfold takeStrike
  split <;> simp

@[simp] theorem pickTaken_settings {k r} : (pickTaken k r s).settings = s.settings := by
  unfold pickTaken
  split <;> simp

@[simp] theorem putTaken_settings {k carrier} : (putTaken k carrier s).settings = s.settings := by
  unfold putTaken
  repeat' split
  all_goals simp

@[simp] theorem takeClass_settings {k h cls} : (takeClass k h cls s).settings = s.settings := by simp [takeClass]

@[simp] theorem takeNewReservation_settings {k r carrier count order} :
    (takeNewReservation k r carrier count order s).settings = s.settings := by simp [takeNewReservation]

@[simp] theorem takeOrderReport_settings {i} : (takeOrderReport i s).settings = s.settings := by
  unfold takeOrderReport
  split <;> simp

@[simp] theorem takeOrderReports_settings {k} : (takeOrderReports k s).settings = s.settings := by simp [takeOrderReports]

@[simp] theorem putOffered_settings {k c lot count cls st} : (putOffered k c lot count cls st s).1.settings = s.settings := by
  unfold putOffered
  repeat' split
  all_goals simp

@[simp] theorem auditOffered_settings {k c blind cls} : (auditOffered k c blind cls s).1.settings = s.settings := by
  unfold auditOffered
  repeat' split
  all_goals simp

@[simp] theorem auditRequeued_settings {k c} : (auditRequeued k c s).1.settings = s.settings := by
  unfold auditRequeued
  dsimp only
  repeat' split
  all_goals simp

@[simp] theorem auditReclassed_settings {k c cls blind} : (auditReclassed k c cls blind s).settings = s.settings := by
  unfold auditReclassed
  split <;> simp

@[simp] theorem auditRemoved_settings {k c} : (auditRemoved k c s).settings = s.settings := by
  unfold auditRemoved
  split <;> simp

@[simp] theorem auditApplied_settings {k c} : (auditApplied k c s).settings = s.settings := by
  unfold auditApplied
  repeat' split
  all_goals simp

@[simp] theorem acceptGrant_settings {k t} : (acceptGrant k t s).settings = s.settings := by simp [acceptGrant]

@[simp] theorem confirmTask_settings {k} : (confirmTask k s).1.settings = s.settings := by
  unfold confirmTask
  dsimp only
  repeat' split
  all_goals simp

@[simp] theorem moveComplete_settings {k} : (moveComplete k s).settings = s.settings := by
  unfold moveComplete
  split <;> simp

@[simp] theorem replan_settings {k resent} : (replan k resent s).settings = s.settings := by
  unfold replan
  repeat' split
  all_goals simp

@[simp] theorem moveShort_settings {k} : (moveShort k s).settings = s.settings := by
  unfold moveShort
  split <;> simp

@[simp] theorem stopping_settings {k cause} : (stopping k cause s).settings = s.settings := by simp [stopping]
@[simp] theorem otherTarget_settings {k} : (otherTarget k s).settings = s.settings := by simp [otherTarget]
@[simp] theorem lostPosition_settings {k} : (lostPosition k s).settings = s.settings := by simp [lostPosition]

@[simp] theorem statusMoving_settings {k mv answer still index target} :
    (statusMoving k mv answer still index target s).settings = s.settings := by
  unfold statusMoving
  repeat' split
  all_goals simp

@[simp] theorem statusStopped_settings {k} : (statusStopped k s).settings = s.settings := by simp [statusStopped]

@[simp] theorem statusMotion_settings {k old answer still index target} :
    (statusMotion k old answer still index target s).settings = s.settings := by
  unfold statusMotion
  repeat' split
  all_goals simp

@[simp] theorem takeStatus_settings {k m index target} : (takeStatus k m index target s).settings = s.settings := by
  unfold takeStatus
  dsimp only
  repeat' split
  all_goals simp

@[simp] theorem queryExpired_settings {k} : (queryExpired k s).settings = s.settings := by
  unfold queryExpired
  repeat' split
  all_goals simp

@[simp] theorem queryUnanswered_settings {k n} : (queryUnanswered k n s).settings = s.settings := by simp [queryUnanswered]

@[simp] theorem queryReturned_settings {k n fate} : (queryReturned k n fate s).settings = s.settings := by
  unfold queryReturned
  split <;> simp

@[simp] theorem moveReturned_settings {k fate} : (moveReturned k fate s).settings = s.settings := by
  unfold moveReturned
  dsimp only
  repeat' split
  all_goals simp

@[simp] theorem haltReturned_settings {k fate} : (haltReturned k fate s).settings = s.settings := by
  unfold haltReturned
  split <;> simp

@[simp] theorem moveTimedOut_settings {k} : (moveTimedOut k s).settings = s.settings := by
  unfold moveTimedOut
  repeat' split
  all_goals simp

@[simp] theorem stopMove_settings {k} : (stopMove k s).settings = s.settings := by
  unfold stopMove
  dsimp only
  repeat' split
  all_goals simp

@[simp] theorem curtainBreaks_settings {k unseen} : (curtainBreaks k unseen s).settings = s.settings := by simp [curtainBreaks]

@[simp] theorem curtainClears_settings {k} : (curtainClears k s).settings = s.settings := by
  unfold curtainClears
  split <;> simp

@[simp] theorem curtainSettles_settings {k} : (curtainSettles k s).settings = s.settings := by
  unfold curtainSettles
  repeat' split
  all_goals simp

@[simp] theorem driveMissing_settings {k} : (driveMissing k s).settings = s.settings := by
  unfold driveMissing
  dsimp only
  repeat' split
  all_goals simp

@[simp] theorem speedReported_settings {k} : (speedReported k s).settings = s.settings := by
  unfold speedReported
  split <;> simp

@[simp] theorem driveUnheard_settings {k p} : (driveUnheard k p s).settings = s.settings := by
  unfold driveUnheard
  split <;> simp

@[simp] theorem discardMoves_settings {k} : (discardMoves k s).settings = s.settings := by simp [discardMoves]

@[simp] theorem seqSpace_settings {k} : (seqSpace k s).settings = s.settings := by
  unfold seqSpace
  dsimp only
  repeat' split
  all_goals simp

@[simp] theorem takePlace_settings {k place} : (takePlace k place s).settings = s.settings := by simp [takePlace]

@[simp] theorem takeStationState_settings {k opened} : (takeStationState k opened s).settings = s.settings := by
  unfold takeStationState
  dsimp only
  repeat' split
  all_goals simp

@[simp] theorem seqRingDown_settings {k} : (seqRingDown k s).settings = s.settings := by
  unfold seqRingDown
  dsimp only
  split <;> simp

@[simp] theorem seqRing_settings {k r} : (seqRing k r s).settings = s.settings := by
  unfold seqRing
  split <;> simp

@[simp] theorem seqHalt_settings {k} : (seqHalt k s).settings = s.settings := by
  unfold seqHalt
  dsimp only
  repeat' split
  all_goals simp

@[simp] theorem seqRun_settings {k} : (seqRun k s).settings = s.settings := by
  unfold seqRun
  split <;> simp

@[simp] theorem closePut_settings {k t} : (closePut k s t).settings = s.settings := by
  unfold closePut
  split <;> simp

@[simp] theorem closeAudit_settings {k t} : (closeAudit k s t).settings = s.settings := by
  unfold closeAudit
  split <;> simp

@[simp] theorem closeCarriers_settings {k cs} : (closeCarriers k cs s).settings = s.settings := by
  unfold closeCarriers
  dsimp only
  repeat' split
  all_goals simp

@[simp] theorem openCarriers_settings {k cs} : (openCarriers k cs s).settings = s.settings := by
  unfold openCarriers
  split <;> simp

@[simp] theorem windowSetRequest_settings {kn bounds} : (windowSetRequest kn bounds s).1.settings = s.settings := by
  unfold windowSetRequest
  dsimp only
  repeat' split
  all_goals simp

@[simp] theorem disableRequest_settings {kn} : (disableRequest kn s).1.settings = s.settings := by
  unfold disableRequest
  dsimp only
  repeat' split
  all_goals simp

@[simp] theorem enableRequest_settings {kn} : (enableRequest kn s).1.settings = s.settings := by
  unfold enableRequest
  repeat' split
  all_goals simp

@[simp] theorem restartIdle_settings {k source} : (restartIdle k source s).settings = s.settings := by simp [restartIdle]

@[simp] theorem takeClaim_settings {k source} : (takeClaim k source s).settings = s.settings := by
  unfold takeClaim
  split <;> simp

@[simp] theorem takeAccess_settings {k source} : (takeAccess k source s).settings = s.settings := by
  unfold takeAccess
  split <;> simp

@[simp] theorem takeMaintFrame_settings {k source} : (takeMaintFrame k source s).settings = s.settings := by
  unfold takeMaintFrame
  split <;> simp

@[simp] theorem endClaim_settings {k idle} : (endClaim k idle s).settings = s.settings := by
  unfold endClaim
  split <;> simp

@[simp] theorem takeRelease_settings {k source} : (takeRelease k source s).settings = s.settings := by
  unfold takeRelease
  split <;> simp

@[simp] theorem manualIdleExpired_settings {k} : (manualIdleExpired k s).settings = s.settings := by
  unfold manualIdleExpired
  split <;> simp

@[simp] theorem endClaimsOf_settings {node} : (endClaimsOf node s).settings = s.settings := by simp [endClaimsOf]

@[simp] theorem configureSeq_settings {k} : (configureSeq k s).settings = s.settings := by
  unfold configureSeq
  split <;> simp

/-! ### Frames received -/

@[simp] theorem addReply_settings {q kind a} : (addReply q kind a s).settings = s.settings := by simp [addReply]

@[simp] theorem answerRequest_settings {q kind body} (hb : ∀ t, (body t).1.settings = t.settings) :
    (answerRequest q kind body s).settings = s.settings := by
  unfold answerRequest
  split
  · simp
  · simp [hb]

@[simp] theorem malformed_settings {h kind payload} : (malformed h kind payload s).settings = s.settings := by simp [malformed]

@[simp] theorem maintAct_settings {kind k n} : (maintAct kind k n s).settings = s.settings := by
  unfold maintAct
  split <;> simp

@[simp] theorem takeForeignFrame_settings {k h kind} : (takeForeignFrame k h kind s).settings = s.settings := by
  simp [takeForeignFrame]

@[simp] theorem redirect_settings {d h kind payload} : (redirect d h kind payload s).settings = s.settings := by
  unfold redirect
  split <;> simp

@[simp] theorem fieldFrame_settings {g kind p owner} (ho : ∀ r u t, (owner r u t).settings = t.settings) :
    (fieldFrame g kind p owner s).settings = s.settings :=
  receive_settings fun d t => by
    split
    · dsimp only
      split <;> split <;> simp [ho]
    · simp

/-! ### The conveyor and the lanes -/

@[simp] theorem freePlace_settings {n} : (freePlace n s).settings = s.settings := by simp [freePlace]

@[simp] theorem askPlace_settings {st} : (askPlace st s).1.settings = s.settings := by
  unfold askPlace
  dsimp only
  split <;> simp

@[simp] theorem givePlace_settings {st n} : (givePlace st n s).settings = s.settings := by
  unfold givePlace
  split <;> simp

@[simp] theorem sendDivert_settings {label l second} : (sendDivert label l second s).settings = s.settings := by
  simp [sendDivert]

theorem unrouted_settings {st n h ref line lot week label} :
    (handOverPlace.unrouted st n h ref line lot week label s).settings = s.settings := by
  simp [handOverPlace.unrouted]

@[simp] theorem handOverPlace_settings {st n h ref line lot week} :
    (handOverPlace st n h ref line lot week s).settings = s.settings := by
  unfold handOverPlace
  dsimp only
  split
  · split
    · split
      · simp
      · exact unrouted_settings
    · exact unrouted_settings
  · rfl

@[simp] theorem divertReturned_settings {label l second fate} :
    (divertReturned label l second fate s).settings = s.settings := by
  unfold divertReturned
  repeat' split
  all_goals simp

@[simp] theorem loseController_settings {l} : (loseController l s).settings = s.settings := by simp [loseController]

@[simp] theorem sendLatch_settings {l lock second} : (sendLatch l lock second s).settings = s.settings := by
  unfold sendLatch
  dsimp only
  repeat' split
  all_goals simp

@[simp] theorem latchReturned_settings {l lock second fate} : (latchReturned l lock second fate s).settings = s.settings := by
  unfold latchReturned
  repeat' split
  all_goals simp

@[simp] theorem showAtLane_settings {l x} : (showAtLane l x s).settings = s.settings := by simp [showAtLane]

@[simp] theorem laneUnheard_settings {p} : (laneUnheard p s).settings = s.settings := by
  unfold laneUnheard
  split <;> simp

@[simp] theorem modComp_settings {l c f} : (modComp l c f s).settings = s.settings := by simp [modComp]

@[simp] theorem assignLane_settings {l n} : (assignLane l n s).settings = s.settings := by
  induction n generalizing s with
  | zero => rfl
  | succ n ih =>
    unfold assignLane
    split
    · simp [ih]
    · rfl

@[simp] theorem assignRound_settings : (assignRound s).settings = s.settings := by simp [assignRound]
@[simp] theorem enterReleasing_settings {l} : (enterReleasing l s).settings = s.settings := by simp [enterReleasing]

@[simp] theorem checkFlush_settings {l} : (checkFlush l s).settings = s.settings := by
  unfold checkFlush
  split <;> simp

@[simp] theorem enterFlushing_settings {l} : (enterFlushing l s).settings = s.settings := by simp [enterFlushing]

@[simp] theorem permitTest_settings {l} : (permitTest l s).settings = s.settings := by
  unfold permitTest
  split <;> simp

@[simp] theorem enterSeating_settings {l} : (enterSeating l s).settings = s.settings := by simp [enterSeating]

@[simp] theorem seatIfMade_settings {l} : (seatIfMade l s).settings = s.settings := by
  unfold seatIfMade
  dsimp only
  split <;> simp

@[simp] theorem emptyLane_settings {l} : (emptyLane l s).settings = s.settings := by simp [emptyLane]

@[simp] theorem coupleCart_settings {l id count source} : (coupleCart l id count source s).settings = s.settings := by
  simp [coupleCart]

@[simp] theorem cartLost_settings {l} : (cartLost l s).settings = s.settings := by simp [cartLost]

@[simp] theorem pressRelease_settings {l} : (pressRelease l s).settings = s.settings := by
  unfold pressRelease
  split <;> simp

@[simp] theorem contactsChanged_settings {l old} : (contactsChanged l old s).settings = s.settings := by
  unfold contactsChanged
  dsimp only
  repeat' split
  all_goals simp

@[simp] theorem takeLaneInput_settings {l i} : (takeLaneInput l i s).settings = s.settings := by
  unfold takeLaneInput
  dsimp only
  repeat' split
  all_goals simp

@[simp] theorem momentaryRelease_settings {l} : (momentaryRelease l s).settings = s.settings := by
  unfold momentaryRelease
  dsimp only
  repeat' split
  all_goals simp

@[simp] theorem laneSettled_settings {l} : (laneSettled l s).settings = s.settings := by
  unfold laneSettled
  split <;> simp

@[simp] theorem tagExpires_settings {l} : (tagExpires l s).settings = s.settings := by
  unfold tagExpires
  split <;> simp

@[simp] theorem takeTag_settings {l id count} : (takeTag l id count s).settings = s.settings := by
  unfold takeTag
  split <;> simp

@[simp] theorem takeArrival_settings {l label} : (takeArrival l label s).settings = s.settings := by
  unfold takeArrival
  split <;> simp

@[simp] theorem transitExpired_settings {n} : (transitExpired n s).settings = s.settings := by
  unfold transitExpired
  split <;> simp

@[simp] theorem takeWaiting_settings {w} : (takeWaiting w s).settings = s.settings := by simp [takeWaiting]
@[simp] theorem takeOrderClass_settings {h cls} : (takeOrderClass h cls s).settings = s.settings := by simp [takeOrderClass]
@[simp] theorem takeGone_settings {h} : (takeGone h s).settings = s.settings := by simp [takeGone]

@[simp] theorem closeComp_settings {h st} : (closeComp h st s).settings = s.settings := by
  unfold closeComp
  repeat' split
  all_goals simp

@[simp] theorem takeCancel_settings {h picking} : (takeCancel h picking s).settings = s.settings := by
  unfold takeCancel
  split <;> simp

@[simp] theorem takeCompletion_settings {h} : (takeCompletion h s).settings = s.settings := by simp [takeCompletion]

@[simp] theorem takeReceiptAnswer_settings {l c h seq accepted} :
    (takeReceiptAnswer l c h seq accepted s).settings = s.settings := by
  unfold takeReceiptAnswer
  repeat' split
  all_goals simp

@[simp] theorem lanePermitRequest_settings {n} : (lanePermitRequest n s).1.settings = s.settings := by
  unfold lanePermitRequest
  repeat' split
  all_goals simp

@[simp] theorem laneAssignRequest_settings {n id count} : (laneAssignRequest n id count s).1.settings = s.settings := by
  unfold laneAssignRequest
  repeat' split
  all_goals simp

@[simp] theorem laneCloseRequest_settings {n} : (laneCloseRequest n s).1.settings = s.settings := by
  unfold laneCloseRequest
  repeat' split
  all_goals simp

@[simp] theorem laneOpenRequest_settings {n} : (laneOpenRequest n s).1.settings = s.settings := by
  unfold laneOpenRequest
  dsimp only
  repeat' split
  all_goals simp

@[simp] theorem restartLanes_settings : (restartLanes s).settings = s.settings := by
  have hl : ∀ x : LaneRec, x.restart.limit = x.limit := fun x => by
    rw [LaneRec.restart_eq]
  simp [State.settings, restartLanes, Function.comp_def, hl]

/-! ### The put-away planners -/

@[simp] theorem refusePut_settings {st lot whole planned n reason} :
    (refusePut st lot whole planned n reason s).settings = s.settings := by simp [refusePut]

@[simp] theorem refuseBatch_settings {st b reason} : (refuseBatch st b reason s).settings = s.settings := by simp [refuseBatch]

@[simp] theorem offerPart_settings {st p} : (offerPart st p s).1.settings = s.settings := by
  unfold offerPart
  dsimp only
  split <;> simp

@[simp] theorem makePart_settings {st b r} : (makePart st b r s).settings = s.settings := by
  unfold makePart
  dsimp only
  repeat' split
  all_goals simp

@[simp] theorem planBatch_settings {st n} : (planBatch st n s).settings = s.settings := by
  induction n generalizing s with
  | zero => rfl
  | succ n ih =>
    unfold planBatch
    (repeat' split) <;> simp [ih]

@[simp] theorem handBatch_settings {st b} : (handBatch st b s).settings = s.settings := by simp [handBatch]

@[simp] theorem roomSteps_settings {st wasFull} : (roomSteps st wasFull s).settings = s.settings := by
  unfold roomSteps
  dsimp only
  repeat' split
  all_goals simp

@[simp] theorem offerParts_settings {st k ps} : (offerParts st k ps s).settings = s.settings := by
  induction ps generalizing s with
  | nil => rfl
  | cons p ps ih =>
    unfold offerParts
    dsimp only
    split
    · split <;> simp [ih]
    · exact ih

@[simp] theorem takePlaceReport_settings {st k} : (takePlaceReport st k s).settings = s.settings := by simp [takePlaceReport]
@[simp] theorem takePutLeft_settings {st k c lot} : (takePutLeft st k c lot s).settings = s.settings := by simp [takePutLeft]

@[simp] theorem accumulate_settings {st lot} : (accumulate st lot s).1.settings = s.settings := by
  unfold accumulate
  dsimp only
  repeat' split
  all_goals simp

@[simp] theorem inboundEntry_settings {st label} : (inboundEntry st label s).1.settings = s.settings := by
  unfold inboundEntry
  repeat' split
  all_goals simp

@[simp] theorem endBatch_settings {st} : (endBatch st s).settings = s.settings := by
  unfold endBatch
  repeat' split
  all_goals simp

@[simp] theorem closePlanner_settings {st} : (closePlanner st s).settings = s.settings := by
  unfold closePlanner
  dsimp only
  split <;> simp

@[simp] theorem returnPart_settings {st p} : (returnPart st s p).settings = s.settings := by simp [returnPart]

@[simp] theorem dropParts_settings {st f} : (dropParts st f s).settings = s.settings := by
  unfold dropParts
  dsimp only
  split <;> simp

/-! ### The station controllers -/

@[simp] theorem tryGrant_settings {st} : (tryGrant st s).settings = s.settings := by
  unfold tryGrant
  dsimp only
  repeat' split
  all_goals simp

@[simp] theorem startTimer_settings {st} : (startTimer st s).settings = s.settings := by simp [startTimer]
@[simp] theorem settleTimer_settings {st} : (settleTimer st s).settings = s.settings := by simp [settleTimer]
@[simp] theorem popHead_settings {st} : (popHead st s).settings = s.settings := by simp [popHead]
@[simp] theorem clearMessage_settings {st} : (clearMessage st s).settings = s.settings := by simp [clearMessage]

@[simp] theorem lockQueue_settings {st c e} : (lockQueue st c e s).settings = s.settings := by
  unfold lockQueue
  dsimp only
  split <;> simp

@[simp] theorem reportTaken_settings {st k kind item} : (reportTaken st k kind item s).settings = s.settings := by
  unfold reportTaken
  dsimp only
  repeat' split
  all_goals simp

@[simp] theorem reportCommit_settings {st place r k c lot} : (reportCommit st place r k c lot s).1.settings = s.settings := by
  unfold reportCommit
  dsimp only
  split <;> simp

@[simp] theorem takePick_settings {st k v p e} : (takePick st k v p e s).1.settings = s.settings := by
  unfold takePick
  dsimp only
  repeat' split
  all_goals simp

@[simp] theorem takePut_settings {st k v lot e} : (takePut st k v lot e s).1.settings = s.settings := by
  unfold takePut
  dsimp only
  split <;> simp

@[simp] theorem evalInbound_settings {st e} : (evalInbound st e s).1.settings = s.settings := by
  unfold evalInbound
  dsimp only
  split <;> simp

@[simp] theorem evalOpening_settings {st e} : (evalOpening st e s).1.settings = s.settings := by
  unfold evalOpening
  repeat' split
  all_goals simp

@[simp] theorem evalHead_settings {st} : (evalHead st s).1.settings = s.settings := by
  unfold evalHead
  repeat' split
  all_goals simp

@[simp] theorem evalLoop_settings {st n} : (evalLoop st n s).settings = s.settings := by
  induction n generalizing s with
  | zero => rfl
  | succ n ih =>
    unfold evalLoop
    dsimp only
    split <;> simp [ih]

@[simp] theorem attend_settings {st} : (attend st s).settings = s.settings := by simp [attend]
@[simp] theorem attendEnded_settings {s0} : (attendEnded s0 s).settings = s.settings := by simp [attendEnded]
@[simp] theorem takeReady_settings {st k} : (takeReady st k s).settings = s.settings := by simp [takeReady]
@[simp] theorem takeNotReady_settings {st k} : (takeNotReady st k s).settings = s.settings := by simp [takeNotReady]
@[simp] theorem declineGrant_settings {st k} : (declineGrant st k s).settings = s.settings := by simp [declineGrant]
@[simp] theorem holdGrant_settings {st k t v} : (holdGrant st k t v s).settings = s.settings := by simp [holdGrant]

@[simp] theorem takeGrant_settings {k} : (takeGrant k s).settings = s.settings := by
  unfold takeGrant
  repeat' split
  all_goals simp

@[simp] theorem takeGrantAnswer_settings {st k view} : (takeGrantAnswer st k view s).settings = s.settings := by
  unfold takeGrantAnswer
  repeat' split
  all_goals simp

@[simp] theorem takeTaskEnd_settings {st k outcome} : (takeTaskEnd st k outcome s).settings = s.settings := by
  unfold takeTaskEnd
  repeat' split
  all_goals simp

@[simp] theorem takeWithdrawalReport_settings {st k} : (takeWithdrawalReport st k s).settings = s.settings := by
  unfold takeWithdrawalReport
  repeat' split
  all_goals simp

@[simp] theorem dropGrant_settings {st} : (dropGrant st s).settings = s.settings := by
  unfold dropGrant
  repeat' split
  all_goals simp

@[simp] theorem attentionExpired_settings {st} : (attentionExpired st s).settings = s.settings := by
  unfold attentionExpired
  split <;> simp

@[simp] theorem takePlaceFree_settings {st} : (takePlaceFree st s).settings = s.settings := by
  unfold takePlaceFree
  split <;> simp

@[simp] theorem takeRoom_settings {st} : (takeRoom st s).settings = s.settings := by
  unfold takeRoom
  split <;> simp

@[simp] theorem takeLabel_settings {st reader label} : (takeLabel st reader label s).settings = s.settings := by
  unfold takeLabel
  dsimp only
  repeat' split
  all_goals simp

@[simp] theorem liftLock_settings {st} : (liftLock st s).settings = s.settings := by simp [liftLock]
@[simp] theorem clearLock_settings {st} : (clearLock st s).settings = s.settings := by simp [clearLock]

@[simp] theorem rejectClear_settings {st recount} : (rejectClear st recount s).1.settings = s.settings := by
  unfold rejectClear
  dsimp only
  repeat' split
  all_goals simp

@[simp] theorem acceptClear_settings {st} : (acceptClear st s).1.settings = s.settings := by
  unfold acceptClear
  dsimp only
  repeat' split
  all_goals simp

@[simp] theorem tellStations_settings {st opened} : (tellStations st opened s).settings = s.settings := by simp [tellStations]

@[simp] theorem signOnKey_settings {st} : (signOnKey st s).settings = s.settings := by
  unfold signOnKey
  dsimp only
  split <;> simp

@[simp] theorem closeStation_settings {st} : (closeStation st s).settings = s.settings := by simp [closeStation]

@[simp] theorem signOffKey_settings {st} : (signOffKey st s).settings = s.settings := by
  unfold signOffKey
  split <;> simp

@[simp] theorem confirmKey_settings {st} : (confirmKey st s).settings = s.settings := by
  unfold confirmKey
  dsimp only
  repeat' split
  all_goals simp

@[simp] theorem shortKey_settings {st} : (shortKey st s).settings = s.settings := by
  unfold shortKey
  dsimp only
  repeat' split
  all_goals simp

@[simp] theorem actKey_settings {st key} : (actKey st key s).settings = s.settings := by
  unfold actKey
  repeat' split
  all_goals simp

@[simp] theorem pressKey_settings {st key} : (pressKey st key s).settings = s.settings := by
  unfold pressKey
  dsimp only
  split <;> simp

@[simp] theorem takeBayCurtain_settings {st b broken} : (takeBayCurtain st b broken s).settings = s.settings := by
  unfold takeBayCurtain
  dsimp only
  repeat' split
  all_goals simp

@[simp] theorem bayCurtainInput_settings {st b broken} : (bayCurtainInput st b broken s).settings = s.settings := by
  unfold bayCurtainInput
  dsimp only
  split <;> simp

@[simp] theorem takeKeys_settings {st old new} : (takeKeys st old new s).settings = s.settings := by simp [takeKeys]

@[simp] theorem takePanelInput_settings {st i} : (takePanelInput st i s).settings = s.settings := by
  unfold takePanelInput
  dsimp only
  repeat' split
  all_goals simp

@[simp] theorem losePanel_settings {st} : (losePanel st s).settings = s.settings := by
  unfold losePanel
  dsimp only
  repeat' split
  all_goals simp

@[simp] theorem panelReturned_settings {st fate} : (panelReturned st fate s).settings = s.settings := by
  unfold panelReturned
  split <;> simp

@[simp] theorem stationSpace_settings {st} : (stationSpace st s).settings = s.settings := by
  unfold stationSpace
  split <;> simp

@[simp] theorem stationRing_settings {st r} : (stationRing st r s).settings = s.settings := by
  unfold stationRing
  repeat' split
  all_goals simp

@[simp] theorem stationConfigRequest_settings {c} : (stationConfigRequest c s).1.settings = s.settings := by
  unfold stationConfigRequest
  dsimp only
  repeat' split
  all_goals simp

@[simp] theorem scanClearRequest_settings {n action} : (scanClearRequest n action s).1.settings = s.settings := by
  unfold scanClearRequest
  repeat' split
  all_goals simp

@[simp] theorem stationHalt_settings {st} : (stationHalt st s).settings = s.settings := by simp [stationHalt]
@[simp] theorem stationRun_settings {st} : (stationRun st s).settings = s.settings := by simp [stationRun]

/-! ### The audits -/

@[simp] theorem modReq_settings {k c f} : (modReq k c f s).settings = s.settings := by simp [modReq]
@[simp] theorem dropReq_settings {k c} : (dropReq k c s).settings = s.settings := by simp [dropReq]

@[simp] theorem offerAudits_settings {k n} : (offerAudits k n s).settings = s.settings := by
  induction n generalizing s with
  | zero => rfl
  | succ n ih =>
    unfold offerAudits
    dsimp only
    (repeat' split) <;> simp [ih]

@[simp] theorem offerAudit_settings {k} : (offerAudit k s).settings = s.settings := by simp [offerAudit]

@[simp] theorem raiseAudit_settings {k c blind cls source} : (raiseAudit k c blind cls source s).1.settings = s.settings := by
  unfold raiseAudit
  dsimp only
  repeat' split
  all_goals simp

@[simp] theorem raiseInternal_settings {k c blind cls source} :
    (raiseInternal k c blind cls source s).settings = s.settings := by
  unfold raiseInternal
  dsimp only
  split <;> simp

@[simp] theorem auditRequestRequest_settings {kn c blind cls} :
    (auditRequestRequest kn c blind cls s).1.settings = s.settings := by
  unfold auditRequestRequest
  repeat' split
  all_goals simp

@[simp] theorem restartSession_settings {k} : (restartSession k s).settings = s.settings := by simp [restartSession]
@[simp] theorem startSession_settings {k r} : (startSession k r s).settings = s.settings := by simp [startSession]

@[simp] theorem takeAuditGranted_settings {k c} : (takeAuditGranted k c s).settings = s.settings := by
  unfold takeAuditGranted
  dsimp only
  repeat' split
  all_goals simp

@[simp] theorem takeTally_settings {k lot} : (takeTally k lot s).settings = s.settings := by
  unfold takeTally
  split <;> simp

@[simp] theorem trimPlacements_settings {k c tally lots} : (trimPlacements k c tally lots s).1.settings = s.settings := by
  induction lots generalizing s with
  | nil => rfl
  | cons lot lots ih =>
    unfold trimPlacements
    dsimp only
    split <;> simp [ih]

@[simp] theorem confirmAudit_settings {k} : (confirmAudit k s).settings = s.settings := by
  unfold confirmAudit
  dsimp only
  repeat' split
  all_goals simp

@[simp] theorem reqToHead_settings {k c f} : (reqToHead k c f s).settings = s.settings := by
  unfold reqToHead
  split <;> simp

@[simp] theorem reclassTo_settings {r} : (reclassTo r s).settings = s.settings := by
  unfold reclassTo
  repeat' split
  all_goals simp

@[simp] theorem abandonSession_settings {k fate} : (abandonSession k fate s).settings = s.settings := by
  unfold abandonSession
  dsimp only
  repeat' split
  all_goals simp

@[simp] theorem sessionExpired_settings {k} : (sessionExpired k s).settings = s.settings := by
  unfold sessionExpired
  repeat' split
  all_goals simp

@[simp] theorem dropAudits_settings {k} : (dropAudits k s).settings = s.settings := by simp [dropAudits]

@[simp] theorem takeHandBack_settings {k carrier} : (takeHandBack k carrier s).settings = s.settings := by
  unfold takeHandBack
  repeat' split
  all_goals simp

@[simp] theorem takeAdmit_settings {k cs} : (takeAdmit k cs s).settings = s.settings := by simp [takeAdmit]

@[simp] theorem auditCancelRequest_settings {kn c} : (auditCancelRequest kn c s).1.settings = s.settings := by
  unfold auditCancelRequest
  repeat' split
  all_goals simp

@[simp] theorem restartAudits_settings : (restartAudits s).settings = s.settings := rfl

/-! ### The Management Unit -/

/-- A request is carried out in a state with the settings of before, or not at all. -/
theorem request_cases (q : Req) (kind : Nat) (body : State → State × Answered) (s : State) :
    ∃ t, t.settings = s.settings ∧
      ((request q kind body s).settings = t.settings ∨ (request q kind body s).settings = (body t).1.settings) := by
  have answers : ∀ t : State, (answerRequest q kind body t).settings = t.settings ∨
      (answerRequest q kind body t).settings = (body t).1.settings := fun t => by
    unfold answerRequest
    split
    · exact .inl rfl
    · exact .inr addReply_settings
  unfold request receive
  dsimp only
  split
  · refine ⟨s, rfl, .inl ?_⟩
    split <;> simp
  · split
    · exact ⟨_, by simp, answers _⟩
    · exact ⟨s, rfl, .inl (by simp)⟩

@[simp] theorem request_settings {q kind body} (hb : ∀ t, (body t).1.settings = t.settings) :
    (request q kind body s).settings = s.settings := by
  obtain ⟨t, ht, h | h⟩ := request_cases q kind body s
  · exact h.trans ht
  · exact h.trans ((hb t).trans ht)

@[simp] theorem plain_settings {body} (hb : ∀ t, (body t).1.settings = t.settings) : (plain body s).1.settings = s.settings :=
  hb s

@[simp] theorem offerReply_settings : (offerReply s).settings = s.settings := by
  unfold offerReply
  dsimp only
  repeat' split
  all_goals simp

@[simp] theorem offerReplies_settings {n} : (offerReplies n s).settings = s.settings := by
  induction n generalizing s with
  | zero => rfl
  | succ n ih =>
    unfold offerReplies
    dsimp only
    split <;> simp [ih]

@[simp] theorem offerNotice_settings : (offerNotice s).settings = s.settings := by
  unfold offerNotice
  dsimp only
  repeat' split
  all_goals simp

@[simp] theorem sendNotice_settings : (sendNotice s).settings = s.settings := by
  unfold sendNotice
  dsimp only
  split <;> simp

@[simp] theorem noticeReturned_settings {n second fate} : (noticeReturned n second fate s).settings = s.settings := by
  unfold noticeReturned
  split <;> simp

@[simp] theorem managementSpace_settings : (managementSpace s).settings = s.settings := by simp [managementSpace]
@[simp] theorem handBackAudits_settings {k} : (handBackAudits k s).settings = s.settings := by simp [handBackAudits]
@[simp] theorem endHalt_settings : (endHalt s).settings = s.settings := by simp [endHalt]

@[simp] theorem runCell_settings : (runCell s).settings = s.settings := by
  unfold runCell
  split <;> simp

@[simp] theorem cellRunRequest_settings : (cellRunRequest s).1.settings = s.settings := by
  unfold cellRunRequest
  repeat' split
  all_goals simp

@[simp] theorem haltCell_settings : (haltCell s).settings = s.settings := by simp [haltCell]

@[simp] theorem cellHaltRequest_settings : (cellHaltRequest s).1.settings = s.settings := by
  unfold cellHaltRequest
  split <;> simp

@[simp] theorem restartFrames_settings : (restartFrames s).settings = s.settings := by simp [restartFrames]

@[simp] theorem restartRestore_settings : (restartRestore s).settings = s.settings := by
  unfold restartRestore
  split <;> simp

@[simp] theorem cellStatusRequest_settings : (cellStatusRequest s).1.settings = s.settings := by simp [cellStatusRequest]

@[simp] theorem recordReadRequest_settings {kind index} : (recordReadRequest kind index s).1.settings = s.settings := rfl

@[simp] theorem addOrder_settings {ref cls lanes lines} : (addOrder ref cls lanes lines s).1.settings = s.settings := by
  simp [addOrder]

/-! ### Frames of the field and of the maintenance nodes -/

@[simp] theorem panelOwner_settings {input role unit} : (panelOwner input role unit s).settings = s.settings := by
  unfold panelOwner
  split <;> simp

@[simp] theorem labelOwner_settings {label role unit} : (labelOwner label role unit s).settings = s.settings := by
  unfold labelOwner
  repeat' split
  all_goals simp

@[simp] theorem takeForeign_settings {g kind} : (takeForeign g kind s).settings = s.settings :=
  receive_settings fun d t => by split <;> simp

@[simp] theorem maintFrame_settings {g kind act} (ha : ∀ k n t, (act k n t).settings = t.settings) :
    (maintFrame g kind act s).settings = s.settings :=
  receive_settings fun d t => by
    split
    · simp [ha]
    · simp

@[simp] theorem driveOwner_settings {m index target role unit} :
    (driveOwner m index target role unit s).settings = s.settings := by
  unfold driveOwner
  split <;> simp

@[simp] theorem tagOwner_settings {cart count role unit} : (tagOwner cart count role unit s).settings = s.settings := by
  unfold tagOwner
  split <;> simp

@[simp] theorem laneOwner_settings {input role unit} : (laneOwner input role unit s).settings = s.settings := by
  unfold laneOwner
  split <;> simp

@[simp] theorem settled_settings {body} (hb : ∀ t, (body t).1.settings = t.settings) :
    (settled body s).1.settings = s.settings :=
  attendEnded_settings.trans (hb s)

/-! ### The ring and the transmit queue -/

@[simp] theorem takeRing_settings {b r} : (takeRing b r s).settings = s.settings := by
  unfold takeRing
  split <;> simp

@[simp] theorem nodeMissing_settings {role unit} : (nodeMissing role unit s).settings = s.settings := by
  unfold nodeMissing
  repeat' split
  all_goals simp

@[simp] theorem takeReturn_settings {g kind intact} : (takeReturn g kind intact s).settings = s.settings := by
  unfold takeReturn
  split
  · exact receive_settings fun d t => by split <;> simp
  · simp

@[simp] theorem offerUnheard_settings {b p} : (offerUnheard b p s).settings = s.settings := by
  unfold offerUnheard
  split <;> simp

@[simp] theorem takeOffer_settings {b t p} : (takeOffer b t p s).settings = s.settings := by
  unfold takeOffer
  dsimp only
  repeat' split
  all_goals simp

@[simp] theorem takeSpace_settings {b} : (takeSpace b s).settings = s.settings := by
  unfold takeSpace
  split <;> simp

end
end Sys2Proof.Machine

namespace Sys2Proof.Machine

/-! # What the commands leave: the settings -/

/-- Whatever the command comes to, the settings are those of before. -/
def Steady (s : State) (r : Host.Outcome State Fault Refusal) : Prop := ∀ t, r = .next t → t.settings = s.settings

/-- The commands that may write settings: some requests, a mass report, the resets, and the frames as bytes that may spell such a
request. -/
def setsSettings : Instr → Bool
  | .nodeMapWrite .. | .groupWrite .. | .laneConfigWrite .. | .timerWrite .. | .carouselConfigWrite .. | .cellRestart ..
  | .massReport .. | .resetAssert | .powerOnReset .. | .damagedFrameReceived .. | .forwardedFrame .. => true
  | _ => false

section
variable {s : State}

theorem steady_next {t : State} (h : t.settings = s.settings) : Steady s (.next t) := by
  intro u hu
  cases hu
  exact h

/-- A command that is carried out whole starts from the settings of before. -/
theorem steady_carry {f : State → State} (hf : ∀ u, (f u).settings = u.settings) : Steady s (carry s f) := by
  refine steady_next ?_
  split
  · rfl
  · exact hf _

theorem steady_seq {f : State → State} (hf : ∀ u, (f u).settings = u.settings) : Steady s (seqStep s f) :=
  steady_carry fun u => attendEnded_settings.trans (hf u)

theorem steady_stn {f : State → State} (hf : ∀ u, (f u).settings = u.settings) : Steady s (stnStep s f) :=
  steady_carry fun u => attendEnded_settings.trans (hf u)

/-- The commands that a frame of the drives, panels, readers and lane controllers carries in. -/
theorem steady_runFrame {c : Instr} {r : Host.Outcome State Fault Refusal} (hr : runFrame c s = some r) : Steady s r := by
  cases c <;> simp only [runFrame, Option.some.injEq, reduceCtorEq] at hr
  all_goals subst hr
  case driveStatus | manualClaim | access | manualRelease | maintDriveFrame => exact steady_seq fun _ => by simp
  case panelRecovery | stationLabel => exact steady_stn fun _ => by simp
  case cartContacts | laneArrival | tagRead | foreignCommand | frameReturn => exact steady_carry fun _ => by simp

/-- The requests of the Management Unit that write no setting. -/
theorem steady_runRequest {c : Instr} {r : Host.Outcome State Fault Refusal} (hr : runRequest c s = some r)
    (hw : setsSettings c = false) : Steady s r := by
  cases c <;> simp only [setsSettings, Bool.true_eq_false] at hw <;>
    simp only [runRequest, Option.some.injEq, reduceCtorEq] at hr
  all_goals
    subst hr
    exact steady_carry fun _ => request_settings fun _ => by simp

theorem steady_passedOn {f : WireFrame} : Steady s (passedOn f s) := steady_carry fun _ => by simp

/-- The rows of every other command that writes no setting. -/
theorem steady_row {i : Instr} (hw : setsSettings i = false) (hq : runRequest i s = none) (hf : runFrame i s = none) :
    Steady s (exec i s) := by
  delta exec
  cases i <;> dsimp only
  case clockLoss => exact steady_next rfl
  case clockReturn => exact steady_next resumeQueries_settings
  case silenceTimerExpiry => exact steady_carry fun _ => silenceExpired_settings
  case ringStateReport => exact steady_carry fun _ => takeRing_settings
  case restoreRoundExpiry => exact steady_carry fun _ => restoreExpired_settings
  case nodeNotAnswered => exact steady_carry fun _ => nodeMissing_settings
  case roundDeadlineExpiry => exact steady_carry fun _ => roundExpired_settings
  case frameOffer => exact steady_carry fun _ => takeOffer_settings
  case frameWithdraw => exact steady_carry fun _ => by simp
  case payloadReplace => exact steady_carry fun _ => by simp
  case frameSend => exact steady_carry fun _ => sendHead_settings
  case spaceReport => exact steady_carry fun _ => takeSpace_settings
  case manualIdleExpiry => exact steady_seq fun _ => manualIdleExpired_settings
  case queryRoundExpiry => exact steady_seq fun _ => queryExpired_settings
  case moveReturn => exact steady_seq fun _ => moveReturned_settings
  case moveTimeout => exact steady_seq fun _ => moveTimedOut_settings
  case curtainBroken => exact steady_seq fun _ => curtainBreaks_settings
  case curtainClear => exact steady_seq fun _ => curtainClears_settings
  case curtainSettleExpiry => exact steady_seq fun _ => curtainSettles_settings
  case driveMissingReport => exact steady_seq fun _ => driveMissing_settings
  case speedClassReport => exact steady_seq fun _ => speedReported_settings
  case newReservation => exact steady_seq fun _ => takeNewReservation_settings
  case putOffer => exact steady_seq fun _ => by simp
  case auditOffer => exact steady_seq fun _ => by simp
  case auditRequeue => exact steady_seq fun _ => by simp
  case auditTaskReclass => exact steady_seq fun _ => auditReclassed_settings
  case taskRemoveRequest => exact steady_seq fun _ => auditRemoved_settings
  case pickNewCount => exact steady_seq fun _ => takeNewCount_settings
  case pickDrop => exact steady_seq fun _ => takeDrop_settings
  case pickStruck => exact steady_seq fun _ => takeStrike_settings
  case taskClassReport => exact steady_seq fun _ => takeClass_settings
  case pickTakenReport => exact steady_seq fun _ => pickTaken_settings
  case putTakenReport => exact steady_seq fun _ => putTaken_settings
  case grant => exact steady_seq fun _ => takeGrant_settings
  case grantWithdrawal => exact steady_seq fun _ => withdrawGrant_settings
  case earlyConfirm => exact steady_seq fun _ => by simp
  case auditAppliedReport => exact steady_seq fun _ => auditApplied_settings
  case stationBayReport => exact steady_seq fun _ => takePlace_settings
  case stationStateReport => exact steady_seq fun _ => takeStationState_settings
  case placeReport => exact steady_stn fun _ => by simp
  case auditPlaceReport => exact steady_stn fun _ => offerAudit_settings
  case reserve => exact steady_carry fun _ => by simp
  case release => exact steady_carry fun _ => by simp
  case commitPick => exact steady_carry fun _ => by simp
  case commitPut => exact steady_carry fun _ => by simp
  case planIncoming => exact steady_carry fun _ => by simp
  case returnIncoming => exact steady_carry fun _ => by simp
  case roomQuery => exact steady_carry fun _ => by simp
  case auditMark => exact steady_carry fun _ => by simp
  case auditClear => exact steady_carry fun _ => by simp
  case auditLock => exact steady_carry fun _ => by simp
  case auditUnlock => exact steady_carry fun _ => by simp
  case auditApply => exact steady_carry fun _ => by simp
  case exclude => exact steady_carry fun _ => by simp
  case admitCarriers => exact steady_carry fun _ => by simp
  case candidateTest => exact steady_carry fun _ => by simp
  case balanceQuery => exact steady_carry fun _ => by simp
  case travelPlan => exact steady_carry fun _ => by simp
  case stockRiseReport => exact steady_carry fun _ => by simp
  case eligibilityReport => exact steady_carry fun _ => by simp
  case compartmentReceipt => exact steady_carry fun _ => by simp
  case compartmentWithdrawal => exact steady_carry fun _ => takeWithdrawal_settings
  case deliveryReport => exact steady_carry fun _ => takeDelivery_settings
  case transitRemoval => exact steady_carry fun _ => takeRemoval_settings
  case dispatchReport => exact steady_carry fun _ => takeDispatch_settings
  case reservationJoined => exact steady_carry fun _ => resJoined_settings
  case reservationPresented => exact steady_carry fun _ => resPresented_settings
  case reservationWithdrawn => exact steady_carry fun _ => resWithdrawn_settings
  case commitReport => exact steady_carry fun _ => by simp
  case reservationExpiry => exact steady_carry fun _ => resExpired_settings
  case holdHandover => exact steady_carry fun _ => takeHold_settings
  case carrierRelease => exact steady_carry fun _ => takeCarrierRelease_settings
  case auditTrim => exact steady_carry fun _ => by simp
  case shortReport => exact steady_carry fun _ => takeShort_settings
  case substitutionRequest => exact steady_carry fun _ => by simp
  case substituteRelease => exact steady_carry fun _ => takeSubstituteRelease_settings
  case readyReport => exact steady_stn fun _ => takeReady_settings
  case notReadyReport => exact steady_stn fun _ => takeNotReady_settings
  case grantAnswer => exact steady_stn fun _ => takeGrantAnswer_settings
  case taskEndReport =>
    refine steady_stn fun _ => ?_
    split <;> simp
  case grantWithdrawalReport => exact steady_stn fun _ => takeWithdrawalReport_settings
  case attentionTimeout => exact steady_stn fun _ => attentionExpired_settings
  case taskViewReport => exact steady_stn fun _ => takeViewReport_settings
  case transitPlaceReport => exact steady_stn fun _ => takePlaceFree_settings
  case plannerRoomReport => exact steady_stn fun _ => takeRoom_settings
  case putTaskLeft => exact steady_stn fun _ => takePutLeft_settings
  case panelShowReturn => exact steady_stn fun _ => panelReturned_settings
  case bayCurtainChange => exact steady_stn fun _ => bayCurtainInput_settings
  case signOn => exact steady_stn fun _ => pressKey_settings
  case signOff => exact steady_stn fun _ => pressKey_settings
  case clearAccept => exact steady_stn fun _ => pressKey_settings
  case clearReject => exact steady_stn fun _ => pressKey_settings
  case recount => exact steady_stn fun _ => pressKey_settings
  case short => exact steady_stn fun _ => pressKey_settings
  case confirm => exact steady_stn fun _ => pressKey_settings
  case batchEnd => exact steady_stn fun _ => pressKey_settings
  case transitPlaceRequest => exact steady_carry fun _ => by simp
  case placeGiveUp => exact steady_carry fun _ => givePlace_settings
  case handOver => exact steady_carry fun _ => handOverPlace_settings
  case divertReturn => exact steady_carry fun _ => divertReturned_settings
  case transitTimeout => exact steady_carry fun _ => transitExpired_settings
  case releaseButton => exact steady_carry fun _ => momentaryRelease_settings
  case laneControllerRecovery => exact steady_carry fun _ => by simp
  case laneSettleExpiry => exact steady_carry fun _ => laneSettled_settings
  case tagTimerExpiry => exact steady_carry fun _ => tagExpires_settings
  case latchReturn => exact steady_carry fun _ => latchReturned_settings
  case waitingReport => exact steady_carry fun _ => takeWaiting_settings
  case orderClassReport => exact steady_carry fun _ => takeOrderClass_settings
  case goneReport => exact steady_carry fun _ => takeGone_settings
  case cancelReport => exact steady_carry fun _ => takeCancel_settings
  case completionReport => exact steady_carry fun _ => takeCompletion_settings
  case receiptAnswer => exact steady_carry fun _ => takeReceiptAnswer_settings
  case auditRequestRaised => exact steady_stn fun _ => raiseInternal_settings
  case auditGranted => exact steady_stn fun _ => takeAuditGranted_settings
  case tally => exact steady_stn fun _ => takeTally_settings
  case auditConfirm => exact steady_stn fun _ => confirmAudit_settings
  case auditIdleExpiry => exact steady_stn fun _ => sessionExpired_settings
  case auditAbandonReport => exact steady_stn fun _ => abandonSession_settings
  case auditHandBack => exact steady_stn fun _ => takeHandBack_settings
  case admitNotice => exact steady_stn fun _ => takeAdmit_settings
  case noticeHanded => exact steady_carry fun _ => handNotice_settings
  case noticeSend => exact steady_carry fun _ => sendNotice_settings
  case noticeFate => exact steady_carry fun _ => noticeReturned_settings
  case replyOffer => exact steady_carry fun _ => offerReply_settings
  case statusQueryReturn => exact steady_seq fun _ => queryReturned_settings
  case haltReturn => exact steady_seq fun _ => haltReturned_settings
  -- the requests and the field's frames have their rows above; what is left sets something
  all_goals simp only [runRequest, runFrame, reduceCtorEq, setsSettings, Bool.true_eq_false] at hq hf hw

theorem steady_exec {i : Instr} (hw : setsSettings i = false) : Steady s (exec i s) := by
  cases hq : runRequest i s with
  | some r => exact exec_of_runRequest hq ▸ steady_runRequest hq hw
  | none =>
    cases hf : runFrame i s with
    | some r => exact exec_of_runFrame hf ▸ steady_runFrame hf
    | none => exact steady_row hw hq hf

end
end Sys2Proof.Machine

namespace Sys2Proof.Machine

/-! # Every balance record stays sound (R26 to R33) -/

/-! ## Sound records -/

/-- What a balance record holds beside the figures of its recomputation: an even P, one clamped mass for each carrier, and
limits and times in their ranges. -/
structure Balance.InRange (b : Balance) : Prop where
  length : b.masses.length = b.p
  clamped : ∀ m ∈ b.masses, m ≤ Config.massClamp
  even : b.p % 2 = 0
  carriers : 8 ≤ b.p ∧ b.p ≤ 64
  limits : b.soft ≤ b.hard ∧ b.hard ≤ 131071
  start : b.start ≤ 100
  normal : 1 ≤ b.normalPitch ∧ b.normalPitch ≤ 100
  slow : 1 ≤ b.slowPitch ∧ b.slowPitch ≤ 100

theorem Balance.sound_iff (b : Balance) : b.sound = true ↔ b = b.recompute ∧ b.InRange := by
  simp only [Balance.sound, decide_eq_true_eq]
  constructor
  · rintro ⟨he, h1, h2, h3, h4, h5, h6, h7, h8, h9, h10, h11, h12⟩
    exact ⟨he, h1, h2, h3, ⟨h4, h5⟩, ⟨h6, h7⟩, h8, ⟨h9, h10⟩, ⟨h11, h12⟩⟩
  · rintro ⟨he, h1, h2, h3, ⟨h4, h5⟩, ⟨h6, h7⟩, h8, ⟨h9, h10⟩, ⟨h11, h12⟩⟩
    exact ⟨he, h1, h2, h3, h4, h5, h6, h7, h8, h9, h10, h11, h12⟩

/-- A recomputation changes the figures alone, and a second one nothing. -/
theorem Balance.InRange.recompute_sound {b : Balance} (h : b.InRange) : b.recompute.sound = true :=
  (Balance.sound_iff _).2 ⟨rfl, { h with }⟩

theorem writeMasses_length (m : List Nat) (report : List (Nat × Nat)) : (writeMasses m report).length = m.length := by
  induction report generalizing m with
  | nil => rfl
  | cons e report ih => exact (ih _).trans List.length_set

theorem writeMasses_clamped {m : List Nat} (report : List (Nat × Nat)) (hm : ∀ x ∈ m, x ≤ Config.massClamp) :
    ∀ x ∈ writeMasses m report, x ≤ Config.massClamp := by
  induction report generalizing m with
  | nil => exact hm
  | cons e report ih =>
    refine ih fun x hx => ?_
    rcases List.mem_or_eq_of_mem_set hx with hx | rfl
    · exact hm x hx
    · exact Nat.min_le_right _ _

theorem Balance.InRange.writeMasses {b : Balance} (h : b.InRange) (report : List (Nat × Nat)) :
    ({ b with masses := writeMasses b.masses report } : Balance).InRange :=
  { h with length := (writeMasses_length _ _).trans h.length, clamped := writeMasses_clamped report h.clamped }

/-! ## The record of an empty carousel -/

theorem imbalanceAt_replicate_zero (p h r : Nat) : imbalanceAt (List.replicate p 0) h r = 0 := by
  simp [imbalanceAt, windowSum, totalMass, List.drop_replicate, List.take_replicate]

theorem worstImbalance_replicate_zero (p : Nat) : worstImbalance (List.replicate p 0) = 0 :=
  Nat.le_zero.1 (worstUpTo_le_iff.2 fun r _ => Nat.le_of_eq (imbalanceAt_replicate_zero p _ r))

theorem firstAt_replicate_zero (p h n : Nat) : firstAt (List.replicate p 0) h 0 n = 0 := by
  induction n with
  | zero => rfl
  | succ n ih => simp [firstAt, ih, imbalanceAt_replicate_zero]

theorem worstRotation_replicate_zero (p : Nat) : worstRotation (List.replicate p 0) = 0 := by
  rw [worstRotation, worstImbalance_replicate_zero]
  exact firstAt_replicate_zero p _ _

theorem heldPitch_range (n : Nat) : 1 ≤ heldPitch n ∧ heldPitch n ≤ 100 := by
  unfold heldPitch
  omega

/-- The settings of a configuration write in range make a record in range (R33). -/
theorem CarouselCfg.balance_inRange {c : CarouselCfg} (hc : carouselInRange c = true) {b : Balance} {masses : List Nat}
    (hlen : masses.length = c.p) (hm : ∀ m ∈ masses, m ≤ Config.massClamp) :
    ({ b with
      p := c.p, masses := masses, soft := c.soft, hard := c.hard, bidirectional := c.bidirectional, start := min c.start 100,
      normalPitch := heldPitch c.normalPitch, slowPitch := heldPitch c.slowPitch } : Balance).InRange := by
  simp only [carouselInRange, decide_eq_true_eq] at hc
  obtain ⟨heven, hmin, hmax, -, -, -, -, -, -, hhard, hsoft⟩ := hc
  exact ⟨hlen, hm, heven, ⟨hmin, hmax⟩, ⟨hsoft, hhard⟩, Nat.min_le_right _ _, heldPitch_range _, heldPitch_range _⟩

theorem replicate_zero_clamped (p : Nat) : ∀ m ∈ List.replicate p 0, m ≤ Config.massClamp := fun m hm => by
  rw [List.eq_of_mem_replicate hm]
  exact Nat.zero_le _

theorem firstBalance_sound {c : CarouselCfg} (hc : carouselInRange c = true) : (firstBalance c).sound = true := by
  refine (Balance.sound_iff _).2 ⟨?_, CarouselCfg.balance_inRange (b := firstBalance c) hc List.length_replicate
    (replicate_zero_clamped _)⟩
  simp [Balance.recompute, firstBalance, worstImbalance_replicate_zero, worstRotation_replicate_zero, totalMass]

/-! ## Law L8 and the speed class (R29, R30, R76) -/

/-- Settles O59: a sound record's figures are its recomputation, and its masses at most 64 times 2047. -/
theorem balanceLaws : Obligations.BalanceLaws := by
  intro s hs
  refine ⟨fun k b hb => ?_, fun k b hb => ?_⟩ <;> obtain ⟨he, hr⟩ := (Balance.sound_iff b).1 (hs k b hb)
  · rw [he]
    simp [Balance.recompute]
  · have htotal : b.total = b.masses.sum := by rw [he]; rfl
    have hworst : b.worst ≤ b.total := by rw [he]; exact worstImbalance_le_total b.masses
    have hsum := List.sum_le_card_nsmul b.masses 2047 hr.clamped
    have hcars := hr.carriers
    rw [hr.length, smul_eq_mul] at hsum
    exact ⟨hworst, by omega⟩

/-! ## The operations of the Balance Unit -/

section
variable {s t : State}

theorem State.balanceSound_of_balance (h : t.balance = s.balance) (hs : s.balanceSound) : t.balanceSound :=
  fun k b hb => hs k b (by rw [← hb, State.bal, State.bal, h])

/-- Operations that leave the settings leave the balance records sound. -/
theorem State.balanceSound_of_settings (h : t.settings = s.settings) : s.balanceSound → t.balanceSound :=
  State.balanceSound_of_balance (congrArg Settings.balance h)

theorem balanceSound_setBal {k : Carousel} {b : Balance} (hb : b.sound = true) (hs : s.balanceSound) :
    (s.setBal k (some b)).balanceSound := by
  intro j c hc
  by_cases hj : j = k
  · subst hj
    rw [State.bal_setBal] at hc
    exact Option.some.inj hc ▸ hb
  · rw [State.bal_setBal_ne _ _ hj] at hc
    exact hs j c hc

/-- A record recomputed after a change that leaves it in range is sound. -/
theorem balanceSound_rebalance {k : Carousel} {f : Balance → Balance} (hf : ∀ b, s.bal k = some b → b.InRange → (f b).InRange)
    (hs : s.balanceSound) : (rebalance k f s).balanceSound := by
  cases hb : s.bal k with
  | none => simpa only [rebalance, hb] using hs
  | some b =>
    rw [rebalance_some hb]
    have hrange := hf b hb ((Balance.sound_iff b).1 (hs k b hb)).2
    exact State.balanceSound_of_balance (balanceReports_balance _ _ _ _) (balanceSound_setBal hrange.recompute_sound hs)

theorem balanceSound_takeMasses {k : Carousel} {report : List (Nat × Nat)} :
    s.balanceSound → (takeMasses k report s).balanceSound :=
  balanceSound_rebalance fun _ _ h => h.writeMasses report

theorem balanceSound_configureBalance {k : Carousel} {c : CarouselCfg} (hc : carouselInRange c = true) (hs : s.balanceSound) :
    (configureBalance k c s).balanceSound := by
  cases hb : s.bal k with
  | none =>
    simp only [configureBalance, hb]
    exact balanceSound_setBal (firstBalance_sound hc) hs
  | some b =>
    simp only [configureBalance, hb]
    refine balanceSound_rebalance (fun x _ hx => CarouselCfg.balance_inRange hc ?_ ?_) (balanceSound_setBal (hs k b hb) hs)
    · split
      · next hp => exact hx.length.trans hp
      · exact List.length_replicate
    · split
      · exact hx.clamped
      · exact replicate_zero_clamped _

/-! ## The requests that write settings -/

theorem balanceSound_carouselConfigRequest {c : CarouselCfg} (hs : s.balanceSound) :
    (carouselConfigRequest c s).1.balanceSound := by
  unfold carouselConfigRequest
  dsimp only
  split
  · exact hs
  next k _ =>
  split
  · exact hs
  next hr =>
  split
  · exact hs
  split
  · exact hs
  refine State.balanceSound_of_settings configureSeq_settings (balanceSound_configureBalance (by simpa using hr)
    (State.balanceSound_of_settings (configureStock_settings.trans ?_) hs))
  split
  · exact handBackAudits_settings
  · rfl

theorem balance_of_settings (h : t.settings = s.settings) : t.balance = s.balance := congrArg Settings.balance h

/-- The node map is no part of the balance records. -/
theorem nodeMapWriteRequest_balance {a role unit mirror} :
    (nodeMapWriteRequest a role unit mirror s).1.balance = s.balance := by
  unfold nodeMapWriteRequest
  split
  · rfl
  split
  · rfl
  split
  · rfl
  split
  · rfl
  dsimp only
  split
  · rfl
  · exact (balance_of_settings endClaimsOf_settings).trans rfl

theorem groupWriteRequest_balance {g members} : (groupWriteRequest g members s).1.balance = s.balance := by
  unfold groupWriteRequest
  dsimp only
  repeat' split
  all_goals rfl

theorem timerWriteRequest_balance {selector n} : (timerWriteRequest selector n s).1.balance = s.balance := by
  unfold timerWriteRequest
  split <;> rfl

theorem configureLane_balance {l configured limit} : (configureLane l configured limit s).balance = s.balance := by
  unfold configureLane
  dsimp only
  split
  · refine (balance_of_settings seatIfMade_settings).trans ?_
    split <;> rfl
  · split
    · rfl
    · exact (balance_of_settings emptyLane_settings).trans rfl

theorem laneConfigRequest_balance {n configured limit} : (laneConfigRequest n configured limit s).1.balance = s.balance := by
  unfold laneConfigRequest
  split
  · rfl
  split
  · rfl
  split
  · rfl
  · exact configureLane_balance

/-- CELL-RESTART recomputes every record. -/
theorem balanceSound_restartCell (hs : s.balanceSound) : (restartCell s).balanceSound := by
  intro k n hn
  obtain ⟨b, hb, rfl⟩ := Option.map_eq_some_iff.1 ((restartCell_restarted s).balances k ▸ hn)
  exact ((Balance.sound_iff b).1 (hs k b hb)).2.recompute_sound

/-- Without a configured carousel there is no record. -/
theorem balanceSound_empty (h : s.balance = Vector.replicate 8 none) : s.balanceSound := by
  intro k b hb
  simp [State.bal, h] at hb

end

/-! ## Every command -/

/-- Whatever the command comes to, balance records that were sound before are sound. -/
def BalanceSafe (s : State) (r : Host.Outcome State Fault Refusal) : Prop :=
  s.balanceSound → ∀ t, r = .next t → t.balanceSound

section
variable {s : State}

theorem Steady.balanceSafe {r : Host.Outcome State Fault Refusal} (h : Steady s r) : BalanceSafe s r :=
  fun hs t ht => State.balanceSound_of_settings (h t ht) hs

theorem balanceSafe_next {t : State} (h : s.balanceSound → t.balanceSound) : BalanceSafe s (.next t) := by
  intro hs u hu
  cases hu
  exact h hs

theorem balanceSafe_carry {f : State → State} (hf : ∀ u : State, u.balanceSound → (f u).balanceSound) :
    BalanceSafe s (carry s f) := by
  refine balanceSafe_next fun hs => ?_
  split
  · exact hs
  · exact hf _ hs

theorem balanceSafe_request {q : Req} {kind : Nat} {body : State → State × Answered}
    (hb : ∀ u : State, u.balanceSound → (body u).1.balanceSound) : BalanceSafe s (carry s (request q kind body)) := by
  refine balanceSafe_carry fun u hu => ?_
  obtain ⟨t, ht, h | h⟩ := request_cases q kind body u
  · exact State.balanceSound_of_settings (h.trans ht) hu
  · exact State.balanceSound_of_settings h (hb t (State.balanceSound_of_settings ht hu))

theorem balanceSafe_settled {q : Req} {kind : Nat} {body : State → State × Result}
    (hb : ∀ u : State, u.balanceSound → (body u).1.balanceSound) : BalanceSafe s (carry s (request q kind (settled body))) :=
  balanceSafe_request fun u hu => State.balanceSound_of_settings attendEnded_settings (hb u hu)

theorem balanceSafe_plain {q : Req} {kind : Nat} {body : State → State × Result}
    (hb : ∀ u : State, u.balanceSound → (body u).1.balanceSound) : BalanceSafe s (carry s (request q kind (plain body))) :=
  balanceSafe_request hb

theorem balanceSafe_cellRestart {q : Req} : BalanceSafe s (execCellRestart q s) := by
  refine balanceSafe_plain fun u hu => ?_
  dsimp only
  exact balanceSound_restartCell hu

theorem balanceSafe_runRequest {c : Instr} {r : Host.Outcome State Fault Refusal} (hr : runRequest c s = some r) :
    BalanceSafe s r := by
  cases hw : setsSettings c with
  | false => exact (steady_runRequest hr hw).balanceSafe
  | true =>
    cases c <;> simp only [setsSettings, Bool.false_eq_true] at hw <;>
      simp only [runRequest, Option.some.injEq, reduceCtorEq] at hr
    all_goals subst hr
    case cellRestart => exact balanceSafe_cellRestart
    case carouselConfigWrite => exact balanceSafe_settled fun _ => balanceSound_carouselConfigRequest
    case nodeMapWrite =>
      exact balanceSafe_settled fun _ => State.balanceSound_of_balance nodeMapWriteRequest_balance
    case groupWrite => exact balanceSafe_plain fun _ => State.balanceSound_of_balance groupWriteRequest_balance
    case laneConfigWrite => exact balanceSafe_plain fun _ => State.balanceSound_of_balance laneConfigRequest_balance
    case timerWrite => exact balanceSafe_request fun _ => State.balanceSound_of_balance timerWriteRequest_balance

/-- A frame's bytes, whatever command they stand for (R178). -/
theorem balanceSafe_receiveBytes {f : WireFrame} : BalanceSafe s (receiveBytes f s) := by
  unfold receiveBytes
  split
  · split
    · next c _ =>
      cases hq : runRequest c s with
      | some r => exact balanceSafe_runRequest hq
      | none =>
        cases hf : runFrame c s with
        | some r => exact (steady_runFrame hf).balanceSafe
        | none => exact steady_passedOn.balanceSafe
    · exact steady_passedOn.balanceSafe
  · exact (steady_carry fun _ => badFrame_settings).balanceSafe

theorem balanceSafe_exec (i : Instr) (s : State) : BalanceSafe s (exec i s) := by
  cases hw : setsSettings i with
  | false => exact (steady_exec hw).balanceSafe
  | true =>
    cases hq : runRequest i s with
    | some r => exact exec_of_runRequest hq ▸ balanceSafe_runRequest hq
    | none =>
      cases i <;> simp only [setsSettings, runRequest, Bool.false_eq_true, reduceCtorEq] at hw hq
      case resetAssert => exact balanceSafe_next fun _ => balanceSound_empty rfl
      case powerOnReset => exact balanceSafe_next fun _ => balanceSound_empty rfl
      case massReport => exact balanceSafe_carry fun _ => balanceSound_takeMasses
      case damagedFrameReceived => exact balanceSafe_receiveBytes
      case forwardedFrame => exact balanceSafe_receiveBytes

end

/-- Settles O52: a step carries out a command or lets time pass, and every command keeps the records sound. -/
theorem balanceKept : Obligations.BalanceKept := by
  intro s t hs ht
  have run : ∀ {u : State} {i : Instr}, exec i u = .next t → u.balance = s.balance → t.balanceSound := fun ht hu =>
    balanceSafe_exec _ _ (State.balanceSound_of_balance hu hs) t ht
  unfold step at ht
  split at ht
  · exact run ht rfl
  unfold ownStep at ht
  split at ht
  · exact balanceSafe_next id hs t ht
  split at ht
  · exact run ht rfl
  split at ht
  · exact run ht rfl
  · exact balanceSafe_next (t := s.tick) id hs t ht

end Sys2Proof.Machine

namespace Sys2Proof.Machine

/-! # The settings written, and the records read (R169, R175, R180, R181, R186) -/

@[simp] theorem lane?_val (l : Lane) : lane? l.val = some l := by simp [lane?]

/-! ## NODE-MAP-WRITE (R169, R90) -/

theorem exec_nodeMapWrite {s : State} {q : Req} (hs : s.asks q) {addr role unit : Nat} {mirror : Bool}
    (hst : (nodeMapWriteRequest addr role unit mirror (s.asked q 68)).1.stations = s.stations) :
    exec (.nodeMapWrite q addr role unit mirror) s =
      .next ((nodeMapWriteRequest addr role unit mirror (s.asked q 68)).1.replied q 68
        (nodeMapWriteRequest addr role unit mirror (s.asked q 68)).2 []) :=
  carry_settled hs 68 (nodeMapWriteRequest addr role unit mirror) hst

theorem roleOfCode_none {role : Nat} (h : 10 ≤ role) : roleOfCode role = none := by
  unfold roleOfCode
  split <;> first | omega | rfl

theorem nodeMapWriteRequest_range {s : State} {addr role unit : Nat} {mirror : Bool}
    (h : 63 < addr ∨ addr = s.own ∨ 10 ≤ role ∨ ∃ r, roleOfCode role = some r ∧ roleUnits r ≤ unit) :
    nodeMapWriteRequest addr role unit mirror s = (s, .range) := by
  unfold nodeMapWriteRequest
  split
  · rfl
  next r hr =>
    refine if_pos ?_
    rcases h with h | h | h | ⟨r', hr', h⟩
    · exact .inl h
    · exact .inr (.inl h)
    · rw [roleOfCode_none h] at hr
      cases hr
    · obtain rfl : r' = r := Option.some.inj (hr'.symm.trans hr)
      exact .inr (.inr h)

theorem exec_nodeMapWrite_range {s : State} {q : Req} (hs : s.asks q) {addr role unit : Nat} {mirror : Bool}
    (h : 63 < addr ∨ addr = s.own ∨ 10 ≤ role ∨ ∃ r, roleOfCode role = some r ∧ roleUnits r ≤ unit) :
    exec (.nodeMapWrite q addr role unit mirror) s = .next ((s.asked q 68).replied q 68 .range []) := by
  have hreq := nodeMapWriteRequest_range (s := s.asked q 68) (mirror := mirror) h
  rw [exec_nodeMapWrite hs (by rw [hreq]; rfl), hreq]

/-- The node map with an entry written. -/
def State.withNode (s : State) (addr : Nat) (n : Node) : State :=
  s.modFe fun e => { e with nodes := writeNode addr n e.nodes }

/-- A write in range in LOADING takes the entry, and ends the claims of a node that is no MAINT any more. -/
theorem nodeMapWriteRequest_done {s : State} {addr role unit : Nat} {mirror : Bool} {r : Role} (hr : roleOfCode role = some r)
    (haddr : addr ≤ 63) (hown : addr ≠ s.own) (hunit : unit < roleUnits r)
    (hfree : r = .none ∨ r = .maint ∨ s.nodeTaken addr r unit = false) (hcell : s.mgmt.cell = .loading) :
    nodeMapWriteRequest addr role unit mirror s =
      (if r = .maint then s.withNode addr { role := r, unit := unit, mirror := mirror }
        else endClaimsOf addr (s.withNode addr { role := r, unit := unit, mirror := mirror }), .done) := by
  have htaken : ¬ (!(r = .none) && !(r = .maint) && s.nodeTaken addr r unit) = true := by
    rcases hfree with h | h | h <;> simp [h]
  unfold nodeMapWriteRequest
  simp only [hr]
  rw [if_neg (by omega), if_neg htaken, if_neg fun h => h.1 hcell]
  rfl

theorem takeRelease_none {k : Carousel} {s : State} (h : (s.seq k).claim = none) (addr : Nat) : takeRelease k addr s = s := by
  simp [takeRelease, h]

/-- Without a claim there is none to end. -/
theorem endClaims_none {l : List Carousel} {s : State} (h : ∀ k : Carousel, (s.seq k).claim = none) (addr : Nat) :
    l.foldl (fun s k => takeRelease k addr s) s = s := by
  induction l with
  | nil => rfl
  | cons k l ih => rw [List.foldl_cons, takeRelease_none (h k), ih]

/-- The one claim, which names the node, is ended. -/
theorem endClaims_one {l : List Carousel} {s : State} {k : Carousel} (hk : k ∈ l) {addr : Nat}
    (hother : ∀ j : Carousel, j ≠ k → (s.seq j).claim = none) (hc : (s.seq k).claim.any (fun c => c.node = addr) = true)
    (hend : ∀ j : Carousel, ((endClaim k false s).seq j).claim = none) :
    l.foldl (fun s k => takeRelease k addr s) s = endClaim k false s := by
  induction l with
  | nil => cases hk
  | cons j l ih =>
    rw [List.foldl_cons]
    by_cases hj : j = k
    · subst hj
      rw [takeRelease, if_pos hc]
      exact endClaims_none hend addr
    · rw [takeRelease_none (hother j hj)]
      exact ih ((List.mem_cons.1 hk).resolve_left (Ne.symm hj))

/-! ### The end of a claim with the ring UP -/

/-- A query to a drive with a node is queued while the transmit queue has room. -/
theorem sendQuery_room {k : Carousel} {b : Bool} {s : State} {d : Nat} (hd : s.nodeOf .drive k.val = some d)
    (hroom : s.fe.queue.length < 32) :
    sendQuery k b s = (s.modFe fun e =>
      { e with queue := e.queue ++ [frameTo (.seq k) d (.statusQuery (s.seq k).asked)] }).modSeq k (Seq.ask b) := by
  have hsend := sendOrKeep_room (.seq k) (t := driveOf k) (.statusQuery (s.seq k).asked) hd hroom
  simp only [joinQueue_normal (f := frameTo (.seq k) d (.statusQuery (s.seq k).asked)) rfl] at hsend
  rw [sendQuery, hsend]
  rfl

/-- A sequencer that has entered UNKNOWN and asked its drive (R68). -/
def Seq.asking (q : Seq) : Seq :=
  Seq.ask false { q with state := .unknown, fault := none, move := none, built := none, current := none, short := 0 }

theorem State.modFe_modSeq (s : State) (k : Carousel) (f : Seq → Seq) (g : FrameEngine → FrameEngine) :
    (s.modSeq k f).modFe g = (s.modFe g).modSeq k f := rfl

/-- A carousel that leaves MANUAL while the ring is UP asks its drive, and reports nothing. -/
theorem enterUnknown_manual {k : Carousel} {s : State} {d : Nat} (hm : (s.seq k).state = .manual) (hring : s.fe.ring = .up)
    (hd : s.nodeOf .drive k.val = some d) (hroom : s.fe.queue.length < 32) :
    enterUnknown k s = (s.modFe fun e =>
      { e with queue := e.queue ++ [frameTo (.seq k) d (.statusQuery (s.seq k).asked)] }).modSeq k Seq.asking := by
  have hleave : leaveOpening k .unknown s = s.modSeq k fun q => { q with state := .unknown } := by
    simp only [leaveOpening, hm]
  unfold enterUnknown
  rw [hleave]
  simp only [State.modSeq_modSeq]
  rw [if_pos (show (s.modSeq k _).fe.ring = .up from hring), sendQuery_room (s := s.modSeq k _) hd hroom, State.seq_modSeq,
    State.modFe_modSeq, State.modSeq_modSeq]
  rfl

/-- A claim ended, before its carousel enters UNKNOWN: the carriers it has opened are to be audited, and the end is noticed. -/
def State.claimClosed (s : State) (k : Carousel) (c : Claim) : State :=
  handNotice (.manualExited k false c.carriers c.all (s.seq k).index) (s.postAll
    ((if c.all = true then List.range (s.carriersOf k) else c.carriers).map fun i => .auditRequestRaised k i true 1 .manual))

/-- A claim's carousel has left MANUAL for UNKNOWN, and its query to the drive's node `d` is queued (R68, R90). -/
def State.claimEnded (s : State) (k : Carousel) (c : Claim) (d : Nat) : State :=
  ((s.claimClosed k c).modFe fun e =>
    { e with queue := e.queue ++ [frameTo (.seq k) d (.statusQuery (s.seq k).asked)] }).modSeq k
      fun q => Seq.asking { q with claim := none }

theorem State.claimEnded_seq (s : State) (k : Carousel) (c : Claim) (d : Nat) :
    (s.claimEnded k c d).seq k = Seq.asking { s.seq k with claim := none } := State.seq_modSeq _ k _

theorem State.claimEnded_seq_ne (s : State) {j k : Carousel} (c : Claim) (d : Nat) (h : j ≠ k) :
    (s.claimEnded k c d).seq j = s.seq j := State.seq_modSeq_ne _ _ h

theorem State.claimEnded_notices {s : State} (h : s.mgmt.notices.length < 64) (k : Carousel) (c : Claim) (d : Nat) :
    (s.claimEnded k c d).mgmt.notices = s.mgmt.notices ++
      [{ seq := s.mgmt.noticeSeq, body := .manualExited k false c.carriers c.all (s.seq k).index }] := by
  show (s.claimClosed k c).mgmt.notices = _
  rw [State.claimClosed, handNotice_room _ (s := s.postAll _) h]
  rfl

theorem State.claimEnded_mail (s : State) (k : Carousel) (c : Claim) (d : Nat) :
    (s.claimEnded k c d).mail = s.mail ++ (if c.all = true then List.range (s.carriersOf k) else c.carriers).map fun i =>
      .auditRequestRaised k i true 1 .manual := rfl

theorem State.claimEnded_nodes (s : State) (k : Carousel) (c : Claim) (d : Nat) :
    (s.claimEnded k c d).fe.nodes = s.fe.nodes := rfl

theorem State.claimEnded_queue (s : State) (k : Carousel) (c : Claim) (d : Nat) :
    (s.claimEnded k c d).fe.queue = s.fe.queue ++ [frameTo (.seq k) d (.statusQuery (s.seq k).asked)] := rfl

theorem State.claimEnded_replies (s : State) (k : Carousel) (c : Claim) (d : Nat) :
    (s.claimEnded k c d).mgmt.replies = s.mgmt.replies := rfl

theorem State.claimEnded_stations (s : State) (k : Carousel) (c : Claim) (d : Nat) :
    (s.claimEnded k c d).stations = s.stations := rfl

/-- A claim that ends in MANUAL while the ring is UP, with room for its query (R90). -/
theorem endClaim_up {k : Carousel} {s : State} {c : Claim} {d : Nat} (hm : (s.seq k).state = .manual)
    (hc : (s.seq k).claim = some c) (hring : s.fe.ring = .up) (hd : s.nodeOf .drive k.val = some d)
    (hroom : s.fe.queue.length < 32) :
    endClaim k false s = s.claimEnded k c d := by
  have hend : endClaim k false s = enterUnknown k ((s.claimClosed k c).modSeq k fun q => { q with claim := none }) := by
    simp only [endClaim, hm, hc]
    rfl
  have hstate : (((s.claimClosed k c).modSeq k fun q => { q with claim := none }).seq k).state = .manual := by
    rw [State.seq_modSeq]
    exact hm
  rw [hend, enterUnknown_manual hstate hring hd hroom, State.modFe_modSeq, State.modSeq_modSeq, State.seq_modSeq]
  rfl

theorem findNode_tput {r : Role} {u d addr : Nat} {n : Node} (hr : n.role ≠ r) (hd : d ≠ addr) {t : Table Node}
    (h : findNode r u t = some d) : findNode r u (tput addr n t) = some d := by
  induction t with
  | nil => cases h
  | cons e t ih =>
    obtain ⟨m, w⟩ := e
    unfold tput
    rw [findNode] at h
    split
    · rw [findNode, if_neg fun hn => hr hn.1, findNode]
      exact h
    · split
      · next he =>
        rw [findNode, if_neg fun hn => hr hn.1]
        split at h
        · exact absurd ((Option.some.inj h).symm.trans he) hd
        · exact h
      · rw [findNode]
        split at h
        · next hw => rw [if_pos hw]; exact h
        · next hw => rw [if_neg hw]; exact ih h

theorem findNode_tdel {r : Role} {u d addr : Nat} (hd : d ≠ addr) {t : Table Node} (h : findNode r u t = some d) :
    findNode r u (tdel addr t) = some d := by
  induction t with
  | nil => cases h
  | cons e t ih =>
    obtain ⟨m, w⟩ := e
    unfold tdel
    rw [findNode] at h
    split
    · next he =>
      split at h
      · exact absurd ((Option.some.inj h).symm.trans he) hd
      · exact h
    · rw [findNode]
      split at h
      · next hw => rw [if_pos hw]; exact h
      · next hw => rw [if_neg hw]; exact ih h

/-- A write of one address leaves the node of a role that it does not take at another. -/
theorem State.nodeOf_withNode {s : State} {addr u d : Nat} {r : Role} {n : Node} (hr : n.role ≠ r) (hd : d ≠ addr)
    (h : s.nodeOf r u = some d) : (s.withNode addr n).nodeOf r u = some d := by
  show findNode r u (writeNode addr n s.fe.nodes) = some d
  unfold writeNode
  split
  · exact findNode_tdel hd h
  · exact findNode_tput hr hd h

/-! ## GROUP-WRITE and LANE-CONFIG-WRITE (R141, R175, R180) -/

theorem exec_groupWrite {s : State} {q : Req} (hs : s.asks q) (g : Nat) (members : List Nat) :
    exec (.groupWrite q g members) s = .next ((groupWriteRequest g members (s.asked q 69)).1.replied q 69
      (groupWriteRequest g members (s.asked q 69)).2 []) := carry_plain hs 69 (groupWriteRequest g members)

theorem groupWriteRequest_range {s : State} {g : Nat} {members : List Nat}
    (h : 8 ≤ g ∨ 16 < members.length ∨ s.own ∈ members ∨ ¬ members.Nodup) :
    groupWriteRequest g members s = (s, .range) := by
  unfold groupWriteRequest
  split
  · next hg =>
    refine if_pos ?_
    rcases h with h | h | h | h
    · omega
    · exact .inl h
    · exact .inr (.inr (.inl h))
    · exact .inr (.inr (.inr h))
  · rfl

theorem groupWriteRequest_done {s : State} {g : Nat} {members : List Nat} (hg : g < 8) (hlen : members.length ≤ 16)
    (haddr : ∀ a ∈ members, a ≤ 63) (hown : s.own ∉ members) (hn : members.Nodup) (hcell : s.mgmt.cell = .loading) :
    groupWriteRequest g members s = (s.modFe fun e => { e with groups := e.groups.set g members hg }, .done) := by
  have hany : ¬ (members.any fun a => decide (63 < a)) = true := by
    simpa using haddr
  unfold groupWriteRequest
  rw [dif_pos hg, if_neg (by rintro (h | h | h | h); exacts [Nat.not_lt.2 hlen h, hany h, hown h, h hn])]
  exact if_neg fun h => h.2.1 hcell

theorem exec_laneConfigWrite {s : State} {q : Req} (hs : s.asks q) (n : Nat) (configured : Bool) (limit : Nat) :
    exec (.laneConfigWrite q n configured limit) s =
      .next ((laneConfigRequest n configured limit (s.asked q 72)).1.replied q 72
        (laneConfigRequest n configured limit (s.asked q 72)).2 []) := carry_plain hs 72 (laneConfigRequest n configured limit)

theorem laneConfigRequest_range {s : State} (l : Lane) (configured : Bool) {limit : Nat} (h : limit = 0 ∨ 8 < limit) :
    laneConfigRequest l.val configured limit s = (s, .range) := by
  unfold laneConfigRequest
  rw [lane?_val]
  exact if_pos (by omega)

/-- An EMPTY lane with its contact open takes its configuration and stays EMPTY. -/
theorem laneConfigRequest_empty {s : State} {l : Lane} {limit : Nat} (h1 : 1 ≤ limit) (h8 : limit ≤ 8)
    (hcell : s.mgmt.cell = .loading) (hst : (s.lane l).state = .empty) (ha : (s.lane l).input.contactA = false) :
    laneConfigRequest l.val true limit s = (s.modLane l fun x => { x with configured := true, limit := limit }, .done) := by
  unfold laneConfigRequest
  rw [lane?_val]
  dsimp only
  rw [if_neg (by omega), if_neg fun h => h.1 hcell]
  simp only [configureLane, seatIfMade, State.lane_modLane, hst, ha, true_or, ↓reduceIte, Bool.false_eq_true, false_and, and_false]

/-! ## TIMER-WRITE (R181) -/

theorem exec_timerWrite_some {s : State} {q : Req} (hs : s.asks q) {selector value n : Nat} {t : Timers}
    (h : writeTimer s.mgmt.timers selector value = some (t, n)) :
    exec (.timerWrite q selector value) s =
      .next (((s.asked q 73).modMgmt fun m => { m with timers := t }).replied q 73 .done (b2 n)) := by
  have hexec : exec (.timerWrite q selector value) s = carry s (request q 73 (timerWriteRequest selector value)) := rfl
  have hreq : timerWriteRequest selector value (s.asked q 73) =
      ((s.asked q 73).modMgmt fun m => { m with timers := t }, { result := .done, content := b2 n }) := by
    unfold timerWriteRequest
    rw [show (s.asked q 73).mgmt.timers = s.mgmt.timers from rfl, h]
  rw [hexec, carry_begun hs.1.1, request_asked hs, hreq, addReply_done]

theorem exec_timerWrite_none {s : State} {q : Req} (hs : s.asks q) {selector value : Nat}
    (h : writeTimer s.mgmt.timers selector value = none) :
    exec (.timerWrite q selector value) s = .next ((s.asked q 73).replied q 73 .range []) := by
  have hexec : exec (.timerWrite q selector value) s = carry s (request q 73 (timerWriteRequest selector value)) := rfl
  have hreq : timerWriteRequest selector value (s.asked q 73) = (s.asked q 73, { result := .range, content := [] }) := by
    unfold timerWriteRequest
    rw [show (s.asked q 73).mgmt.timers = s.mgmt.timers from rfl, h]
  rw [hexec, carry_begun hs.1.1, request_asked hs, hreq, addReply_plain]

theorem writeTimer_none {selector : Nat} (h : 12 ≤ selector) (t : Timers) (value : Nat) : writeTimer t selector value = none := by
  unfold writeTimer
  split <;> first | omega | rfl

theorem clampTo_eq {lo hi : Nat} (h : lo ≤ hi) (n : Nat) : clampTo lo hi n = if n < lo then lo else if hi < n then hi else n := by
  unfold clampTo
  split
  · omega
  · split <;> omega

/-! ## RECORD-READ (R186) -/

theorem exec_recordRead {s : State} {q : Req} (hs : s.asks q) {kind index : Nat} {r : Result} {content : List Byte}
    (h : (s.asked q 79).record kind index = (r, content)) :
    exec (.recordRead q kind index) s = .next ((s.asked q 79).replied q 79 r (if r = .done then content else [])) := by
  have hexec : exec (.recordRead q kind index) s = carry s (request q 79 (recordReadRequest kind index)) := rfl
  rw [hexec, carry_begun hs.1.1, request_asked hs]
  simp only [recordReadRequest, h]
  rfl

theorem claim_settingWrites : Claims.SettingWrites := by
  intro s q hs
  refine ⟨fun addr role unit mirror => ⟨fun h => ?_, fun r hr ha ho hu hf hc hk => ?_⟩,
    fun g members => ⟨fun h => ?_, fun hg hl hm ho hn hc => ?_⟩,
    fun l configured limit => ⟨fun h => ?_, fun h1 h8 hc hst hA => ?_⟩, fun selector value h => ?_, fun value n hn => ?_,
    fun value n hn => ?_, fun kind index r content h => exec_recordRead hs h⟩
  · exact exec_nodeMapWrite_range hs (by tauto)
  · have hreq := nodeMapWriteRequest_done (s := s.asked q 68) (mirror := mirror) hr ha ho hu hf hc
    have hclaims : ∀ k : Carousel, (((s.asked q 68).withNode addr { role := r, unit := unit, mirror := mirror }).seq k).claim = none :=
      hk
    rw [endClaimsOf, endClaims_none hclaims, ite_self] at hreq
    rw [exec_nodeMapWrite hs (by rw [hreq]; rfl), hreq]
    rfl
  · rw [exec_groupWrite hs, groupWriteRequest_range (s := s.asked q 69) h]
  · rw [exec_groupWrite hs, groupWriteRequest_done (s := s.asked q 69) hg hl hm ho hn hc]
    rfl
  · rw [exec_laneConfigWrite hs, laneConfigRequest_range l configured h]
  · rw [exec_laneConfigWrite hs, laneConfigRequest_empty (s := s.asked q 72) h1 h8 hc hst hA]
    rfl
  · exact exec_timerWrite_none hs (writeTimer_none h _ _)
  · subst hn
    exact exec_timerWrite_some hs rfl
  · subst hn
    exact exec_timerWrite_some hs rfl

/-- The one claim that names a node ends when its address takes another role than MAINT (R90). -/
theorem endClaimsOf_one {k : Carousel} {s : State} {c : Claim} {addr d : Nat} (hm : (s.seq k).state = .manual)
    (hc : (s.seq k).claim = some c) (hnode : c.node = addr) (hother : ∀ j : Carousel, j ≠ k → (s.seq j).claim = none)
    (hring : s.fe.ring = .up) (hd : s.nodeOf .drive k.val = some d) (hroom : s.fe.queue.length < 32) :
    endClaimsOf addr s = endClaim k false s := by
  have hall : ∀ k : Carousel, k ∈ carousels := by decide
  refine endClaims_one (hall k) hother (by simp [hc, hnode]) fun j => ?_
  rw [endClaim_up hm hc hring hd hroom]
  by_cases hj : j = k
  · subst hj
    rw [State.claimEnded_seq]
    rfl
  · rw [State.claimEnded_seq_ne s c d hj]
    exact hother j hj

theorem claim_settingLimits : Claims.SettingLimits := by
  intro s q hs
  refine ⟨fun addr role unit mirror r hr hu => exec_nodeMapWrite_range hs (.inr (.inr (.inr ⟨r, hr, hu⟩))),
    fun k c addr role unit mirror r d hm hc hnode hother hr hmaint ha ho hu hf hcell hring hd hda hrd hroom hnot _ => ?claim,
    fun value => ?timers⟩
  case claim =>
    have hreq := nodeMapWriteRequest_done (s := s.asked q 68) (mirror := mirror) hr ha ho hu (hf.imp_right .inr) hcell
    have hdrive : ((s.asked q 68).withNode addr { role := r, unit := unit, mirror := mirror }).nodeOf .drive k.val = some d :=
      State.nodeOf_withNode hrd hda hd
    generalize hv : (s.asked q 68).withNode addr { role := r, unit := unit, mirror := mirror } = v at hreq hdrive
    have hseq : v.seq = s.seq := by subst hv; rfl
    have hmgmt : v.mgmt.notices = s.mgmt.notices := by subst hv; rfl
    have hclaim : (v.seq k).state = .manual ∧ (v.seq k).claim = some c ∧ ∀ j : Carousel, j ≠ k → (v.seq j).claim = none :=
      hseq ▸ ⟨hm, hc, hother⟩
    obtain ⟨hmv, hcv, hotherv⟩ := hclaim
    have hup : v.fe.ring = .up := by subst hv; exact hring
    have hspace : v.fe.queue.length < 32 := by subst hv; exact hroom
    rw [if_neg hmaint, endClaimsOf_one hmv hcv hnode hotherv hup hdrive hspace, endClaim_up hmv hcv hup hdrive hspace] at hreq
    refine ⟨(v.claimEnded k c d).replied q 68 .done [], ?_, (State.claimEnded_seq v k c d).trans (hseq ▸ rfl),
      fun j hj => (State.claimEnded_seq_ne v c d hj).trans (congrFun hseq j), ?mail, ?notice, ?nodes, ?queue, ?replies⟩
    · rw [exec_nodeMapWrite hs (by rw [hreq, State.claimEnded_stations]; subst hv; rfl), hreq]
    case mail =>
      refine (State.claimEnded_mail v k c d).trans ?_
      subst hv; rfl
    case notice =>
      refine ⟨{ seq := v.mgmt.noticeSeq, body := .manualExited k false c.carriers c.all (v.seq k).index }, ?_, by rw [hseq]⟩
      show _ ∈ (v.claimEnded k c d).mgmt.notices
      rw [State.claimEnded_notices (hmgmt ▸ hnot)]
      exact List.mem_append_right _ (List.mem_singleton_self _)
    case nodes =>
      refine (State.claimEnded_nodes v k c d).trans ?_
      subst hv; rfl
    case queue =>
      refine (State.claimEnded_queue v k c d).trans ?_
      subst hv; rfl
    case replies =>
      refine congrArg (· ++ _) ((State.claimEnded_replies v k c d).trans ?_)
      subst hv; rfl
  case timers =>
    intro sets held manual
    have hheld : ∀ {lo hi : Nat}, lo ≤ hi → clampTo lo hi value = held lo hi := fun h => clampTo_eq h value
    rw [← hheld (lo := 100) (hi := 36000) (by decide), ← hheld (lo := 100) (hi := 6000) (by decide),
      ← hheld (lo := 300) (hi := 9000) (by decide), ← hheld (lo := 5) (hi := 100) (by decide),
      ← hheld (lo := 10) (hi := 300) (by decide), ← hheld (lo := 1) (hi := 50) (by decide)]
    have write : ∀ {selector n : Nat} {f : Timers → Timers},
        writeTimer s.mgmt.timers selector value = some (f s.mgmt.timers, n) → sets selector n f :=
      fun h => exec_timerWrite_some hs h
    clear_value sets
    exact ⟨write rfl, write rfl, write rfl, write rfl, write rfl, write rfl, write rfl, write rfl, write rfl, write rfl⟩

/-! ## What a record read returns (R25, R66, R94, R186, R189) -/

/-- The picks of a HELD grant's task view (R99). -/
theorem bGrant_pick {s : State} {x : Stn} {k : Carousel} {v : TaskView} {ps : List ViewPick} (hg : x.grant = .held k v)
    (hb : v.body = .pick ps) :
    bGrant s x = b1 k.val ++ b1 2 ++ (b1 0 ++ b1 v.carrier ++ (b1 ps.length ++ ps.flatMap fun p =>
      b4 (s.labelOf p.lot).article.toNat ++ bWeek (s.labelOf p.lot).week ++ b1 p.remaining ++ b1 (markCode p.mark))) := by
  simp only [bGrant, hg, State.showView, Stn.holder, hb, bView, bList, List.length_map, List.flatMap_map, State.pickRow]

theorem claim_recordContents : Claims.RecordContents := by
  intro s q hs reads byte
  have done : ∀ {kind index : Nat} {content : List Byte}, (s.asked q 79).record kind index = (.done, content) →
      reads kind index .done content := fun h => exec_recordRead hs h
  have refused : ∀ {kind index : Nat} {r : Result}, r ≠ .done → (s.asked q 79).record kind index = (r, []) →
      reads kind index r [] := fun {_ _ r} hr h => by
    have := exec_recordRead hs h
    rwa [ite_self] at this
  refine ⟨fun n l hl hn => done ?lot, fun n hn => refused nofun ?noLot, fun k c hk hc => refused nofun ?carrier,
    fun k hk => done ?carousel, fun h hh ho => refused nofun ?order, fun a ha => done ?node, fun g => done ?group,
    fun kind index hk => refused nofun ?kind, fun _ _ => rfl, fun x held hlen => ?seq, fun _ _ => rfl,
    fun i k v ps hg hb => ?grant⟩
  case lot =>
    refine (if_pos (show n < Config.lots by simp only [Config.lots]; omega)).trans ?_
    rw [show (s.asked q 79).lot n = some l from hl]
    cases hst : l.state <;> simp [bLot, bLotState, bWeek, b2, b1, byte, hst]
  case noLot => exact if_neg (by simp only [Config.lots]; omega)
  case carrier =>
    have hhigh : (k.val * 256 + c) / 256 = k.val := by omega
    have hlow : (k.val * 256 + c) % 256 = c := by omega
    simp only [State.record, hhigh, hlow, car?_val, if_neg (Nat.not_lt.2 hc)]
    rw [show (s.asked q 79).stockCar k = none from hk]
    rfl
  case carousel =>
    simp only [State.record, car?_val, bCarousel]
    rw [show (s.asked q 79).bal k = none from hk]
    rfl
  case order =>
    refine (if_pos (show h < Config.handles by simp only [Config.handles]; omega)).trans ?_
    rw [show (s.asked q 79).order h = none from ho]
  case node =>
    refine (if_pos (show a < Config.nodes by simp only [Config.nodes]; omega)).trans ?_
    rw [show (s.asked q 79).node a = s.node a from rfl]
    cases hm : (s.node a).mirror <;> simp [bNode, bBool, b1, byte, hm]
  case group =>
    refine (dif_pos g.isLt).trans ?_
    show (Result.done, bList b1 s.fe.groups[g]) = _
    rw [bList, show b1 = fun n => [byte n] from rfl, ← List.map_eq_flatMap]
    rfl
  case kind =>
    unfold State.record
    split <;> first | omega | rfl
  case seq => simp only [bSeq, hlen]
  case grant =>
    rw [bGrant_pick hg hb]
    simp [bWeek, b1, byte]

/-- Settles O45: each write takes its value as it is held, and a read answers the record. -/
theorem settingRequests : Obligations.SettingRequests := ⟨claim_settingWrites, claim_settingLimits, claim_recordContents⟩

end Sys2Proof.Machine

namespace Sys2Proof.Machine

/-! # What the operations leave: the pool and the in-transit list

The reservation pool and the places of the conveyor are written by the Order Book and the Transit and Lane Unit alone. Every
other operation leaves both; of those that write them, only two take a place that was free. -/

/-- The two lists of places: the reservation pool and the in-transit list (R50, R132). -/
structure Slots where
  pool : Table Reservation
  places : Table Place

/-- The places that a state holds. -/
def State.slots (s : State) : Slots := { pool := s.book.pool, places := s.transit.places }

section
-- These lemmas rest on each other in long chains: each would hold a thread that waits for the one before.
set_option Elab.async false
variable {s : State}

/-! ### Updates of the state

The brackets around `rfl` make these equations that `simp` rewrites with, also where it has a hypothesis to discharge. -/

@[simp] theorem State.setSeq_slots {k q} : (s.setSeq k q).slots = s.slots := (rfl)
@[simp] theorem State.modSeq_slots {k f} : (s.modSeq k f).slots = s.slots := (rfl)
@[simp] theorem State.setStn_slots {i x} : (s.setStn i x).slots = s.slots := (rfl)
@[simp] theorem State.modStn_slots {i f} : (s.modStn i f).slots = s.slots := (rfl)
@[simp] theorem State.setLane_slots {l x} : (s.setLane l x).slots = s.slots := (rfl)
@[simp] theorem State.modLane_slots {l f} : (s.modLane l f).slots = s.slots := (rfl)
@[simp] theorem State.setStock_slots {k c} : (s.setStock k c).slots = s.slots := (rfl)
@[simp] theorem State.setBal_slots {k c} : (s.setBal k c).slots = s.slots := (rfl)
@[simp] theorem State.setSession_slots {k x} : (s.setSession k x).slots = s.slots := (rfl)
@[simp] theorem State.modFe_slots {f} : (s.modFe f).slots = s.slots := (rfl)
@[simp] theorem State.modMgmt_slots {f} : (s.modMgmt f).slots = s.slots := (rfl)
@[simp] theorem State.post_slots {c} : (s.post c).slots = s.slots := (rfl)
@[simp] theorem State.postAll_slots {cs} : (s.postAll cs).slots = s.slots := (rfl)
@[simp] theorem State.ans_slots {a} : (s.ans a).slots = s.slots := (rfl)
@[simp] theorem State.reach_slots {d} : (s.reach d).slots = s.slots := (rfl)
@[simp] theorem State.mail_slots {m} : ({ s with mail := m } : State).slots = s.slots := (rfl)
@[simp] theorem State.lots_slots {l} : ({ s with lots := l } : State).slots = s.slots := (rfl)
@[simp] theorem State.out_slots {o} : ({ s with out := o } : State).slots = s.slots := (rfl)
@[simp] theorem State.requests_slots {l} : ({ s with requests := l } : State).slots = s.slots := (rfl)
@[simp] theorem State.sessions_slots {l} : ({ s with sessions := l } : State).slots = s.slots := (rfl)

@[simp] theorem State.modBook_slots {f} (hf : (f s.book).pool = s.book.pool) : (s.modBook f).slots = s.slots := by
  simp [State.slots, hf]

@[simp] theorem State.modTransit_slots {f} (hf : (f s.transit).places = s.transit.places) :
    (s.modTransit f).slots = s.slots := by
  simp [State.slots, hf]

/-! ### Repetition -/

@[simp] theorem foldl_slots {α : Type} {f : State → α → State} (hf : ∀ t x, (f t x).slots = t.slots) (l : List α) :
    (l.foldl f s).slots = s.slots := by
  induction l generalizing s with
  | nil => rfl
  | cons x l ih => rw [List.foldl_cons, ih, hf]

@[simp] theorem foldl_ite_slots {α : Type} {p : State → α → Prop} [∀ t x, Decidable (p t x)] {f : State → α → State}
    (hf : ∀ t x, (f t x).slots = t.slots) (l : List α) :
    (l.foldl (fun t x => if p t x then f t x else t) s).slots = s.slots :=
  foldl_slots (fun t x => by split; exacts [hf t x, rfl]) l

@[simp] theorem foldl_fst_slots {α β : Type} {f : State × β → α → State × β}
    (hf : ∀ t x, (f t x).1.slots = t.1.slots) (l : List α) (a : State × β) :
    (l.foldl f a).1.slots = a.1.slots := by
  induction l generalizing a with
  | nil => rfl
  | cons x l ih => rw [List.foldl_cons, ih, hf]

/-! ### Notices -/

@[simp] theorem handNotice_slots {b} : (handNotice b s).slots = s.slots := by simp [handNotice]

@[simp] theorem handNotices_slots {bs} : (handNotices bs s).slots = s.slots := by simp [handNotices]

/-! ### The Frame Engine -/

@[simp] theorem passFrame_slots {h kind} : (passFrame h kind s).slots = s.slots := by
  unfold passFrame
  split <;> simp

@[simp] theorem sendFrame_slots {f} : (sendFrame f s).slots = s.slots := by simp [sendFrame]

@[simp] theorem joinWaiting_slots {b} : (joinWaiting b s).slots = s.slots := by simp [joinWaiting]

@[simp] theorem spaceFreed_slots : (spaceFreed s).slots = s.slots := by simp [spaceFreed]

@[simp] theorem keepFrame_slots {f} : (keepFrame f s).slots = s.slots := by simp [keepFrame]

@[simp] theorem handBack_slots {f} : (handBack f s).slots = s.slots := by
  unfold handBack
  repeat' split
  all_goals simp

@[simp] theorem offerFrame_slots {f} : (offerFrame f s).1.slots = s.slots := by
  unfold offerFrame
  repeat' split
  all_goals simp

@[simp] theorem offer_slots {b t p} : (offer b t p s).1.slots = s.slots := by
  unfold offer
  split <;> simp

@[simp] theorem offerOrKeep_slots {f} : (offerOrKeep f s).slots = s.slots := by
  unfold offerOrKeep
  dsimp only
  split <;> simp

@[simp] theorem sendOrKeep_slots {b t p} : (sendOrKeep b t p s).1.slots = s.slots := by
  unfold sendOrKeep
  split <;> simp

@[simp] theorem reofferKept_slots {b unheard} (hu : ∀ p t, (unheard p t).slots = t.slots) :
    (reofferKept b unheard s).slots = s.slots := by
  unfold reofferKept
  dsimp only
  rw [foldl_slots fun t f => ?_]
  · simp
  · split
    · simp
    · exact hu _ t

@[simp] theorem withdrawFrame_slots {b kind} : (withdrawFrame b kind s).1.slots = s.slots := by
  unfold withdrawFrame
  split <;> simp

@[simp] theorem withdrawWhere_slots {p} : (withdrawWhere p s).slots = s.slots := by
  unfold withdrawWhere
  split <;> simp

@[simp] theorem withdrawFrames_slots {b kind} : (withdrawFrames b kind s).slots = s.slots := by simp [withdrawFrames]

@[simp] theorem replacePayload_slots {b p} : (replacePayload b p s).1.slots = s.slots := by
  unfold replacePayload
  split <;> simp

@[simp] theorem sendHead_slots : (sendHead s).slots = s.slots := by
  unfold sendHead
  repeat' split
  all_goals simp

@[simp] theorem reportEntry_slots {f fate intact} : (reportEntry f fate intact s).slots = s.slots := by
  simp [reportEntry]

@[simp] theorem restoreReturned_slots : (restoreReturned s).slots = s.slots := by
  unfold restoreReturned
  split <;> simp

@[simp] theorem reportLost_slots {l} : (reportLost l s).slots = s.slots := by simp [reportLost]

@[simp] theorem frameReturned_slots {h kind intact} : (frameReturned h kind intact s).slots = s.slots := by
  unfold frameReturned
  repeat' split
  all_goals simp

@[simp] theorem roundExpired_slots {i} : (roundExpired i s).slots = s.slots := by
  unfold roundExpired
  split <;> simp

@[simp] theorem setRing_slots {r} : (setRing r s).slots = s.slots := by simp [setRing]

@[simp] theorem endRestore_slots : (endRestore s).slots = s.slots := by simp [endRestore]

@[simp] theorem sendQueries_slots : (sendQueries s).slots = s.slots := by
  unfold sendQueries
  split <;> simp

@[simp] theorem startQueries_slots : (startQueries s).slots = s.slots := by
  unfold startQueries
  dsimp only
  split <;> simp

@[simp] theorem resumeQueries_slots : (resumeQueries s).slots = s.slots := by
  unfold resumeQueries
  split <;> simp

@[simp] theorem beginRestore_slots : (beginRestore s).slots = s.slots := by simp [beginRestore]

@[simp] theorem restartSilence_slots : (restartSilence s).slots = s.slots := by simp [restartSilence]

@[simp] theorem goodFrame_slots : (goodFrame s).slots = s.slots := by
  unfold goodFrame
  dsimp only
  split <;> simp

@[simp] theorem restoreAnswered_slots {a} : (restoreAnswered a s).slots = s.slots := by
  unfold restoreAnswered
  dsimp only
  repeat' split
  all_goals simp

@[simp] theorem restoreExpired_slots : (restoreExpired s).slots = s.slots := by
  unfold restoreExpired
  repeat' split
  all_goals simp

@[simp] theorem silenceExpired_slots : (silenceExpired s).slots = s.slots := by
  unfold silenceExpired
  split <;> simp

@[simp] theorem badFrame_slots {h kind} : (badFrame h kind s).slots = s.slots := by
  unfold badFrame
  dsimp only
  split <;> simp

@[simp] theorem receive_slots {g kind act} (ha : ∀ d t, (act d t).slots = t.slots) :
    (receive g kind act s).slots = s.slots := by
  unfold receive
  dsimp only
  split
  · split <;> simp
  · rw [ha, goodFrame_slots]

/-! ### The Stock Table Unit -/

@[simp] theorem State.putCarrier_slots {k c new} : (s.putCarrier k c new).slots = s.slots := by
  unfold State.putCarrier
  split <;> simp

@[simp] theorem State.changeCarrier_slots {k c f} : (s.changeCarrier k c f).slots = s.slots := by
  unfold State.changeCarrier
  split <;> simp

@[simp] theorem State.changePlacements_slots {k c f} : (s.changePlacements k c f).slots = s.slots := by
  simp [State.changePlacements]

@[simp] theorem reserveEntry_slots {k c lot count} : (reserveEntry k c lot count s).1.slots = s.slots := by
  unfold reserveEntry
  dsimp only
  split <;> simp

@[simp] theorem releaseEntry_slots {k c lot count} : (releaseEntry k c lot count s).1.slots = s.slots := by
  unfold releaseEntry
  dsimp only
  repeat' split
  all_goals simp

@[simp] theorem commitPickEntry_slots {k c lot} : (commitPickEntry k c lot s).1.slots = s.slots := by
  unfold commitPickEntry
  split <;> simp

@[simp] theorem commitPutEntry_slots {k c lot} : (commitPutEntry k c lot s).1.slots = s.slots := by
  unfold commitPutEntry
  split <;> simp

@[simp] theorem planIncomingEntry_slots {k c lot count} : (planIncomingEntry k c lot count s).1.slots = s.slots := by
  unfold planIncomingEntry
  split <;> simp

@[simp] theorem returnIncomingEntry_slots {k c lot count} :
    (returnIncomingEntry k c lot count s).1.slots = s.slots := by
  unfold returnIncomingEntry
  dsimp only
  repeat' split
  all_goals simp

@[simp] theorem State.setCarrierState_slots {k c st} : (s.setCarrierState k c st).slots = s.slots := by
  simp [State.setCarrierState]

@[simp] theorem auditMarkEntry_slots {k c} : (auditMarkEntry k c s).1.slots = s.slots := by
  unfold auditMarkEntry
  split <;> simp

@[simp] theorem auditClearEntry_slots {k c} : (auditClearEntry k c s).slots = s.slots := by
  unfold auditClearEntry
  split <;> simp

@[simp] theorem auditLockEntry_slots {k c} : (auditLockEntry k c s).1.slots = s.slots := by
  unfold auditLockEntry
  repeat' split
  all_goals simp

@[simp] theorem auditUnlockEntry_slots {k c} : (auditUnlockEntry k c s).slots = s.slots := by
  unfold auditUnlockEntry
  split <;> simp

@[simp] theorem auditApplyEntry_slots {k c tally unknown unplaced} :
    (auditApplyEntry k c tally unknown unplaced s).1.slots = s.slots := by
  unfold auditApplyEntry
  repeat' split
  all_goals simp

@[simp] theorem excludeEntry_slots {k cs} : (excludeEntry k cs s).slots = s.slots := by simp [excludeEntry]

@[simp] theorem admitEntry_slots {k cs} : (admitEntry k cs s).slots = s.slots := by simp [admitEntry]

@[simp] theorem configureStock_slots {k p shelf gap rated excluded} :
    (configureStock k p shelf gap rated excluded s).slots = s.slots := by
  unfold configureStock
  repeat' split
  all_goals simp

@[simp] theorem restartStock_slots {excluded} : (restartStock excluded s).slots = s.slots := (rfl)

@[simp] theorem lotWriteRequest_slots {n article week width rim mass} :
    (lotWriteRequest n article week width rim mass s).1.slots = s.slots := by
  unfold lotWriteRequest
  dsimp only
  repeat' split
  all_goals simp

@[simp] theorem lotDeleteRequest_slots {n} : (lotDeleteRequest n s).1.slots = s.slots := by
  unfold lotDeleteRequest
  repeat' split
  all_goals simp

@[simp] theorem lotHoldRequest_slots {n} : (lotHoldRequest n s).1.slots = s.slots := by
  unfold lotHoldRequest
  repeat' split
  all_goals simp

@[simp] theorem lotReleaseRequest_slots {n} : (lotReleaseRequest n s).1.slots = s.slots := by
  unfold lotReleaseRequest
  repeat' split
  all_goals simp

@[simp] theorem carrierWriteRequest_slots {kn c doubleStack disable list} :
    (carrierWriteRequest kn c doubleStack disable list s).1.slots = s.slots := by
  unfold carrierWriteRequest
  repeat' split
  all_goals simp

/-! ### The Order Book -/

@[simp] theorem State.setOrder_slots {h o} : (s.setOrder h o).slots = s.slots := by simp [State.setOrder]

@[simp] theorem State.modOrder_slots {h f} : (s.modOrder h f).slots = s.slots := by simp [State.modOrder]

@[simp] theorem State.modLine_slots {h i f} : (s.modLine h i f).slots = s.slots := by simp [State.modLine]

@[simp] theorem leaveTable_slots {h} : (leaveTable h s).slots = s.slots := by
  unfold leaveTable
  split <;> simp

@[simp] theorem reportWaiting_slots {h i reason} : (reportWaiting h i reason s).slots = s.slots := by
  unfold reportWaiting
  repeat' split
  all_goals simp

@[simp] theorem postWaiting_slots {h} : (postWaiting h s).slots = s.slots := by
  unfold postWaiting
  split <;> simp

@[simp] theorem orderAddRequest_slots {ref cls lanes lines} :
    (orderAddRequest ref cls lanes lines s).1.slots = s.slots := by
  unfold orderAddRequest
  dsimp only
  repeat' split
  all_goals simp

@[simp] theorem orderClassRequest_slots {h cls} : (orderClassRequest h cls s).1.slots = s.slots := by
  unfold orderClassRequest
  repeat' split
  all_goals simp

@[simp] theorem orderResumeRequest_slots {h} : (orderResumeRequest h s).1.slots = s.slots := by
  unfold orderResumeRequest
  repeat' split
  all_goals simp

@[simp] theorem takeDelivery_slots {h i} : (takeDelivery h i s).slots = s.slots := by
  unfold takeDelivery
  dsimp only
  repeat' split
  all_goals simp

@[simp] theorem takeDispatch_slots {h l comp cart} : (takeDispatch h l comp cart s).slots = s.slots := by
  unfold takeDispatch
  repeat' split
  all_goals simp

/-! ### Grants and displays -/

@[simp] theorem flushGroup_slots {st k kind} : (flushGroup st k kind s).slots = s.slots := by
  unfold flushGroup
  split <;> simp

@[simp] theorem endGrant_slots {st how} : (endGrant st how s).slots = s.slots := by
  unfold endGrant
  dsimp only
  repeat' split
  all_goals simp

@[simp] theorem endGrantOf_slots {k how} : (endGrantOf k how s).slots = s.slots := by
  unfold endGrantOf
  split <;> simp

@[simp] theorem sendContent_slots {st c} : (sendContent st c s).slots = s.slots := by
  unfold sendContent
  dsimp only
  repeat' split
  all_goals simp

@[simp] theorem refresh_slots {st} : (refresh st s).slots = s.slots := by
  unfold refresh
  dsimp only
  split <;> simp

@[simp] theorem resend_slots {st} : (resend st s).slots = s.slots := by
  unfold resend
  dsimp only
  split <;> simp

@[simp] theorem showMessage_slots {st m} : (showMessage st m s).slots = s.slots := by simp [showMessage]

@[simp] theorem takeViewReport_slots {st k c} : (takeViewReport st k c s).slots = s.slots := by
  unfold takeViewReport
  repeat' split
  all_goals simp

/-! ### The sequencers -/

@[simp] theorem reclassTask_slots {k t c} : (reclassTask k t c s).slots = s.slots := by simp [reclassTask]

@[simp] theorem setPicks_slots {k t ps} : (setPicks k t ps s).slots = s.slots := by simp [setPicks]

@[simp] theorem newTask_slots {k cls carrier body} : (newTask k cls carrier body s).slots = s.slots := by
  simp [newTask]

@[simp] theorem tellView_slots {k c} : (tellView k c s).slots = s.slots := by
  unfold tellView
  split <;> simp

@[simp] theorem showAudit_slots {k c} : (showAudit k c s).slots = s.slots := by
  unfold showAudit
  repeat' split
  all_goals simp

theorem joinTask_slots {k i t} (h : joinTask k i s = some t) : t.slots = s.slots := by
  unfold joinTask at h
  dsimp only at h
  split at h
  · split at h
    · split at h
      · obtain rfl := Option.some.inj h
        split <;> simp
      · obtain rfl := Option.some.inj h
        simp
    · cases h
  · split at h
    · obtain rfl := Option.some.inj h
      simp
    · cases h

@[simp] theorem takeReservation_slots {k i} : (takeReservation k i s).slots = s.slots := by
  unfold takeReservation
  split
  · next h => exact joinTask_slots h
  · simp

@[simp] theorem retryHeld_slots {k} : (retryHeld k s).slots = s.slots := by simp [retryHeld]

@[simp] theorem placeFreed_slots {k} : (placeFreed k s).slots = s.slots := by
  unfold placeFreed
  dsimp only
  repeat' split
  all_goals simp

@[simp] theorem withdrawPicks_slots {k} : (withdrawPicks k s).slots = s.slots := by
  unfold withdrawPicks
  split <;> simp

@[simp] theorem shedFreed_slots {k shed} : (shedFreed k shed s).slots = s.slots := by
  unfold shedFreed
  split <;> simp

@[simp] theorem leaveOpening_slots {k next} : (leaveOpening k next s).slots = s.slots := by
  unfold leaveOpening
  repeat' split
  all_goals simp

@[simp] theorem withdrawGrant_slots {k} : (withdrawGrant k s).slots = s.slots := by
  unfold withdrawGrant
  split <;> simp

@[simp] theorem withdrawMove_slots {k} : (withdrawMove k s).1.slots = s.slots := by simp [withdrawMove]

@[simp] theorem abandonAudit_slots {k} : (abandonAudit k s).slots = s.slots := by
  unfold abandonAudit
  split <;> simp

@[simp] theorem enterFault_slots {k cause} : (enterFault k cause s).slots = s.slots := by
  unfold enterFault
  dsimp only
  split <;> simp

@[simp] theorem sendQuery_slots {k afterMove} : (sendQuery k afterMove s).slots = s.slots := by
  unfold sendQuery
  dsimp only
  split <;> simp

@[simp] theorem enterUnknown_slots {k} : (enterUnknown k s).slots = s.slots := by
  unfold enterUnknown
  dsimp only
  split <;> simp

@[simp] theorem sendHalt_slots {k forMissing} : (sendHalt k forMissing s).1.slots = s.slots := by simp [sendHalt]

@[simp] theorem comeToRest_slots {k keep} : (comeToRest k keep s).slots = s.slots := by simp [comeToRest]

@[simp] theorem becomeReady_slots {k t} : (becomeReady k t s).slots = s.slots := by
  unfold becomeReady
  dsimp only
  split <;> simp

@[simp] theorem planMove_slots {k t resent} : (planMove k t resent s).slots = s.slots := by
  unfold planMove
  dsimp only
  repeat' split
  all_goals simp

@[simp] theorem clearCurrent_slots {k} : (clearCurrent k s).slots = s.slots := by simp [clearCurrent]

@[simp] theorem choose_slots {k} : (choose k s).slots = s.slots := by
  unfold choose
  dsimp only
  repeat' split
  all_goals simp

@[simp] theorem settleQueue_slots {k} : (settleQueue k s).slots = s.slots := by simp [settleQueue]

@[simp] theorem takeOut_slots {k t} : (takeOut k t s).slots = s.slots := by
  unfold takeOut
  split <;> simp

@[simp] theorem dropTask_slots {k t} : (dropTask k t s).slots = s.slots := by
  unfold dropTask
  dsimp only
  split <;> simp

@[simp] theorem endTask_slots {k t outcome} : (endTask k t outcome s).slots = s.slots := by simp [endTask]

@[simp] theorem checkPicks_slots {k} : (checkPicks k s).slots = s.slots := by
  unfold checkPicks
  repeat' split
  all_goals simp

@[simp] theorem changePicks_slots {k t ps change} : (changePicks k t ps change s).slots = s.slots := by
  unfold changePicks
  dsimp only
  repeat' split
  all_goals simp

@[simp] theorem takeNewCount_slots {k r n why} : (takeNewCount k r n why s).slots = s.slots := by
  unfold takeNewCount
  split <;> simp

@[simp] theorem takeDrop_slots {k r} : (takeDrop k r s).slots = s.slots := by
  unfold takeDrop
  split <;> simp

@[simp] theorem takeStrike_slots {k r why} : (takeStrike k r why s).slots = s.slots := by
  unfold takeStrike
  split <;> simp

@[simp] theorem pickTaken_slots {k r} : (pickTaken k r s).slots = s.slots := by
  unfold pickTaken
  split <;> simp

@[simp] theorem putTaken_slots {k carrier} : (putTaken k carrier s).slots = s.slots := by
  unfold putTaken
  repeat' split
  all_goals simp

@[simp] theorem takeClass_slots {k h cls} : (takeClass k h cls s).slots = s.slots := by simp [takeClass]

@[simp] theorem takeNewReservation_slots {k r carrier count order} :
    (takeNewReservation k r carrier count order s).slots = s.slots := by simp [takeNewReservation]

@[simp] theorem takeOrderReport_slots {i} : (takeOrderReport i s).slots = s.slots := by
  unfold takeOrderReport
  split <;> simp

@[simp] theorem takeOrderReports_slots {k} : (takeOrderReports k s).slots = s.slots := by simp [takeOrderReports]

@[simp] theorem putOffered_slots {k c lot count cls st} : (putOffered k c lot count cls st s).1.slots = s.slots := by
  unfold putOffered
  repeat' split
  all_goals simp

@[simp] theorem auditOffered_slots {k c blind cls} : (auditOffered k c blind cls s).1.slots = s.slots := by
  unfold auditOffered
  repeat' split
  all_goals simp

@[simp] theorem auditRequeued_slots {k c} : (auditRequeued k c s).1.slots = s.slots := by
  unfold auditRequeued
  dsimp only
  repeat' split
  all_goals simp

@[simp] theorem auditReclassed_slots {k c cls blind} : (auditReclassed k c cls blind s).slots = s.slots := by
  unfold auditReclassed
  split <;> simp

@[simp] theorem auditRemoved_slots {k c} : (auditRemoved k c s).slots = s.slots := by
  unfold auditRemoved
  split <;> simp

@[simp] theorem auditApplied_slots {k c} : (auditApplied k c s).slots = s.slots := by
  unfold auditApplied
  repeat' split
  all_goals simp

@[simp] theorem acceptGrant_slots {k t} : (acceptGrant k t s).slots = s.slots := by simp [acceptGrant]

@[simp] theorem confirmTask_slots {k} : (confirmTask k s).1.slots = s.slots := by
  unfold confirmTask
  dsimp only
  repeat' split
  all_goals simp

@[simp] theorem moveComplete_slots {k} : (moveComplete k s).slots = s.slots := by
  unfold moveComplete
  split <;> simp

@[simp] theorem replan_slots {k resent} : (replan k resent s).slots = s.slots := by
  unfold replan
  repeat' split
  all_goals simp

@[simp] theorem moveShort_slots {k} : (moveShort k s).slots = s.slots := by
  unfold moveShort
  split <;> simp

@[simp] theorem stopping_slots {k cause} : (stopping k cause s).slots = s.slots := by simp [stopping]

@[simp] theorem otherTarget_slots {k} : (otherTarget k s).slots = s.slots := by simp [otherTarget]

@[simp] theorem lostPosition_slots {k} : (lostPosition k s).slots = s.slots := by simp [lostPosition]

@[simp] theorem statusMoving_slots {k mv answer still index target} :
    (statusMoving k mv answer still index target s).slots = s.slots := by
  unfold statusMoving
  repeat' split
  all_goals simp

@[simp] theorem statusStopped_slots {k} : (statusStopped k s).slots = s.slots := by simp [statusStopped]

@[simp] theorem statusMotion_slots {k old answer still index target} :
    (statusMotion k old answer still index target s).slots = s.slots := by
  unfold statusMotion
  repeat' split
  all_goals simp

@[simp] theorem takeStatus_slots {k m index target} : (takeStatus k m index target s).slots = s.slots := by
  unfold takeStatus
  dsimp only
  repeat' split
  all_goals simp

@[simp] theorem queryExpired_slots {k} : (queryExpired k s).slots = s.slots := by
  unfold queryExpired
  repeat' split
  all_goals simp

@[simp] theorem queryUnanswered_slots {k n} : (queryUnanswered k n s).slots = s.slots := by simp [queryUnanswered]

@[simp] theorem queryReturned_slots {k n fate} : (queryReturned k n fate s).slots = s.slots := by
  unfold queryReturned
  split <;> simp

@[simp] theorem moveReturned_slots {k fate} : (moveReturned k fate s).slots = s.slots := by
  unfold moveReturned
  dsimp only
  repeat' split
  all_goals simp

@[simp] theorem haltReturned_slots {k fate} : (haltReturned k fate s).slots = s.slots := by
  unfold haltReturned
  split <;> simp

@[simp] theorem moveTimedOut_slots {k} : (moveTimedOut k s).slots = s.slots := by
  unfold moveTimedOut
  repeat' split
  all_goals simp

@[simp] theorem stopMove_slots {k} : (stopMove k s).slots = s.slots := by
  unfold stopMove
  dsimp only
  repeat' split
  all_goals simp

@[simp] theorem curtainBreaks_slots {k unseen} : (curtainBreaks k unseen s).slots = s.slots := by simp [curtainBreaks]

@[simp] theorem curtainClears_slots {k} : (curtainClears k s).slots = s.slots := by
  unfold curtainClears
  split <;> simp

@[simp] theorem curtainSettles_slots {k} : (curtainSettles k s).slots = s.slots := by
  unfold curtainSettles
  repeat' split
  all_goals simp

@[simp] theorem driveMissing_slots {k} : (driveMissing k s).slots = s.slots := by
  unfold driveMissing
  dsimp only
  repeat' split
  all_goals simp

@[simp] theorem speedReported_slots {k} : (speedReported k s).slots = s.slots := by
  unfold speedReported
  split <;> simp

@[simp] theorem driveUnheard_slots {k p} : (driveUnheard k p s).slots = s.slots := by
  unfold driveUnheard
  split <;> simp

@[simp] theorem discardMoves_slots {k} : (discardMoves k s).slots = s.slots := by simp [discardMoves]

@[simp] theorem seqSpace_slots {k} : (seqSpace k s).slots = s.slots := by
  unfold seqSpace
  dsimp only
  repeat' split
  all_goals simp

@[simp] theorem takePlace_slots {k place} : (takePlace k place s).slots = s.slots := by simp [takePlace]

@[simp] theorem takeStationState_slots {k opened} : (takeStationState k opened s).slots = s.slots := by
  unfold takeStationState
  dsimp only
  repeat' split
  all_goals simp

@[simp] theorem seqRingDown_slots {k} : (seqRingDown k s).slots = s.slots := by
  unfold seqRingDown
  dsimp only
  split <;> simp

@[simp] theorem seqRing_slots {k r} : (seqRing k r s).slots = s.slots := by
  unfold seqRing
  split <;> simp

@[simp] theorem seqHalt_slots {k} : (seqHalt k s).slots = s.slots := by
  unfold seqHalt
  dsimp only
  repeat' split
  all_goals simp

@[simp] theorem seqRun_slots {k} : (seqRun k s).slots = s.slots := by
  unfold seqRun
  split <;> simp

@[simp] theorem closePut_slots {k t} : (closePut k s t).slots = s.slots := by
  unfold closePut
  split <;> simp

@[simp] theorem closeAudit_slots {k t} : (closeAudit k s t).slots = s.slots := by
  unfold closeAudit
  split <;> simp

@[simp] theorem closeCarriers_slots {k cs} : (closeCarriers k cs s).slots = s.slots := by
  unfold closeCarriers
  dsimp only
  repeat' split
  all_goals simp

@[simp] theorem openCarriers_slots {k cs} : (openCarriers k cs s).slots = s.slots := by
  unfold openCarriers
  split <;> simp

@[simp] theorem windowSetRequest_slots {kn bounds} : (windowSetRequest kn bounds s).1.slots = s.slots := by
  unfold windowSetRequest
  dsimp only
  repeat' split
  all_goals simp

@[simp] theorem disableRequest_slots {kn} : (disableRequest kn s).1.slots = s.slots := by
  unfold disableRequest
  dsimp only
  repeat' split
  all_goals simp

@[simp] theorem enableRequest_slots {kn} : (enableRequest kn s).1.slots = s.slots := by
  unfold enableRequest
  repeat' split
  all_goals simp

@[simp] theorem restartIdle_slots {k source} : (restartIdle k source s).slots = s.slots := by simp [restartIdle]

@[simp] theorem takeClaim_slots {k source} : (takeClaim k source s).slots = s.slots := by
  unfold takeClaim
  split <;> simp

@[simp] theorem takeAccess_slots {k source} : (takeAccess k source s).slots = s.slots := by
  unfold takeAccess
  split <;> simp

@[simp] theorem takeMaintFrame_slots {k source} : (takeMaintFrame k source s).slots = s.slots := by
  unfold takeMaintFrame
  split <;> simp

@[simp] theorem endClaim_slots {k idle} : (endClaim k idle s).slots = s.slots := by
  unfold endClaim
  split <;> simp

@[simp] theorem takeRelease_slots {k source} : (takeRelease k source s).slots = s.slots := by
  unfold takeRelease
  split <;> simp

@[simp] theorem manualIdleExpired_slots {k} : (manualIdleExpired k s).slots = s.slots := by
  unfold manualIdleExpired
  split <;> simp

@[simp] theorem endClaimsOf_slots {node} : (endClaimsOf node s).slots = s.slots := by simp [endClaimsOf]

@[simp] theorem configureSeq_slots {k} : (configureSeq k s).slots = s.slots := by
  unfold configureSeq
  split <;> simp

/-! ### Frames received -/

@[simp] theorem addReply_slots {q kind a} : (addReply q kind a s).slots = s.slots := by simp [addReply]

@[simp] theorem malformed_slots {h kind payload} : (malformed h kind payload s).slots = s.slots := by
  unfold malformed answerRequest
  split <;> simp

@[simp] theorem maintAct_slots {kind k n} : (maintAct kind k n s).slots = s.slots := by
  unfold maintAct
  split <;> simp

@[simp] theorem takeForeignFrame_slots {k h kind} : (takeForeignFrame k h kind s).slots = s.slots := by
  simp [takeForeignFrame]

@[simp] theorem redirect_slots {d h kind payload} : (redirect d h kind payload s).slots = s.slots := by
  unfold redirect
  split <;> simp

@[simp] theorem fieldFrame_slots {g kind p owner} (ho : ∀ r u t, (owner r u t).slots = t.slots) :
    (fieldFrame g kind p owner s).slots = s.slots :=
  receive_slots fun d t => by
    split
    · dsimp only
      split <;> split <;> simp [ho]
    · simp

/-! ### The conveyor and the lanes -/

@[simp] theorem sendDivert_slots {label l second} : (sendDivert label l second s).slots = s.slots := by
  simp [sendDivert]

@[simp] theorem divertReturned_slots {label l second fate} :
    (divertReturned label l second fate s).slots = s.slots := by
  unfold divertReturned
  repeat' split
  all_goals simp

@[simp] theorem loseController_slots {l} : (loseController l s).slots = s.slots := by simp [loseController]

@[simp] theorem sendLatch_slots {l lock second} : (sendLatch l lock second s).slots = s.slots := by
  unfold sendLatch
  dsimp only
  repeat' split
  all_goals simp

@[simp] theorem latchReturned_slots {l lock second fate} : (latchReturned l lock second fate s).slots = s.slots := by
  unfold latchReturned
  repeat' split
  all_goals simp

@[simp] theorem showAtLane_slots {l x} : (showAtLane l x s).slots = s.slots := by simp [showAtLane]

@[simp] theorem laneUnheard_slots {p} : (laneUnheard p s).slots = s.slots := by
  unfold laneUnheard
  split <;> simp

@[simp] theorem modComp_slots {l c f} : (modComp l c f s).slots = s.slots := by simp [modComp]

@[simp] theorem assignLane_slots {l n} : (assignLane l n s).slots = s.slots := by
  induction n generalizing s with
  | zero => rfl
  | succ n ih =>
    unfold assignLane
    split
    · simp [ih]
    · rfl

@[simp] theorem assignRound_slots : (assignRound s).slots = s.slots := by simp [assignRound]

@[simp] theorem enterReleasing_slots {l} : (enterReleasing l s).slots = s.slots := by simp [enterReleasing]

@[simp] theorem checkFlush_slots {l} : (checkFlush l s).slots = s.slots := by
  unfold checkFlush
  split <;> simp

@[simp] theorem enterFlushing_slots {l} : (enterFlushing l s).slots = s.slots := by simp [enterFlushing]

@[simp] theorem permitTest_slots {l} : (permitTest l s).slots = s.slots := by
  unfold permitTest
  split <;> simp

@[simp] theorem enterSeating_slots {l} : (enterSeating l s).slots = s.slots := by simp [enterSeating]

@[simp] theorem seatIfMade_slots {l} : (seatIfMade l s).slots = s.slots := by
  unfold seatIfMade
  dsimp only
  split <;> simp

@[simp] theorem emptyLane_slots {l} : (emptyLane l s).slots = s.slots := by simp [emptyLane]

@[simp] theorem coupleCart_slots {l id count source} : (coupleCart l id count source s).slots = s.slots := by
  simp [coupleCart]

@[simp] theorem pressRelease_slots {l} : (pressRelease l s).slots = s.slots := by
  unfold pressRelease
  split <;> simp

@[simp] theorem momentaryRelease_slots {l} : (momentaryRelease l s).slots = s.slots := by
  unfold momentaryRelease
  dsimp only
  repeat' split
  all_goals simp

@[simp] theorem laneSettled_slots {l} : (laneSettled l s).slots = s.slots := by
  unfold laneSettled
  split <;> simp

@[simp] theorem tagExpires_slots {l} : (tagExpires l s).slots = s.slots := by
  unfold tagExpires
  split <;> simp

@[simp] theorem takeTag_slots {l id count} : (takeTag l id count s).slots = s.slots := by
  unfold takeTag
  split <;> simp

@[simp] theorem takeWaiting_slots {w} : (takeWaiting w s).slots = s.slots := by simp [takeWaiting]

@[simp] theorem takeOrderClass_slots {h cls} : (takeOrderClass h cls s).slots = s.slots := by simp [takeOrderClass]

@[simp] theorem takeGone_slots {h} : (takeGone h s).slots = s.slots := by simp [takeGone]

@[simp] theorem closeComp_slots {h st} : (closeComp h st s).slots = s.slots := by
  unfold closeComp
  repeat' split
  all_goals simp

@[simp] theorem takeCompletion_slots {h} : (takeCompletion h s).slots = s.slots := by simp [takeCompletion]

@[simp] theorem takeReceiptAnswer_slots {l c h seq accepted} :
    (takeReceiptAnswer l c h seq accepted s).slots = s.slots := by
  unfold takeReceiptAnswer
  repeat' split
  all_goals simp

@[simp] theorem lanePermitRequest_slots {n} : (lanePermitRequest n s).1.slots = s.slots := by
  unfold lanePermitRequest
  repeat' split
  all_goals simp

@[simp] theorem laneAssignRequest_slots {n id count} : (laneAssignRequest n id count s).1.slots = s.slots := by
  unfold laneAssignRequest
  repeat' split
  all_goals simp

@[simp] theorem laneCloseRequest_slots {n} : (laneCloseRequest n s).1.slots = s.slots := by
  unfold laneCloseRequest
  repeat' split
  all_goals simp

@[simp] theorem laneOpenRequest_slots {n} : (laneOpenRequest n s).1.slots = s.slots := by
  unfold laneOpenRequest
  dsimp only
  repeat' split
  all_goals simp

/-! ### The put-away planners -/

@[simp] theorem refusePut_slots {st lot whole planned n reason} :
    (refusePut st lot whole planned n reason s).slots = s.slots := by simp [refusePut]

@[simp] theorem refuseBatch_slots {st b reason} : (refuseBatch st b reason s).slots = s.slots := by simp [refuseBatch]

@[simp] theorem offerPart_slots {st p} : (offerPart st p s).1.slots = s.slots := by
  unfold offerPart
  dsimp only
  split <;> simp

@[simp] theorem makePart_slots {st b r} : (makePart st b r s).slots = s.slots := by
  unfold makePart
  dsimp only
  repeat' split
  all_goals simp

@[simp] theorem planBatch_slots {st n} : (planBatch st n s).slots = s.slots := by
  induction n generalizing s with
  | zero => rfl
  | succ n ih =>
    unfold planBatch
    (repeat' split) <;> simp [ih]

@[simp] theorem handBatch_slots {st b} : (handBatch st b s).slots = s.slots := by simp [handBatch]

@[simp] theorem roomSteps_slots {st wasFull} : (roomSteps st wasFull s).slots = s.slots := by
  unfold roomSteps
  dsimp only
  repeat' split
  all_goals simp

@[simp] theorem offerParts_slots {st k ps} : (offerParts st k ps s).slots = s.slots := by
  induction ps generalizing s with
  | nil => rfl
  | cons p ps ih =>
    unfold offerParts
    dsimp only
    split
    · split <;> simp [ih]
    · exact ih

@[simp] theorem takePlaceReport_slots {st k} : (takePlaceReport st k s).slots = s.slots := by simp [takePlaceReport]

@[simp] theorem takePutLeft_slots {st k c lot} : (takePutLeft st k c lot s).slots = s.slots := by simp [takePutLeft]

@[simp] theorem accumulate_slots {st lot} : (accumulate st lot s).1.slots = s.slots := by
  unfold accumulate
  dsimp only
  repeat' split
  all_goals simp

@[simp] theorem inboundEntry_slots {st label} : (inboundEntry st label s).1.slots = s.slots := by
  unfold inboundEntry
  repeat' split
  all_goals simp

@[simp] theorem endBatch_slots {st} : (endBatch st s).slots = s.slots := by
  unfold endBatch
  repeat' split
  all_goals simp

@[simp] theorem closePlanner_slots {st} : (closePlanner st s).slots = s.slots := by
  unfold closePlanner
  dsimp only
  split <;> simp

@[simp] theorem returnPart_slots {st p} : (returnPart st s p).slots = s.slots := by simp [returnPart]

@[simp] theorem dropParts_slots {st f} : (dropParts st f s).slots = s.slots := by
  unfold dropParts
  dsimp only
  split <;> simp

/-! ### The station controllers -/

@[simp] theorem tryGrant_slots {st} : (tryGrant st s).slots = s.slots := by
  unfold tryGrant
  dsimp only
  repeat' split
  all_goals simp

@[simp] theorem startTimer_slots {st} : (startTimer st s).slots = s.slots := by simp [startTimer]

@[simp] theorem settleTimer_slots {st} : (settleTimer st s).slots = s.slots := by simp [settleTimer]

@[simp] theorem popHead_slots {st} : (popHead st s).slots = s.slots := by simp [popHead]

@[simp] theorem clearMessage_slots {st} : (clearMessage st s).slots = s.slots := by simp [clearMessage]

@[simp] theorem lockQueue_slots {st c e} : (lockQueue st c e s).slots = s.slots := by
  unfold lockQueue
  dsimp only
  split <;> simp

@[simp] theorem reportTaken_slots {st k kind item} : (reportTaken st k kind item s).slots = s.slots := by
  unfold reportTaken
  dsimp only
  repeat' split
  all_goals simp

@[simp] theorem takePut_slots {st k v lot e} : (takePut st k v lot e s).1.slots = s.slots := by
  unfold takePut
  dsimp only
  split <;> simp

@[simp] theorem evalInbound_slots {st e} : (evalInbound st e s).1.slots = s.slots := by
  unfold evalInbound
  dsimp only
  split <;> simp

@[simp] theorem dropGrant_slots {st} : (dropGrant st s).slots = s.slots := by
  unfold dropGrant
  repeat' split
  all_goals simp

@[simp] theorem liftLock_slots {st} : (liftLock st s).slots = s.slots := by simp [liftLock]

@[simp] theorem tellStations_slots {st opened} : (tellStations st opened s).slots = s.slots := by simp [tellStations]

@[simp] theorem closeStation_slots {st} : (closeStation st s).slots = s.slots := by simp [closeStation]

@[simp] theorem signOffKey_slots {st} : (signOffKey st s).slots = s.slots := by
  unfold signOffKey
  split <;> simp

@[simp] theorem shortKey_slots {st} : (shortKey st s).slots = s.slots := by
  unfold shortKey
  dsimp only
  repeat' split
  all_goals simp

@[simp] theorem takeBayCurtain_slots {st b broken} : (takeBayCurtain st b broken s).slots = s.slots := by
  unfold takeBayCurtain
  dsimp only
  repeat' split
  all_goals simp

@[simp] theorem bayCurtainInput_slots {st b broken} : (bayCurtainInput st b broken s).slots = s.slots := by
  unfold bayCurtainInput
  dsimp only
  split <;> simp

@[simp] theorem losePanel_slots {st} : (losePanel st s).slots = s.slots := by
  unfold losePanel
  dsimp only
  repeat' split
  all_goals simp

@[simp] theorem panelReturned_slots {st fate} : (panelReturned st fate s).slots = s.slots := by
  unfold panelReturned
  split <;> simp

@[simp] theorem stationSpace_slots {st} : (stationSpace st s).slots = s.slots := by
  unfold stationSpace
  split <;> simp

@[simp] theorem stationRing_slots {st r} : (stationRing st r s).slots = s.slots := by
  unfold stationRing
  repeat' split
  all_goals simp

@[simp] theorem stationConfigRequest_slots {c} : (stationConfigRequest c s).1.slots = s.slots := by
  unfold stationConfigRequest
  dsimp only
  repeat' split
  all_goals simp

/-! ### The audits -/

@[simp] theorem modReq_slots {k c f} : (modReq k c f s).slots = s.slots := by simp [modReq]

@[simp] theorem dropReq_slots {k c} : (dropReq k c s).slots = s.slots := by simp [dropReq]

@[simp] theorem offerAudits_slots {k n} : (offerAudits k n s).slots = s.slots := by
  induction n generalizing s with
  | zero => rfl
  | succ n ih =>
    unfold offerAudits
    dsimp only
    (repeat' split) <;> simp [ih]

@[simp] theorem offerAudit_slots {k} : (offerAudit k s).slots = s.slots := by simp [offerAudit]

@[simp] theorem raiseAudit_slots {k c blind cls source} : (raiseAudit k c blind cls source s).1.slots = s.slots := by
  unfold raiseAudit
  dsimp only
  repeat' split
  all_goals simp

@[simp] theorem raiseInternal_slots {k c blind cls source} :
    (raiseInternal k c blind cls source s).slots = s.slots := by
  unfold raiseInternal
  dsimp only
  split <;> simp

@[simp] theorem auditRequestRequest_slots {kn c blind cls} :
    (auditRequestRequest kn c blind cls s).1.slots = s.slots := by
  unfold auditRequestRequest
  repeat' split
  all_goals simp

@[simp] theorem restartSession_slots {k} : (restartSession k s).slots = s.slots := by simp [restartSession]

@[simp] theorem startSession_slots {k r} : (startSession k r s).slots = s.slots := by simp [startSession]

@[simp] theorem takeAuditGranted_slots {k c} : (takeAuditGranted k c s).slots = s.slots := by
  unfold takeAuditGranted
  dsimp only
  repeat' split
  all_goals simp

@[simp] theorem takeTally_slots {k lot} : (takeTally k lot s).slots = s.slots := by
  unfold takeTally
  split <;> simp

@[simp] theorem reqToHead_slots {k c f} : (reqToHead k c f s).slots = s.slots := by
  unfold reqToHead
  split <;> simp

@[simp] theorem reclassTo_slots {r} : (reclassTo r s).slots = s.slots := by
  unfold reclassTo
  repeat' split
  all_goals simp

@[simp] theorem dropAudits_slots {k} : (dropAudits k s).slots = s.slots := by simp [dropAudits]

@[simp] theorem takeAdmit_slots {k cs} : (takeAdmit k cs s).slots = s.slots := by simp [takeAdmit]

@[simp] theorem restartAudits_slots : (restartAudits s).slots = s.slots := (rfl)

/-! ### The Management Unit -/

@[simp] theorem offerReply_slots : (offerReply s).slots = s.slots := by
  unfold offerReply
  dsimp only
  repeat' split
  all_goals simp

@[simp] theorem offerReplies_slots {n} : (offerReplies n s).slots = s.slots := by
  induction n generalizing s with
  | zero => rfl
  | succ n ih =>
    unfold offerReplies
    dsimp only
    split <;> simp [ih]

@[simp] theorem offerNotice_slots : (offerNotice s).slots = s.slots := by
  unfold offerNotice
  dsimp only
  repeat' split
  all_goals simp

@[simp] theorem sendNotice_slots : (sendNotice s).slots = s.slots := by
  unfold sendNotice
  dsimp only
  split <;> simp

@[simp] theorem noticeReturned_slots {n second fate} : (noticeReturned n second fate s).slots = s.slots := by
  unfold noticeReturned
  split <;> simp

@[simp] theorem managementSpace_slots : (managementSpace s).slots = s.slots := by simp [managementSpace]

@[simp] theorem handBackAudits_slots {k} : (handBackAudits k s).slots = s.slots := by simp [handBackAudits]

@[simp] theorem restartFrames_slots : (restartFrames s).slots = s.slots := by simp [restartFrames]

@[simp] theorem restartRestore_slots : (restartRestore s).slots = s.slots := by
  unfold restartRestore
  split <;> simp

@[simp] theorem cellStatusRequest_slots : (cellStatusRequest s).1.slots = s.slots := by simp [cellStatusRequest]

@[simp] theorem recordReadRequest_slots {kind index} : (recordReadRequest kind index s).1.slots = s.slots := (rfl)

@[simp] theorem addOrder_slots {ref cls lanes lines} : (addOrder ref cls lanes lines s).1.slots = s.slots := by
  simp [addOrder]

/-! ### The balance records and the settings -/

@[simp] theorem rebalance_slots {k f} : (rebalance k f s).slots = s.slots := by
  unfold rebalance balanceReports
  dsimp only
  repeat' split
  all_goals simp

@[simp] theorem takeMasses_slots {k report} : (takeMasses k report s).slots = s.slots := by simp [takeMasses]

@[simp] theorem configureBalance_slots {k c} : (configureBalance k c s).slots = s.slots := by
  unfold configureBalance
  split <;> simp

@[simp] theorem restartBalance_slots : (restartBalance s).slots = s.slots := by simp [restartBalance]

@[simp] theorem configureLane_slots {l configured limit} : (configureLane l configured limit s).slots = s.slots := by
  unfold configureLane
  dsimp only
  repeat' split
  all_goals simp

@[simp] theorem laneConfigRequest_slots {n configured limit} : (laneConfigRequest n configured limit s).1.slots = s.slots := by
  unfold laneConfigRequest
  repeat' split
  all_goals simp

@[simp] theorem nodeMapWriteRequest_slots {a role unit mirror} :
    (nodeMapWriteRequest a role unit mirror s).1.slots = s.slots := by
  unfold nodeMapWriteRequest
  dsimp only
  repeat' split
  all_goals simp

@[simp] theorem groupWriteRequest_slots {g members} : (groupWriteRequest g members s).1.slots = s.slots := by
  unfold groupWriteRequest
  dsimp only
  repeat' split
  all_goals simp

@[simp] theorem carouselConfigRequest_slots {c} : (carouselConfigRequest c s).1.slots = s.slots := by
  unfold carouselConfigRequest
  dsimp only
  repeat' split
  all_goals simp

@[simp] theorem timerWriteRequest_slots {selector n} : (timerWriteRequest selector n s).1.slots = s.slots := by
  unfold timerWriteRequest
  split <;> simp

/-! ### Frames of the field and of the maintenance nodes -/

@[simp] theorem takeForeign_slots {g kind} : (takeForeign g kind s).slots = s.slots :=
  receive_slots fun d t => by split <;> simp

@[simp] theorem maintFrame_slots {g kind act} (ha : ∀ k n t, (act k n t).slots = t.slots) :
    (maintFrame g kind act s).slots = s.slots :=
  receive_slots fun d t => by
    split
    · simp [ha]
    · simp

@[simp] theorem driveOwner_slots {m index target role unit} :
    (driveOwner m index target role unit s).slots = s.slots := by
  unfold driveOwner
  split <;> simp

@[simp] theorem tagOwner_slots {cart count role unit} : (tagOwner cart count role unit s).slots = s.slots := by
  unfold tagOwner
  split <;> simp

/-! ### The ring and the transmit queue -/

@[simp] theorem offerUnheard_slots {b p} : (offerUnheard b p s).slots = s.slots := by
  unfold offerUnheard
  split <;> simp

end
end Sys2Proof.Machine

namespace Sys2Proof.Machine

/-! # What every step keeps: the bounds of the pool and of the in-transit list (R50, R132) -/

/-! ## Tables that grow -/

theorem length_tput_le {α : Type} (n : Nat) (v : α) (t : Table α) : (tput n v t).length ≤ t.length + 1 := by
  induction t with
  | nil => simp [tput]
  | cons e t ih =>
    unfold tput
    split
    · simp
    split
    · simp
    · simpa using ih

/-- An entry written over another takes no place. -/
theorem length_tput_known {α : Type} {n : Nat} {v : α} {t : Table α} (ht : twf t = true) (hn : (tget n t).isSome) :
    (tput n v t).length = t.length := by
  rw [twf_iff] at ht
  induction t with
  | nil => simp [tget] at hn
  | cons e t ih =>
    obtain ⟨m, w⟩ := e
    obtain ⟨hlt, hrest⟩ := List.pairwise_cons.1 ht
    unfold tput
    split
    · next h =>
      have : tget n t = none := tget_none_of_lt fun a ha => Nat.lt_trans h (hlt a ha)
      simp [tget, this, Nat.ne_of_gt h] at hn
    split
    · rfl
    · next h =>
      simpa using ih hrest (by simpa [tget, h] using hn)

theorem tget_isSome_of_mem {α : Type} {n : Nat} {v : α} {t : Table α} (h : (n, v) ∈ t) : (tget n t).isSome := by
  induction t with
  | nil => cases h
  | cons e t ih =>
    obtain ⟨m, w⟩ := e
    unfold tget
    split
    · rfl
    · next hm =>
      rcases List.mem_cons.1 h with h | h
      · cases h
        exact absurd rfl hm
      · exact ih h

/-! ## The bounds -/

/-- The pool is canonical and holds at most 512 reservations, and every place is one of the 64 (law L12). -/
structure Slots.Bounded (x : Slots) : Prop where
  canonical : twf x.pool = true
  pool : x.pool.length ≤ Config.poolPlaces
  places : ∀ e ∈ x.places, e.1 < Config.transitPlaces

section
-- These lemmas rest on each other in long chains: each would hold a thread that waits for the one before.
set_option Elab.async false
variable {s t : State}

/-- A state with the places of a bounded one is bounded. -/
theorem Slots.Bounded.of_slots (h : s.slots.Bounded) (ht : t.slots = s.slots) : t.slots.Bounded := ht ▸ h

theorem setRes_bounded {p : Nat} {r : Reservation} (h : s.slots.Bounded) (hp : (tget p s.slots.pool).isSome) :
    (s.setRes p r).slots.Bounded :=
  ⟨twf_tput p r h.canonical, (length_tput_known h.canonical hp).trans_le h.pool, h.places⟩

/-- A new reservation is taken into a pool that has room. -/
theorem setRes_bounded_of_room {p : Nat} {r : Reservation} (h : s.slots.Bounded) (hp : s.slots.pool.length < Config.poolPlaces) :
    (s.setRes p r).slots.Bounded :=
  ⟨twf_tput p r h.canonical, (length_tput_le p r _).trans hp, h.places⟩

theorem foldl_bounded {α : Type} {f : State → α → State} (hf : ∀ t x, t.slots.Bounded → (f t x).slots.Bounded) (l : List α)
    (h : s.slots.Bounded) : (l.foldl f s).slots.Bounded := by
  induction l generalizing s with
  | nil => exact h
  | cons x l ih => exact ih (hf _ _ h)

theorem foldl_fst_bounded {α β : Type} {f : State × β → α → State × β}
    (hf : ∀ a x, a.1.slots.Bounded → (f a x).1.slots.Bounded) (l : List α) {a : State × β} (h : a.1.slots.Bounded) :
    (l.foldl f a).1.slots.Bounded := by
  induction l generalizing a with
  | nil => exact h
  | cons x l ih => exact ih (hf _ _ h)

/-! ## The Order Book -/

@[simp] theorem vacate_bounded {p o : Nat} (h : s.slots.Bounded) : (vacate p o s).slots.Bounded := by
  have hdel : (s.modBook fun b => { b with pool := tdel p b.pool }).slots.Bounded :=
    ⟨twf_tdel p h.canonical, (tdel_sublist p _).length_le.trans h.pool, h.places⟩
  unfold vacate
  dsimp only
  repeat' split
  all_goals simpa using hdel

@[simp] theorem leavePool_bounded {p o : Nat} (h : s.slots.Bounded) : (leavePool p o s).slots.Bounded :=
  vacate_bounded (h.of_slots (by simp))

@[simp] theorem releaseRes_bounded {why p n} (h : s.slots.Bounded) : (releaseRes why p n s).1.slots.Bounded := by
  unfold releaseRes
  split
  · exact h
  next r hr =>
  have hp : (tget p s.slots.pool).isSome := Option.isSome_iff_exists.2 ⟨r, hr⟩
  dsimp only
  repeat' split
  all_goals simp [setRes_bounded, h, hp]

@[simp] theorem releaseWhole_bounded {p} (h : s.slots.Bounded) : (releaseWhole p s).1.slots.Bounded := by
  unfold releaseWhole
  repeat' split
  all_goals simp [h]

@[simp] theorem releaseAll_bounded {ps} (h : s.slots.Bounded) : (releaseAll ps s).slots.Bounded :=
  foldl_bounded (fun _ _ => releaseWhole_bounded) ps h

theorem createRes_bounded {o i k c lot g} (h : s.slots.Bounded) (hp : s.slots.pool.length < Config.poolPlaces) :
    (createRes o i k c lot g s).1.slots.Bounded := by
  simpa [createRes] using setRes_bounded_of_room h hp

theorem enlargeRes_bounded {p r g} (h : s.slots.Bounded) (hp : (tget p s.slots.pool).isSome) :
    (enlargeRes p r g s).slots.Bounded := by
  simpa [enlargeRes] using setRes_bounded h hp

theorem mem_of_findLive {o i k c lot} {t : Table Reservation} {e : Nat × Reservation} (h : findLive o i k c lot t = some e) :
    e ∈ t := by
  induction t with
  | nil => cases h
  | cons x t ih =>
    unfold findLive at h
    split at h
    · cases h
      exact .head _
    · exact .tail _ (ih h)

theorem askPlacement_bounded {o i lot f} {a : Asking} (h : a.s.slots.Bounded) :
    (askPlacement o i lot a f).s.slots.Bounded := by
  unfold askPlacement
  split
  · exact h
  dsimp only
  split
  · exact h
  next hroom =>
  split
  · simpa using h
  split
  · next p r hmine =>
    have hp : (tget p a.s.slots.pool).isSome := tget_isSome_of_mem (mem_of_findLive hmine)
    exact enlargeRes_bounded (by simpa using h) (by simpa using hp)
  · next hmine =>
    have hp : a.s.slots.pool.length < Config.poolPlaces := by simp only [hmine] at hroom; simpa [State.slots] using hroom
    exact createRes_bounded (by simpa using h) (by simpa using hp)

theorem askLots_bounded {o i avoid skip lots} {a : Asking} (h : a.s.slots.Bounded) :
    (askLots o i avoid skip lots a).s.slots.Bounded := by
  have inner : ∀ lot (fs : List Free) (a : Asking), a.s.slots.Bounded →
      (fs.foldl (askPlacement o i lot) a).s.slots.Bounded := by
    intro lot fs
    induction fs with
    | nil => exact fun _ => id
    | cons f fs ih => exact fun a h => ih _ (askPlacement_bounded h)
  unfold askLots
  induction lots generalizing a with
  | nil => exact h
  | cons lot lots ih => exact ih (inner _ _ _ h)

@[simp] theorem giveBackOne_bounded {p g} (h : s.slots.Bounded) : (giveBackOne p g s).slots.Bounded := by
  unfold giveBackOne
  split
  · exact h
  next r hr =>
  have hp : (tget p s.slots.pool).isSome := Option.isSome_iff_exists.2 ⟨r, hr⟩
  dsimp only
  split
  all_goals simp [setRes_bounded, h, hp]

@[simp] theorem giveBack_bounded {added} (h : s.slots.Bounded) : (giveBack added s).slots.Bounded :=
  foldl_bounded (fun _ _ => giveBackOne_bounded) added h

theorem takeLots_bounded {o i l avoid skip lots} (h : s.slots.Bounded) :
    (takeLots o i l avoid skip lots s).s.slots.Bounded := by
  have hask : (askLots o i avoid skip lots { s := s, need := l.need, added := [], stopped := false }).s.slots.Bounded :=
    askLots_bounded h
  unfold takeLots
  dsimp only
  split <;> split <;> simp [hask]

@[simp] theorem resolveLine_bounded {o i l skip} (h : s.slots.Bounded) : (resolveLine o i l skip s).s.slots.Bounded := by
  unfold resolveLine
  split
  · exact takeLots_bounded h
  split
  · exact h
  dsimp only
  split
  · exact takeLots_bounded (by simpa using h)
  · simpa using h

@[simp] theorem passLine_bounded {skip x} {a : State × Bool} (h : a.1.slots.Bounded) : (passLine skip a x).1.slots.Bounded := by
  unfold passLine
  dsimp only
  repeat' split
  all_goals simp [h]

@[simp] theorem resolvePass_bounded {lines skip} (h : s.slots.Bounded) : (resolvePass lines skip s).slots.Bounded :=
  foldl_fst_bounded (fun _ _ => passLine_bounded) _ h

@[simp] theorem finishPool_bounded (h : s.slots.Bounded) : (finishPool s).slots.Bounded := by
  unfold finishPool
  split
  · exact resolvePass_bounded (by simpa using h)
  · exact h

@[simp] theorem passAfter_bounded {lines skip} (h : s.slots.Bounded) : (passAfter lines skip s).slots.Bounded :=
  finishPool_bounded (resolvePass_bounded h)

@[simp] theorem releaseWhere_bounded {f} (h : s.slots.Bounded) : (releaseWhere f s).slots.Bounded :=
  passAfter_bounded (releaseAll_bounded h)

@[simp] theorem releaseOrder_bounded {o} (h : s.slots.Bounded) : (releaseOrder o s).slots.Bounded := releaseAll_bounded h

@[simp] theorem orderCancelRequest_bounded {o} (h : s.slots.Bounded) : (orderCancelRequest o s).1.slots.Bounded := by
  unfold orderCancelRequest
  repeat' split
  all_goals simp [h]

@[simp] theorem takeReceipt_bounded {o seq l comp} (h : s.slots.Bounded) : (takeReceipt o seq l comp s).1.slots.Bounded := by
  unfold takeReceipt
  split <;> simp [h]

@[simp] theorem takeWithdrawal_bounded {o reason} (h : s.slots.Bounded) : (takeWithdrawal o reason s).slots.Bounded := by
  unfold takeWithdrawal
  repeat' split
  all_goals simp [h]

@[simp] theorem takeRemoval_bounded {o i week reason} (h : s.slots.Bounded) :
    (takeRemoval o i week reason s).slots.Bounded := by
  unfold takeRemoval
  repeat' split
  all_goals simp [h]

theorem resOf_known {r : ResId} {x : Reservation} (h : s.resOf r = some x) : (tget r.place s.slots.pool).isSome := by
  unfold State.resOf at h
  split at h
  · next y hy => exact Option.isSome_iff_exists.2 ⟨y, hy⟩
  · cases h

@[simp] theorem changeRes_bounded {r f} (h : s.slots.Bounded) : (changeRes r f s).slots.Bounded := by
  unfold changeRes
  split
  · next hx => exact setRes_bounded h (resOf_known hx)
  · exact h

@[simp] theorem resJoined_bounded {r} (h : s.slots.Bounded) : (resJoined r s).slots.Bounded := changeRes_bounded h
@[simp] theorem resPresented_bounded {r} (h : s.slots.Bounded) : (resPresented r s).slots.Bounded := changeRes_bounded h
@[simp] theorem resWithdrawn_bounded {r} (h : s.slots.Bounded) : (resWithdrawn r s).slots.Bounded := changeRes_bounded h

theorem chargeCommit_bounded {p r week told} (h : s.slots.Bounded) (hp : (tget p s.slots.pool).isSome) :
    (chargeCommit p r week told s).slots.Bounded := by
  unfold chargeCommit
  dsimp only
  repeat' split
  all_goals simp [setRes_bounded, h, hp]

theorem mem_of_newestOf {k c lot} {t : Table Reservation} {e : Nat × Reservation} (h : newestOf k c lot t = some e) : e ∈ t := by
  induction t generalizing e with
  | nil => cases h
  | cons x t ih =>
    unfold newestOf at h
    split at h
    · next hy =>
      split at h <;> cases h
      · exact .head _
      · exact .tail _ (ih hy)
    · split at h <;> cases h
      exact .head _

theorem chargeTo_known {r k c lot} {e : Nat × Reservation × Bool} (h : s.chargeTo r k c lot = some e) :
    (tget e.1 s.slots.pool).isSome := by
  unfold State.chargeTo at h
  split at h
  · next hx =>
    cases h
    exact resOf_known hx
  · obtain ⟨e', he', rfl⟩ := Option.map_eq_some_iff.1 h
    exact tget_isSome_of_mem (mem_of_newestOf he')

@[simp] theorem takeCommit_bounded {r k c lot week} (h : s.slots.Bounded) : (takeCommit r k c lot week s).1.slots.Bounded := by
  unfold takeCommit
  split
  · next hc => exact chargeCommit_bounded h (chargeTo_known hc)
  · exact h

@[simp] theorem resExpired_bounded {p} (h : s.slots.Bounded) : (resExpired p s).slots.Bounded := by
  unfold resExpired
  split
  · exact h
  split
  · exact h
  split
  · exact h
  · exact passAfter_bounded (by simp [h])

@[simp] theorem takeHold_bounded {lot} (h : s.slots.Bounded) : (takeHold lot s).slots.Bounded := releaseWhere_bounded h

@[simp] theorem takeCarrierRelease_bounded {k cs} (h : s.slots.Bounded) : (takeCarrierRelease k cs s).slots.Bounded :=
  releaseWhere_bounded h

@[simp] theorem trimOne_bounded {k c lot target p} {a : State × List (Nat × Nat)} (h : a.1.slots.Bounded) :
    (trimOne k c lot target a p).1.slots.Bounded := by
  unfold trimOne
  dsimp only
  repeat' split
  all_goals simp [h]

@[simp] theorem takeTrim_bounded {k c lot target} (h : s.slots.Bounded) : (takeTrim k c lot target s).1.slots.Bounded :=
  passAfter_bounded (foldl_fst_bounded (fun _ _ => trimOne_bounded) _ h)

@[simp] theorem takeShort_bounded {r n} (h : s.slots.Bounded) : (takeShort r n s).slots.Bounded := by
  unfold takeShort
  repeat' split
  all_goals simp [h]

theorem maySubstitute_room {x place lot} (h : s.maySubstitute x place lot = true) : s.slots.pool.length < Config.poolPlaces := by
  simp only [State.maySubstitute, Bool.and_eq_true, decide_eq_true_eq] at h
  exact h.2

@[simp] theorem takeSubstitution_bounded {r lot} (h : s.slots.Bounded) : (takeSubstitution r lot s).1.slots.Bounded := by
  unfold takeSubstitution
  split
  · exact h
  split
  · next hmay =>
    have hroom := maySubstitute_room (Bool.and_eq_true_iff.1 hmay).2
    dsimp only
    split
    · simpa using h
    · refine finishPool_bounded (releaseRes_bounded ?_)
      simp [setRes_bounded_of_room, h, hroom]
  · exact h

@[simp] theorem takeSubstituteRelease_bounded {r} (h : s.slots.Bounded) : (takeSubstituteRelease r s).slots.Bounded := by
  unfold takeSubstituteRelease
  repeat' split
  all_goals simp [h]

@[simp] theorem shiftExpiries_bounded {d} (h : s.slots.Bounded) : (shiftExpiries d s).slots.Bounded := by
  refine ⟨(twf_tmap _ _).trans h.canonical, ?_, h.places⟩
  have hlen := congrArg List.length (tmap_keys (fun _ r => { r with expiry := r.expiry.map (· + d) }) s.book.pool)
  rw [List.length_map, List.length_map] at hlen
  exact hlen.trans_le h.pool

@[simp] theorem restartBook_bounded (h : s.slots.Bounded) : (restartBook s).slots.Bounded := ⟨rfl, Nat.zero_le _, h.places⟩

/-! ## The conveyor and the lanes -/

@[simp] theorem freePlace_bounded {n} (h : s.slots.Bounded) : (freePlace n s).slots.Bounded :=
  ⟨h.canonical, h.pool, fun e he => h.places e ((tdel_sublist n _).subset he)⟩

theorem putPlace_bounded {n x f} (h : s.slots.Bounded) (hn : n < Config.transitPlaces)
    (hf : (f s.transit).places = tput n x s.transit.places) : (s.modTransit f).slots.Bounded := by
  refine ⟨h.canonical, h.pool, fun e he => ?_⟩
  rcases mem_tput (hf ▸ he : e ∈ tput n x s.transit.places) with rfl | he
  · exact hn
  · exact h.places e he

@[simp] theorem askPlace_bounded {st} (h : s.slots.Bounded) : (askPlace st s).1.slots.Bounded := by
  unfold askPlace
  dsimp only
  split
  · next hn => exact putPlace_bounded h hn rfl
  · simp [h]

@[simp] theorem givePlace_bounded {st n} (h : s.slots.Bounded) : (givePlace st n s).slots.Bounded := by
  unfold givePlace
  split <;> simp [h]

theorem mem_of_tget {α : Type} {n : Nat} {v : α} {t : Table α} (h : tget n t = some v) : (n, v) ∈ t := by
  induction t with
  | nil => cases h
  | cons e t ih =>
    unfold tget at h
    split at h
    · next hn =>
      cases h
      exact hn ▸ .head _
    · exact .tail _ (ih h)

theorem unrouted_bounded {st n o ref line lot week label} (h : s.slots.Bounded) :
    (handOverPlace.unrouted st n o ref line lot week label s).slots.Bounded := by
  simp [handOverPlace.unrouted, h]

@[simp] theorem handOverPlace_bounded {st n o ref line lot week} (h : s.slots.Bounded) :
    (handOverPlace st n o ref line lot week s).slots.Bounded := by
  unfold handOverPlace
  dsimp only
  split
  · next hn =>
    split
    · split
      · rw [sendDivert_slots]
        exact putPlace_bounded h (h.places _ (mem_of_tget hn)) rfl
      · exact unrouted_bounded h
    · exact unrouted_bounded h
  · exact h

@[simp] theorem cartLost_bounded {l} (h : s.slots.Bounded) : (cartLost l s).slots.Bounded := by
  simp only [cartLost, seatIfMade_slots, foldl_slots, checkFlush_slots, handNotice_slots, sendLatch_slots, emptyLane_slots,
    State.postAll_slots, implies_true]
  exact foldl_bounded (fun _ _ h => by simp [h]) _ h

@[simp] theorem contactsChanged_bounded {l old} (h : s.slots.Bounded) : (contactsChanged l old s).slots.Bounded := by
  unfold contactsChanged
  dsimp only
  repeat' split
  all_goals simp [h]

@[simp] theorem takeLaneInput_bounded {l i} (h : s.slots.Bounded) : (takeLaneInput l i s).slots.Bounded := by
  unfold takeLaneInput
  dsimp only
  repeat' split
  all_goals simp [h]

@[simp] theorem takeArrival_bounded {l label} (h : s.slots.Bounded) : (takeArrival l label s).slots.Bounded := by
  unfold takeArrival
  split <;> simp [h]

@[simp] theorem transitExpired_bounded {n} (h : s.slots.Bounded) : (transitExpired n s).slots.Bounded := by
  unfold transitExpired
  split <;> simp [h]

@[simp] theorem takeCancel_bounded {o picking} (h : s.slots.Bounded) : (takeCancel o picking s).slots.Bounded := by
  have hcancel : (s.modTransit fun t => { t with places := tmap (fun _ p => p.cancel o) t.places }).slots.Bounded := by
    refine ⟨h.canonical, h.pool, fun e he => ?_⟩
    have hmem : e.1 ∈ (tmap (fun _ p => Place.cancel o p) s.transit.places).map (·.1) := List.mem_map_of_mem he
    rw [tmap_keys] at hmem
    obtain ⟨x, hx, hxe⟩ := List.mem_map.1 hmem
    exact hxe ▸ h.places x hx
  unfold takeCancel
  split <;> simp [hcancel]

@[simp] theorem restartLanes_bounded (h : s.slots.Bounded) : (restartLanes s).slots.Bounded := ⟨h.canonical, h.pool, nofun⟩

/-! ## The stations -/

@[simp] theorem reportCommit_bounded {st place r k c lot} (h : s.slots.Bounded) :
    (reportCommit st place r k c lot s).1.slots.Bounded := by
  unfold reportCommit
  dsimp only
  split <;> simp [h]

@[simp] theorem takePick_bounded {st k v p e} (h : s.slots.Bounded) : (takePick st k v p e s).1.slots.Bounded := by
  unfold takePick
  dsimp only
  repeat' split
  all_goals simp [h]

@[simp] theorem evalOpening_bounded {st e} (h : s.slots.Bounded) : (evalOpening st e s).1.slots.Bounded := by
  unfold evalOpening
  repeat' split
  all_goals simp [h]

@[simp] theorem evalHead_bounded {st} (h : s.slots.Bounded) : (evalHead st s).1.slots.Bounded := by
  unfold evalHead
  repeat' split
  all_goals simp [h]

@[simp] theorem evalLoop_bounded {st n} (h : s.slots.Bounded) : (evalLoop st n s).slots.Bounded := by
  induction n generalizing s with
  | zero => exact h
  | succ n ih =>
    unfold evalLoop
    dsimp only
    split <;> simp [ih, h]

@[simp] theorem attend_bounded {st} (h : s.slots.Bounded) : (attend st s).slots.Bounded := by simp [h, attend]

@[simp] theorem attendEnded_bounded {s0} (h : s.slots.Bounded) : (attendEnded s0 s).slots.Bounded :=
  foldl_bounded (fun _ _ h => by split <;> simp [h]) _ h

@[simp] theorem takeReady_bounded {st k} (h : s.slots.Bounded) : (takeReady st k s).slots.Bounded := by simp [h, takeReady]

@[simp] theorem takeNotReady_bounded {st k} (h : s.slots.Bounded) : (takeNotReady st k s).slots.Bounded := by simp [h, takeNotReady]

@[simp] theorem declineGrant_bounded {st k} (h : s.slots.Bounded) : (declineGrant st k s).slots.Bounded := by simp [h, declineGrant]

@[simp] theorem holdGrant_bounded {st k t v} (h : s.slots.Bounded) : (holdGrant st k t v s).slots.Bounded := by simp [h, holdGrant]

@[simp] theorem takeGrant_bounded {k} (h : s.slots.Bounded) : (takeGrant k s).slots.Bounded := by
  unfold takeGrant
  repeat' split
  all_goals simp [h]

@[simp] theorem takeGrantAnswer_bounded {st k view} (h : s.slots.Bounded) : (takeGrantAnswer st k view s).slots.Bounded := by
  unfold takeGrantAnswer
  repeat' split
  all_goals simp [h]

@[simp] theorem takeTaskEnd_bounded {st k outcome} (h : s.slots.Bounded) : (takeTaskEnd st k outcome s).slots.Bounded := by
  unfold takeTaskEnd
  repeat' split
  all_goals simp [h]

@[simp] theorem takeWithdrawalReport_bounded {st k} (h : s.slots.Bounded) : (takeWithdrawalReport st k s).slots.Bounded := by
  unfold takeWithdrawalReport
  repeat' split
  all_goals simp [h]

@[simp] theorem attentionExpired_bounded {st} (h : s.slots.Bounded) : (attentionExpired st s).slots.Bounded := by
  unfold attentionExpired
  split <;> simp [h]

@[simp] theorem takePlaceFree_bounded {st} (h : s.slots.Bounded) : (takePlaceFree st s).slots.Bounded := by
  unfold takePlaceFree
  split <;> simp [h]

@[simp] theorem takeRoom_bounded {st} (h : s.slots.Bounded) : (takeRoom st s).slots.Bounded := by
  unfold takeRoom
  split <;> simp [h]

@[simp] theorem takeLabel_bounded {st reader label} (h : s.slots.Bounded) : (takeLabel st reader label s).slots.Bounded := by
  unfold takeLabel
  dsimp only
  repeat' split
  all_goals simp [h]

@[simp] theorem clearLock_bounded {st} (h : s.slots.Bounded) : (clearLock st s).slots.Bounded := by simp [h, clearLock]

@[simp] theorem rejectClear_bounded {st recount} (h : s.slots.Bounded) : (rejectClear st recount s).1.slots.Bounded := by
  unfold rejectClear
  dsimp only
  repeat' split
  all_goals simp [h]

@[simp] theorem acceptClear_bounded {st} (h : s.slots.Bounded) : (acceptClear st s).1.slots.Bounded := by
  have hsub : ∀ r lot, (takeSubstitution r lot (askPlace st s).1).1.slots.Bounded := fun _ _ =>
    takeSubstitution_bounded (askPlace_bounded h)
  have hended : ∀ r n k c lot x, (takeSubstituteRelease x (givePlace st n (commitPickEntry k c lot
      (takeSubstitution r lot (askPlace st s).1).1).1)).slots.Bounded := fun _ _ _ _ _ _ =>
    takeSubstituteRelease_bounded (givePlace_bounded (by simp [hsub]))
  unfold acceptClear
  split
  · simp [h]
  dsimp only
  repeat' split
  all_goals simp [h, hsub, hended]

@[simp] theorem signOnKey_bounded {st} (h : s.slots.Bounded) : (signOnKey st s).slots.Bounded := by
  unfold signOnKey
  dsimp only
  split <;> simp [h]

@[simp] theorem confirmKey_bounded {st} (h : s.slots.Bounded) : (confirmKey st s).slots.Bounded := by
  unfold confirmKey
  dsimp only
  repeat' split
  all_goals simp [h]

@[simp] theorem actKey_bounded {st key} (h : s.slots.Bounded) : (actKey st key s).slots.Bounded := by
  unfold actKey
  repeat' split
  all_goals simp [h]

@[simp] theorem pressKey_bounded {st key} (h : s.slots.Bounded) : (pressKey st key s).slots.Bounded := by
  unfold pressKey
  dsimp only
  split <;> simp [h]

@[simp] theorem takeKeys_bounded {st old new} (h : s.slots.Bounded) : (takeKeys st old new s).slots.Bounded :=
  foldl_bounded (fun _ _ h => by split <;> simp [h]) _ h

@[simp] theorem takePanelInput_bounded {st i} (h : s.slots.Bounded) : (takePanelInput st i s).slots.Bounded := by
  unfold takePanelInput
  dsimp only
  repeat' split
  all_goals simp [h]

@[simp] theorem scanClearRequest_bounded {n action} (h : s.slots.Bounded) : (scanClearRequest n action s).1.slots.Bounded := by
  unfold scanClearRequest
  repeat' split
  all_goals simp [h]

@[simp] theorem stationHalt_bounded {st} (h : s.slots.Bounded) : (stationHalt st s).slots.Bounded := by simp [h, stationHalt]

@[simp] theorem stationRun_bounded {st} (h : s.slots.Bounded) : (stationRun st s).slots.Bounded := by simp [h, stationRun]

/-! ## The audits -/

@[simp] theorem trimPlacements_bounded {k c tally lots} (h : s.slots.Bounded) :
    (trimPlacements k c tally lots s).1.slots.Bounded := by
  induction lots generalizing s with
  | nil => exact h
  | cons lot lots ih =>
    unfold trimPlacements
    dsimp only
    split <;> simp [ih, h]

@[simp] theorem confirmAudit_bounded {k} (h : s.slots.Bounded) : (confirmAudit k s).slots.Bounded := by
  unfold confirmAudit
  dsimp only
  repeat' split
  all_goals simp [h]

@[simp] theorem abandonSession_bounded {k fate} (h : s.slots.Bounded) : (abandonSession k fate s).slots.Bounded := by
  unfold abandonSession
  dsimp only
  repeat' split
  all_goals simp [h]

@[simp] theorem sessionExpired_bounded {k} (h : s.slots.Bounded) : (sessionExpired k s).slots.Bounded := by
  unfold sessionExpired
  repeat' split
  all_goals simp [h]

@[simp] theorem takeHandBack_bounded {k carrier} (h : s.slots.Bounded) : (takeHandBack k carrier s).slots.Bounded := by
  unfold takeHandBack
  repeat' split
  all_goals simp [h]

@[simp] theorem auditCancelRequest_bounded {kn c} (h : s.slots.Bounded) : (auditCancelRequest kn c s).1.slots.Bounded := by
  unfold auditCancelRequest
  repeat' split
  all_goals simp [h]
end
end Sys2Proof.Machine

namespace Sys2Proof.Machine

/-! # Every command keeps the bounds of the pool and of the in-transit list (law L12) -/

section
variable {s : State}

/-! ## Frames received -/

theorem receive_bounded {g kind act} (ha : ∀ d t, t.slots.Bounded → (act d t).slots.Bounded) (h : s.slots.Bounded) :
    (receive g kind act s).slots.Bounded := by
  unfold receive
  dsimp only
  repeat' split
  all_goals simp [ha, h]

@[simp] theorem fieldFrame_bounded {g kind p owner} (ho : ∀ r u t, t.slots.Bounded → (owner r u t).slots.Bounded)
    (h : s.slots.Bounded) : (fieldFrame g kind p owner s).slots.Bounded :=
  receive_bounded (fun d t ht => by
    split
    · dsimp only
      repeat' split
      all_goals simp [ho, ht]
    · simp [ht]) h

@[simp] theorem panelOwner_bounded {input role unit} (h : s.slots.Bounded) : (panelOwner input role unit s).slots.Bounded := by
  unfold panelOwner
  split <;> simp [h]

@[simp] theorem labelOwner_bounded {label role unit} (h : s.slots.Bounded) : (labelOwner label role unit s).slots.Bounded := by
  unfold labelOwner
  repeat' split
  all_goals simp [h]

@[simp] theorem laneOwner_bounded {input role unit} (h : s.slots.Bounded) : (laneOwner input role unit s).slots.Bounded := by
  unfold laneOwner
  split <;> simp [h]

@[simp] theorem takeReturn_bounded {g kind intact} (h : s.slots.Bounded) : (takeReturn g kind intact s).slots.Bounded := by
  unfold takeReturn
  split
  · exact receive_bounded (fun d t ht => by split <;> simp [ht]) h
  · simp [h]

@[simp] theorem takeRing_bounded {b r} (h : s.slots.Bounded) : (takeRing b r s).slots.Bounded := by
  unfold takeRing
  split <;> simp [h]

@[simp] theorem nodeMissing_bounded {role unit} (h : s.slots.Bounded) : (nodeMissing role unit s).slots.Bounded := by
  unfold nodeMissing
  repeat' split
  all_goals simp [h]

@[simp] theorem takeOffer_bounded {b target p} (h : s.slots.Bounded) : (takeOffer b target p s).slots.Bounded := by
  unfold takeOffer
  dsimp only
  repeat' split
  all_goals simp [h]

@[simp] theorem takeSpace_bounded {b} (h : s.slots.Bounded) : (takeSpace b s).slots.Bounded := by
  unfold takeSpace
  split <;> simp [h]

/-! ## The cell -/

@[simp] theorem endHalt_bounded (h : s.slots.Bounded) : (endHalt s).slots.Bounded := by simp [endHalt, h]

@[simp] theorem runCell_bounded (h : s.slots.Bounded) : (runCell s).slots.Bounded := by
  unfold runCell
  refine foldl_bounded (fun _ _ h => stationRun_bounded h) _ ?_
  split <;> simp [h]

@[simp] theorem cellRunRequest_bounded (h : s.slots.Bounded) : (cellRunRequest s).1.slots.Bounded := by
  unfold cellRunRequest
  repeat' split
  all_goals simp [h]

@[simp] theorem haltCell_bounded (h : s.slots.Bounded) : (haltCell s).slots.Bounded := by
  unfold haltCell
  rw [State.sessions_slots]
  exact foldl_bounded (fun _ _ h => stationHalt_bounded h) _ (by simp [h])

@[simp] theorem cellHaltRequest_bounded (h : s.slots.Bounded) : (cellHaltRequest s).1.slots.Bounded := by
  unfold cellHaltRequest
  split <;> simp [h]

/-- CELL-RESTART empties both lists. -/
@[simp] theorem restartCell_bounded : (restartCell s).slots.Bounded := by
  have hb : (restartBook (restartAudits (restartLanes (restartStock ({ s with mail := s.mail.filter mailKept } :
      State).keepsExcluded (restartFrames { s with mail := s.mail.filter mailKept }))))).slots.Bounded :=
    ⟨rfl, Nat.zero_le _, nofun⟩
  unfold restartCell
  dsimp only
  generalize restartBook _ = b at hb ⊢
  have hr : ({ b with seqs := b.seqs.map Seq.restart, stations := b.stations.map Stn.restart } : State).slots.Bounded := hb
  simp [hr]

/-! ## The rows -/

/-- Whatever the command comes to, the places are within their bounds when they were before. -/
def Confined (s : State) (r : Host.Outcome State Fault Refusal) : Prop :=
  s.slots.Bounded → ∀ t, r = .next t → t.slots.Bounded

theorem confined_next {t : State} (h : s.slots.Bounded → t.slots.Bounded) : Confined s (.next t) := by
  intro hs u hu
  cases hu
  exact h hs

theorem confined_carry {f : State → State} (hf : ∀ u : State, u.slots.Bounded → (f u).slots.Bounded) :
    Confined s (carry s f) := by
  refine confined_next fun hs => ?_
  split
  · exact hs
  · exact hf _ hs

theorem confined_seq {f : State → State} (hf : ∀ u : State, u.slots.Bounded → (f u).slots.Bounded) :
    Confined s (seqStep s f) :=
  confined_carry fun u hu => attendEnded_bounded (hf u hu)

theorem confined_stn {f : State → State} (hf : ∀ u : State, u.slots.Bounded → (f u).slots.Bounded) :
    Confined s (stnStep s f) :=
  confined_carry fun u hu => attendEnded_bounded (hf u hu)

theorem confined_request {q kind body} (hb : ∀ u : State, u.slots.Bounded → (body u).1.slots.Bounded) :
    Confined s (carry s (request q kind body)) := by
  refine confined_carry fun u hu => receive_bounded (fun d t ht => ?_) hu
  split
  · unfold answerRequest
    split <;> simp [hb, ht]
  · simp [ht]

theorem confined_settled {q kind body} (hb : ∀ u : State, u.slots.Bounded → (body u).1.slots.Bounded) :
    Confined s (carry s (request q kind (settled body))) :=
  confined_request fun u hu => attendEnded_bounded (hb u hu)

theorem confined_plain {q kind body} (hb : ∀ u : State, u.slots.Bounded → (body u).1.slots.Bounded) :
    Confined s (carry s (request q kind (plain body))) :=
  confined_request hb

theorem confined_maint {g kind act} (ha : ∀ k n (u : State), u.slots.Bounded → (act k n u).slots.Bounded) :
    Confined s (seqStep s (maintFrame g kind act)) :=
  confined_seq fun _ hu => receive_bounded (fun d t ht => by split <;> simp [ha, ht]) hu

/-- The requests of the Management Unit. -/
theorem confined_runRequest {c : Instr} {r : Host.Outcome State Fault Refusal} (hr : runRequest c s = some r) :
    Confined s r := by
  cases c <;> simp only [runRequest, Option.some.injEq, reduceCtorEq] at hr
  all_goals subst hr
  case malformedRequest | groupWrite | laneConfigWrite | lotWrite | lotDelete | lotHold | lotRelease | orderCancel | orderClass |
      orderResume | lanePermit | laneAssign | laneClose | laneOpen | cellRestart =>
    exact confined_plain fun _ h => by simp [h]
  case cellStatus | timerWrite | recordRead | orderAdd => exact confined_request fun _ h => by simp [h]
  case cellRun | cellHalt | nodeMapWrite | carouselConfigWrite | stationConfigWrite | carrierWrite | carouselEnable |
      carouselDisable | windowSet | auditRequest | auditCancel | scanClear =>
    exact confined_settled fun _ h => by simp [h]

/-- The commands that a frame of the drives, panels, readers and lane controllers carries in. -/
theorem confined_runFrame {c : Instr} {r : Host.Outcome State Fault Refusal} (hr : runFrame c s = some r) : Confined s r := by
  cases c <;> simp only [runFrame, Option.some.injEq, reduceCtorEq] at hr
  all_goals subst hr
  case driveStatus => exact confined_seq fun _ h => fieldFrame_bounded (fun _ _ _ h => by simp [h]) h
  case panelRecovery | stationLabel => exact confined_stn fun _ h => fieldFrame_bounded (fun _ _ _ h => by simp [h]) h
  case cartContacts | laneArrival | tagRead => exact confined_carry fun _ h => fieldFrame_bounded (fun _ _ _ h => by simp [h]) h
  case manualClaim | access | manualRelease | maintDriveFrame => exact confined_maint fun _ _ _ h => by simp [h]
  case foreignCommand | frameReturn => exact confined_carry fun _ h => by simp [h]

theorem confined_passedOn {f : WireFrame} : Confined s (passedOn f s) := confined_carry fun _ h => by simp [h]

/-- A frame's bytes, whatever command they stand for (R178). -/
theorem confined_receiveBytes {f : WireFrame} : Confined s (receiveBytes f s) := by
  unfold receiveBytes
  split
  · split
    · next c _ =>
      cases hq : runRequest c s with
      | some r => exact confined_runRequest hq
      | none =>
        cases hf : runFrame c s with
        | some r => exact confined_runFrame hf
        | none => exact confined_passedOn
    · exact confined_passedOn
  · exact confined_carry fun _ h => by simp [h]

/-- The rows of every other command. -/
theorem confined_row {i : Instr} (hq : runRequest i s = none) (hf : runFrame i s = none) : Confined s (exec i s) := by
  delta exec
  cases i <;> dsimp only
  case resetAssert | powerOnReset => exact confined_next fun _ => ⟨rfl, Nat.zero_le _, nofun⟩
  case clockLoss => exact confined_next id
  case clockReturn => exact confined_next fun h => resumeQueries_slots.symm ▸ h
  case damagedFrameReceived | forwardedFrame => exact confined_receiveBytes
  case silenceTimerExpiry | ringStateReport | restoreRoundExpiry | nodeNotAnswered | roundDeadlineExpiry | frameOffer |
      frameWithdraw | payloadReplace | frameSend | spaceReport | noticeHanded | noticeSend | noticeFate | replyOffer =>
    exact confined_carry fun _ h => by simp [h]
  case manualIdleExpiry | queryRoundExpiry | statusQueryReturn | moveReturn | haltReturn | moveTimeout | curtainBroken |
      curtainClear | curtainSettleExpiry | driveMissingReport | speedClassReport | newReservation | putOffer | auditOffer |
      auditRequeue | auditTaskReclass | taskRemoveRequest | pickNewCount | pickDrop | pickStruck | taskClassReport |
      pickTakenReport | putTakenReport | grant | grantWithdrawal | earlyConfirm | auditAppliedReport | stationBayReport |
      stationStateReport =>
    exact confined_seq fun _ h => by simp [h]
  case reserve | release | commitPick | commitPut | planIncoming | returnIncoming | roomQuery | auditMark | auditClear |
      auditLock | auditUnlock | auditApply | exclude | admitCarriers | massReport | candidateTest | balanceQuery | travelPlan |
      stockRiseReport | eligibilityReport | compartmentReceipt | compartmentWithdrawal | deliveryReport | transitRemoval |
      dispatchReport | reservationJoined | reservationPresented | reservationWithdrawn | commitReport | reservationExpiry |
      holdHandover | carrierRelease | auditTrim | shortReport | substitutionRequest | substituteRelease =>
    exact confined_carry fun _ h => by simp [h]
  case taskEndReport =>
    refine confined_stn fun _ h => ?_
    split <;> simp [h]
  case readyReport | notReadyReport | grantAnswer | grantWithdrawalReport | attentionTimeout | taskViewReport |
      transitPlaceReport | plannerRoomReport | placeReport | putTaskLeft | panelShowReturn | bayCurtainChange | signOn | signOff |
      clearAccept | clearReject | recount | short | confirm | batchEnd | auditRequestRaised | auditPlaceReport | auditGranted |
      tally | auditConfirm | auditIdleExpiry | auditAbandonReport | auditHandBack | admitNotice =>
    exact confined_stn fun _ h => by simp [h]
  case transitPlaceRequest | placeGiveUp | handOver | divertReturn | transitTimeout | releaseButton | laneSettleExpiry |
      tagTimerExpiry | latchReturn | waitingReport | orderClassReport | goneReport | cancelReport |
      completionReport | receiptAnswer =>
    exact confined_carry fun _ h => by simp [h]
  case laneControllerRecovery => exact confined_carry fun _ h => fieldFrame_bounded (fun _ _ _ h => by simp [h]) h
  -- the requests and the field's frames have their rows above
  all_goals simp only [runRequest, runFrame, reduceCtorEq] at hq hf

theorem confined_exec (i : Instr) (s : State) : Confined s (exec i s) := by
  cases hq : runRequest i s with
  | some r => exact exec_of_runRequest hq ▸ confined_runRequest hq
  | none =>
    cases hf : runFrame i s with
    | some r => exact exec_of_runFrame hf ▸ confined_runFrame hf
    | none => exact confined_row hq hf

end

/-- Every step keeps the places within their bounds. -/
theorem confined_step (s : State) : Confined s (step s) := by
  have taken : ∀ {u : State} {c : Instr}, u.slots = s.slots → Confined s (exec c u) := fun hu h =>
    confined_exec _ _ (h.of_slots hu)
  unfold step
  split
  · exact taken rfl
  unfold ownStep
  split
  · exact confined_next id
  split
  · exact taken rfl
  split
  · exact taken rfl
  · exact confined_next (t := s.tick) id

/-- Settles O56: a place that was free is taken by two operations alone, which look for room first. -/
theorem placesBounded : Obligations.PlacesBounded := by
  intro s t ⟨hwf, hpool, hplaces⟩ ht
  have hbounded : s.slots.Bounded := ⟨(s.tablesWf_iff.1 hwf).2.2.1, hpool, hplaces⟩
  have hkept := confined_step s hbounded t ht
  exact ⟨tablesKept s t hwf ht, hkept.pool, hkept.places⟩

end Sys2Proof.Machine

namespace Sys2Proof.Machine

/-! # The Order Book's records: one rule for each update -/

/-! ## Tables -/

theorem tget_tmod_same {α : Type} {n : Nat} {f : α → α} {v : α} {t : Table α} (h : tget n t = some v) :
    tget n (tmod n f t) = some (f v) := by
  induction t with
  | nil => cases h
  | cons e t ih =>
    obtain ⟨m, w⟩ := e
    by_cases hm : m = n
    · simp_all [tmod, tget]
    · simp_all [tmod, tget]

theorem tget_tmod_other {α : Type} {n k : Nat} (hk : k ≠ n) (f : α → α) (t : Table α) : tget k (tmod n f t) = tget k t := by
  induction t with
  | nil => rfl
  | cons e t ih =>
    obtain ⟨m, w⟩ := e
    by_cases hm : m = n
    · subst hm
      simp [tmod, tget, hk.symm]
    · simp [tmod, tget, hm, ih]

theorem tmod_congr {α : Type} {n : Nat} {f g : α → α} {v : α} {t : Table α} (h : tget n t = some v) (hfg : f v = g v) :
    tmod n f t = tmod n g t := by
  induction t with
  | nil => rfl
  | cons e t ih =>
    obtain ⟨m, w⟩ := e
    by_cases hm : m = n
    · subst hm
      obtain rfl : w = v := by simpa [tget] using h
      simp [tmod, hfg]
    · simp [tmod, hm, ih (by simpa [tget, hm] using h)]

theorem modAt_eq_set {α : Type} {i : Nat} {f : α → α} {x : α} {l : List α} (h : l[i]? = some x) : modAt i f l = l.set i (f x) := by
  induction l generalizing i with
  | nil => simp at h
  | cons y l ih =>
    cases i with
    | zero =>
      obtain rfl : y = x := by simpa using h
      rfl
    | succ i => simp [modAt, ih (by simpa using h)]

/-! ## Orders and lines -/

section
variable {s t : State} {h i : Nat} {o : Order} {l : Line}

/-- Another state of the same Order Book holds the same order. -/
theorem State.orderIs.of_book {u : State} (hu : s.orderIs h o u) (ht : t.book = u.book) : s.orderIs h o t := by
  unfold State.orderIs State.order at *
  rwa [ht]

theorem State.orderGone.of_book {u : State} (hu : s.orderGone h u) (ht : t.book = u.book) : s.orderGone h t := by
  unfold State.orderGone State.order at *
  rwa [ht]

theorem modOrder_orderIs (f : Order → Order) (ho : s.order h = some o) : s.orderIs h (f o) (s.modOrder h f) :=
  ⟨tget_tmod_same ho, fun _ hn => tget_tmod_other hn _ _, rfl⟩

/-- Changes of an order that agree on it are the same. -/
theorem modOrder_congr {f g : Order → Order} (ho : s.order h = some o) (hfg : f o = g o) : s.modOrder h f = s.modOrder h g := by
  unfold State.modOrder State.modBook
  dsimp only
  rw [tmod_congr ho hfg]

/-- An order with one line changed. -/
theorem modLine_eq (f : Line → Line) (ho : s.order h = some o) (hl : o.lines[i]? = some l) :
    s.modLine h i f = s.modOrder h fun o => { o with lines := o.lines.set i (f l).settled } :=
  modOrder_congr ho (by simp [modAt_eq_set hl])

theorem modLine_orderIs (f : Line → Line) (ho : s.order h = some o) (hl : o.lines[i]? = some l) :
    s.orderIs h { o with lines := o.lines.set i (f l).settled } (s.modLine h i f) :=
  modLine_eq f ho hl ▸ modOrder_orderIs _ ho

/-- An order changed twice stands as the second change leaves it. -/
theorem State.orderIs.trans {u : State} {o' : Order} (ht : s.orderIs h o t) (hu : t.orderIs h o' u) : s.orderIs h o' u := by
  obtain ⟨-, hother, hbook⟩ := ht
  obtain ⟨horder', hother', hbook'⟩ := hu
  refine ⟨horder', fun n hn => (hother' n hn).trans (hother n hn), ?_⟩
  rw [hbook', hbook]

theorem State.orderIs.gone {u : State} (ht : s.orderIs h o t) (hu : t.orderGone h u) : s.orderGone h u := by
  obtain ⟨-, hother, hbook⟩ := ht
  obtain ⟨hgone, hother', hbook'⟩ := hu
  refine ⟨hgone, fun n hn => (hother' n hn).trans (hother n hn), ?_⟩
  rw [hbook', hbook]

theorem line_of_order (ho : s.order h = some o) : s.line h i = o.lines[i]? := by simp [State.line, ho]

theorem line_of_noOrder (ho : s.order h = none) : s.line h i = none := by simp [State.line, ho]

/-- An order without a struck reservation leaves the table at once (R43). -/
theorem leaveTable_orderGone (hs : s.struckLeft h = false) (hw : twf s.book.orders = true) : s.orderGone h (leaveTable h s) := by
  simp only [leaveTable, hs, Bool.false_eq_true, if_false]
  exact ⟨tget_tdel_same hw, fun n hn => tget_tdel_other hn _, rfl⟩

/-- An order with a struck reservation waits for it (R43). -/
theorem leaveTable_leaving (hs : s.struckLeft h = true) (ho : s.order h = some o) :
    s.orderIs h { o with leaving := true } (leaveTable h s) := by
  simp only [leaveTable, hs, if_true]
  exact modOrder_orderIs _ ho

/-- Whatever it comes to, an order that leaves the table changes the order table alone. -/
theorem leaveTable_book (h : Nat) (s : State) : leaveTable h s = { s with book := (leaveTable h s).book } := by
  unfold leaveTable
  split <;> rfl

theorem leaveTable_book_congr (hb : t.book = s.book) : (leaveTable h t).book = (leaveTable h s).book := by
  have hk : t.struckLeft h = s.struckLeft h := by simp [State.struckLeft, hb]
  unfold leaveTable
  rw [hk]
  split <;> simp [State.modOrder, hb]

theorem postWaiting_order (ho : s.order h = some o) : postWaiting h s = s.post (.waitingReport ⟨h, o.ref⟩ o.seq o.cls o.lanes) := by
  simp [postWaiting, ho]

end

/-! ## Passes that find nothing to do (R55) -/

theorem mem_insertBy {α : Type} {before : α → α → Bool} {x y : α} {l : List α} : y ∈ insertBy before x l ↔ y = x ∨ y ∈ l := by
  induction l with
  | nil => simp [insertBy]
  | cons z l ih =>
    unfold insertBy
    split
    · simp
    · simp [ih, or_left_comm]

theorem mem_sortBy {α : Type} {before : α → α → Bool} {y : α} {l : List α} : y ∈ sortBy before l ↔ y ∈ l := by
  induction l with
  | nil => rfl
  | cons x l ih => simp [sortBy, mem_insertBy, ih]

/-- A line is passed over: its order is not PICKING, or it needs nothing. -/
def State.passedOver (s : State) (x : Nat × Nat) : Prop :=
  ∀ o l, s.order x.1 = some o → o.lines[x.2]? = some l → o.state = .picking → l.need = 0

section
variable {s : State}

theorem passLine_passedOver {skip b} {x : Nat × Nat} (hx : s.passedOver x) : passLine skip (s, b) x = (s, b) := by
  unfold passLine
  dsimp only
  split
  · next o l ho hl =>
    rw [line_of_order ho] at hl
    split
    · next h => exact absurd (hx o l ho hl h.1) (Nat.ne_of_gt h.2)
    · rfl
  · rfl

theorem resolvePass_passedOver {skip} {lines : List (Nat × Nat)} (h : ∀ x ∈ lines, s.passedOver x) :
    resolvePass lines skip s = s := by
  have pass : ∀ l : List (Nat × Nat), (∀ x ∈ l, s.passedOver x) → l.foldl (passLine skip) (s, false) = (s, false) := by
    intro l hl
    induction l with
    | nil => rfl
    | cons x l ih =>
      rw [List.foldl_cons, passLine_passedOver (hl x (.head _))]
      exact ih fun y hy => hl y (.tail _ hy)
  unfold resolvePass
  rw [pass _ fun x hx => h x (List.mem_dedup.1 (mem_sortBy.1 hx))]

theorem finishPool_calm (hf : s.book.freed = false) : finishPool s = s := by simp [finishPool, hf]

theorem passAfter_passedOver {skip} {lines : List (Nat × Nat)} (h : ∀ x ∈ lines, s.passedOver x) (hf : s.book.freed = false) :
    passAfter lines skip s = s := by
  rw [passAfter, resolvePass_passedOver h, finishPool_calm hf]

theorem passedOver_of_state {x : Nat × Nat} {o : Order} (ho : s.order x.1 = some o) (hs : o.state ≠ .picking) : s.passedOver x := by
  intro o' l ho' _ hp
  obtain rfl := Option.some.inj (ho.symm.trans ho')
  exact absurd hp hs

theorem releaseOrder_none {h : Nat} (hl : s.livePlaces (fun r => r.order = h) = []) : releaseOrder h s = s := by
  unfold releaseOrder
  rw [hl]
  rfl

end

/-! # What a resolution can do (R55 to R64)

Whatever is released, given back, reserved or passed over: nothing changes but the stock, the Order Book, the notices and the
reports handed out, of which the old ones stay; an order that does not wait to leave stays, with changes in its lines alone; and no
reservation of before is live that was not live then. -/

theorem resOf_eq_some {s : State} {r : ResId} {x : Reservation} :
    s.resOf r = some x ↔ s.reservation r.place = some x ∧ x.seq = r.seq := by
  cases hr : s.reservation r.place with
  | none => simp [State.resOf, hr]
  | some y =>
    by_cases hs : y.seq = r.seq
    · simpa [State.resOf, hr, hs] using fun e : y = x => e ▸ hs
    · simpa [State.resOf, hr, hs] using fun e : y = x => e ▸ hs

/-- What every step of a resolution or of a release keeps. -/
structure State.Resolves (s t : State) : Prop where
  rest : t = { s with lots := t.lots, stock := t.stock, book := t.book, mgmt := t.mgmt, mail := t.mail }
  mgmt : t.mgmt =
    { s.mgmt with notices := t.mgmt.notices, noticeSeq := t.mgmt.noticeSeq, dropped := t.mgmt.dropped }
  mail : s.mail <+: t.mail
  notices : s.mgmt.notices <+: t.mgmt.notices
  orders : ∀ h o, s.order h = some o → o.leaving = false → ∃ ls, t.order h = some { o with lines := ls }
  canonical : twf s.book.pool = true → twf t.book.pool = true
  creations : s.book.creations ≤ t.book.creations
  lives : twf s.book.pool = true → ∀ (r : ResId) y, r.seq < s.book.creations → t.resOf r = some y → y.struck = false →
    ∃ x, s.resOf r = some x ∧ x.struck = false

namespace State.Resolves
-- These lemmas rest on each other in long chains: each would hold a thread that waits for the one before.
set_option Elab.async false
variable {s₀ s t : State} {k : Carousel} {c lot p n i hd : Nat}

theorem refl (s : State) : s.Resolves s where
  rest := rfl
  mgmt := rfl
  mail := List.prefix_rfl
  notices := List.prefix_rfl
  orders _ o ho _ := ⟨o.lines, ho⟩
  canonical := id
  creations := Nat.le_refl _
  lives _ _ y _ hy hs := ⟨y, hy, hs⟩

theorem trans {u : State} (h : s.Resolves t) (h' : t.Resolves u) : s.Resolves u where
  rest := by
    have e := h'.rest
    rw [h.rest] at e
    exact e
  mgmt := by rw [h'.mgmt, h.mgmt]
  mail := h.mail.trans h'.mail
  notices := h.notices.trans h'.notices
  orders n o ho hl := by
    obtain ⟨ls, ho'⟩ := h.orders n o ho hl
    obtain ⟨ls', ho''⟩ := h'.orders n _ ho' hl
    exact ⟨ls', ho''⟩
  canonical := h'.canonical ∘ h.canonical
  creations := h.creations.trans h'.creations
  lives hw r y hr hy hs := by
    obtain ⟨x, hx, hxs⟩ := h'.lives (h.canonical hw) r y (Nat.lt_of_lt_of_le hr h.creations) hy hs
    exact h.lives hw r x hr hx hxs

theorem foldl {α : Type} {f : State → α → State} (h : s₀.Resolves s) (hf : ∀ u x, s₀.Resolves u → s₀.Resolves (f u x))
    (l : List α) : s₀.Resolves (l.foldl f s) := by
  induction l generalizing s with
  | nil => exact h
  | cons x l ih => exact ih (hf _ _ h)

theorem post (h : s₀.Resolves s) {c : Instr} : s₀.Resolves (s.post c) :=
  h.trans { refl s with rest := rfl, mgmt := rfl, mail := List.prefix_append _ _ }

theorem postAll (h : s₀.Resolves s) {cs : List Instr} : s₀.Resolves (s.postAll cs) :=
  h.trans { refl s with rest := rfl, mgmt := rfl, mail := List.prefix_append _ _ }

/-- A notice that is not of the fault group takes no other's place (R187). -/
theorem handNotice (h : s₀.Resolves s) {b : NoticeBody} (hb : noticeFaultGroup b = false) : s₀.Resolves (handNotice b s) := by
  refine h.trans { refl s with rest := rfl, mgmt := rfl, notices := ?_ }
  simp only [Machine.handNotice, State.modMgmt_mgmt, queueNotice, hb, Bool.false_and, Bool.false_eq_true, if_false]
  split
  · exact List.prefix_append _ _
  · exact List.prefix_rfl

/-- Flags of the Order Book. -/
theorem modBook (h : s₀.Resolves s) {f : OrderBook → OrderBook} (ho : (f s.book).orders = s.book.orders)
    (hp : (f s.book).pool = s.book.pool) (hc : s.book.creations ≤ (f s.book).creations) : s₀.Resolves (s.modBook f) := by
  have horder : ∀ n, (s.modBook f).order n = s.order n := fun n => by simp [State.order, ho]
  have hres : ∀ r, (s.modBook f).resOf r = s.resOf r := fun r => by simp [State.resOf, State.reservation, hp]
  refine h.trans ⟨rfl, rfl, List.prefix_rfl, List.prefix_rfl, fun n o ho _ => ⟨o.lines, (horder n).trans ho⟩, fun hw => ?_, hc,
    fun _ r y _ hy hs => ⟨y, (hres r).symm.trans hy, hs⟩⟩
  simpa [hp] using hw

/-- A line is changed: its order keeps everything else. -/
theorem modLine (h : s₀.Resolves s) {f : Line → Line} : s₀.Resolves (s.modLine hd i f) := by
  refine h.trans { refl s with rest := rfl, mgmt := rfl, orders := fun n o ho _ => ?_ }
  by_cases hn : n = hd
  · subst hn
    exact ⟨_, tget_tmod_same ho⟩
  · exact ⟨o.lines, (tget_tmod_other hn _ _).trans ho⟩

/-- A reservation is written over: it keeps its sequence, and a struck one stays struck. -/
theorem setRes (h : s₀.Resolves s) {r x : Reservation} (hx : twf s.book.pool = true → s.reservation p = some x) (hseq : r.seq = x.seq)
    (hs : r.struck = false → x.struck = false) : s₀.Resolves (s.setRes p r) := by
  refine h.trans { refl s with rest := rfl, mgmt := rfl, canonical := twf_tput p r, lives := fun hw q y _ hy hys => ?_ }
  obtain ⟨hget, hq⟩ := resOf_eq_some.1 hy
  by_cases hp : q.place = p
  · subst hp
    obtain rfl : r = y := Option.some.inj ((tget_tput_same _ _ _).symm.trans hget)
    exact ⟨x, resOf_eq_some.2 ⟨hx hw, hseq.symm.trans hq⟩, hs hys⟩
  · exact ⟨y, resOf_eq_some.2 ⟨(tget_tput_other hp _ _).symm.trans hget, hq⟩, hys⟩

/-- A new reservation takes the next creation sequence. -/
theorem newRes (h : s₀.Resolves s) {r : Reservation} (hr : r.seq = s.book.creations) :
    s₀.Resolves ((s.setRes p r).modBook fun b => { b with creations := b.creations + 1 }) := by
  refine h.trans { refl s with rest := rfl, mgmt := rfl, canonical := twf_tput p r, creations := Nat.le_succ _, lives := ?_ }
  intro _ q y hlt hy hys
  obtain ⟨hget, hq⟩ := resOf_eq_some.1 hy
  by_cases hp : q.place = p
  · subst hp
    obtain rfl : r = y := Option.some.inj ((tget_tput_same _ _ _).symm.trans hget)
    omega
  · exact ⟨y, resOf_eq_some.2 ⟨(tget_tput_other hp _ _).symm.trans hget, hq⟩, hys⟩

/-! ## The stock -/

theorem changePlacements (h : s₀.Resolves s) {f : List Placement → List Placement} :
    s₀.Resolves (s.changePlacements k c f) := by
  refine h.trans ?_
  unfold State.changePlacements State.changeCarrier State.putCarrier
  split
  · split
    · exact { refl s with rest := rfl, mgmt := rfl, mail := List.prefix_append _ _ }
    · exact { refl s with rest := rfl, mgmt := rfl, mail := List.prefix_append _ _ }
  · exact refl s

theorem reserveEntry (h : s₀.Resolves s) : s₀.Resolves (reserveEntry k c lot n s).1 := by
  unfold Machine.reserveEntry
  dsimp only
  split
  · exact h
  · exact h.changePlacements

theorem releaseEntry (h : s₀.Resolves s) : s₀.Resolves (releaseEntry k c lot n s).1 := by
  unfold Machine.releaseEntry
  dsimp only
  split <;> split
  · exact h
  · exact h.changePlacements
  · exact h
  · exact h.changePlacements

/-! ## Releases -/

theorem leaveTable_of_leaving (h : s₀.Resolves s) {o : Order} (ho : s.order hd = some o) (hl : o.leaving = true) :
    s₀.Resolves (leaveTable hd s) := by
  have other : ∀ n o', s.order n = some o' → o'.leaving = false → n ≠ hd := by
    rintro n o' ho' hl' rfl
    obtain rfl := Option.some.inj (ho.symm.trans ho')
    simp [hl] at hl'
  unfold Machine.leaveTable
  split
  · exact h.trans { refl s with
      rest := rfl, mgmt := rfl, orders := fun n o' ho' hl' => ⟨o'.lines, (tget_tmod_other (other n o' ho' hl') _ _).trans ho'⟩ }
  · exact h.trans { refl s with
      rest := rfl, mgmt := rfl, orders := fun n o' ho' hl' => ⟨o'.lines, (tget_tdel_other (other n o' ho' hl') _).trans ho'⟩ }

theorem vacate (h : s₀.Resolves s) : s₀.Resolves (vacate p hd s) := by
  have hdel : s₀.Resolves (s.modBook fun b => { b with pool := tdel p b.pool }) := by
    refine h.trans { refl s with rest := rfl, mgmt := rfl, canonical := twf_tdel p, lives := fun hw q y _ hy hys => ?_ }
    obtain ⟨hget, hq⟩ := resOf_eq_some.1 hy
    have hp : q.place ≠ p := by
      rintro rfl
      have hnone := (tget_tdel_same hw).symm.trans hget
      cases hnone
    exact ⟨y, resOf_eq_some.2 ⟨(tget_tdel_other hp _).symm.trans hget, hq⟩, hys⟩
  unfold Machine.vacate
  dsimp only
  split
  · next o ho =>
    split
    · next hl => exact hdel.leaveTable_of_leaving ho hl
    · exact hdel
  · exact hdel

theorem leavePool (h : s₀.Resolves s) : s₀.Resolves (leavePool p hd s) := (h.modBook rfl rfl (Nat.le_refl _)).vacate

end State.Resolves

theorem pool_of_slots {s t : State} (h : t.slots = s.slots) : t.book.pool = s.book.pool := congrArg Slots.pool h

theorem reservation_of_slots {s t : State} (h : t.slots = s.slots) {p : Nat} : t.reservation p = s.reservation p :=
  congrArg (tget p) (pool_of_slots h)

theorem reservation_releaseEntry {s : State} {k c lot n p} : (releaseEntry k c lot n s).1.reservation p = s.reservation p :=
  reservation_of_slots releaseEntry_slots

/-- In a canonical table an entry is what its number holds. -/
theorem tget_of_mem {α : Type} {n : Nat} {v : α} {t : Table α} (hw : twf t = true) (h : (n, v) ∈ t) : tget n t = some v := by
  rw [twf_iff] at hw
  induction t with
  | nil => cases h
  | cons e t ih =>
    obtain ⟨m, w⟩ := e
    obtain ⟨hlt, hw⟩ := List.pairwise_cons.1 hw
    rcases List.mem_cons.1 h with h | h
    · cases h
      simp [tget]
    · have : m ≠ n := Nat.ne_of_lt (hlt _ h)
      simpa [tget, this] using ih hw h

namespace State.Resolves
set_option Elab.async false
variable {s₀ s t : State} {k : Carousel} {c lot p n i hd : Nat}

theorem releaseRes (h : s₀.Resolves s) {why : Cause} : s₀.Resolves (releaseRes why p n s).1 := by
  unfold Machine.releaseRes
  split
  · exact h
  · next r hr =>
    have hline : s₀.Resolves ((Machine.releaseEntry r.car r.carrier r.lot n s).1.modLine r.order r.line fun l =>
        { l with reserved := l.reserved - (Machine.releaseEntry r.car r.carrier r.lot n s).2 }) := h.releaseEntry.modLine
    have hp : (Machine.releaseEntry r.car r.carrier r.lot n s).1.reservation p = some r := reservation_releaseEntry.trans hr
    dsimp only
    split
    · exact hline.postAll.leavePool
    split
    · have hres := hline.setRes (p := p) (x := r)
        (r := { r with count := r.count - (Machine.releaseEntry r.car r.carrier r.lot n s).2, struck := true, expiry := none })
        (fun _ => hp) rfl nofun
      split
      · exact hres
      · exact hres.post
    · have hres := hline.setRes (p := p) (x := r)
        (r := { r with count := r.count - (Machine.releaseEntry r.car r.carrier r.lot n s).2 }) (fun _ => hp) rfl id
      split
      · exact hres
      · exact hres.post

theorem releaseWhole (h : s₀.Resolves s) : s₀.Resolves (releaseWhole p s).1 := by
  unfold Machine.releaseWhole
  split
  · split
    · exact h.releaseRes
    · exact h
  · exact h

theorem releaseAll (h : s₀.Resolves s) {ps : List Nat} : s₀.Resolves (releaseAll ps s) :=
  h.foldl (fun _ _ h => h.releaseWhole) ps

/-! ## Resolutions -/

theorem createRes (h : s₀.Resolves s) {g : Nat} : s₀.Resolves (createRes hd i k c lot g s).1 := (h.newRes rfl).post

theorem enlargeRes (h : s₀.Resolves s) {r : Reservation} {g : Nat} (hr : twf s.book.pool = true → s.reservation p = some r) :
    s₀.Resolves (enlargeRes p r g s) := by
  unfold Machine.enlargeRes
  refine post (setRes h hr ?_ ?_)
  · rfl
  · exact id

theorem askPlacement {a : Asking} (h : s₀.Resolves a.s) {f : Free} : s₀.Resolves (askPlacement hd i lot a f).s := by
  unfold Machine.askPlacement
  split
  · exact h
  dsimp only
  split
  · exact h
  split
  · exact h.reserveEntry
  split
  · next hmine =>
    refine h.reserveEntry.modLine.enlargeRes fun hw => ?_
    unfold State.reservation
    rw [pool_of_slots (s := a.s) (by simp)] at hw ⊢
    exact tget_of_mem hw (mem_of_findLive hmine)
  · exact h.reserveEntry.modLine.createRes

theorem askLots {a : Asking} (h : s₀.Resolves a.s) {avoid : Option Carousel} {skip : Option (Carousel × Nat)}
    {lots : List Nat} : s₀.Resolves (askLots hd i avoid skip lots a).s := by
  have inner : ∀ (lot : Nat) (l : List Free) {a : Asking}, s₀.Resolves a.s →
      s₀.Resolves (l.foldl (Machine.askPlacement hd i lot) a).s := fun lot l => by
    induction l with
    | nil => exact id
    | cons f l ih => exact fun h => ih h.askPlacement
  unfold Machine.askLots
  induction lots generalizing a with
  | nil => exact h
  | cons lot lots ih => exact ih (inner lot _ h)

theorem giveBackOne (h : s₀.Resolves s) {g : Nat} : s₀.Resolves (giveBackOne p g s) := by
  unfold Machine.giveBackOne
  split
  · exact h
  · next r hr =>
    dsimp only
    split
    · exact h.releaseEntry.modLine.postAll.vacate
    · refine post (setRes h.releaseEntry.modLine (fun _ => reservation_releaseEntry.trans hr) ?_ ?_)
      · rfl
      · exact id

theorem giveBack (h : s₀.Resolves s) {added : List (Nat × Nat)} : s₀.Resolves (giveBack added s) :=
  h.foldl (fun _ _ h => h.giveBackOne) added

theorem takeLots (h : s₀.Resolves s) {x : Line} {avoid : Option Carousel} {skip : Option (Carousel × Nat)} {lots : List Nat} :
    s₀.Resolves (takeLots hd i x avoid skip lots s).s := by
  have ha : s₀.Resolves (Machine.askLots hd i avoid skip lots { s := s, need := x.need, added := [], stopped := false }).s :=
    askLots h
  unfold Machine.takeLots
  dsimp only
  split
  · dsimp only
    split
    · exact ha.giveBack.modLine.modBook rfl rfl (Nat.le_refl _)
    · exact ha.modBook rfl rfl (Nat.le_refl _)
  · dsimp only
    split
    · exact ha.giveBack.modLine
    · exact ha

theorem resolveLine (h : s₀.Resolves s) {x : Line} {skip : Option (Carousel × Nat)} :
    s₀.Resolves (resolveLine hd i x skip s).s := by
  unfold Machine.resolveLine
  split
  · exact h.takeLots
  split
  · exact h
  dsimp only
  split
  · exact h.modLine.takeLots
  · exact h.modLine

theorem reportWaiting (h : s₀.Resolves s) {r : WaitReason} : s₀.Resolves (reportWaiting hd i r s) := by
  unfold Machine.reportWaiting
  split
  · split
    · exact h.modLine.handNotice rfl
    · exact h
  · exact h

theorem passLine {a : State × Bool} (h : s₀.Resolves a.1) {skip : Option (Carousel × Nat)} {x : Nat × Nat} :
    s₀.Resolves (passLine skip a x).1 := by
  unfold Machine.passLine
  dsimp only
  split
  · split
    · split
      · exact h.reportWaiting
      · exact h.resolveLine.reportWaiting
    · exact h
  · exact h

theorem resolvePass (h : s₀.Resolves s) {lines : List (Nat × Nat)} {skip : Option (Carousel × Nat)} :
    s₀.Resolves (resolvePass lines skip s) := by
  have pass : ∀ (l : List (Nat × Nat)) {a : State × Bool}, s₀.Resolves a.1 →
      s₀.Resolves (l.foldl (Machine.passLine skip) a).1 := fun l => by
    induction l with
    | nil => exact id
    | cons x l ih => exact fun h => ih h.passLine
  exact pass _ h

theorem finishPool (h : s₀.Resolves s) : s₀.Resolves (finishPool s) := by
  unfold Machine.finishPool
  split
  · exact (h.modBook rfl rfl (Nat.le_refl _)).resolvePass
  · exact h

theorem passAfter (h : s₀.Resolves s) {lines : List (Nat × Nat)} {skip : Option (Carousel × Nat)} :
    s₀.Resolves (passAfter lines skip s) := h.resolvePass.finishPool

theorem releaseWhere (h : s₀.Resolves s) {f : Reservation → Bool} : s₀.Resolves (releaseWhere f s) := h.releaseAll.passAfter

/-- A command that resolves lines, after changes of its own, changes what a resolution changes, with its answer and the time of
its expiry. -/
theorem onlyOrders_of {u : State} (h : u.Resolves t)
    (hu : u = { s.begun with lots := u.lots, stock := u.stock, book := u.book, mgmt := u.mgmt, mail := u.mail })
    (hm : s.mail <+: u.mail) (d : Nat) (a : Answer) : s.onlyOrders { t with now := d, answer := a } := by
  refine ⟨?_, hm.trans h.mail⟩
  have hrest := h.rest
  rw [hu] at hrest
  exact congrArg (fun x : State => { x with now := d, answer := a }) hrest

theorem onlyOrders (h : s.begun.Resolves t) (d : Nat) (a : Answer) : s.onlyOrders { t with now := d, answer := a } :=
  h.onlyOrders_of rfl List.prefix_rfl d a

end State.Resolves

end Sys2Proof.Machine

namespace Sys2Proof.Machine

/-! # Compartments (R42, R46) -/

section
variable {s : State} {h seq comp : Nat} {l : Lane} {o : Order}

theorem receives_some (ho : s.order h = some o) (hq : o.seq = seq) (hst : o.state = .opened) (hl : o.leaving = false) :
    s.receives h seq = some o := by simp [State.receives, ho, hq, hst, hl]

theorem receives_none (hd : ∀ o, s.order h = some o → o.seq ≠ seq ∨ o.state ≠ .opened ∨ o.leaving = true) :
    s.receives h seq = none := by
  rw [State.receives, Option.filter_eq_none_iff]
  intro o ho
  rcases hd o ho with h | h | h <;> simp [h]

/-- The state in which an order that has taken its compartment has its lines resolved. -/
def State.assigned (s : State) (h seq : Nat) (l : Lane) (comp : Nat) : State :=
  (s.modOrder h fun o => { o with state := .picking, comp := some (l, comp) }).post (.receiptAnswer l comp h seq true)

theorem exec_receipt_begun (hs : s.resetLow = false) :
    exec (.compartmentReceipt h seq l comp) s = .next ((takeReceipt h seq l comp s.begun).1.ans
      (if (takeReceipt h seq l comp s.begun).2 then .accepted else .declined)) :=
  carry_begun hs fun s => (takeReceipt h seq l comp s).1.ans (if (takeReceipt h seq l comp s).2 then .accepted else .declined)

theorem exec_receipt (hs : s.resetLow = false) (hr : s.receives h seq = some o) :
    exec (.compartmentReceipt h seq l comp) s = .next ((passAfter (o.lineNumbers.map fun i => (h, i)) none
      (s.begun.assigned h seq l comp)).ans .accepted) := by
  have hr' : s.begun.receives h seq = some o := hr
  rw [exec_receipt_begun hs]
  simp only [takeReceipt, hr', if_true]
  rfl

theorem exec_receipt_declined (hs : s.resetLow = false) (hr : s.receives h seq = none) :
    exec (.compartmentReceipt h seq l comp) s = .next ((s.begun.post (.receiptAnswer l comp h seq false)).ans .declined) := by
  have hr' : s.begun.receives h seq = none := hr
  rw [exec_receipt_begun hs]
  simp only [takeReceipt, hr', Bool.false_eq_true, if_false]

theorem exec_withdrawal (hs : s.resetLow = false) (reason : Withdrawal) :
    exec (.compartmentWithdrawal h reason) s = .next (takeWithdrawal h reason s.begun) := carry_begun hs _

/-- An order without live reservations loses its compartment to a flush and waits again. -/
theorem takeWithdrawal_flush (ho : s.order h = some o) (hst : o.state = .picking)
    (hl : s.livePlaces (fun r => r.order = h) = []) (hf : s.book.freed = false) :
    takeWithdrawal h .flush s = (s.modOrder h fun o => { o with state := .opened, comp := none }).post
      (.waitingReport ⟨h, o.ref⟩ o.seq o.cls o.lanes) := by
  have ho' : (s.modOrder h fun o => { o with state := .opened, comp := none }).order h = _ := tget_tmod_same ho
  simp only [takeWithdrawal, ho, hst, releaseOrder_none hl, postWaiting_order ho']
  exact finishPool_calm hf

theorem takeWithdrawal_lost (ho : s.order h = some o) (hst : o.state = .picking ∨ o.state = .complete)
    (hl : s.livePlaces (fun r => r.order = h) = []) (hf : s.book.freed = false) :
    takeWithdrawal h .lost s = s.modOrder h fun o => { o with state := .suspended, comp := none } := by
  rcases hst with hst | hst
  all_goals
    simp only [takeWithdrawal, ho, hst, releaseOrder_none hl]
    exact finishPool_calm hf

/-- The orders that a withdrawal leaves as they are. -/
theorem takeWithdrawal_else {reason : Withdrawal} (ho : s.order h = some o)
    (hst : (reason = .flush ∧ o.state ≠ .picking) ∨ (reason = .lost ∧ (o.state = .opened ∨ o.state = .suspended))) :
    takeWithdrawal h reason s = s := by
  rcases hst with ⟨rfl, hst⟩ | ⟨rfl, hst | hst⟩
  · cases hs : o.state <;> simp_all [takeWithdrawal]
  · simp [takeWithdrawal, ho, hst]
  · simp [takeWithdrawal, ho, hst]

end

/-- Settles O29: a receipt is followed by a pass over the order's lines, and a withdrawal by none here. -/
theorem compartments : Obligations.Compartments := by
  intro s h seq comp l hs
  refine ⟨fun o ho hq hst hl => ?taken, fun hd => exec_receipt_declined hs (receives_none hd), fun hn reason => ?gone,
    fun o ho hlive hf => ⟨fun hst => ?flushed, fun hst => ?lost, fun hst hk hw => ?cancelled, fun hst => ?kept,
      fun hst => ?idle⟩⟩
  case taken =>
    have hu : s.orderIs h { o with state := .picking, comp := some (l, comp) } (s.begun.assigned h seq l comp) :=
      modOrder_orderIs _ ho
    have hpass := (State.Resolves.refl (s.begun.assigned h seq l comp)).passAfter
      (lines := o.lineNumbers.map fun i => (h, i)) (skip := none)
    obtain ⟨ls, hls⟩ := hpass.orders h _ hu.1 hl
    refine ⟨_, _, exec_receipt hs (receives_some ho hq hst hl), rfl, hls, rfl, rfl, rfl, hpass.mail,
      hpass.onlyOrders_of rfl (List.prefix_append _ _) _ _, fun hf hneed => ?_⟩
    have hover : ∀ x ∈ o.lineNumbers.map (fun i => (h, i)), (s.begun.assigned h seq l comp).passedOver x := by
      intro x hx o' y ho' hy _
      obtain ⟨i, -, rfl⟩ := List.mem_map.1 hx
      obtain rfl := Option.some.inj (hu.1.symm.trans ho')
      exact hneed y (List.mem_of_getElem? hy)
    rw [passAfter_passedOver hover hf]
    exact ⟨hu, rfl⟩
  case gone =>
    rw [exec_withdrawal hs]
    simp only [takeWithdrawal, show s.begun.order h = none from hn]
  case flushed =>
    rw [exec_withdrawal hs, takeWithdrawal_flush (s := s.begun) ho hst hlive hf]
    exact ⟨_, rfl, modOrder_orderIs _ ho, rfl⟩
  case lost =>
    rw [exec_withdrawal hs, takeWithdrawal_lost (s := s.begun) ho hst hlive hf]
    exact ⟨_, rfl, modOrder_orderIs _ ho, rfl⟩
  case cancelled =>
    have hgone : takeWithdrawal h .lost s.begun = leaveTable h s.begun := by
      simp only [takeWithdrawal, show s.begun.order h = some o from ho, hst]
    rw [exec_withdrawal hs, hgone]
    exact ⟨_, rfl, leaveTable_orderGone (s := s.begun) hk hw, leaveTable_book h s.begun⟩
  case kept => rw [exec_withdrawal hs, takeWithdrawal_else (s := s.begun) ho (.inl ⟨rfl, hst⟩)]
  case idle => rw [exec_withdrawal hs, takeWithdrawal_else (s := s.begun) ho (.inr ⟨rfl, hst⟩)]

end Sys2Proof.Machine

namespace Sys2Proof.Machine

/-! # Deliveries, removals and dispatches (R47 to R49) -/

theorem dropFirst_eq_erase (n : Nat) (l : List Nat) : dropFirst (fun w => w = n) l = l.erase n := by
  induction l with
  | nil => rfl
  | cons m l ih => by_cases hm : m = n <;> simp [dropFirst, hm, ih]

section
variable {s : State} {h i week comp : Nat} {o u : Order} {l : Line} {m : Lane} {cart : CartId}

/-- A delivered tyre of a line (R47). -/
def Line.deliver (l : Line) : Line := { l with inTransit := l.inTransit - 1, delivered := l.delivered + 1 }

/-- A tyre of a line that is removed with its week (R48). -/
def Line.remove (l : Line) (week : Nat) : Line := { l with inTransit := l.inTransit - 1, taken := l.taken.erase week }

/-- What a delivered tyre comes to, by the order as it stands then (R47). -/
theorem takeDelivery_charged (ho : s.order h = some o) (hl : o.lines[i]? = some l) (hn : 1 ≤ l.inTransit)
    (hu : (s.modLine h i Line.deliver).order h = some u) :
    takeDelivery h i s =
      if u.allDelivered then match u.state with
        | .picking => (handNotice (.orderComplete h u.ref u.comp)
            ((s.modLine h i Line.deliver).modOrder h fun o => { o with state := .complete })).post (.completionReport h)
        | .opened => if u.leaving then s.modLine h i Line.deliver
            else (leaveTable h (handNotices [.orderComplete h u.ref none, .orderDispatched h u.ref none none .opened]
              (s.modLine h i Line.deliver))).post (.goneReport h)
        | .complete | .cancelled | .suspended => s.modLine h i Line.deliver
      else s.modLine h i Line.deliver := by
  have hline := (line_of_order ho).trans hl
  have hpos : l.inTransit ≠ 0 := by omega
  have hu' : (s.modLine h i fun l => { l with inTransit := l.inTransit - 1, delivered := l.delivered + 1 }).order h = some u := hu
  simp only [takeDelivery, ho, hline, hpos, if_false, hu']
  rfl

theorem takeRemoval_cart (ho : s.order h = some o) (hl : o.lines[i]? = some l) (hn : 1 ≤ l.inTransit) :
    takeRemoval h i week .cart s = s.modLine h i (Line.remove · week) := by
  have hpos : l.inTransit ≠ 0 := by omega
  simp only [takeRemoval, ho, (line_of_order ho).trans hl, hpos, if_false, dropFirst_eq_erase]
  rfl

theorem takeRemoval_timeout (ho : s.order h = some o) (hl : o.lines[i]? = some l) (hn : 1 ≤ l.inTransit) :
    takeRemoval h i week .timeout s = passAfter [(h, i)] none (s.modLine h i (Line.remove · week)) := by
  have hpos : l.inTransit ≠ 0 := by omega
  simp only [takeRemoval, ho, (line_of_order ho).trans hl, hpos, if_false, dropFirst_eq_erase]
  rfl

theorem takeDispatch_finished (ho : s.order h = some o) (hst : o.state = .complete ∨ o.state = .cancelled) :
    takeDispatch h m comp cart s = leaveTable h (handNotice (.orderDispatched h o.ref (some (m, comp)) (some cart) o.state) s) := by
  rcases hst with hst | hst <;> simp only [takeDispatch, ho, hst]

theorem takeDispatch_else (ho : s.order h = some o) (hc : o.state ≠ .complete) (hk : o.state ≠ .cancelled) :
    takeDispatch h m comp cart s = s := by
  cases hst : o.state <;> simp_all [takeDispatch]

/-- Reports about an order that is not in the table. -/
theorem transitReports_unknown (hn : s.order h = none) (reason : RemovalReason) :
    takeDelivery h i s = s ∧ takeRemoval h i week reason s = s ∧ takeDispatch h m comp cart s = s := by
  simp [takeDelivery, takeRemoval, takeDispatch, hn]

end

/-- A dispatched order's leaving, with its notice (R49). -/
theorem claim_dispatch {s : State} {h comp : Nat} {m : Lane} {cart : CartId} {o : Order} (hs : s.resetLow = false)
    (ho : s.order h = some o) (hst : o.state = .complete ∨ o.state = .cancelled) (hroom : s.mgmt.notices.length < 64)
    (hw : twf s.book.orders = true) :
    ∃ t, exec (.dispatchReport h m comp cart) s = .next t ∧
      (s.struckLeft h = false → s.orderGone h t) ∧ (s.struckLeft h = true → s.orderIs h { o with leaving := true } t) ∧
      s.noticed (.orderDispatched h o.ref (some (m, comp)) (some cart) o.state) t ∧
      t = { s.begun with book := t.book, mgmt := t.mgmt } := by
  refine ⟨_, carry_begun hs _, ?_⟩
  have hroom' : s.begun.mgmt.notices.length < 64 := hroom
  rw [takeDispatch_finished (s := s.begun) ho hst, handNotice_room _ hroom', leaveTable_book]
  exact ⟨fun hk => (leaveTable_orderGone hk hw).of_book (leaveTable_book_congr rfl),
    fun hk => (leaveTable_leaving hk ho).of_book (leaveTable_book_congr rfl), rfl, rfl⟩

/-- Settles O30: each report by the order as the report leaves it. -/
theorem transitReports : Obligations.TransitReports := by
  intro s h i lot week comp m cart hs
  have hdeliver : exec (.deliveryReport h i lot) s = .next (takeDelivery h i s.begun) := carry_begun hs _
  have hremove : ∀ reason, exec (.transitRemoval h i week reason) s = .next (takeRemoval h i week reason s.begun) :=
    fun _ => carry_begun hs _
  have hdispatch : exec (.dispatchReport h m comp cart) s = .next (takeDispatch h m comp cart s.begun) := carry_begun hs _
  refine ⟨fun hn => ?unknown, fun o ho => ⟨fun l hl hin => ⟨?_, ?_⟩, fun hst hroom hw => claim_dispatch hs ho hst hroom hw,
    fun hc hk => ?undispatched⟩⟩
  case unknown =>
    have hn' : s.begun.order h = none := hn
    rw [hdeliver, hdispatch]
    refine ⟨?_, fun reason => ?_, ?_⟩
    · rw [(transitReports_unknown (cart := cart) (m := m) (week := week) (comp := comp) hn' .cart).1]
    · rw [hremove, (transitReports_unknown (cart := cart) (m := m) (comp := comp) hn' reason).2.1]
    · rw [(transitReports_unknown (i := i) (week := week) hn' .cart).2.2]
  case undispatched => rw [hdispatch, takeDispatch_else (s := s.begun) ho hc hk]
  · intro l' u hl' hu'
    have hu : s.orderIs h u (s.begun.modLine h i Line.deliver) := by
      rw [hu', hl']
      exact modLine_orderIs (s := s.begun) Line.deliver ho hl
    have hstate : u.state = o.state := by rw [hu']
    have href : u.ref = o.ref := by rw [hu']
    have hcomp : u.comp = o.comp := by rw [hu']
    have hleaving : u.leaving = o.leaving := by rw [hu']
    have heq := takeDelivery_charged (s := s.begun) ho hl hin hu.1
    rw [hstate, href, hcomp, hleaving] at heq
    rw [hdeliver, heq]
    refine ⟨fun hall => ?remain, fun hall hp hop => ?closed, fun hall hst hroom => ?complete, fun hall hst hlv hk hw => ?gone⟩
    case remain => exact ⟨_, congrArg _ (if_neg (by simp [hall])), hu, rfl⟩
    all_goals rw [if_pos hall]
    case closed =>
      refine ⟨_, rfl, ?_⟩
      cases hst : o.state <;> simp only [hst, ne_eq, not_true_eq_false] at hp hop
      all_goals exact ⟨hu, rfl⟩
    case complete =>
      have hroom' : ((s.begun.modLine h i Line.deliver).modOrder h fun o => { o with state := .complete }).mgmt.notices.length <
        64 := hroom
      simp only [hst]
      rw [handNotice_room _ hroom']
      exact ⟨_, rfl, (hu.trans (modOrder_orderIs _ hu.1) :), rfl, rfl⟩
    case gone =>
      simp only [hst, hlv, Bool.false_eq_true, if_false]
      refine ⟨_, rfl, ?_⟩
      rw [leaveTable_book]
      have hgone := hu.gone (leaveTable_orderGone (s := s.begun.modLine h i Line.deliver) hk ((twf_tmod _ _ _).trans hw))
      exact ⟨hgone.of_book (leaveTable_book_congr rfl), rfl, rfl⟩
  · rintro l' u rfl rfl
    have hu : s.orderIs h { o with lines := o.lines.set i (l.remove week).settled }
      (s.begun.modLine h i (Line.remove · week)) := modLine_orderIs (s := s.begun) _ ho hl
    rw [hremove, hremove, takeRemoval_cart (s := s.begun) ho hl hin, takeRemoval_timeout (s := s.begun) ho hl hin]
    have hpass := (State.Resolves.refl (s.begun.modLine h i (Line.remove · week))).passAfter (lines := [(h, i)]) (skip := none)
    refine ⟨⟨_, rfl, hu, rfl⟩, fun hst hf => ⟨_, rfl, ?_⟩, _, rfl, hpass.onlyOrders_of rfl List.prefix_rfl _ _⟩
    have hover : ∀ x ∈ [(h, i)], (s.begun.modLine h i (Line.remove · week)).passedOver x := fun x hx => by
      rw [List.mem_singleton.1 hx]
      exact passedOver_of_state (x := (h, i)) hu.1 hst
    rw [passAfter_passedOver hover hf]
    exact ⟨hu, rfl⟩

end Sys2Proof.Machine

namespace Sys2Proof.Machine

/-! # Reservations: reports of the sequencers and commits (R51, R53) -/

section
variable {s t : State} {p h : Nat} {r : ResId} {x : Reservation} {o : Order} {l : Line}

theorem setRes_placeHolds (s : State) (p : Nat) (x : Reservation) : s.placeHolds p (some x) (s.setRes p x) :=
  ⟨tget_tput_same _ _ _, fun _ hn => tget_tput_other hn _ _⟩

theorem State.placeHolds.of_pool {u : State} {e : Option Reservation} (hu : s.placeHolds p e u) (ht : t.book.pool = u.book.pool) :
    s.placeHolds p e t := by
  unfold State.placeHolds State.reservation at *
  rwa [ht]

/-- The pool without a place (R52). -/
def State.dropRes (s : State) (p : Nat) : State := s.modBook fun b => { b with pool := tdel p b.pool }

theorem dropRes_placeHolds (hw : twf s.book.pool = true) (p : Nat) : s.placeHolds p none (s.dropRes p) :=
  ⟨tget_tdel_same hw, fun _ hn => tget_tdel_other hn _⟩

/-- A reservation's place becomes free; its order does not wait for it. -/
theorem vacate_stays (ho : s.order h = some o) (hl : o.leaving = false) : vacate p h s = s.dropRes p := by
  have ho' : (s.dropRes p).order h = some o := ho
  simp only [State.dropRes] at ho' ⊢
  simp [vacate, ho', hl]

/-- A reservation leaves a pool that has not been full: no pass is due (R56). -/
theorem leavePool_calm (ho : s.order h = some o) (hl : o.leaving = false) (hpf : s.book.poolFull = false)
    (hf : s.book.freed = false) : leavePool p h s = s.dropRes p := by
  have hmark : (s.modBook fun b => { b with poolFull := false, freed := b.freed || b.poolFull }) = s := by
    have hbook : { s.book with poolFull := false, freed := s.book.freed || s.book.poolFull } = s.book := by
      cases hb : s.book
      simp_all
    exact congrArg (fun b => { s with book := b }) hbook
  rw [leavePool, hmark, vacate_stays ho hl]

theorem changeRes_none {f : Reservation → Reservation} (hr : s.resOf r = none) : changeRes r f s = s := by simp [changeRes, hr]

theorem changeRes_some {f : Reservation → Reservation} (hr : s.resOf r = some x) : changeRes r f s = s.setRes r.place (f x) := by
  simp [changeRes, hr]

/-! ## Commits (R53) -/

/-- A line with one more tyre in transit, of a week. -/
def Line.commit (l : Line) (week : Nat) : Line :=
  { l with reserved := l.reserved - 1, inTransit := l.inTransit + 1, taken := l.taken ++ [week] }

/-- What a commit tells the sequencer of the reservation `x` in place `p`, when no pick-taken report reaches its pick. -/
def commitTold (p : Nat) (x : Reservation) (told : Bool) : List Instr :=
  if told then
    [if x.count - 1 = 0 then .pickDrop x.car (resId p x) else .pickNewCount x.car (resId p x) ⟨x.count - 1, .other⟩]
  else []

/-- A commit charged to the reservation `x` in place `p`: one tyre fewer, and none left when it was the last. -/
def State.charged (s : State) (p : Nat) (x : Reservation) (week : Nat) (told : Bool) : State :=
  (if x.count - 1 = 0 then (s.modLine x.order x.line (Line.commit · week)).dropRes p
    else (s.modLine x.order x.line (Line.commit · week)).setRes p { x with count := x.count - 1 }).postAll (commitTold p x told)

theorem chargeCommit_line {week : Nat} {told : Bool} {u : State} (hu : s.modLine x.order x.line (Line.commit · week) = u) :
    chargeCommit p x week told s =
      if x.count - 1 = 0 then
        finishPool (leavePool p x.order (if told && !x.substitute then u.post (.pickDrop x.car (resId p x)) else u))
      else if told && !x.substitute then
        (u.setRes p { x with count := x.count - 1 }).post (.pickNewCount x.car (resId p x) ⟨x.count - 1, .other⟩)
      else u.setRes p { x with count := x.count - 1 } := by
  subst hu
  rfl

/-- A pool that has not been full sees no pass when a reservation leaves it. -/
theorem finish_leavePool_calm (ho : s.order h = some o) (hl : o.leaving = false) (hpf : s.book.poolFull = false)
    (hf : s.book.freed = false) : finishPool (leavePool p h s) = s.dropRes p := by
  rw [leavePool_calm ho hl hpf hf]
  exact finishPool_calm hf

theorem chargeCommit_charged {week : Nat} {told : Bool} (hsub : x.substitute = false)
    (ho : s.order x.order = some o) (hl : o.leaving = false) (hpf : s.book.poolFull = false) (hf : s.book.freed = false) :
    chargeCommit p x week told s = s.charged p x week told := by
  obtain ⟨ls, hls⟩ := (State.Resolves.refl s).modLine (f := (Line.commit · week)) (hd := x.order) (i := x.line) |>.orders _ _ ho hl
  rw [chargeCommit_line rfl, State.charged]
  simp only [hsub, Bool.not_false, Bool.and_true, commitTold]
  split
  · cases told
    · simpa [State.postAll] using finish_leavePool_calm hls hl hpf hf
    · exact finish_leavePool_calm (s := State.post _ _) hls hl hpf hf
  · cases told
    · simp [State.postAll]
    · rfl

theorem charged_pool (hw : twf s.book.pool = true) (p : Nat) (x : Reservation) (week : Nat) (told : Bool) :
    s.placeHolds p (if x.count - 1 = 0 then none else some { x with count := x.count - 1 }) (s.charged p x week told) := by
  unfold State.charged
  split
  · exact dropRes_placeHolds (s := s.modLine x.order x.line (Line.commit · week)) hw p
  · exact setRes_placeHolds (s.modLine x.order x.line (Line.commit · week)) p _

theorem charged_order {week : Nat} {told : Bool} : (s.charged p x week told).order =
    (s.modLine x.order x.line (Line.commit · week)).order := by
  unfold State.charged
  split <;> rfl

theorem charged_rest {week : Nat} {told : Bool} : s.charged p x week told = { s with
    book := { s.book with orders := (s.charged p x week told).book.orders, pool := (s.charged p x week told).book.pool }
    mail := (s.charged p x week told).mail } := by
  unfold State.charged
  split <;> rfl

theorem charged_mail {week : Nat} {told : Bool} : (s.charged p x week told).mail = s.mail ++ commitTold p x told := by
  unfold State.charged
  split <;> rfl

theorem exec_commitReport (r : ResId) (k : Carousel) (c lot week : Nat) (hs : s.resetLow = false) :
    exec (.commitReport r k c lot week) s = .next ((takeCommit r k c lot week s.begun).1.ans
      (match (takeCommit r k c lot week s.begun).2 with | some (h, i, c) => .charged h i c | none => .none)) :=
  carry_begun hs fun s =>
    let a := takeCommit r k c lot week s
    a.1.ans (match a.2 with | some (h, i, c) => .charged h i c | none => .none)

/-- Whom a commit is charged to, and whether its sequencer is told (R53). -/
theorem chargeTo_eq_some {k : Carousel} {c lot : Nat}
    (hx : (s.resOf r = some x ∧ p = r.place) ∨ (s.resOf r = none ∧ newestOf k c lot s.book.pool = some (p, x))) :
    s.chargeTo r k c lot = some (p, x, (s.resOf r).isNone) := by
  rcases hx with ⟨hr, rfl⟩ | ⟨hr, hn⟩
  · simp [State.chargeTo, hr]
  · simp [State.chargeTo, hr, hn]

end

/-- Settles O31: a report changes the reservation that it names, and a commit the one that it is charged to. -/
theorem reservationReports : Obligations.ReservationReports := by
  intro s r k c lot week hs
  have hjoined : exec (.reservationJoined r) s = .next (resJoined r s.begun) := carry_begun hs _
  have hpresented : exec (.reservationPresented r) s = .next (resPresented r s.begun) := carry_begun hs _
  have hwithdrawn : exec (.reservationWithdrawn r) s = .next (resWithdrawn r s.begun) := carry_begun hs _
  refine ⟨fun hr => ⟨?_, ?_, ?_, fun hn => ?uncharged⟩, fun x hr => ?named, ?charged⟩
  · rw [hjoined, resJoined, changeRes_none (s := s.begun) hr]
  · rw [hpresented, resPresented, changeRes_none (s := s.begun) hr]
  · rw [hwithdrawn, resWithdrawn, changeRes_none (s := s.begun) hr]
  case uncharged =>
    have hc : s.begun.chargeTo r k c lot = none := by
      simp [State.chargeTo, show s.begun.resOf r = none from hr, hn]
    rw [exec_commitReport r k c lot week hs, takeCommit, hc]
    rfl
  case named =>
    have becomes : ∀ c' f y, exec c' s = .next (changeRes r f s.begun) → f x = y → ∃ t, exec c' s = .next t ∧
        s.placeHolds r.place (some y) t ∧ t = { s.begun with book := { s.book with pool := t.book.pool } } := by
      rintro c' f _ hc rfl
      rw [changeRes_some (s := s.begun) hr] at hc
      exact ⟨_, hc, setRes_placeHolds s.begun _ _, rfl⟩
    refine ⟨fun hst => becomes _ _ _ hjoined ?_, fun hst => becomes _ _ _ hjoined ?_, becomes _ _ _ hpresented rfl,
      fun hst hk => becomes _ _ _ hwithdrawn ?_, fun hst hk => becomes _ _ _ hwithdrawn ?_,
      fun hst => becomes _ _ _ hwithdrawn ?_⟩
    · simp only [hst]
    · cases h : x.state <;> simp_all
    · simp only [hst, hk]
      rfl
    · simp only [hst, hk]
      rfl
    · cases h : x.state <;> simp_all
  case charged =>
    intro p x o l hx hp hw hsub ho hl hlv hpf hf
    have hc := chargeTo_eq_some (s := s.begun) (k := k) (c := c) (lot := lot) hx
    have hcomp : s.begun.compOf x.order = o.comp := by
      simp [State.compOf, show s.begun.order x.order = some o from ho]
    have hpool := charged_pool (s := s.begun) hw p x week (s.begun.resOf r).isNone
    have hrest := charged_rest (s := s.begun) (p := p) (x := x) (week := week) (told := (s.begun.resOf r).isNone)
    have hmail := charged_mail (s := s.begun) (p := p) (x := x) (week := week) (told := (s.begun.resOf r).isNone)
    have hexec := exec_commitReport r k c lot week hs
    simp only [takeCommit, hc, hcomp, chargeCommit_charged (s := s.begun) hsub ho hlv hpf hf] at hexec
    refine ⟨_, _, hexec, rfl, rfl, ?_, fun hone => ?_, fun htwo => ?_, fun hr => ?_, fun hr hone => ?_, fun hr htwo => ?_, ?_⟩
    · have := (modLine_orderIs (s := s.begun) (Line.commit · week) ho hl).1
      rw [← charged_order (p := p) (told := (s.begun.resOf r).isNone)] at this
      exact this
    · rw [if_pos (by omega)] at hpool
      exact hpool
    · rw [if_neg (by omega)] at hpool
      exact hpool
    · simpa [commitTold, show s.begun.resOf r = some x from hr] using hmail
    · simpa [commitTold, resId, show s.begun.resOf r = none from hr, hone] using hmail
    · have : x.count - 1 ≠ 0 := by omega
      simpa [commitTold, resId, show s.begun.resOf r = none from hr, this] using hmail
    · exact congrArg (fun u : State => u.ans (.charged x.order x.line o.comp)) hrest

end Sys2Proof.Machine

namespace Sys2Proof.Machine

/-! # The operator's requests about orders (R41, R43 to R45) -/

section
variable {s : State} {q : Req} {h cls : Nat} {ref : OrderRef} {lanes : Option (List Nat)} {lines : List LineReq} {o : Order}

theorem exec_orderAdd (hs : s.asks q) (ref : OrderRef) (cls : Nat) (lanes : Option (List Nat)) (lines : List LineReq) :
    exec (.orderAdd q ref cls lanes lines) s =
      .next (addReply q 80 (addOrder ref cls lanes lines (s.asked q 80)).2 (addOrder ref cls lanes lines (s.asked q 80)).1) := by
  show carry s (request q 80 (addOrder ref cls lanes lines)) = _
  rw [carry_begun hs.1.1, request_asked hs]

theorem exec_orderCancel (hs : s.asks q) (h : Nat) :
    exec (.orderCancel q h) s = .next ((orderCancelRequest h (s.asked q 81)).1.replied q 81
      (orderCancelRequest h (s.asked q 81)).2 []) := carry_plain hs 81 (orderCancelRequest h)

theorem exec_orderClass (hs : s.asks q) (h cls : Nat) :
    exec (.orderClass q h cls) s = .next ((orderClassRequest h cls (s.asked q 82)).1.replied q 82
      (orderClassRequest h cls (s.asked q 82)).2 []) := carry_plain hs 82 (orderClassRequest h cls)

theorem exec_orderResume (hs : s.asks q) (h : Nat) :
    exec (.orderResume q h) s = .next ((orderResumeRequest h (s.asked q 83)).1.replied q 83
      (orderResumeRequest h (s.asked q 83)).2 []) := carry_plain hs 83 (orderResumeRequest h)

/-! ## ORDER-ADD -/

/-- The fields of an ORDER-ADD are in their ranges (R41). -/
def orderFieldsOk (cls : Nat) (lanes : Option (List Nat)) (lines : List LineReq) : Prop :=
  (cls ≤ 3 ∧ lines ≠ [] ∧ lines.length ≤ 8) ∧ (∀ l ∈ lines, 1 ≤ l.quantity ∧ l.quantity ≤ 16 ∧ ∀ w, l.window = some w → w ≤ 8) ∧
    ∀ ls, lanes = some ls → ls ≠ [] ∧ ∀ l ∈ ls, l ≤ 3

/-- The order that an ORDER-ADD makes (R41). -/
def newOrder (ref : OrderRef) (cls : Class) (lanes : Option (List Nat)) (lines : List LineReq) (seq : Nat) : Order :=
  { ref := ref, cls := cls, lanes := lanes, state := .opened, comp := none, seq := seq, lines := lines.map newLine,
    leaving := false }

theorem addOrder_range (hr : 3 < cls ∨ lines = [] ∨ 8 < lines.length) :
    addOrder ref cls lanes lines s = (s, { result := .range, content := [] }) := by
  have hbad : ¬ (cls ≤ 3 ∧ lines ≠ [] ∧ lines.length ≤ 8) := by
    rintro ⟨hc, hne, hlen⟩
    rcases hr with h | h | h
    · omega
    · exact hne h
    · omega
  simp only [addOrder, orderAddRequest, hbad, not_false_eq_true, true_or, if_true]

theorem addOrder_ok (hok : orderFieldsOk cls lanes lines) : addOrder ref cls lanes lines s =
    if s.mgmt.cell = .loading then (s, { result := .state, content := [] })
    else if 256 ≤ tfree 0 s.book.orders then (s, { result := .full, content := [] })
    else ((s.modBook fun b => { b with
          orders := tput (tfree 0 s.book.orders) (newOrder ref cls lanes lines s.book.arrivals) b.orders
          arrivals := b.arrivals + 1 }).post (.waitingReport ⟨tfree 0 s.book.orders, ref⟩ s.book.arrivals cls lanes),
      { result := .done, content := b1 (tfree 0 s.book.orders) }) := by
  obtain ⟨hform, hline, hlane⟩ := hok
  have hlines : lines.any (fun l => l.quantity == 0 || decide (16 < l.quantity) || l.window.any (fun w => decide (8 < w))) =
      false := by
    simp only [List.any_eq_false, Bool.or_eq_true, beq_iff_eq, decide_eq_true_eq, Option.any_eq_true, not_or, not_exists, not_and]
    intro l hl
    obtain ⟨hone, hmax, hwin⟩ := hline l hl
    exact ⟨⟨by omega, by omega⟩, fun w hw => Nat.not_lt.2 (hwin w hw)⟩
  have hlanes : lanes.any (fun ls => ls.isEmpty || ls.any fun l => decide (3 < l)) = false := by
    cases lanes with
    | none => rfl
    | some ls =>
      obtain ⟨hne, hle⟩ := hlane ls rfl
      simpa [hne] using hle
  by_cases hcell : s.mgmt.cell = .loading
  · simp [addOrder, orderAddRequest, hform, hlines, hlanes, hcell]
  by_cases hfull : 256 ≤ tfree 0 s.book.orders
  · simp [addOrder, orderAddRequest, hform, hlines, hlanes, hcell, hfull, Config.handles]
  · simp only [addOrder, orderAddRequest, hform, hlines, hlanes, hcell, hfull, Config.handles, ne_eq, not_true_eq_false,
      not_false_eq_true, and_self, Bool.false_eq_true, or_self, if_false]
    refine Prod.ext ?_ rfl
    have ho : ((s.setOrder (tfree 0 s.book.orders) (newOrder ref cls lanes lines s.book.arrivals)).modBook
        fun b => { b with arrivals := b.arrivals + 1 }).order (tfree 0 s.book.orders) = some _ := tget_tput_same _ _ _
    exact postWaiting_order ho

theorem post_postAll (s : State) (c : Instr) (cs : List Instr) : (s.post c).postAll cs = s.postAll (c :: cs) := by
  simp [State.postAll, State.post]

/-! ## The requests that name an order -/

section
variable (hr : h < 256) (hc : s.mgmt.cell ≠ .loading)
include hr hc

theorem orderCancelRequest_known : orderCancelRequest h s =
    match s.order h with
    | none => (s, .unknown)
    | some o =>
      match o.state with
      | .complete | .cancelled => (s, .state)
      | .opened => ((leaveTable h s).post (.cancelReport h false), .done)
      | .suspended => (leaveTable h s, .done)
      | .picking =>
        (finishPool (((releaseOrder h s).modOrder h fun o => { o with state := .cancelled }).post (.cancelReport h true)), .done) := by
  exact (if_neg (not_not.2 hr)).trans (if_neg hc)

theorem orderClassRequest_finished (hcls : cls ≤ 3) (ho : s.order h = some o) (hst : o.state = .complete ∨ o.state = .cancelled) :
    orderClassRequest h cls s = (s, .state) := by
  rcases hst with hst | hst
  all_goals simp only [orderClassRequest, Config.handles, hr, hcls, hc, ho, hst, and_self, not_true_eq_false, if_false]

theorem orderClassRequest_open (hcls : cls ≤ 3) (ho : s.order h = some o)
    (hst : o.state = .opened ∨ o.state = .picking ∨ o.state = .suspended) :
    orderClassRequest h cls s = ((s.modOrder h fun o => { o with cls := cls }).postAll
      ((if o.state = .opened then [.orderClassReport h cls] else []) ++ (s.orderCars h).map fun k => .taskClassReport k h cls),
      .done) := by
  have hcars : ∀ c, State.orderCars ((s.modOrder h fun o => { o with cls := cls }).post c) h = s.orderCars h := fun _ => rfl
  have hcars' : State.orderCars (s.modOrder h fun o => { o with cls := cls }) h = s.orderCars h := rfl
  rcases hst with hst | hst | hst
  · simp only [orderClassRequest, Config.handles, hr, hcls, hc, ho, hst, and_self, not_true_eq_false, if_true, if_false, hcars,
      post_postAll, List.singleton_append]
  all_goals
    simp only [orderClassRequest, Config.handles, hr, hcls, hc, ho, hst, and_self, not_true_eq_false, if_false, hcars',
      reduceCtorEq, List.nil_append]

theorem orderResumeRequest_known : orderResumeRequest h s =
    match s.order h with
    | none => (s, .unknown)
    | some o =>
      if o.state = .suspended then
        (postWaiting h (s.modOrder h fun o => { o with state := .opened, lines := o.lines.map resumedLine }), .done)
      else (s, .state) := by
  exact (if_neg (not_not.2 hr)).trans (if_neg hc)

end

end

/-- Settles O49, request by request. -/
theorem orderRequests : Obligations.OrderRequests := by
  intro s q hs
  refine ⟨fun ref cls lanes lines => ⟨fun hr => ?range, ?_⟩, fun h hh hc => ⟨fun hn => ⟨?_, ?_⟩,
    fun o ho => ⟨fun hst => ⟨?_, fun cls hcls => ?_⟩, fun hst hk hw => ?withdrawn, fun hst hlive hf => ?cancelled,
      fun cls hcls hst => ?classed, fun hst => ?_, fun hst => ?resumed⟩⟩⟩
  case range =>
    rw [exec_orderAdd hs, addOrder_range hr]
    exact congrArg _ (addReply_plain ..)
  · rintro cl h rfl hcls hne hlen hline hlane rfl
    have hadd := exec_orderAdd hs ref cls lanes lines
    rw [addOrder_ok ⟨⟨hcls, hne, hlen⟩, hline, hlane⟩] at hadd
    refine ⟨fun hc => ?_, fun hc hfull => ?_, fun hc hroom => ?_⟩
    · rw [hadd, if_pos (by exact hc)]
      exact congrArg _ (addReply_plain ..)
    · rw [hadd, if_neg (by exact hc), if_pos (by exact hfull)]
      exact congrArg _ (addReply_plain ..)
    · rw [if_neg (by exact hc), if_neg (by exact Nat.not_le.2 hroom)] at hadd
      exact ⟨_, hadd, tget_tput_same _ _ _, fun n hn => tget_tput_other hn _ _, rfl, rfl, rfl⟩
  all_goals
    have hh' : h < 256 := by omega
    have hc' : ∀ n, (s.asked q n).mgmt.cell ≠ .loading := fun _ => hc
  · rw [exec_orderCancel hs, orderCancelRequest_known hh' (hc' _), State.asked_order, hn]
  · rw [exec_orderResume hs, orderResumeRequest_known hh' (hc' _), State.asked_order, hn]
  · rw [exec_orderCancel hs, orderCancelRequest_known hh' (hc' _), State.asked_order, ho]
    rcases hst with hst | hst <;> simp only [hst]
  · rw [exec_orderClass hs, orderClassRequest_finished hh' (hc' _) hcls ho hst]
  case withdrawn =>
    rw [exec_orderCancel hs, orderCancelRequest_known hh' (hc' _), State.asked_order, ho]
    have hgone : (s.asked q 81).orderGone h (leaveTable h (s.asked q 81)) := leaveTable_orderGone hk hw
    rcases hst with hst | hst
    all_goals
      simp only [hst, reduceCtorEq, if_true, if_false, List.append_nil]
      rw [leaveTable_book]
      exact ⟨_, rfl, hgone, rfl⟩
  case cancelled =>
    rw [exec_orderCancel hs, orderCancelRequest_known hh' (hc' _), State.asked_order, ho]
    simp only [hst]
    rw [releaseOrder_none (s := s.asked q 81) hlive, finishPool_calm (by exact hf)]
    exact ⟨_, rfl, modOrder_orderIs (s := s) _ ho, rfl⟩
  case classed =>
    rw [exec_orderClass hs, orderClassRequest_open hh' (hc' _) hcls ho hst]
    refine ⟨_, rfl, modOrder_orderIs (s := s) (fun o => { o with cls := cls }) ho, ?_⟩
    rw [List.append_assoc]
    rfl
  · rw [exec_orderResume hs, orderResumeRequest_known hh' (hc' _), State.asked_order, ho]
    simp only [hst, if_false]
  case resumed =>
    rw [exec_orderResume hs, orderResumeRequest_known hh' (hc' _), State.asked_order, ho]
    simp only [hst, if_true]
    have ho' : ((s.asked q 83).modOrder h fun o => { o with state := .opened, lines := o.lines.map resumedLine }).order h = _ :=
      tget_tmod_same ho
    rw [postWaiting_order ho']
    exact ⟨_, rfl, modOrder_orderIs (s := s) (fun o => { o with state := .opened, lines := o.lines.map resumedLine }) ho, rfl⟩

end Sys2Proof.Machine

namespace Sys2Proof.Machine

/-! # Picks of a task (R73, R115) -/

section
variable {s t : State} {k : Carousel} {r : ResId} {x : Task} {ps qs : List Pick} {i : Station} {v : TaskView}

theorem exec_seqStep (hs : s.resetLow = false) (f : State → State) : seqStep s f = .next (attendEnded s.begun (f s.begun)) :=
  carry_begun hs _

/-- A step after which every station that held a grant still holds one has nothing to attend to. -/
theorem attendEnded_granted (h : ∀ i : Station, (t.stn i).grant = (s.stn i).grant ∨ (t.stn i).grant ≠ .absent) :
    attendEnded s t = t := by
  have key : ∀ l : List Station, l.foldl (fun u st =>
      if (s.stn st).grant ≠ .absent ∧ (u.stn st).grant = .absent then attend st u else u) t = t := by
    intro l
    induction l with
    | nil => rfl
    | cons i rest ih =>
      have : ¬ ((s.stn i).grant ≠ .absent ∧ (t.stn i).grant = .absent) := by
        rcases h i with h | h
        · rw [h]
          tauto
        · tauto
      simpa only [List.foldl_cons, this, if_false] using ih
  exact key stationList

/-- A queue in which a task stands as changed. -/
def Seq.putTask (q : Seq) (x : Task) : Seq := { q with queue := q.queue.map fun u => if u.num = x.num then x else u }

theorem taskNum_putTask {q : Seq} {u : Task} {n : Nat} (hn : x.num = n) (hu : q.taskNum n = some u) :
    (q.putTask x).taskNum n = some x := by
  subst hn
  have hsame : ((fun t : Task => t.num == x.num) ∘ fun u => if u.num = x.num then x else u) = fun t => t.num == x.num := by
    funext u
    by_cases h : u.num = x.num <;> simp [h]
  unfold Seq.taskNum at hu ⊢
  have hnum : u.num = x.num := by simpa using List.find?_some hu
  rw [Seq.putTask, List.find?_map, hsame, hu]
  simp [hnum]

theorem Seq.granted_eq_some {q : Seq} : q.granted = some x ↔ q.state = .presenting ∧ q.currentTask = some x := by
  unfold Seq.granted
  split <;> simp_all

theorem Seq.currentTask_eq_some {q : Seq} : q.currentTask = some x ↔ q.current = some x.num ∧ q.taskNum x.num = some x := by
  unfold Seq.currentTask
  constructor
  · intro h
    obtain ⟨n, hn, hx⟩ := Option.bind_eq_some_iff.1 h
    have : x.num = n := by simpa using List.find?_some hx
    subst this
    exact ⟨hn, hx⟩
  · rintro ⟨hn, hx⟩
    rw [hn]
    exact hx

/-- The granted task, changed, is still the granted one. -/
theorem granted_putTask {q : Seq} {u : Task} (hg : q.granted = some u) (hn : x.num = u.num) : (q.putTask x).granted = some x := by
  obtain ⟨hst, hcur⟩ := Seq.granted_eq_some.1 hg
  obtain ⟨hc, hu⟩ := Seq.currentTask_eq_some.1 hcur
  refine Seq.granted_eq_some.2 ⟨hst, Seq.currentTask_eq_some.2 ⟨hc.trans (congrArg some hn.symm), ?_⟩⟩
  rw [hn]
  exact taskNum_putTask hn hu

theorem isGranted_granted {q : Seq} (hg : q.granted = some x) : q.isGranted x = true := by simp [Seq.isGranted, hg]

theorem Task.picks_of_body (hb : x.body = .pick ps) : x.picks = ps := by simp [Task.picks, hb]

theorem Task.withPicks_of_body (hb : x.body = .pick ps) : x.withPicks qs = { x with body := .pick qs } := by
  simp [Task.withPicks, hb]

/-- Picks that change, where none joins or leaves: the task keeps its class and its place (R71). -/
theorem setPicks_kept (hb : x.body = .pick ps) (hres : qs.map (·.res) = ps.map (·.res)) :
    setPicks k x qs s = s.modSeq k (·.putTask { x with body := .pick qs }) := by
  simp only [setPicks, Task.withPicks_of_body hb, Task.picks_of_body hb, hres, if_true, reclassTask]
  rfl

theorem modPick_res {f : Pick → Pick} (hf : ∀ p, (f p).res = p.res) : (modPick r f ps).map (·.res) = ps.map (·.res) := by
  unfold modPick
  rw [List.map_map]
  refine List.map_congr_left fun p _ => ?_
  by_cases h : p.res = r <;> simp [h, hf]

/-- Another open pick keeps a granted task, whatever happens to the pick of `r`. -/
theorem modPick_open {f : Pick → Pick} (h : ∃ p ∈ ps, p.res ≠ r ∧ p.opened = true) :
    (modPick r f ps).any (·.opened) = true := by
  obtain ⟨p, hp, hr, ho⟩ := h
  exact List.any_eq_true.2 ⟨p, List.mem_map.2 ⟨p, hp, if_neg hr⟩, ho⟩

theorem checkPicks_open (hg : (s.seq k).granted = some x) (hb : x.body = .pick ps) (ho : ps.any (·.opened) = true) :
    checkPicks k s = s := by
  have hne : ps ≠ [] := by
    rintro rfl
    cases ho
  simp only [checkPicks, hg, hb, hne, ho, if_false, if_true]

/-- The picks of the granted task change and another open pick keeps it: its station is shown the change. -/
theorem changePicks_granted {f : Pick → Pick} {c : Option ViewChange} (hg : (s.seq k).granted = some x) (hb : x.body = .pick ps)
    (hf : ∀ p, (f p).res = p.res) (ho : ∃ p ∈ ps, p.res ≠ r ∧ p.opened = true)
    (hc : ∀ c' u, c = some c' → ((tellView k c' u).seq k) = u.seq k) :
    changePicks k x (modPick r f x.picks) c s =
      (match c with | some c => tellView k c | none => id) (s.modSeq k (·.putTask { x with body := .pick (modPick r f ps) })) := by
  have hopen := modPick_open (f := f) ho
  have hg' : ∀ u : State, u.seq k = (s.seq k).putTask { x with body := .pick (modPick r f ps) } →
      (u.seq k).granted = some { x with body := .pick (modPick r f ps) } := fun u hu => by
    rw [hu]
    exact granted_putTask hg rfl
  rw [changePicks, if_pos (isGranted_granted hg), Task.picks_of_body hb]
  simp only [setPicks_kept hb (modPick_res hf)]
  cases c with
  | none => exact checkPicks_open (hg' _ (State.seq_modSeq ..)) rfl hopen
  | some c => exact checkPicks_open (hg' _ ((hc c _ rfl).trans (State.seq_modSeq ..))) rfl hopen

theorem modStn_congr {f g : Stn → Stn} (h : f (s.stn i) = g (s.stn i)) : s.modStn i f = s.modStn i g :=
  congrArg (s.setStn i) h

/-- A report at the station that holds the grant changes its view, shows a strike, and refreshes its display (R115). -/
theorem takeViewReport_held (hi : (s.stn i).grant = .held k v) (c : ViewChange) :
    takeViewReport i k c s = refresh i (s.modStn i fun y => { y with
      grant := .held k (changeView (s.viewNow c) v)
      message := if showsStrike c v then some .doNotPick else y.message }) := by
  have hholder : (s.stn i).holder = some (k, v) := by simp [Stn.holder, hi]
  have hnow : ∀ m, (showMessage i m s).viewNow c = s.viewNow c := fun m => by cases c <;> rfl
  simp only [takeViewReport, hholder, if_true]
  refine congrArg (refresh i) ?_
  by_cases hstrike : showsStrike c v = true
  · rw [if_pos hstrike, hnow, showMessage, State.modStn_modStn]
    exact modStn_congr (by simp [Stn.modView, hi, hstrike])
  · rw [if_neg hstrike]
    exact modStn_congr (by simp [Stn.modView, hi, hstrike])

/-- A change of a granted task, as the station that holds the grant then shows it (R115). -/
theorem tellView_held (hk : s.grantedBy k = some i) (hi : (s.stn i).grant = .held k v) (c : ViewChange) :
    ∃ e m, ∃ d : Display → Display, tellView k c s = State.modStn { s with fe := e, mail := m } i (fun y => { y with
        grant := .held k (changeView (s.viewNow c) v)
        message := if showsStrike c v then some .doNotPick else y.message
        display := d y.display }) ∧ s.mail <+: m := by
  simp only [tellView, hk, takeViewReport_held hi c]
  exact refresh_modStn i _ s

theorem tellView_seq (c : ViewChange) (s : State) (j : Carousel) : (tellView k c s).seq j = s.seq j := by
  unfold tellView
  split
  · obtain ⟨e, m, f, h, -⟩ := takeViewReport_effect _ k c s
    rw [h]
    rfl
  · rfl

/-- A change of a pick of the granted task, which another open pick keeps, in the carousel's queue and at the station that holds
the grant. -/
theorem changePicks_shown {f : Pick → Pick} {c : ViewChange} {c' : Instr} {w : TaskView} {msg : Option Message}
    (hc : exec c' s = .next (attendEnded s.begun (changePicks k x (modPick r f x.picks) (some c) s.begun)))
    (hg : (s.seq k).granted = some x) (hb : x.body = .pick ps) (hf : ∀ p, (f p).res = p.res)
    (ho : ∃ p ∈ ps, p.res ≠ r ∧ p.opened = true) (hk : s.grantedBy k = some i) (hi : (s.stn i).grant = .held k v)
    (hw : changeView (s.viewNow c) v = w) (hmsg : (if showsStrike c v then some .doNotPick else (s.stn i).message) = msg) :
    ∃ t, exec c' s = .next t ∧ t.seq k = (s.seq k).putTask { x with body := .pick (modPick r f ps) } ∧ s.othersKept k t ∧
      s.stationIs i { s.stn i with grant := .held k w, message := msg } t ∧
      s.mail <+: t.mail ∧ t = { s.begun with seqs := t.seqs, stations := t.stations, fe := t.fe, mail := t.mail } := by
  rw [changePicks_granted (s := s.begun) hg hb hf ho fun c' u _ => tellView_seq c' u k] at hc
  obtain ⟨e, m, d, h, hm⟩ := tellView_held (s := s.begun.modSeq k (·.putTask { x with body := .pick (modPick r f ps) })) hk hi c
  have hnow : (s.begun.modSeq k (·.putTask { x with body := .pick (modPick r f ps) })).viewNow c = s.viewNow c := by
    cases c <;> rfl
  rw [hnow, hw] at h
  have hseq := State.seq_modSeq s.begun k (·.putTask { x with body := .pick (modPick r f ps) })
  have hseqs : ∀ j, j ≠ k → (s.begun.modSeq k (·.putTask { x with body := .pick (modPick r f ps) })).seq j = s.seq j :=
    fun j hj => State.seq_modSeq_ne s.begun _ hj
  simp only [h] at hc
  rw [attendEnded_granted] at hc
  · refine ⟨_, hc, hseq, hseqs, ⟨?_, fun j hj => State.stn_modStn_ne _ _ hj⟩, hm, rfl⟩
    rw [State.stn_modStn, ← hmsg]
    rfl
  · intro j
    by_cases hj : j = i
    · subst hj
      rw [State.stn_modStn]
      exact .inr nofun
    · exact .inl (by rw [State.stn_modStn_ne _ _ hj]; rfl)

end

/-- A reservation that no task holds waits in the held list, or is unknown. -/
theorem claim_heldListChanges : Claims.HeldListChanges := by
  intro s k r n m why hs hnone hm
  have hn : s.begun.countNow r n = m := by
    rcases hm with ⟨x, hx, rfl⟩ | ⟨hx, rfl⟩
    · exact State.countNow_live (s := s.begun) hx n
    · exact State.countNow_gone (s := s.begun) hx _
  have hnone' : (s.begun.seq k).taskOf r = none := hnone
  have hdrop : takeDrop k r s.begun = s.begun.modSeq k fun q => { q with held := q.held.filter fun i => !(i.res = r) } := by
    simp only [takeDrop, hnone']
  refine ⟨?_, ?_, ?_, ?_⟩
  · show seqStep s (takeNewCount k r n why) = _
    rw [exec_seqStep hs]
    simp only [takeNewCount, hnone', hn]
    exact congrArg _ (attendEnded_stations rfl)
  · show seqStep s (takeDrop k r) = _
    rw [exec_seqStep hs, hdrop]
    exact congrArg _ (attendEnded_stations rfl)
  · show seqStep s (takeStrike k r why) = _
    rw [exec_seqStep hs]
    simp only [takeStrike, hnone', hdrop]
    exact congrArg _ (attendEnded_stations rfl)
  · show seqStep s (pickTaken k r) = _
    rw [exec_seqStep hs]
    simp only [pickTaken, hnone']
    exact congrArg _ (attendEnded_stations rfl)

theorem claim_grantedPickChanges : Claims.GrantedPickChanges := by
  intro s k r y n i x ps v vs why hs hy hof hg hb hk hi hv _ ho
  have hof' : (s.begun.seq k).taskOf r = some x := hof
  have hcount : ∀ m, s.begun.countNow r m = min m y.count := fun m => State.countNow_live (s := s.begun) hy m
  have hnow : s.viewNow (.newCount r (min n y.count) why) = .newCount r (min n y.count) why := by
    simp [State.viewNow, State.countNow_live hy]
  have struck : ∀ w, exec (.pickStruck k ⟨r, w⟩) s = .next (attendEnded s.begun
      (changePicks k x (modPick r (fun p => { p with struck := true }) x.picks) (some (.struck r w)) s.begun)) := fun w => by
    show seqStep s (takeStrike k r w) = _
    simp only [exec_seqStep hs, takeStrike, hof']
  have counted : exec (.pickNewCount k r ⟨n, why⟩) s = .next (attendEnded s.begun (changePicks k x
      (modPick r (fun p => { p with remaining := min n y.count }) x.picks) (some (.newCount r (min n y.count) why)) s.begun)) := by
    show seqStep s (takeNewCount k r n why) = _
    simp only [exec_seqStep hs, takeNewCount, hof', hcount]
  have taken : exec (.pickTakenReport k r) s = .next (attendEnded s.begun (changePicks k x
      (modPick r (fun p => { p with remaining := p.remaining - 1 }) x.picks) none s.begun)) := by
    show seqStep s (pickTaken k r) = _
    simp only [exec_seqStep hs, pickTaken, hof']
  refine ⟨?_, ?_, ?_, ?_, ?_⟩
  · exact changePicks_shown counted hg hb (fun _ => rfl) ho hk hi (by simp [hnow, changeView, hv]) rfl
  · exact changePicks_shown (struck .accept) hg hb (fun _ => rfl) ho hk hi (by simp [State.viewNow, changeView, hv, strikeMark]) rfl
  · exact changePicks_shown (struck .short) hg hb (fun _ => rfl) ho hk hi (by simp [State.viewNow, changeView, hv, strikeMark]) rfl
  · exact changePicks_shown (struck .other) hg hb (fun _ => rfl) ho hk hi (by simp [State.viewNow, changeView, hv, strikeMark])
      (by simp only [showsStrike, hv])
  · rw [taken, changePicks_granted (s := s.begun) (f := fun p => { p with remaining := p.remaining - 1 }) hg hb (fun _ => rfl) ho
      (fun _ _ h => by cases h)]
    exact congrArg _ (attendEnded_stations rfl)

theorem claim_putTaken : Claims.PutTaken := by
  intro s k c lot n m i x hs hx hb hm
  show seqStep s (putTaken k c) = _
  have hx' : (s.begun.seq k).taskFor .put c = some x := hx
  have hm' : m - 1 ≠ 0 := by omega
  rw [exec_seqStep hs]
  simp only [putTaken, hx', hb, hm', if_false]
  exact congrArg _ (attendEnded_stations rfl)

/-- Settles O15: a reservation is in the held list, or its pick is in a task. -/
theorem picksAndPuts : Obligations.PicksAndPuts := ⟨claim_heldListChanges, claim_grantedPickChanges, claim_putTaken⟩

end Sys2Proof.Machine

namespace Sys2Proof.Machine

/-! # What joins and leaves a task queue (R71 to R74) -/

section
variable {s t : State} {k : Carousel} {r : ResId} {x y : Task} {ps qs : List Pick} {m : Nat}

theorem lowest_eq_some {l : List Nat} : lowest l = some m ↔ m ∈ l ∧ ∀ n ∈ l, m ≤ n := by
  induction l generalizing m with
  | nil => simp [lowest]
  | cons n l ih =>
    unfold lowest
    cases hl : lowest l with
    | none =>
      have hnil : l = [] := by
        cases l with
        | nil => rfl
        | cons a l =>
          unfold lowest at hl
          split at hl <;> cases hl
      subst hnil
      simp only [Option.some.injEq, List.mem_singleton, forall_eq]
      constructor
      · rintro rfl
        exact ⟨rfl, Nat.le_refl _⟩
      · exact fun h => h.1.symm
    | some b =>
      obtain ⟨hb, hle⟩ := ih.1 hl
      simp only [Option.some.injEq, List.mem_cons, forall_eq_or_imp]
      constructor
      · intro hmin
        subst hmin
        refine ⟨?_, Nat.min_le_left _ _, fun a ha => Nat.le_trans (Nat.min_le_right _ _) (hle a ha)⟩
        rcases Nat.le_total n b with h | h
        · exact .inl (Nat.min_eq_left h)
        · exact .inr ((Nat.min_eq_right h).symm ▸ hb)
      · rintro ⟨hm, hn, hall⟩
        have hmb := hall b hb
        rcases hm with rfl | hm
        · exact Nat.min_eq_left hmb
        · have := hle m hm
          omega

/-- A PICK task's class is the lowest among its live picks (R71). -/
theorem pickClass_of_lowest (hb : x.body = .pick ps) (hm : ∃ p ∈ ps, p.struck = false ∧ p.cls = m)
    (hle : ∀ p ∈ ps, p.struck = false → m ≤ p.cls) : x.pickClass = m := by
  have hlow : lowest ((ps.filter fun p => !p.struck).map (·.cls)) = some m := by
    refine lowest_eq_some.2 ⟨?_, fun n hn => ?_⟩
    · obtain ⟨p, hp, hs, hc⟩ := hm
      exact List.mem_map.2 ⟨p, List.mem_filter.2 ⟨hp, by simp [hs]⟩, hc⟩
    · obtain ⟨p, hp, rfl⟩ := List.mem_map.1 hn
      obtain ⟨hp, hs⟩ := List.mem_filter.1 hp
      exact hle p hp (by simpa using hs)
  rw [Task.pickClass, Task.picks_of_body hb, hlow]
  rfl

/-- A queue in which a task stands as changed, in the place that its class gives (R71). -/
def reclassed (x y : Task) (c : Class) (q : List Task) : List Task :=
  if c = x.cls then q.map fun u => if u.num = x.num then y else u else placeTask { y with cls := c } (withoutTask x.num q)

theorem reclassTask_reclassed (hn : y.num = x.num) (hc : y.cls = x.cls) :
    reclassTask k y m s = s.modSeq k fun q => { q with queue := reclassed x y m q.queue } := by
  unfold reclassTask reclassed
  rw [hn, hc]
  split <;> rfl

/-- Picks that join or leave, where the task's class follows (R71). -/
theorem setPicks_reclassed (hb : x.body = .pick ps) (hl : qs.length ≠ ps.length) (y : Task) (hy : y = { x with body := .pick qs }) :
    setPicks k x qs s = s.modSeq k fun q => { q with queue := reclassed x y y.pickClass q.queue } := by
  have hres : qs.map (·.res) ≠ x.picks.map (·.res) := by
    rw [Task.picks_of_body hb]
    intro h
    exact hl (by simpa using congrArg List.length h)
  subst hy
  rw [setPicks, if_neg hres, Task.withPicks_of_body hb]
  exact reclassTask_reclassed (x := x) rfl rfl

/-- A step of a carousel that leaves the stations as they were. -/
theorem exec_seqStep_plain (hs : s.resetLow = false) {f : State → State} (hf : f s.begun = t) (ht : t.stations = s.stations) :
    seqStep s f = .next t := by
  rw [exec_seqStep hs, hf, attendEnded_stations (by exact ht)]

theorem hasPlace_iff {q : Seq} : q.hasPlace = true ↔ q.queue.length < 16 := decide_eq_true_iff

/-! ## New reservations (R72) -/

/-- A held item joins a task that is not granted. -/
theorem joinTask_task {i : HeldItem} (hx : (s.seq k).taskFor .pick i.carrier = some x) (hb : x.body = .pick ps)
    (hroom : ps.length < 8) (hg : (s.seq k).isGranted x = false) (y : Task)
    (hy : y = { x with body := .pick (ps ++ [i.pick]) }) :
    joinTask k i s = some ((s.modSeq k fun q => { q with queue := reclassed x y y.pickClass q.queue }).post
      (.reservationJoined i.res)) := by
  have hset := setPicks_reclassed (k := k) (s := s) (qs := ps ++ [i.pick]) hb (by simp) y hy
  simp only [joinTask, hx, Task.picks_of_body hb, Config.taskPicks, hroom, hg, if_true, Bool.false_eq_true, if_false, hset]

theorem joinTask_new {i : HeldItem} (hx : (s.seq k).taskFor .pick i.carrier = none) (hroom : (s.seq k).queue.length < 16) :
    joinTask k i s = some ((newTask k i.cls i.carrier (.pick [i.pick]) s).post (.reservationJoined i.res)) := by
  simp only [joinTask, hx, hasPlace_iff.2 hroom, if_true]

theorem joinTask_held {i : HeldItem} (h : ((s.seq k).taskFor .pick i.carrier = none ∧ 16 ≤ (s.seq k).queue.length) ∨
    ∃ x, (s.seq k).taskFor .pick i.carrier = some x ∧ 8 ≤ x.picks.length) : joinTask k i s = none := by
  rcases h with ⟨hx, hfull⟩ | ⟨x, hx, hfull⟩
  · simp only [joinTask, hx, hasPlace_iff, Nat.not_lt.2 hfull, if_false]
  · simp only [joinTask, hx, Config.taskPicks, Nat.not_lt.2 hfull, if_false]

end

theorem claim_newReservations : Claims.NewReservations := by
  intro s k r a c n cls hs hst
  have hnew : ∀ t, t.stations = s.stations → (t.seq k).state ≠ .idle →
      takeReservation k { res := r, order := a, carrier := c, count := n, cls := cls } s.begun = t →
      exec (.newReservation k r c n ⟨a, cls⟩) s = .next t := fun t ht hidle h =>
    exec_seqStep_plain hs (by rw [takeNewReservation, h, choose_other hidle]) ht
  refine ⟨fun x ps y low hx hb hroom hg hy hm hle => ?joined, fun hx hroom => ?placed, fun hfull => ?held⟩
  case joined =>
    have hlow : y.pickClass = low := pickClass_of_lowest (by rw [hy]) hm hle
    have hj := joinTask_task (s := s.begun) (i := ⟨r, a, c, n, cls⟩) hx hb hroom hg y hy
    rw [hlow] at hj
    refine hnew _ rfl ?_ (by rw [takeReservation, hj]; rfl)
    simpa using hst
  case placed =>
    refine hnew _ rfl ?_ (by rw [takeReservation, joinTask_new (s := s.begun) (i := ⟨r, a, c, n, cls⟩) hx hroom]; rfl)
    simpa using hst
  case held =>
    refine hnew _ rfl ?_ (by rw [takeReservation, joinTask_held (s := s.begun) (i := ⟨r, a, c, n, cls⟩) hfull])
    simpa using hst

/-! ## Offers (R72) -/

/-- What a PUT offer can do (R72). -/
theorem putOffered_cases {k : Carousel} {c lot n : Nat} {cls : Class} {i : Station} {s : State} :
    putOffered k c lot n cls i s =
    if s.closedTo k c then (s, .excluded)
    else if ((s.seq k).taskFor .put c).isSome then (s, .duplicate)
    else if (s.seq k).queue.length < 16 then (choose k (newTask k cls c (.put lot n n i) s), .taken)
    else (s, .full) := by
  simp only [putOffered, hasPlace_iff]

theorem auditOffered_eq {k : Carousel} {c : Nat} {blind : Bool} {cls : Class} {s : State} : auditOffered k c blind cls s =
    if s.closedTo k c then (s, .excluded)
    else if ((s.seq k).taskFor .audit c).isSome then (s, .duplicate)
    else if (s.seq k).queue.length < 16 then (choose k (newTask k cls c (.audit blind) s), .taken)
    else (s, .full) := by
  simp only [auditOffered, hasPlace_iff]

theorem exec_putOffer (s : State) (k : Carousel) (c lot n : Nat) (cls : Class) (i : Station) :
    exec (.putOffer k c lot n cls i) s = seqStep s fun s =>
      (putOffered k c lot n cls i s).1.ans (offerAnswer (putOffered k c lot n cls i s).2) := rfl

theorem exec_auditOffer (s : State) (k : Carousel) (c : Nat) (blind : Bool) (cls : Class) :
    exec (.auditOffer k c blind cls) s = seqStep s fun s =>
      (auditOffered k c blind cls s).1.ans (offerAnswer (auditOffered k c blind cls s).2) := rfl

/-- A task offered to a carousel that is not IDLE is placed, and nothing more. -/
theorem choose_newTask {k : Carousel} {cls : Class} {c : Nat} {body : TaskBody} {s : State} (hst : (s.seq k).state ≠ .idle) :
    choose k (newTask k cls c body s) = newTask k cls c body s := choose_other (by simpa [newTask] using hst)

theorem claim_taskOffers : Claims.TaskOffers := by
  intro s k c lot n cls i blind hs hst
  have hput : ∀ t a, putOffered k c lot n cls i s.begun = (t, a) → t.stations = s.stations →
      exec (.putOffer k c lot n cls i) s = .next (t.ans (offerAnswer a)) := fun t a h ht => by
    rw [exec_putOffer]
    exact exec_seqStep_plain hs (by rw [h]) ht
  have haudit : ∀ t a, auditOffered k c blind cls s.begun = (t, a) → t.stations = s.stations →
      exec (.auditOffer k c blind cls) s = .next (t.ans (offerAnswer a)) := fun t a h ht => by
    rw [exec_auditOffer]
    exact exec_seqStep_plain hs (by rw [h]) ht
  have hclosed : s.begun.closedTo k c = s.closedTo k c := rfl
  have hseq : s.begun.seq k = s.seq k := rfl
  simp only [putOffered_cases, auditOffered_eq, hclosed, hseq, choose_newTask (s := s.begun) hst] at hput haudit
  refine ⟨fun hc => ⟨?_, ?_⟩, fun hc ht => ?_, fun hc ht => ?_, fun hc ht hfull => ?_, fun hc ht hfull => ?_,
    fun hc ht hroom => ?_, fun hc ht hroom => ?_⟩
  · exact hput _ .excluded (by rw [if_pos hc]) rfl
  · exact haudit _ .excluded (by rw [if_pos hc]) rfl
  · exact hput _ .duplicate (by simp only [hc, ht, Bool.false_eq_true, if_false, if_true]) rfl
  · exact haudit _ .duplicate (by simp only [hc, ht, Bool.false_eq_true, if_false, if_true]) rfl
  · exact hput _ .full (by simp only [hc, ht, Option.isSome_none, Nat.not_lt.2 hfull, Bool.false_eq_true, if_false]) rfl
  · exact haudit _ .full (by simp only [hc, ht, Option.isSome_none, Nat.not_lt.2 hfull, Bool.false_eq_true, if_false]) rfl
  · exact hput (newTask k cls c (.put lot n n i) s.begun) .taken
      (by simp only [hc, ht, Option.isSome_none, hroom, Bool.false_eq_true, if_false, if_true]) rfl
  · exact haudit (newTask k cls c (.audit blind) s.begun) .taken
      (by simp only [hc, ht, Option.isSome_none, hroom, Bool.false_eq_true, if_false, if_true]) rfl

theorem claim_stationBays : Claims.StationBays := by
  intro s k i b hs hst
  have hplace : ∀ t place, (s.begun.modSeq k fun q =>
      if place = none then { q with place := none, curtain := .unseen, settle := none } else { q with place := place }) = t →
      t.stations = s.stations → (t.seq k).state ≠ .idle → exec (.stationBayReport k place) s = .next t := fun t place h ht hidle =>
    exec_seqStep_plain hs (by rw [takePlace, h, choose_other hidle]) ht
  refine ⟨hplace _ _ rfl rfl ?_, hplace _ _ rfl rfl ?_⟩
  · simpa using hst
  · simpa using hst

/-! ## A new class of an order (R44) -/

/-- A class report of an order that one task, or none, holds picks of. -/
theorem takeClass_tasks {s : State} {k : Carousel} {h seq : Nat} {cls : Class} {l : List Task}
    (hmine : s.orderIsSeq h = fun n => decide (n = seq))
    (hl : (s.seq k).queue.filter (fun x => x.picks.any fun p => p.order = seq) = l) :
    takeClass k h cls s = choose k ((l.foldl (fun s t => reclassTask k (t.classed (fun n => decide (n = seq)) cls)
      (t.classed (fun n => decide (n = seq)) cls).pickClass s) s).modSeq k fun q =>
        { q with held := q.held.map fun e => if e.order = seq then { e with cls := cls } else e }) := by
  simp only [takeClass, hmine, hl, decide_eq_true_eq]

theorem orderIsSeq_some {s : State} {h : Nat} {o : Order} (ho : s.order h = some o) :
    s.orderIsSeq h = fun n => decide (n = o.seq) := by
  funext n
  simp [State.orderIsSeq, ho, Bool.beq_eq_decide_eq, eq_comm]

theorem modSeq_congr {s : State} {k : Carousel} {f g : Seq → Seq} (h : f (s.seq k) = g (s.seq k)) : s.modSeq k f = s.modSeq k g :=
  congrArg (s.setSeq k) h

theorem claim_taskClasses : Claims.TaskClasses := by
  intro s k h cls hs hst
  refine ⟨fun hn => ?free, fun o ho hnone => ?held⟩
  case free =>
    have hmine : s.begun.orderIsSeq h = fun _ => false := by
      funext n
      simp [State.orderIsSeq, show s.begun.order h = none from hn]
    have hnone : (s.begun.seq k).queue.filter (fun x => x.picks.any fun _ => false) = [] := by simp
    have hsame : (s.begun.modSeq k fun q => { q with held := q.held.map fun e => e }) = s.begun := by
      refine (modSeq_congr (g := fun q => q) ?_).trans (State.setSeq_seq _ k)
      rw [List.map_id']
    refine exec_seqStep_plain hs ?_ rfl
    simp only [takeClass, hmine, hnone, List.foldl_nil, Bool.false_eq_true, if_false, hsame]
    exact choose_other hst
  case held =>
    have hl : (s.begun.seq k).queue.filter (fun x => x.picks.any fun p => p.order = o.seq) = [] := by
      simpa using hnone
    refine exec_seqStep_plain hs ((takeClass_tasks (orderIsSeq_some (s := s.begun) ho) hl).trans (choose_other ?_)) rfl
    simpa using hst

theorem claim_pickClasses : Claims.PickClasses := by
  intro s k h cls low o x y ps hs hst ho hl hb _ qs hm hle hy
  have hclass : x.classed (fun n => decide (n = o.seq)) cls = y := by
    rw [hy, Task.classed, Task.picks_of_body hb, Task.withPicks_of_body hb]
    simp only [decide_eq_true_eq]
    rfl
  have hlow : y.pickClass = low := pickClass_of_lowest (by rw [hy]) hm hle
  have htasks := takeClass_tasks (cls := cls) (orderIsSeq_some (s := s.begun) ho) hl
  simp only [List.foldl_cons, List.foldl_nil, hclass, hlow] at htasks
  rw [reclassTask_reclassed (x := x) (by rw [hy]) (by rw [hy]), State.modSeq_modSeq] at htasks
  refine exec_seqStep_plain hs (htasks.trans (choose_other ?_)) rfl
  simpa using hst

/-! ## Picks that leave a task (R73, R74) -/

theorem filter_opened_modPick {f : Pick → Pick} {r : ResId} {ps : List Pick} (hf : ∀ p ∈ ps, p.res = r → (f p).opened = false) :
    (modPick r f ps).filter (·.opened) = ps.filter fun p => !(p.res = r) && p.opened := by
  unfold modPick
  induction ps with
  | nil => rfl
  | cons p ps ih =>
    have ih := ih fun q hq => hf q (.tail _ hq)
    by_cases hp : p.res = r
    · simp [hp, hf p (.head _) hp, ih]
    · simp [hp, ih, List.filter_cons]

section
variable {s : State} {k : Carousel} {x : Task} {r : ResId} {ps left : List Pick}

/-- What a freed place is reported to, with nothing held (R74). -/
def State.toldFree (s : State) (k : Carousel) : List Instr :=
  (s.stationOf k).toList.map (fun i => .placeReport i k) ++ [.auditPlaceReport k]

theorem placeFreed_none (hh : (s.seq k).held = []) :
    placeFreed k s = if (s.seq k).queue.length < 16 then s.postAll (s.toldFree k) else s := by
  have hsame : (s.modSeq k fun q => { q with held := [] }) = s := by
    have hq : ({ s.seq k with held := [] } : Seq) = s.seq k := by rw [← hh]
    exact (congrArg (s.setSeq k) hq).trans (State.setSeq_seq s k)
  have hretry : retryHeld k s = s := by rw [retryHeld, hh, hsame]; rfl
  simp only [placeFreed, hretry, hasPlace_iff]
  split
  · cases hst : s.stationOf k <;> simp [State.toldFree, hst, State.postAll, State.post]
  · rfl

/-- A task that is not current leaves the queue. -/
theorem dropTask_waiting (hc : (s.seq k).current ≠ some x.num) (hb : x.body = .pick ps) :
    dropTask k x s = s.modSeq k fun q => { q with queue := withoutTask x.num q.queue } := by
  simp only [dropTask, hc, false_and, if_false, takeOut, hb]

theorem postAll_nil (s : State) : s.postAll [] = s := by simp [State.postAll]

theorem isGranted_waiting (hc : (s.seq k).current ≠ some x.num) : (s.seq k).isGranted x = false := by
  cases hg : (s.seq k).granted with
  | none => simp [Seq.isGranted, hg]
  | some u =>
    obtain ⟨hcur, -⟩ := Seq.currentTask_eq_some.1 (Seq.granted_eq_some.1 hg).2
    have hne : u.num ≠ x.num := fun h => hc (h ▸ hcur)
    simp [Seq.isGranted, hg, hne]

theorem withoutTask_perm {q : List Task} (hn : (q.map (·.num)).Nodup) (hx : x ∈ q) : q.Perm (x :: withoutTask x.num q) := by
  obtain ⟨before, after, rfl⟩ := List.append_of_mem hx
  have hout : ∀ u ∈ before ++ after, u.num ≠ x.num := by
    have hp : ((before ++ x :: after).map (·.num)).Perm ((x :: (before ++ after)).map (·.num)) := List.perm_middle.map _
    have hnot := (List.nodup_cons.1 (hp.nodup_iff.1 hn)).1
    exact fun u hu he => hnot (List.mem_map.2 ⟨u, hu, he⟩)
  have hfilter : withoutTask x.num (before ++ x :: after) = before ++ after := by
    rw [withoutTask, List.filter_append, List.filter_cons_of_neg (by simp), ← List.filter_append]
    exact List.filter_eq_self.2 fun u hu => by simpa using hout u hu
  rw [hfilter]
  exact List.perm_middle

theorem reclassed_length {y : Task} {c : Class} {q : List Task} (hn : (q.map (·.num)).Nodup) (hx : x ∈ q) :
    (reclassed x y c q).length = q.length := by
  unfold reclassed
  split
  · exact List.length_map _
  · rw [(placeTask_holds _ _).length_eq, (withoutTask_perm hn hx).length_eq]
    rfl

theorem withoutTask_map {y : Task} {q : List Task} (hy : y.num = x.num) :
    withoutTask x.num (q.map fun u => if u.num = x.num then y else u) = withoutTask x.num q := by
  unfold withoutTask
  induction q with
  | nil => rfl
  | cons u q ih => by_cases h : u.num = x.num <;> simp [h, hy, ih]

/-- Picks leave a task that is not granted. -/
theorem changePicks_waiting {qs : List Pick} {c : Option ViewChange} (hc : (s.seq k).current ≠ some x.num)
    (hb : x.body = .pick ps) (hl : qs.filter (·.opened) = left) (hlen : left.length ≠ ps.length) :
    changePicks k x qs c s = settleQueue k (if left = [] then dropTask k x (setPicks k x left s) else setPicks k x left s) := by
  simp only [changePicks, isGranted_waiting hc, hl, Task.picks_of_body hb, hlen, Bool.false_eq_true, if_false]

/-- The last pick takes its task with it, and the freed place is reported. -/
theorem settle_dropped (hc : (s.seq k).current ≠ some x.num) (hb : x.body = .pick ps) (hps : ps ≠ []) (hi : (s.seq k).state ≠ .idle)
    (hh : (s.seq k).held = []) (hn : ((s.seq k).queue.map (·.num)).Nodup) (hx : x ∈ (s.seq k).queue)
    (h16 : (s.seq k).queue.length ≤ 16) :
    settleQueue k (dropTask k x (setPicks k x [] s)) =
      (s.modSeq k fun q => { q with queue := withoutTask x.num q.queue }).postAll (s.toldFree k) := by
  have hlen : ([] : List Pick).length ≠ ps.length := by
    simpa [eq_comm] using hps
  have hdrop : dropTask k x (setPicks k x [] s) = s.modSeq k fun q => { q with queue := withoutTask x.num q.queue } := by
    rw [setPicks_reclassed hb hlen { x with body := .pick [] } rfl]
    refine (dropTask_waiting (s := s.modSeq k _) (by simpa using hc) hb).trans ?_
    rw [State.modSeq_modSeq]
    refine modSeq_congr ?_
    have hcls : Task.pickClass { x with body := .pick [] } = x.cls := rfl
    simp only [hcls, reclassed, if_true]
    rw [withoutTask_map (x := x) (y := { x with body := .pick [] }) rfl]
  have hroom : (withoutTask x.num (s.seq k).queue).length < 16 := by
    have := (withoutTask_perm hn hx).length_eq
    simp only [List.length_cons] at this
    omega
  rw [hdrop, settleQueue, placeFreed_none (by simpa using hh), if_pos (by simpa using hroom)]
  refine (choose_other (by simpa using hi)).trans ?_
  simp [State.toldFree, State.stationOf]

/-- A task that stands after picks have left it, in the place that its class gives; the place that its carousel still has is
reported. -/
theorem settle_shrunk {y : Task} (hb : x.body = .pick ps) (hlen : left.length ≠ ps.length) (hy : y = { x with body := .pick left })
    (hi : (s.seq k).state ≠ .idle) (hh : (s.seq k).held = []) (hn : ((s.seq k).queue.map (·.num)).Nodup)
    (hx : x ∈ (s.seq k).queue) :
    settleQueue k (setPicks k x left s) =
      (s.modSeq k fun q => { q with queue := reclassed x y y.pickClass q.queue }).postAll
        (if (s.seq k).queue.length < 16 then s.toldFree k else []) := by
  have htold : (s.modSeq k fun q => { q with queue := reclassed x y y.pickClass q.queue }).toldFree k = s.toldFree k := by
    simp [State.toldFree, State.stationOf]
  have hlength := reclassed_length (y := y) (c := y.pickClass) hn hx
  rw [setPicks_reclassed hb hlen y hy, settleQueue, placeFreed_none (by simpa using hh), State.seq_modSeq, hlength, htold]
  split
  · exact choose_other (by simpa using hi)
  · rw [postAll_nil]
    exact choose_other (by simpa using hi)

end

theorem claim_queuedPickDrops : Claims.QueuedPickDrops := by
  intro s k r x c why hs hof hc hi hh h16 hn hkind hreport left told
  obtain ⟨ps, hb⟩ : ∃ ps, x.body = .pick ps := by
    cases hbody : x.body with
    | pick ps => exact ⟨ps, rfl⟩
    | put => simp [Task.kind, hbody] at hkind
    | audit => simp [Task.kind, hbody] at hkind
  have hpicks := Task.picks_of_body hb
  have hx : x ∈ (s.seq k).queue := Seq.taskOf_mem hof
  obtain ⟨p, hp, hpr⟩ : ∃ p ∈ ps, p.res = r := by
    have := List.find?_some hof
    simpa [hpicks] using this
  have hof' : (s.begun.seq k).taskOf r = some x := hof
  have hlen : left.length ≠ ps.length := by
    intro he
    have hleft : left = ps.filter fun p => !(p.res = r) && p.opened := congrArg (List.filter _) hpicks
    rw [hleft] at he
    have hall := List.length_filter_eq_length_iff.1 he p hp
    simp [hpr] at hall
  have hstep : ∃ qs ch, qs.filter (·.opened) = left ∧
      exec c s = .next (attendEnded s.begun (changePicks k x qs ch s.begun)) := by
    rcases hreport with rfl | rfl | ⟨rfl, hlast⟩
    · refine ⟨x.picks.filter fun p => !(p.res = r), some (.dropped r), ?_, ?_⟩
      · rw [List.filter_filter]
        exact List.filter_congr fun p _ => Bool.and_comm _ _
      · show seqStep s (takeDrop k r) = _
        simp only [exec_seqStep hs, takeDrop, hof']
    · refine ⟨modPick r (fun p => { p with struck := true }) x.picks, some (.struck r why), ?_, ?_⟩
      · exact filter_opened_modPick fun _ _ _ => rfl
      · show seqStep s (takeStrike k r why) = _
        simp only [exec_seqStep hs, takeStrike, hof']
    · refine ⟨modPick r (fun p => { p with remaining := p.remaining - 1 }) x.picks, none, ?_, ?_⟩
      · refine filter_opened_modPick fun p hp hr => ?_
        have := hlast p hp hr
        have h0 : p.remaining - 1 = 0 := by omega
        simp [Pick.opened, h0]
      · show seqStep s (pickTaken k r) = _
        simp only [exec_seqStep hs, pickTaken, hof']
  obtain ⟨qs, ch, hqs, hexec⟩ := hstep
  rw [changePicks_waiting (s := s.begun) hc hb hqs hlen] at hexec
  rw [hexec]
  refine ⟨fun hnil => ?_, fun cls hm hle => ?_⟩
  · rw [if_pos hnil, hnil, settle_dropped (s := s.begun) hc hb (List.ne_nil_of_mem hp) hi hh hn hx h16]
    exact congrArg _ (attendEnded_stations rfl)
  · have hne : left ≠ [] := fun h => by
      obtain ⟨q, hq, -⟩ := hm
      rw [h] at hq
      cases hq
    have hlive : ∀ q ∈ left, q.struck = false := fun q hq => by
      have := (List.mem_filter.1 hq).2
      simp [Pick.opened] at this
      exact this.2.1
    have hcls : Task.pickClass { x with body := .pick left } = cls :=
      pickClass_of_lowest rfl (hm.imp fun q hq => ⟨hq.1, hlive q hq.1, hq.2⟩) fun q hq _ => hle q hq
    rw [if_neg hne, settle_shrunk (s := s.begun) hb hlen rfl hi hh hn hx, hcls]
    exact congrArg _ (attendEnded_stations rfl)

/-- Settles O18: what joins a queue takes the place of its class, and what leaves one frees a place. -/
theorem tasksJoinQueues : Obligations.TasksJoinQueues :=
  ⟨claim_newReservations, claim_taskOffers, claim_stationBays, claim_taskClasses, claim_pickClasses, claim_queuedPickDrops⟩

end Sys2Proof.Machine

namespace Sys2Proof.Machine

/-! # The in-transit list (R132 to R137) -/

section
variable {s t : State} {i : Station} {n h line lot week a : Nat} {ref : OrderRef} {l : Lane} {label : Label}

/-- A frame for a node of the map is queued when the queue has room. -/
theorem sendOrKeep_framed (b : Block) (p : Payload) {role : Role} {unit : Nat} (ha : s.nodeOf role unit = some a)
    (hq : s.fe.queue.length < 32) : sendOrKeep b (.node role unit) p s = (s.framed b a p, false) := sendOrKeep_room b p ha hq

theorem sendDivert_framed {d : Option Lane} {second : Bool} (ha : s.nodeOf .sorter 0 = some a) (hq : s.fe.queue.length < 32) :
    sendDivert label d second s = s.framed .transit a (.divert label d second) := by
  rw [sendDivert, sendOrKeep_framed _ _ ha hq]

theorem showAtLane_framed {x : LaneShow} (ha : s.nodeOf .laneController l.val = some a) (hq : s.fe.queue.length < 32) :
    showAtLane l x s = s.framed .transit a (.laneShow l x) := by
  rw [showAtLane, controllerOf, sendOrKeep_framed _ _ ha hq]

theorem checkFlush_other (hl : (s.lane l).state ≠ .flushing) : checkFlush l s = s := by simp [checkFlush, hl]

theorem freePlace_placeFree (hw : twf s.transit.places = true) (n : Nat) : s.placeFree n (freePlace n s) :=
  ⟨tget_tdel_same hw, fun _ hm => tget_tdel_other hm _, rfl⟩

/-- A free place is seen in the in-transit list alone. -/
theorem State.placeFree.of_transit {u : State} (hu : s.placeFree n u) (ht : t.transit = u.transit) : s.placeFree n t := by
  unfold State.placeFree State.place at *
  rwa [ht]

theorem givePlace_other (hn : s.place n ≠ some (.held i)) : givePlace i n s = s := if_neg hn

theorem handOverPlace_other (hn : s.place n ≠ some (.held i)) : handOverPlace i n h ref line lot week s = s := if_neg hn

/-- The order has a coupled cart: its tyre becomes an entry (R134). -/
theorem handOverPlace_routed {c : Nat} {comp : Comp} (hn : s.place n = some (.held i)) (hh : s.holding h = some (l, c, comp))
    (hl : (s.lane l).state = .coupled ∨ (s.lane l).state = .releaseWait) :
    handOverPlace i n h ref line lot week s = sendDivert (s.labelOf lot) (some l) false (s.modTransit fun t =>
      { t with places := tput n (.entry h ref line lot week l c i (s.now + s.mgmt.timers.transit * 100) s.transit.created
                 (decide (comp.state = .cancelled))) t.places, created := t.created + 1 }) := by
  simp only [handOverPlace, hn, hh, hl, if_true]
  rfl

/-- No coupled cart holds the order: its tyre has nowhere to go (R134). -/
theorem handOverPlace_unrouted (hn : s.place n = some (.held i))
    (hh : s.holding h = none ∨ ∃ l c comp, s.holding h = some (l, c, comp) ∧ (s.lane l).state ≠ .coupled ∧
      (s.lane l).state ≠ .releaseWait) :
    handOverPlace i n h ref line lot week s = handOverPlace.unrouted i n h ref line lot week (s.labelOf lot) s := by
  rcases hh with hh | ⟨l, c, comp, hh, hc, hr⟩
  · simp only [handOverPlace, hn, hh, if_true]
  · simp only [handOverPlace, hn, hh, hc, hr, or_self, if_true, if_false]

theorem unrouted_framed (ha : s.nodeOf .sorter 0 = some a) (hq : s.fe.queue.length < 32) (hroom : s.mgmt.notices.length < 64) :
    handOverPlace.unrouted i n h ref line lot week label s =
      { ((freePlace n s).framed .transit a (.divert label none false)).post (.transitRemoval h line week .timeout) with
        mgmt := { s.mgmt with
          notices := s.mgmt.notices ++ [{ seq := s.mgmt.noticeSeq, body := .transitLost h ref line lot none i true }]
          noticeSeq := (s.mgmt.noticeSeq + 1) % 65536 } } := by
  rw [handOverPlace.unrouted, sendDivert_framed (s := freePlace n s) ha hq]
  exact handNotice_room _ hroom

end

theorem claim_transitPlaces : Claims.TransitPlaces := by
  intro s i n h line lot week ref hs hw
  have hask : exec (.transitPlaceRequest i) s = .next ((askPlace i s.begun).1.ans
      (match (askPlace i s.begun).2 with | some n => .place n | none => .full)) :=
    carry_begun hs fun s => (askPlace i s).1.ans (match (askPlace i s).2 with | some n => .place n | none => .full)
  have hgive : exec (.placeGiveUp i n) s = .next (givePlace i n s.begun) := carry_begun hs _
  have hhand : exec (.handOver i n ⟨h, ref⟩ line lot week) s = .next (handOverPlace i n h ref line lot week s.begun) :=
    carry_begun hs _
  refine ⟨?_, fun hn => ?other, fun hn => ⟨?given, fun a ha hq => ⟨fun l c comp hh hl => ?routed, fun hh hroom => ?unrouted⟩⟩⟩
  · rintro m rfl
    refine ⟨fun hroom => ?_, fun hfull => ?_⟩
    · have : askPlace i s.begun = _ := if_pos (by exact hroom)
      rw [hask, this]
      rfl
    · have : askPlace i s.begun = _ := if_neg (by exact Nat.not_lt.2 hfull)
      rw [hask, this]
  case other =>
    rw [hgive, hhand, givePlace_other (s := s.begun) hn, handOverPlace_other (s := s.begun) hn]
    exact ⟨rfl, rfl⟩
  case given =>
    have : givePlace i n s.begun = freePlace n s.begun := if_pos hn
    rw [hgive, this]
    exact ⟨_, rfl, freePlace_placeFree (s := s.begun) hw n, rfl⟩
  case routed =>
    rw [hhand, handOverPlace_routed (s := s.begun) hn hh hl, sendDivert_framed (s := s.begun.modTransit _) ha hq]
    rfl
  case unrouted =>
    rw [hhand, handOverPlace_unrouted (s := s.begun) hn hh, unrouted_framed (s := s.begun) ha hq hroom]
    exact ⟨_, rfl, (freePlace_placeFree (s := s.begun) hw n).of_transit rfl, rfl, rfl, rfl, rfl⟩

/-- A label from a lane's reader reaches the Transit and Lane Unit (R136). -/
theorem exec_laneArrival {s t : State} {h : Hdr} {l : Lane} {label : Label} (ht : s.takes h)
    (hd : s.disposal h 11 = .field .laneReader l.val false) (htaken : takeArrival l label s.heard = t) (hup : t.fe.ring = .up) :
    exec (.laneArrival h label) s = .next t := by
  have howner : labelOwner label .laneReader l.val s.heard = t := by simp only [labelOwner, lane?_val, htaken]
  refine (carry_begun ht.1 (fieldFrame h 11 (bLabel label) (labelOwner label))).trans ?_
  rw [fieldFrame_taken ht hd _ (by rw [howner]; exact hup), howner]

theorem claim_transitEnds : Claims.TransitEnds := by
  intro s hw
  refine ⟨fun label l second fate hs => ⟨fun hf => ?kept, fun a hsec hf ha hq => ?again⟩,
    fun n h ref line lot week l c i d q x hs hn hl hroom => ?expired, fun n hs hn => ?idle,
    fun h label l a ht hup hd ha hq hl => ⟨fun n o ref line lot week c i d q x harr => ?arrived, fun harr hroom => ?stray⟩⟩
  case kept =>
    have hret : exec (.divertReturn label l second fate) s = .next (divertReturned label l second fate s.begun) :=
      carry_begun hs _
    rw [hret]
    rcases hf with rfl | rfl | rfl
    · cases fate <;> rfl
    · rfl
    · rfl
  case again =>
    have hret : exec (.divertReturn label l second fate) s = .next (divertReturned label l second fate s.begun) :=
      carry_begun hs _
    have hdiv := sendDivert_framed (s := s.begun) (label := label) (d := l) (second := true) ha hq
    rw [hret, ← hdiv, hsec]
    rcases hf with rfl | rfl <;> rfl
  case expired =>
    have hexp : exec (.transitTimeout n) s = .next (transitExpired n s.begun) := carry_begun hs _
    have hroom' : ((freePlace n (s.begun.reach d)).post (.transitRemoval h line week .timeout)).mgmt.notices.length < 64 := hroom
    have hn' : s.begun.place n = some (.entry h ref line lot week l c i d q x) := hn
    rw [hexp]
    simp only [transitExpired, hn']
    rw [handNotice_room _ hroom', checkFlush_other (by exact hl)]
    exact ⟨_, rfl, (freePlace_placeFree (s := s.begun.reach d) hw n).of_transit rfl, rfl, rfl, rfl⟩
  case idle =>
    have hexp : exec (.transitTimeout n) s = .next (transitExpired n s.begun) := carry_begun hs _
    rw [hexp]
    rcases hn with hn | ⟨i, hn⟩
    · simp only [transitExpired, show s.begun.place n = none from hn]
    · simp only [transitExpired, show s.begun.place n = _ from hn]
  all_goals
    have hroute : s.heard.nodeOf .laneController l.val = some a := ha
  case arrived =>
    have harr' : s.heard.arriving l label = _ := harr
    have htaken : takeArrival l label s.heard = ((freePlace n s.heard).post (.deliveryReport o line lot)).framed .transit a
        (.laneShow l (if x = true then .giveBack else .compartment c)) := by
      simp only [takeArrival, harr']
      rw [showAtLane_framed (s := (freePlace n s.heard).post (.deliveryReport o line lot)) hroute hq,
        checkFlush_other (by exact hl)]
    exact ⟨_, exec_laneArrival ht hd htaken hup, (freePlace_placeFree (s := s.heard) hw n).of_transit rfl, rfl, rfl⟩
  case stray =>
    have harr' : s.heard.arriving l label = none := harr
    have hnotice := handNotice_room (.stray l label) (s := s.heard) hroom
    have htaken : takeArrival l label s.heard = (handNotice (.stray l label) s.heard).framed .transit a (.laneShow l .reject) := by
      simp only [takeArrival, harr']
      rw [hnotice, showAtLane_framed (by exact hroute) (by exact hq)]
    rw [hnotice] at htaken
    exact ⟨_, exec_laneArrival ht hd htaken hup, rfl, rfl⟩

/-- Settles O37: a place is HELD, then an entry, then FREE again. -/
theorem transitList : Obligations.TransitList := ⟨claim_transitPlaces, claim_transitEnds⟩

end Sys2Proof.Machine

namespace Sys2Proof.Machine

/-! # The lane machine (R141 to R150) -/

section
variable {s t : State} {l : Lane} {a : Nat} {lock second : Bool} {input : LaneInput}

theorem State.modLane_modLane (s : State) (l : Lane) (f g : LaneRec → LaneRec) :
    (s.modLane l f).modLane l g = s.modLane l fun x => g (f x) := by
  simp [State.modLane, State.setLane_setLane]

/-- The LOCK or UNLOCK frame of a lane (R143). -/
def State.latchFrame (s : State) (l : Lane) (lock second : Bool) : Payload :=
  if lock then .lock l second else .unlock l s.mgmt.timers.latch second

theorem sendLatch_framed (hl : (s.lane l).controllerLost = false) (ha : s.nodeOf .laneController l.val = some a)
    (hq : s.fe.queue.length < 32) :
    sendLatch l lock second s = (s.framed .transit a (s.latchFrame l lock second)).modLane l fun x => { x with locked := lock } := by
  simp only [sendLatch, hl, controllerOf, sendOrKeep_framed _ _ ha hq, Bool.false_eq_true, if_false]
  rfl

/-- The same to a lane whose record has been written. -/
theorem sendLatch_setLane {x : LaneRec} (hl : x.controllerLost = false) (ha : s.nodeOf .laneController l.val = some a)
    (hq : s.fe.queue.length < 32) :
    sendLatch l lock second (s.setLane l x) =
      (s.framed .transit a (s.latchFrame l lock second)).setLane l { x with locked := lock } := by
  have hx : (s.setLane l x).lane l = x := State.lane_setLane s l x
  rw [sendLatch_framed (s := s.setLane l x) (by rw [hx]; exact hl) ha hq]
  show ((s.framed .transit a (s.latchFrame l lock second)).setLane l x).modLane l _ = _
  rw [State.modLane, State.lane_setLane, State.setLane_setLane]

/-! ## Assignment rounds and flushes that find nothing to do -/

theorem assignLane_idle (hw : s.transit.waiting = []) (l : Lane) (n : Nat) : assignLane l n s = s := by
  cases n with
  | zero => rfl
  | succ n =>
    simp only [assignLane, hw, List.find?_nil]
    split <;> simp_all

theorem assignRound_idle (hw : s.transit.waiting = []) : assignRound s = s := by
  have hstep : ∀ l : List Lane, l.foldl (fun s l => if (s.lane l).state = .coupled ∧ (s.lane l).controllerLost = false then
      assignLane l (s.lane l).comps.length s else s) s = s := by
    intro l
    induction l with
    | nil => rfl
    | cons m l ih =>
      rw [List.foldl_cons, assignLane_idle hw, ite_self]
      exact ih
  exact hstep _

theorem checkFlush_all (h : ∀ m, (s.lane m).state ≠ .flushing) : laneList.foldl (fun s m => checkFlush m s) s = s := by
  have hstep : ∀ l : List Lane, l.foldl (fun s m => checkFlush m s) s = s := by
    intro l
    induction l with
    | nil => rfl
    | cons m l ih =>
      rw [List.foldl_cons, checkFlush_other (h m)]
      exact ih
  exact hstep _

/-! ## Tags (R142, R143) -/

theorem takeTag_other {cart count} (h : (s.lane l).state ≠ .identifying ∨ count = 0 ∨ 8 < count) : takeTag l cart count s = s := by
  refine if_neg fun hc => ?_
  obtain ⟨hst, hlo, hhi⟩ := hc
  rcases h with h | h | h
  · exact h hst
  · omega
  · omega

theorem takeTag_couples {cart count} (hst : (s.lane l).state = .identifying) (hlo : 1 ≤ count) (hhi : count ≤ 8)
    (hlost : (s.lane l).controllerLost = false) (hw : s.transit.waiting = []) (ha : s.nodeOf .laneController l.val = some a)
    (hq : s.fe.queue.length < 32) :
    takeTag l cart count s = (s.framed .transit a (.lock l false)).modLane l fun x =>
      { x with state := .coupled, timer := none, cart := some { id := cart, count := count, source := .tag },
               comps := List.replicate (min count x.limit) freeComp, locked := true } := by
  have htag : takeTag l cart count s = coupleCart l cart count .tag s := if_pos ⟨hst, hlo, hhi⟩
  rw [htag, coupleCart, State.modLane, sendLatch_setLane (by exact hlost) ha hq, assignRound_idle (by exact hw)]
  rfl

/-! ## Contacts (R142, R146, R147) -/

/-- The record of a lane as a LANE-INPUT frame is acted on (R141, R150). -/
def LaneRec.refreshed (x : LaneRec) (input : LaneInput) : LaneRec := { x with input := input, controllerLost := false }

/-- A LANE-INPUT frame without a press, and without a waiting order. -/
theorem takeLaneInput_contacts (hb : input.button = (s.lane l).input.button)
    (htaken : (if (s.lane l).configured then
      if (s.lane l).input.contactA = input.contactA ∧ (s.lane l).input.contactB = input.contactB then
        s.setLane l ((s.lane l).refreshed input)
      else contactsChanged l (s.lane l).input (s.setLane l ((s.lane l).refreshed input))
      else s.setLane l ((s.lane l).refreshed input)) = t)
    (hw : (s.lane l).controllerLost = true → t.transit.waiting = []) : takeLaneInput l input s = t := by
  have hpress : (input.button && !(s.lane l).input.button) = false := by
    rw [hb]
    cases (s.lane l).input.button <;> rfl
  simp only [takeLaneInput, hpress, Bool.false_eq_true, if_false]
  refine Eq.trans (b := if (s.lane l).controllerLost = true then assignRound t else t) ?_ ?_
  · rw [← htaken]
    rfl
  · split
    · next h => exact assignRound_idle (hw h)
    · rfl

/-- Contacts that open empty a lane whose cart is not coupled. -/
theorem contactsChanged_empties {old : LaneInput} (ho : old.contactA = true) (ha : (s.lane l).input.contactA = false)
    (hb : (s.lane l).input.contactB = false)
    (hst : (s.lane l).state = .seating ∨ (s.lane l).state = .identifying ∨ (s.lane l).state = .releasing) :
    contactsChanged l old s = emptyLane l s := by
  rcases hst with hst | hst | hst <;> simp [contactsChanged, hst, ho, ha, hb]

theorem contactsChanged_loses {old : LaneInput} (ho : old.contactA = true) (ha : (s.lane l).input.contactA = false)
    (hst : (s.lane l).state = .coupled) : contactsChanged l old s = cartLost l s := by
  simp [contactsChanged, hst, ho, ha]

theorem contactsChanged_seats {old : LaneInput} (hst : (s.lane l).state = .empty) (hc : (s.lane l).configured = true)
    (ha : (s.lane l).input.contactA = true) (hb : (s.lane l).input.contactB = true) :
    contactsChanged l old s = enterSeating l s := by
  simp [contactsChanged, hst, seatIfMade, hc, ha, hb]

theorem contactsChanged_closed {old : LaneInput} (hst : (s.lane l).state = .closed) : contactsChanged l old s = s := by
  simp [contactsChanged, hst]

theorem seatIfMade_open (h : (s.lane l).input.contactA = false) : seatIfMade l s = s := by simp [seatIfMade, h]

/-- The lane's empty record (R142). -/
def LaneRec.emptied (x : LaneRec) : LaneRec := { x with state := .empty, timer := none, cart := none, comps := [] }

theorem emptyLane_eq (s : State) (l : Lane) : emptyLane l s = s.setLane l (s.lane l).emptied := rfl

/-- A coupled cart is lost without a tyre in transit (R147). -/
theorem cartLost_bare (hnamed : s.laneNamed l = false)
    (horder : ∀ o ∈ (s.lane l).orders, ∀ e ∈ s.transit.places, e.2.ofOrder o = false)
    (hflush : ∀ m : Lane, m ≠ l → (s.lane m).state ≠ .flushing) (hlost : (s.lane l).controllerLost = false)
    (hopen : (s.lane l).input.contactA = false) (ha : s.nodeOf .laneController l.val = some a) (hq : s.fe.queue.length < 32)
    (hroom : s.mgmt.notices.length < 64) :
    cartLost l s = handNotice (.cartLost l (s.lane l).cartId (s.lane l).lostOrders 0)
      (((s.postAll ((s.lane l).orders.map fun o => .compartmentWithdrawal o .lost)).framed .transit a
        (.unlock l s.mgmt.timers.latch false)).setLane l { (s.lane l).emptied with locked := false }) := by
  have hgone : s.transit.places.filter (fun e => e.2.inLane l || (s.lane l).orders.any fun h => e.2.ofOrder h) = [] := by
    refine List.filter_eq_nil_iff.2 fun e he => ?_
    have hin : e.2.inLane l = false := by
      have := List.any_eq_false.1 hnamed e he
      simpa using this
    have hof : (s.lane l).orders.any (fun h => e.2.ofOrder h) = false :=
      List.any_eq_false.2 fun o ho => by simp [horder o ho e he]
    simp [hin, hof]
  generalize hu : s.postAll ((s.lane l).orders.map fun o => .compartmentWithdrawal o .lost) = u
  have hlane : ∀ m, u.lane m = s.lane m := fun m => hu ▸ rfl
  have hlatch : sendLatch l false false (emptyLane l u) =
      (u.framed .transit a (.unlock l s.mgmt.timers.latch false)).setLane l { (s.lane l).emptied with locked := false } := by
    subst hu
    rw [emptyLane_eq, sendLatch_setLane (by exact hlost) (by exact ha) (by exact hq)]
    rfl
  simp only [cartLost, hgone, List.foldl_nil, List.length_nil, hu, hlatch]
  generalize hv : (u.framed .transit a (.unlock l s.mgmt.timers.latch false)).setLane l { (s.lane l).emptied with locked := false } = v
  have hroom' : v.mgmt.notices.length < 64 := by
    rw [← hv, ← hu]
    exact hroom
  have hlanes : ∀ m, (v.lane m).state ≠ .flushing := fun m => by
    rw [← hv]
    by_cases hm : m = l
    · subst hm
      rw [State.lane_setLane]
      nofun
    · rw [State.lane_setLane_ne _ _ hm]
      exact (congrArg LaneRec.state (hlane m)).trans_ne (hflush m hm)
  have hopen' : (v.lane l).input.contactA = false := by
    rw [← hv, State.lane_setLane]
    exact hopen
  rw [handNotice_room _ hroom', checkFlush_all (by exact hlanes), seatIfMade_open (by exact hopen')]

/-- The same of a lane whose record has been written. -/
theorem cartLost_setLane {x : LaneRec} (hnamed : s.laneNamed l = false)
    (horder : ∀ o ∈ x.orders, ∀ e ∈ s.transit.places, e.2.ofOrder o = false)
    (hflush : ∀ m : Lane, m ≠ l → (s.lane m).state ≠ .flushing) (hlost : x.controllerLost = false)
    (hopen : x.input.contactA = false) (ha : s.nodeOf .laneController l.val = some a) (hq : s.fe.queue.length < 32)
    (hroom : s.mgmt.notices.length < 64) :
    cartLost l (s.setLane l x) = handNotice (.cartLost l x.cartId x.lostOrders 0)
      (((s.postAll (x.orders.map fun o => .compartmentWithdrawal o .lost)).framed .transit a
        (.unlock l s.mgmt.timers.latch false)).setLane l { x.emptied with locked := false }) := by
  have hx : (s.setLane l x).lane l = x := State.lane_setLane s l x
  have hother : ∀ m, m ≠ l → (s.setLane l x).lane m = s.lane m := fun m hm => State.lane_setLane_ne s x hm
  rw [cartLost_bare (s := s.setLane l x) hnamed (by rw [hx]; exact horder) (fun m hm => by rw [hother m hm]; exact hflush m hm)
    (by rw [hx]; exact hlost) (by rw [hx]; exact hopen) ha hq hroom, hx]
  exact congrArg (handNotice _) (State.setLane_setLane ((s.postAll (x.orders.map fun o => .compartmentWithdrawal o .lost)).framed
    .transit a (.unlock l s.mgmt.timers.latch false)) l x _)

/-! ## The release button (R144 to R146) -/

/-- A press of the button, of a configured lane with its controller PRESENT. -/
theorem momentaryRelease_press (hc : (s.lane l).configured = true) (hl : (s.lane l).controllerLost = false)
    (hb : (s.lane l).input.button = false) : momentaryRelease l s = pressRelease l s := by
  simp [momentaryRelease, hc, hl, hb]

theorem permitTest_working (h : ∃ c ∈ (s.lane l).comps, c.working = true) : permitTest l s = s := by
  refine if_neg fun hc => ?_
  obtain ⟨c, hc', hw⟩ := h
  have := List.all_eq_true.1 hc.2 c hc'
  simp [hw] at this

/-- A lane whose release is due, with no working compartment, is FLUSHING (R144, R145). -/
theorem permitTest_flushes (hst : (s.lane l).state = .releaseWait) (h : ∀ c ∈ (s.lane l).comps, c.working = false) :
    permitTest l s = checkFlush l (s.setLane l { s.lane l with state := .flushing }) := by
  have hall : (s.lane l).comps.all (fun c => !c.working) = true := List.all_eq_true.2 fun c hc => by simp [h c hc]
  have hnone : (s.lane l).comps.filter (·.working) = [] := List.filter_eq_nil_iff.2 fun c hc => by simp [h c hc]
  have hsame : (s.lane l).comps.map (fun c => if c.working = true then freeComp else c) = (s.lane l).comps := by
    refine (List.map_congr_left fun c hc => ?_).trans (List.map_id _)
    simp [h c hc]
  rw [permitTest, if_pos ⟨hst, hall⟩, enterFlushing]
  simp only [hnone, List.filterMap_nil, List.map_nil, postAll_nil]
  exact congrArg (fun cs => checkFlush l (s.setLane l { s.lane l with state := .flushing, comps := cs })) hsame

theorem checkFlush_named (hn : s.laneNamed l = true) : checkFlush l s = s := by simp [checkFlush, hn]

/-- A FLUSHING lane with no tyre on the way is released (R145, R146). -/
theorem checkFlush_releases {x : LaneRec} (hst : x.state = .flushing) (hnamed : s.laneNamed l = false)
    (hl : x.controllerLost = false) (ha : s.nodeOf .laneController l.val = some a) (hq : s.fe.queue.length < 32) :
    checkFlush l (s.setLane l x) = ((s.framed .transit a (.unlock l s.mgmt.timers.latch false)).setLane l
      { x with state := .releasing, locked := false }).postAll (dispatchReports l x.cartId 0 x.comps) := by
  have hrelease : (s.setLane l x).modLane l (fun x => { x with state := .releasing }) =
      s.setLane l { x with state := .releasing } := by
    rw [State.modLane, State.setLane_setLane, State.lane_setLane]
  rw [checkFlush, if_pos ⟨by rw [State.lane_setLane, hst], hnamed⟩, enterReleasing, hrelease, sendLatch_setLane (by exact hl) ha hq]
  simp only [State.lane_setLane]
  rfl

/-! ## Latch frames (R143, R150) -/

theorem loseController_gone (s : State) (l : Lane) : loseController l s = s.controllerGone l := by
  unfold loseController State.controllerGone withdrawWhere
  by_cases h : s.fe.queue.any (isLatchOf l) = true
  · simp only [h, if_true]
    rfl
  · have hnone : s.fe.queue.filter (fun f => !isLatchOf l f) = s.fe.queue :=
      List.filter_eq_self.2 fun f hf => by
        have := List.any_eq_false.1 (Bool.not_eq_true _ ▸ h : _ = false) f hf
        simpa using this
    simp only [h, Bool.false_eq_true, if_false, State.modFe, hnone, postAll_nil]

end

/-! ## The commands -/

section
variable {s t : State} {h : Hdr} {l : Lane}

theorem exec_tagRead {cart : CartId} {count : Nat} (ht : s.takes h) (hd : s.disposal h 17 = .field .laneReader l.val false)
    (htaken : takeTag l cart count s.heard = t) (hup : t.fe.ring = .up) : exec (.tagRead h cart count) s = .next t := by
  have howner : tagOwner cart count .laneReader l.val s.heard = t := by simp only [tagOwner, lane?_val, htaken]
  refine (carry_begun ht.1 (fieldFrame h 17 (tagBytes cart count) (tagOwner cart count))).trans ?_
  rw [fieldFrame_taken ht hd _ (by rw [howner]; exact hup), howner]

theorem exec_laneInput {input : LaneInput} {c : Instr} (ht : s.takes h)
    (hd : s.disposal h 12 = .field .laneController l.val false)
    (hc : c = .cartContacts h input ∨ c = .laneControllerRecovery h input) (htaken : takeLaneInput l input s.heard = t)
    (hup : t.fe.ring = .up) : exec c s = .next t := by
  have howner : laneOwner input .laneController l.val s.heard = t := by simp only [laneOwner, lane?_val, htaken]
  have hexec : exec c s = .next (fieldFrame h 12 (laneInputBytes input) (laneOwner input) s.begun) := by
    rcases hc with rfl | rfl <;> exact carry_begun ht.1 (fieldFrame h 12 (laneInputBytes input) (laneOwner input))
  rw [hexec, fieldFrame_taken ht hd _ (by rw [howner]; exact hup), howner]

end

/-- What follows a request of release, with its notice in `m` (R144 to R146). -/
theorem permitTest_asked {s v : State} {l : Lane} {a : Nat} {m : Management} (hl : (s.lane l).controllerLost = false)
    (ha : s.nodeOf .laneController l.val = some a) (hq : s.fe.queue.length < 32) (hm : m.timers = s.mgmt.timers)
    (hv : v = { s.setLane l { s.lane l with state := .releaseWait } with mgmt := m }) :
    (permitTest l v).mgmt = m ∧
      ((∃ c ∈ (s.lane l).comps, c.working = true) → s.laneIs l { s.lane l with state := .releaseWait } (permitTest l v) ∧
        permitTest l v = { s with lanes := (permitTest l v).lanes, mgmt := (permitTest l v).mgmt }) ∧
      ((∀ c ∈ (s.lane l).comps, c.working = false) → s.laneNamed l = false →
        s.laneIs l { s.lane l with state := .releasing, locked := false } (permitTest l v) ∧
        permitTest l v = { (s.framed .transit a (.unlock l s.mgmt.timers.latch false)).postAll
          (dispatchReports l (s.lane l).cartId 0 (s.lane l).comps) with
            lanes := (permitTest l v).lanes, mgmt := (permitTest l v).mgmt }) := by
  have hlane : v.lane l = { s.lane l with state := .releaseWait } := by
    rw [hv]
    exact State.lane_setLane _ _ _
  have hkept : ∀ n, n ≠ l → v.lane n = s.lane n := fun n hn => by
    rw [hv]
    exact State.lane_setLane_ne _ _ hn
  by_cases hwork : ∃ c ∈ (s.lane l).comps, c.working = true
  · rw [permitTest_working (by rw [hlane]; exact hwork)]
    refine ⟨by rw [hv], fun _ => ⟨⟨hlane, hkept⟩, by rw [hv]; rfl⟩, fun hno => ?_⟩
    obtain ⟨c, hc, hw⟩ := hwork
    exact absurd (hno c hc) (by rw [hw]; nofun)
  · have hno : ∀ c ∈ (v.lane l).comps, c.working = false := by
      rw [hlane]
      simpa using hwork
    rw [permitTest_flushes (by rw [hlane]) hno, hlane]
    by_cases hnamed : s.laneNamed l = true
    · rw [checkFlush_named (by rw [hv]; exact hnamed)]
      exact ⟨by rw [hv]; rfl, fun hyes => absurd hyes hwork, fun _ hfree => absurd hnamed (by rw [hfree]; nofun)⟩
    · have hfree : v.laneNamed l = false := by
        rw [hv]
        exact Bool.not_eq_true _ ▸ hnamed
      have hlatch : v.mgmt.timers = s.mgmt.timers := by rw [hv, hm]
      rw [checkFlush_releases (by rfl) hfree (by exact hl) (by rw [hv]; exact ha) (by rw [hv]; exact hq), hlatch]
      refine ⟨by rw [hv]; rfl, fun hyes => absurd hyes hwork, fun _ _ => ⟨⟨?_, fun n hn => ?_⟩, by rw [hv]; rfl⟩⟩
      · exact State.lane_setLane _ _ _
      · exact (State.lane_setLane_ne _ _ hn).trans (hkept n hn)

theorem claim_laneInputs : Claims.LaneInputs := by
  intro s l a ha hq
  refine ⟨fun h cart count ht hup hd => ⟨fun hno => ?untagged, fun hst hlo hhi hlost hw => ?tagged⟩,
    fun h input c ht hup hd hc hw hb => ?_, fun hs hc hlost hb => ⟨fun hst => ?unlocked, fun hst hroom => ?asked, fun hst => ?idle⟩⟩
  case untagged => exact exec_tagRead ht hd (takeTag_other (s := s.heard) hno) hup
  case tagged => exact exec_tagRead ht hd (takeTag_couples (s := s.heard) hst hlo hhi hlost hw ha hq) hup
  · intro fresh
    have hstep : ∀ t, takeLaneInput l input s.heard = t → t.fe.ring = .up → exec c s = .next t :=
      fun t => exec_laneInput ht hd hc
    have hlane : (s.heard.setLane l fresh).lane l = fresh := State.lane_setLane _ _ _
    have hset : ∀ x, (s.heard.setLane l fresh).setLane l x = s.heard.setLane l x := fun x => State.setLane_setLane _ _ _ _
    have changed : (s.lane l).configured = true →
        (s.lane l).input.contactA ≠ input.contactA ∨ (s.lane l).input.contactB ≠ input.contactB →
        ∀ t, contactsChanged l (s.lane l).input (s.heard.setLane l fresh) = t →
        ((s.lane l).controllerLost = true → t.transit.waiting = []) → t.fe.ring = .up → exec c s = .next t := by
      intro hconf hne t hcon hwait hring
      refine hstep t (takeLaneInput_contacts (s := s.heard) hb ?_ hwait) hring
      rw [if_pos (by exact hconf), if_neg (by exact fun he => hne.elim (· he.1) (· he.2))]
      exact hcon
    refine ⟨fun hno => ?same, fun hconf hst hne hinA hinB => ?seated, fun hconf hold hinA hinB => ⟨fun hst => ?emptied,
      fun hst hnamed hroom horder hflush hlost => ?lost⟩⟩
    case same =>
      refine hstep _ (takeLaneInput_contacts (s := s.heard) hb ?_ fun _ => hw) hup
      rcases hno with hconf | hst | ⟨hA, hB⟩
      · rw [if_neg (by simpa using hconf)]
        rfl
      · have hclosed : contactsChanged l (s.lane l).input (s.heard.setLane l fresh) = s.heard.setLane l fresh :=
          contactsChanged_closed (by rw [hlane]; exact hst)
        split
        · split
          · rfl
          · exact hclosed
        · rfl
      · split
        · exact if_pos ⟨hA.symm, hB.symm⟩
        · rfl
    case seated =>
      refine changed hconf hne _ ?_ (fun _ => hw) hup
      rw [contactsChanged_seats (by rw [hlane]; exact hst) (by rw [hlane]; exact hconf) (by rw [hlane]; exact hinA)
        (by rw [hlane]; exact hinB), enterSeating, State.modLane, hset, hlane]
      rfl
    case emptied =>
      refine changed hconf (.inl (by rw [hold, hinA]; nofun)) _ ?_ (fun _ => hw) hup
      rw [contactsChanged_empties hold (by rw [hlane]; exact hinA) (by rw [hlane]; exact hinB) (by rw [hlane]; exact hst),
        emptyLane_eq, hset, hlane]
      rfl
    case lost =>
      have hcart := cartLost_setLane (s := s.heard) (x := fresh) hnamed horder hflush rfl hinA ha hq hroom
      rw [handNotice_room _ (by exact hroom)] at hcart
      have hnotice : (s.lane l).comps.filterMap (fun x => x.order.map fun o => (o.handle, o.ref)) = fresh.lostOrders := by
        rw [LaneRec.lostOrders, LaneRec.held, List.map_filterMap]
      refine ⟨_, changed hconf (.inl (by rw [hold, hinA]; nofun)) _
        ((contactsChanged_loses hold (by rw [hlane]; exact hinA) (by rw [hlane]; exact hst)).trans hcart)
        (fun he => absurd (hlost.symm.trans he) nofun) hup, ?_, rfl⟩
      rw [hnotice]
      rfl
  all_goals
    have hexec : exec (.releaseButton l) s = .next (pressRelease l s.begun) :=
      (carry_begun hs _).trans (congrArg _ (momentaryRelease_press (s := s.begun) hc hlost hb))
    rw [hexec]
  case unlocked =>
    have hpress : pressRelease l s.begun = sendLatch l false false s.begun := by
      rcases hst with hst | hst <;> simp only [pressRelease, show (s.begun.lane l).state = _ from hst]
    rw [hpress, sendLatch_framed (s := s.begun) hlost ha hq]
    rfl
  case asked =>
    have hpress : pressRelease l s.begun = permitTest l (handNotice (.cartReleaseRequest l (s.lane l).cartId
        ((s.lane l).comps.filterMap fun c => c.order.map fun o => (o.handle, o.ref, c.state)))
        (s.begun.setLane l { s.lane l with state := .releaseWait })) := by
      simp only [pressRelease, show (s.begun.lane l).state = .coupled from hst, State.lane_modLane]
      rfl
    rw [hpress, handNotice_room _ (by exact hroom)]
    refine ⟨_, rfl, ?_⟩
    exact permitTest_asked (s := s.begun) hlost ha hq rfl rfl
  case idle =>
    have hpress : pressRelease l s.begun = s.begun := by
      rcases hst with hst | hst | hst | hst | hst <;> simp only [pressRelease, show (s.begun.lane l).state = _ from hst]
    rw [hpress]

theorem claim_laneTimers : Claims.LaneTimers := by
  intro s l hs
  have hsettle : exec (.laneSettleExpiry l) s = .next (laneSettled l s.begun) := carry_begun hs _
  have htag : exec (.tagTimerExpiry l) s = .next (tagExpires l s.begun) := carry_begun hs _
  refine ⟨fun d a hst htm ha hq => ?settled, fun hno => ?unsettled, fun d hst htm hroom => ?unread, fun hno => ?untimed,
    fun lock second fate => ?_⟩
  case settled =>
    have hst' : (s.begun.lane l).state = .seating := hst
    have htm' : (s.begun.lane l).timer = some d := htm
    rw [hsettle]
    simp only [laneSettled, hst', htm']
    rw [sendOrKeep_framed (s := s.begun.reach d) _ _ ha hq]
    rfl
  case unsettled =>
    have hno' : (s.begun.lane l).state ≠ .seating ∨ (s.begun.lane l).timer = none := hno
    rw [hsettle]
    unfold laneSettled
    split
    · next hst htm =>
      rw [hst, htm] at hno'
      simp at hno'
    · rfl
  case unread =>
    have hst' : (s.begun.lane l).state = .identifying := hst
    have htm' : (s.begun.lane l).timer = some d := htm
    rw [htag]
    simp only [tagExpires, hst', htm']
    rw [handNotice_room _ (by exact hroom)]
    exact ⟨_, rfl, rfl, rfl⟩
  case untimed =>
    have hno' : (s.begun.lane l).state ≠ .identifying ∨ (s.begun.lane l).timer = none := hno
    rw [htag]
    unfold tagExpires
    split
    · next hst htm =>
      rw [hst, htm] at hno'
      simp at hno'
    · rfl
  · have hlatch : exec (.latchReturn l lock second fate) s = .next (latchReturned l lock second fate s.begun) :=
      carry_begun hs _
    rw [hlatch]
    refine ⟨fun hf => ?_, fun hf hsec => ?_, fun a hf hsec hl ha hq => ?_⟩
    · rw [latchReturned, if_pos hf]
    · rw [latchReturned, if_neg hf, if_pos hsec, loseController_gone]
    · rw [latchReturned, if_neg hf, if_neg (by simp [hsec]), sendLatch_framed (s := s.begun) hl ha hq]
      rfl

/-- Settles O38, input by input and timer by timer. -/
theorem laneMachine : Obligations.LaneMachine := ⟨claim_laneInputs, claim_laneTimers⟩

end Sys2Proof.Machine

namespace Sys2Proof.Machine

/-! # What the stock gives and takes back (R15, R16) -/

section
variable {s t : State} {k : Carousel} {c lot n : Nat}

/-- Two states of one stock. -/
def State.oneStock (s t : State) : Prop := t.lots = s.lots ∧ t.stock = s.stock

theorem State.oneStock.eq (h : s.oneStock t) : t = { t with lots := s.lots, stock := s.stock } := by
  obtain ⟨hl, hs⟩ := h
  rw [← hl, ← hs]

theorem State.oneStock.carrier (h : s.oneStock t) : t.carrier k c = s.carrier k c := by
  rw [h.eq]
  rfl

theorem State.oneStock.lotActive (h : s.oneStock t) : t.lotActive lot = s.lotActive lot := by
  rw [h.eq]
  rfl

/-- A change of a carrier's placements depends on the stock alone, and changes the stock and the mail alone. -/
theorem changePlacements_frame (h : s.oneStock t) (f : List Placement → List Placement) : ∃ lots stock rs,
    s.changePlacements k c f = { s with lots := lots, stock := stock, mail := s.mail ++ rs } ∧
      t.changePlacements k c f = { t with lots := lots, stock := stock, mail := t.mail ++ rs } := by
  rw [h.eq]
  have hc : State.carrier { t with lots := s.lots, stock := s.stock } k c = s.carrier k c := rfl
  cases hx : s.carrier k c with
  | none =>
    refine ⟨s.lots, s.stock, [], ?_, ?_⟩
    · simp [State.changePlacements, State.changeCarrier, hx]
    · simp [State.changePlacements, State.changeCarrier, hc, hx]
  | some x =>
    obtain ⟨car, hcar, -⟩ := carrier_stock hx
    have hcar' : State.stockCar { t with lots := s.lots, stock := s.stock } k = some car := hcar
    refine ⟨_, _, _, changeCarrier_effect hcar hx _, ?_⟩
    exact changeCarrier_effect hcar' (hc.trans hx) _

theorem releaseEntry_eq (s : State) (k : Carousel) (c lot n : Nat) : releaseEntry k c lot n s =
    if min n (s.reservedAt k c lot) = 0 then (s, 0)
    else (s.changePlacements k c (changePlacement lot fun p => { p with reserved := p.reserved - min n (s.reservedAt k c lot) }),
      min n (s.reservedAt k c lot)) := by
  unfold releaseEntry State.reservedAt
  cases s.carrier k c <;> simp

theorem releaseEntry_count (s : State) (k : Carousel) (c lot n : Nat) :
    (releaseEntry k c lot n s).2 = min n (s.reservedAt k c lot) := by
  rw [releaseEntry_eq]
  split
  · next h => exact h.symm
  · rfl

theorem State.oneStock.reservedAt (h : s.oneStock t) : t.reservedAt k c lot = s.reservedAt k c lot := by
  simp only [State.reservedAt, h.carrier]

/-- A release entry depends on the stock alone, and changes the stock and the mail alone. -/
theorem releaseEntry_frame (h : s.oneStock t) : ∃ lots stock rs g,
    releaseEntry k c lot n s = ({ s with lots := lots, stock := stock, mail := s.mail ++ rs }, g) ∧
      releaseEntry k c lot n t = ({ t with lots := lots, stock := stock, mail := t.mail ++ rs }, g) := by
  rw [releaseEntry_eq, releaseEntry_eq, h.reservedAt]
  generalize min n (s.reservedAt k c lot) = g
  by_cases hg : g = 0
  · refine ⟨s.lots, s.stock, [], 0, ?_, ?_⟩
    · rw [if_pos hg, List.append_nil]
    · rw [if_pos hg, List.append_nil, ← h.eq]
  · obtain ⟨lots, stock, rs, hs, ht⟩ := changePlacements_frame (k := k) (c := c) h
      (changePlacement lot fun p => { p with reserved := p.reserved - g })
    refine ⟨lots, stock, rs, g, ?_, ?_⟩
    · rw [if_neg hg, hs]
    · rw [if_neg hg, ht]

theorem State.oneStock.reserveGrant (h : s.oneStock t) : t.reserveGrant k c lot n = s.reserveGrant k c lot n := by
  rw [h.eq]
  rfl

theorem reserveEntry_frame (h : s.oneStock t) : ∃ lots stock rs g,
    reserveEntry k c lot n s = ({ s with lots := lots, stock := stock, mail := s.mail ++ rs }, g) ∧
      reserveEntry k c lot n t = ({ t with lots := lots, stock := stock, mail := t.mail ++ rs }, g) := by
  unfold reserveEntry
  rw [h.reserveGrant]
  dsimp only
  generalize s.reserveGrant k c lot n = g
  by_cases hg : g = 0
  · refine ⟨s.lots, s.stock, [], 0, ?_, ?_⟩
    · rw [if_pos hg, List.append_nil]
    · rw [if_pos hg, List.append_nil, ← h.eq]
  · obtain ⟨lots, stock, rs, hs, ht⟩ := changePlacements_frame (k := k) (c := c) h
      (changePlacement lot fun p => { p with reserved := p.reserved + g })
    refine ⟨lots, stock, rs, g, ?_, ?_⟩
    · rw [if_neg hg, hs]
    · rw [if_neg hg, ht]

/-- The placements of a carrier name each lot once. -/
def State.distinctOn (s : State) (k : Carousel) (c : Nat) : Prop := ∀ z, s.carrier k c = some z → (z.placements.map (·.lot)).Nodup

theorem changePlacements_carrier {x : Carrier} (hx : s.carrier k c = some x) (f : List Placement → List Placement) :
    ∃ z, (s.changePlacements k c f).carrier k c = some z ∧ z.placements = f x.placements := by
  obtain ⟨car, hcar, -⟩ := carrier_stock hx
  exact ⟨_, (restocked_reads hcar hx (changeCarrier_spec hx fun y => { y with placements := f y.placements }).1).2.1, rfl⟩

/-- What a change of one lot's counts, on-hand counts apart, leaves reserved of each lot; it is reported to nobody. -/
theorem changeCounts_reserved {f : Placement → Placement} {m : Nat} (hn : s.distinctOn k c) {x : Carrier}
    (hx : s.carrier k c = some x) (hf : ∀ q, (f q).lot = q.lot ∧ (f q).onHand = q.onHand) :
    (∀ p, placementOf lot x.placements = some p → (s.changePlacements k c (changePlacement lot f)).reservedAt k c lot =
        (f p).reserved) ∧
      (m ≠ lot → (s.changePlacements k c (changePlacement lot f)).reservedAt k c m = s.reservedAt k c m) ∧
      (s.changePlacements k c (changePlacement lot f)).mail = s.mail := by
  obtain ⟨z, hz, hps⟩ := changePlacements_carrier hx (changePlacement lot f)
  refine ⟨fun p hp => ?_, fun hm => ?_, ?_⟩
  · simp only [State.reservedAt, hz, hps]
    exact reservedOf_change (fun q => (hf q).1) (hn x hx) hp
  · simp only [State.reservedAt, hz, hps, hx, reservedOf, placementOf_change_other hm fun q => (hf q).1]
  · obtain ⟨-, -, hmail, -⟩ := changeCarrier_spec hx fun y => { y with placements := changePlacement lot f y.placements }
    rw [State.changePlacements, hmail, carrierReports_quiet hf s k c (hn x hx), List.append_nil]

theorem reservedAt_some {x : Carrier} (hx : s.carrier k c = some x) : s.reservedAt k c lot = reservedOf lot x.placements := by
  simp [State.reservedAt, hx]

/-- What a release leaves reserved; it is reported to nobody. -/
theorem releaseEntry_reserved (hn : s.distinctOn k c) :
    (releaseEntry k c lot n s).1.reservedAt k c lot = s.reservedAt k c lot - n ∧ (releaseEntry k c lot n s).1.mail = s.mail := by
  rw [releaseEntry_eq]
  generalize hg : min n (s.reservedAt k c lot) = g
  by_cases h0 : g = 0
  · rw [if_pos h0]
    refine ⟨?_, rfl⟩
    show s.reservedAt k c lot = _
    omega
  rw [if_neg h0]
  cases hx : s.carrier k c with
  | none =>
    have : s.reservedAt k c lot = 0 := by simp [State.reservedAt, hx]
    omega
  | some x =>
    cases hp : placementOf lot x.placements with
    | none =>
      have : s.reservedAt k c lot = 0 := by simp [State.reservedAt, hx, reservedOf, hp]
      omega
    | some p =>
      obtain ⟨hres, -, hmail⟩ := changeCounts_reserved (lot := lot) (m := lot) (f := fun p => { p with reserved := p.reserved - g })
        hn hx fun _ => ⟨rfl, rfl⟩
      refine ⟨(hres p hp).trans ?_, hmail⟩
      rw [reservedAt_some hx, reservedOf_some hp] at hg ⊢
      show p.reserved - g = _
      omega

/-- A grant to one lot leaves what is reserved of the others; it is reported to nobody. -/
theorem reserveEntry_reserved {m : Nat} (hn : s.distinctOn k c) (hm : m ≠ lot) :
    (reserveEntry k c lot n s).1.reservedAt k c m = s.reservedAt k c m ∧ (reserveEntry k c lot n s).1.mail = s.mail := by
  rw [reserveEntry]
  split
  · exact ⟨rfl, rfl⟩
  · next h0 =>
    cases hx : s.carrier k c with
    | none => simp [State.reserveGrant, hx] at h0
    | some x =>
      obtain ⟨-, hres, hmail⟩ := changeCounts_reserved (lot := lot) (m := m)
        (f := fun p => { p with reserved := p.reserved + s.reserveGrant k c lot n }) hn hx fun _ => ⟨rfl, rfl⟩
      exact ⟨hres hm, hmail⟩

end

end Sys2Proof.Machine

namespace Sys2Proof.Machine

/-! # The one release (R52) -/

section
variable {s t v : State} {p n : Nat} {x : Reservation} {why : Cause} {o : Order} {l l' : Line}

/-- What a release entry of `n` tyres of a reservation gives back: the stock's part of a release. -/
def State.gives (s : State) (x : Reservation) (n : Nat) : State × Nat := releaseEntry x.car x.carrier x.lot n s

/-- The stock and the line after a release of `n` tyres of a reservation. -/
def State.unreserved (s : State) (x : Reservation) (n : Nat) : State :=
  (s.gives x n).1.modLine x.order x.line fun l => { l with reserved := l.reserved - (s.gives x n).2 }

theorem releaseRes_count (hp : s.reservation p = some x) : (releaseRes why p n s).2 = (s.gives x n).2 := by
  simp only [releaseRes, hp]
  split
  · rfl
  split <;> rfl

theorem gives_le (s : State) (x : Reservation) (n : Nat) : (s.gives x n).2 ≤ n := by
  rw [State.gives, releaseEntry_count]
  exact Nat.min_le_left _ _

/-- A reservation given back whole leaves the pool. -/
theorem releaseRes_leaves (hp : s.reservation p = some x) (hg : x.count ≤ (s.gives x n).2) :
    (releaseRes why p n s).1 = leavePool p x.order ((s.unreserved x n).postAll (leaveReport why p x)) := by
  have h0 : x.count - (s.gives x n).2 = 0 := by omega
  rw [State.gives] at h0
  simp only [releaseRes, hp, h0, if_true]
  rfl

/-- A reservation released whole, of which the stock keeps some, stays struck. -/
theorem releaseRes_stays (hp : s.reservation p = some x) (hg : (s.gives x x.count).2 < x.count) :
    (releaseRes why p x.count s).1 =
      ((s.unreserved x x.count).setRes p
        { x with count := x.count - (s.gives x x.count).2, struck := true, expiry := none }).postAll
          (if x.substitute then [] else [.pickStruck x.car ⟨resId p x, why⟩]) := by
  have h0 : x.count - (s.gives x x.count).2 ≠ 0 := by omega
  rw [State.gives] at h0
  simp only [releaseRes, hp, h0, if_true, if_false]
  cases x.substitute
  · rfl
  · exact (postAll_nil _).symm

/-- A reservation cut by `n` tyres. -/
theorem releaseRes_cut (hp : s.reservation p = some x) (hsub : x.substitute = false) (hn : n < x.count) :
    (releaseRes why p n s).1 = ((s.unreserved x n).setRes p { x with count := x.count - (s.gives x n).2 }).post
      (.pickNewCount x.car (resId p x) ⟨x.count - (s.gives x n).2, why⟩) := by
  have hle := gives_le s x n
  have h0 : x.count - (s.gives x n).2 ≠ 0 := by omega
  have hne : n ≠ x.count := Nat.ne_of_lt hn
  rw [State.gives] at h0
  simp only [releaseRes, hp, h0, hne, hsub, Bool.false_eq_true, if_false]
  rfl

/-- The stock's part of a release depends on the stock alone. -/
theorem gives_frame (h : s.oneStock v) (hm : v.mail = s.mail) (x : Reservation) (n : Nat) :
    (v.gives x n).1 = { v with lots := (s.gives x n).1.lots, stock := (s.gives x n).1.stock, mail := (s.gives x n).1.mail } ∧
      (v.gives x n).2 = (s.gives x n).2 := by
  obtain ⟨lots, stock, rs, g, hs, hv⟩ := releaseEntry_frame (k := x.car) (c := x.carrier) (lot := x.lot) (n := n) h
  unfold State.gives
  rw [hs, hv, hm]
  exact ⟨rfl, rfl⟩

/-- What a release of `x` in place `p` leaves, by what the stock of `s` gives back; its line then stands as `l'`. -/
structure State.GivenBack (s : State) (p : Nat) (x : Reservation) (o : Order) (l' : Line) (t : State) : Prop where
  order : t.order x.order = some { o with lines := o.lines.set x.line l' }
  lots : t.lots = (s.gives x x.count).1.lots
  stock : t.stock = (s.gives x x.count).1.stock
  whole : (s.gives x x.count).2 = x.count → s.placeHolds p none t ∧ t.mail = (s.gives x x.count).1.mail ++
    [if x.state = .presented then .pickStruck x.car ⟨resId p x, .other⟩ else .pickDrop x.car (resId p x)]
  part : (s.gives x x.count).2 < x.count →
    s.placeHolds p (some { x with count := x.count - (s.gives x x.count).2, struck := true, expiry := none }) t ∧
      t.mail = (s.gives x x.count).1.mail ++ [.pickStruck x.car ⟨resId p x, .other⟩]

theorem leaveReport_task (hsub : x.substitute = false) : leaveReport why p x =
    [if x.state = .presented then .pickStruck x.car ⟨resId p x, why⟩ else .pickDrop x.car (resId p x)] := by
  unfold leaveReport
  rw [hsub]
  cases x.state <;> rfl

theorem State.placeHolds.of_start {u : State} {e : Option Reservation} (h : u.placeHolds p e t) (hu : u.book.pool = s.book.pool) :
    s.placeHolds p e t := by
  unfold State.placeHolds State.reservation at *
  rwa [hu] at h

/-- The one live reservation concerned is released, while no pass is due. -/
theorem releaseRes_givenBack (hv : s.oneStock v) (hm : v.mail = s.mail) (hb : v.book = s.book) (hp : s.reservation p = some x)
    (hsub : x.substitute = false) (hw : twf s.book.pool = true) (hpf : s.book.poolFull = false) (hf : s.book.freed = false)
    (ho : s.order x.order = some o) (hl : o.lines[x.line]? = some l) (hlv : o.leaving = false)
    (hl' : l' = Line.settled { l with reserved := l.reserved - (s.gives x x.count).2 }) :
    s.GivenBack p x o l' (releaseRes .other p x.count v).1 ∧ (releaseRes .other p x.count v).1.book.freed = false ∧
      (releaseRes .other p x.count v).1 = { v with
        lots := (releaseRes .other p x.count v).1.lots, stock := (releaseRes .other p x.count v).1.stock
        book := (releaseRes .other p x.count v).1.book, mail := (releaseRes .other p x.count v).1.mail } := by
  obtain ⟨hgive, hcount⟩ := gives_frame hv hm x x.count
  have hp' : v.reservation p = some x := by
    rw [State.reservation, hb]
    exact hp
  generalize hu : v.unreserved x x.count = u
  have hub : u.book = { s.book with orders := u.book.orders } := by
    rw [← hu, State.unreserved, hgive, ← hb]
    rfl
  have hrest : u = { v with lots := u.lots, stock := u.stock, book := u.book, mail := u.mail } := by
    rw [← hu, State.unreserved, hgive]
    rfl
  have hstock : u.lots = (s.gives x x.count).1.lots ∧ u.stock = (s.gives x x.count).1.stock ∧
      u.mail = (s.gives x x.count).1.mail := by
    rw [← hu, State.unreserved, hgive]
    exact ⟨rfl, rfl, rfl⟩
  obtain ⟨hlots, hstocks, hmail⟩ := hstock
  have hline : u.order x.order = some { o with lines := o.lines.set x.line l' } := by
    rw [hl', ← hcount, ← hu]
    refine (modLine_orderIs _ ?_ hl).1
    rw [hgive, State.order, hb]
    exact ho
  have hpool : u.book.pool = s.book.pool := by rw [hub]
  have hfreed : u.book.freed = false := by rw [hub]; exact hf
  have hfull : u.book.poolFull = false := by rw [hub]; exact hpf
  rcases Nat.lt_or_ge (s.gives x x.count).2 x.count with hlt | hge
  · have hres := releaseRes_stays (why := .other) hp' (by rw [hcount]; exact hlt)
    rw [if_neg (by rw [hsub]; nofun), hcount, hu] at hres
    rw [hres]
    refine ⟨⟨hline, hlots, hstocks, fun he => absurd he (Nat.ne_of_lt hlt), fun _ => ⟨?_, ?_⟩⟩, hfreed, ?_⟩
    · exact (setRes_placeHolds u p _).of_start hpool
    · rw [← hmail]
      rfl
    · rw [hrest]
      rfl
  · have hres := releaseRes_leaves (why := .other) hp' (by rw [hcount]; exact hge)
    rw [hu, leavePool_calm (s := u.postAll _) hline hlv hfull hfreed, leaveReport_task hsub] at hres
    rw [hres]
    refine ⟨⟨hline, hlots, hstocks, fun _ => ⟨?_, ?_⟩, fun hlt => absurd hlt (Nat.not_lt.2 hge)⟩, hfreed, ?_⟩
    · exact (dropRes_placeHolds (s := u) (by rw [hpool]; exact hw) p).of_start hpool
    · rw [← hmail]
      rfl
    · rw [hrest]
      rfl

/-- A line that avoids a carousel (R54). -/
theorem State.GivenBack.avoids {u : State} {k : Carousel} (h : s.GivenBack p x o l' u) (hi : x.line < o.lines.length) :
    s.GivenBack p x o (Line.settled { l' with avoid := some k }) (u.modLine x.order x.line fun l => { l with avoid := some k }) where
  order := by
    have hget : (o.lines.set x.line l')[x.line]? = some l' := by simp [hi]
    have := (modLine_orderIs (fun l => { l with avoid := some k }) h.order hget).1
    simpa using this
  lots := h.lots
  stock := h.stock
  whole := h.whole
  part := h.part

theorem settled_avoid (l : Line) (k : Carousel) :
    Line.settled { l.settled with avoid := some k } = Line.settled { l with avoid := some k } := by
  unfold Line.settled
  by_cases h : l.state = .waiting
  · rw [if_pos h]
  · have hcleared : ¬ Line.state { l with waitingReported := false, avoid := some k } = .waiting := h
    have havoid : ¬ Line.state { l with avoid := some k } = .waiting := h
    rw [if_neg h, if_neg hcleared, if_neg havoid]

/-- The places and the lines of the one live reservation concerned. -/
theorem liveLines_single {f : Reservation → Bool} (hw : twf s.book.pool = true) (hp : s.reservation p = some x)
    (hl : s.livePlaces f = [p]) : s.liveLines f = [(x.order, x.line)] := by
  unfold State.livePlaces at hl
  unfold State.liveLines
  obtain ⟨e, he, hep⟩ := List.map_eq_singleton_iff.1 hl
  have hmem : e ∈ s.book.pool := (List.mem_filter.1 (he ▸ List.mem_singleton_self e)).1
  have hx : e.2 = x := by
    have := tget_of_mem hw (n := e.1) (v := e.2) hmem
    rw [hep] at this
    exact Option.some.inj (this.symm.trans hp)
  rw [he, List.map_singleton, hx]

theorem releaseWhole_live (hp : s.reservation p = some x) (hs : x.struck = false) :
    releaseWhole p s = releaseRes .other p x.count s := by
  simp [releaseWhole, hp, Reservation.live, hs]

/-! ## Trims (R62) -/

theorem gives_some {k : Carousel} {c lot : Nat} (hk : x.car = k) (hc : x.carrier = c) (hl : x.lot = lot) (s : State) (n : Nat) :
    s.gives x n = releaseEntry k c lot n s := by rw [State.gives, hk, hc, hl]

/-- A cut of one reservation leaves what its stock entry leaves reserved. -/
theorem releaseRes_cut_reserved {k : Carousel} {c lot : Nat} (hp : s.reservation p = some x) (hsub : x.substitute = false)
    (hk : x.car = k) (hc : x.carrier = c) (hl : x.lot = lot) (hn : n < x.count) (hd : s.distinctOn k c) :
    (releaseRes .other p n s).1.reservedAt k c lot = s.reservedAt k c lot - n := by
  rw [releaseRes_cut hp hsub hn, ← (releaseEntry_reserved (lot := lot) (n := n) hd).1, ← gives_some hk hc hl]
  rfl

/-- A trim that the newest reservation of the placement covers (R62). -/
theorem trim_newest {k : Carousel} {c lot target : Nat} {rest : List Nat} (hp : s.reservation p = some x)
    (hsub : x.substitute = false) (hk : x.car = k) (hc : x.carrier = c) (hl : x.lot = lot)
    (hn : n = s.reservedAt k c lot - target) (h0 : 0 < n) (hlt : n < x.count) (hd : s.distinctOn k c) :
    (releaseRes .other p n s).1.reservedAt k c lot = target ∧
      (p :: rest).foldl (trimOne k c lot target) (s, []) = ((releaseRes .other p n s).1, [(x.order, x.line)]) := by
  have htarget : (releaseRes .other p n s).1.reservedAt k c lot = target := by
    rw [releaseRes_cut_reserved hp hsub hk hc hl hlt hd]
    omega
  have hfirst : trimOne k c lot target (s, []) p = ((releaseRes .other p n s).1, [(x.order, x.line)]) := by
    have hne : s.reservedAt k c lot - target ≠ 0 := by omega
    have hmin : min (s.reservedAt k c lot - target) x.count = n := by omega
    simp only [trimOne, hne, hp, hmin, if_false, List.nil_append]
  refine ⟨htarget, ?_⟩
  rw [List.foldl_cons, hfirst]
  induction rest with
  | nil => rfl
  | cons q rest ih =>
    rw [List.foldl_cons]
    have hstay : trimOne k c lot target ((releaseRes .other p n s).1, [(x.order, x.line)]) q =
        ((releaseRes .other p n s).1, [(x.order, x.line)]) := by
      simp only [trimOne, htarget, Nat.sub_self, if_true]
    rw [hstay]
    exact ih

theorem exec_auditTrim (s : State) (k : Carousel) (c lot target : Nat) (hs : s.resetLow = false) :
    exec (.auditTrim k c lot target) s = .next ((takeTrim k c lot target s.begun).1.ans
      (.trimmed (takeTrim k c lot target s.begun).2)) :=
  carry_begun hs fun s => (takeTrim k c lot target s).1.ans (.trimmed (takeTrim k c lot target s).2)

/-- The expiry of a live reservation (R54). -/
theorem resExpired_live {d : Nat} (hp : s.reservation p = some x) (hstr : x.struck = false) (hd : x.expiry = some d)
    (hcell : s.mgmt.cell ≠ .halted) (hst : x.state ≠ .presented) :
    resExpired p s = passAfter [(x.order, x.line)] none
      (handNotice (.reservationExpired x.order (s.orderRef x.order) x.line x.car x.carrier x.lot (s.gives x x.count).2)
        ((releaseRes .other p x.count (s.reach d)).1.modLine x.order x.line fun l => { l with avoid := some x.car })) := by
  have hno : ¬ (s.mgmt.cell = .halted ∨ x.state = .presented ∨ x.struck = true) := by
    rw [hstr]
    rintro (h | h | h)
    · exact hcell h
    · exact hst h
    · cases h
  have hcount : (releaseRes .other p x.count (s.reach d)).2 = (s.gives x x.count).2 :=
    (releaseRes_count (s := s.reach d) hp).trans (gives_frame (s := s) (v := s.reach d) ⟨rfl, rfl⟩ rfl x x.count).2
  simp only [resExpired, hp, hd, if_neg hno, releaseWhole_live (s := s.reach d) hp hstr, hcount]

end

theorem claim_releaseCounts : Claims.ReleaseCounts := by
  intro s p x o l hs hp hstr hsub hw hpf hf ho hl hst hlv hc gives line leaves
  have passed : ∀ {u : State} {ls : List Line}, u.order x.order = some { o with lines := ls } →
      ∀ y ∈ [(x.order, x.line)], u.passedOver y := by
    rintro u ls hu y hy
    rw [List.mem_singleton.1 hy]
    exact passedOver_of_state (x := (x.order, x.line)) hu hst
  refine ⟨fun hone => ?held, fun d hd hcell hnp hroom => ?expired, fun target n rest htrim hn h0 hlt hdist => ?trimmed⟩
  case held =>
    obtain ⟨hgb, hfreed, hrest⟩ :=
      releaseRes_givenBack (s := s) (v := s.begun) ⟨rfl, rfl⟩ rfl rfl hp hsub hw hpf hf ho hl hlv rfl
    have hexec : exec (.holdHandover x.lot) s = .next (takeHold x.lot s.begun) := carry_begun hs _
    have hplaces : s.begun.livePlaces (fun r => r.lot = x.lot) = [p] := hone
    have hlines : s.begun.liveLines (fun r => r.lot = x.lot) = [(x.order, x.line)] := liveLines_single hw hp hone
    have htake : takeHold x.lot s.begun = (releaseRes .other p x.count s.begun).1 := by
      rw [takeHold, releaseWhere, hplaces, hlines]
      have hall : releaseAll [p] s.begun = (releaseRes .other p x.count s.begun).1 :=
        congrArg Prod.fst (releaseWhole_live (s := s.begun) hp hstr)
      rw [hall, passAfter_passedOver (passed hgb.order) hfreed]
    rw [htake] at hexec
    exact ⟨_, hexec, ⟨hgb.order, hgb.lots, hgb.stock, hgb.whole, hgb.part⟩, hrest⟩
  case expired =>
    obtain ⟨hgb, hfreed, hrest⟩ :=
      releaseRes_givenBack (s := s) (v := s.begun.reach d) ⟨rfl, rfl⟩ rfl rfl hp hsub hw hpf hf ho hl hlv rfl
    have hav := hgb.avoids (k := x.car) (List.getElem?_eq_some_iff.1 hl).1
    rw [settled_avoid] at hav
    have hexec : exec (.reservationExpiry p) s = .next (resExpired p s.begun) := carry_begun hs _
    have href : s.begun.orderRef x.order = o.ref := by simp [State.orderRef, show s.begun.order x.order = some o from ho]
    have hcount : (s.begun.gives x x.count).2 = (s.gives x x.count).2 :=
      (gives_frame (s := s) (v := s.begun) ⟨rfl, rfl⟩ rfl x x.count).2
    generalize hu : (releaseRes .other p x.count (s.begun.reach d)).1 = u at hgb hfreed hrest hav
    have hmgmt : u.mgmt = s.mgmt := by rw [hrest]; rfl
    have hroom' : u.mgmt.notices.length < 64 := by rw [hmgmt]; exact hroom
    rw [resExpired_live (s := s.begun) hp hstr hd hcell hnp, hu, href, hcount, handNotice_room _ (by exact hroom'),
      passAfter_passedOver (passed (by exact hav.order)) (by exact hfreed)] at hexec
    refine ⟨_, hexec, ⟨hav.order, hav.lots, hav.stock, hav.whole, hav.part⟩, ?_, ?_, ?_⟩
    · rw [hrest]
      rfl
    · unfold State.noticed
      rw [← hmgmt]
      rfl
    · rw [hrest]
      rfl
  case trimmed =>
    obtain ⟨htarget, hfold⟩ := trim_newest (s := s.begun) (p := p) (rest := rest) hp hsub rfl rfl rfl hn h0 hlt hdist
    obtain ⟨hgive, hcount⟩ := gives_frame (s := s) (v := s.begun) ⟨rfl, rfl⟩ rfl x n
    have hgn : (s.gives x n).2 = n := by
      rw [State.gives, releaseEntry_count]
      omega
    have hcut := releaseRes_cut (s := s.begun) (why := .other) hp hsub hlt
    rw [State.unreserved, hgive, hcount, hgn] at hcut
    generalize hu : (releaseRes .other p n s.begun).1 = u at hcut htarget hfold
    have horder : u.order x.order = some { o with lines := o.lines.set x.line (line n l.avoid).settled } := by
      have hline : line n l.avoid = { l with reserved := l.reserved - n } :=
        congrArg (fun g => { l with reserved := l.reserved - g }) hgn
      rw [hline, hcut]
      exact (modLine_orderIs (s := s.begun) (fun l => { l with reserved := l.reserved - n }) ho hl).1
    have hfreed : u.book.freed = false := by rw [hcut]; exact hf
    have hexec := exec_auditTrim s x.car x.carrier x.lot target hs
    have htake : takeTrim x.car x.carrier x.lot target s.begun = (u, target) := by
      rw [takeTrim, show s.begun.trimOrder x.car x.carrier x.lot = p :: rest from htrim, hfold]
      dsimp only
      rw [htarget, passAfter_passedOver (passed horder) hfreed]
    rw [htake] at hexec
    refine ⟨_, hexec, rfl, ?_, ?_, ?_, horder, ?_⟩
    · rw [hcut]
      exact setRes_placeHolds (s.modLine x.order x.line fun l => { l with reserved := l.reserved - n }) p _
    · rw [hcut]
      rfl
    · rw [hcut]
      rfl
    · rw [hcut]
      rfl

end Sys2Proof.Machine

namespace Sys2Proof.Machine

/-! # Live reservations released whole (R52, R54, R61, R63) -/

section
variable {s t u : State} {p q n h : Nat} {x : Reservation} {why : Cause}

theorem leavePool_pool : (leavePool p h s).book.pool = tdel p s.book.pool := by
  unfold leavePool vacate
  dsimp only
  split
  · split
    · exact pool_of_slots (s := (s.modBook fun b => { b with poolFull := false, freed := b.freed || b.poolFull }).modBook
        fun b => { b with pool := tdel p b.pool }) leaveTable_slots
    · rfl
  · rfl

theorem leavePool_mgmt : (leavePool p h s).mgmt = s.mgmt := by
  unfold leavePool vacate
  dsimp only
  split
  · split
    · rw [leaveTable_book]
      rfl
    · rfl
  · rfl

theorem leavePool_mail : (leavePool p h s).mail = s.mail := by
  unfold leavePool vacate
  dsimp only
  split
  · split
    · rw [leaveTable_book]
      rfl
    · rfl
  · rfl

theorem unreserved_pool : (s.unreserved x n).book.pool = s.book.pool :=
  pool_of_slots (State.modLine_slots.trans releaseEntry_slots)

theorem unreserved_mgmt : (s.unreserved x n).mgmt = s.mgmt := by
  obtain ⟨lots, stock, rs, g, hs, -⟩ := releaseEntry_frame (k := x.car) (c := x.carrier) (lot := x.lot) (n := n) (s := s) ⟨rfl, rfl⟩
  rw [State.unreserved, State.gives, hs]
  rfl

/-- A release of `n` tyres takes the reservation out of the pool or writes it over. -/
theorem releaseRes_written (why : Cause) (n : Nat) (hp : s.reservation p = some x) :
    (releaseRes why p n s).1 = leavePool p x.order ((s.unreserved x n).postAll (leaveReport why p x)) ∨
      ∃ y cs, (releaseRes why p n s).1 = ((s.unreserved x n).setRes p y).postAll cs := by
  rcases Nat.lt_or_ge (s.gives x n).2 x.count with hlt | hge
  · right
    have h0 : x.count - (s.gives x n).2 ≠ 0 := by omega
    rw [State.gives] at h0
    by_cases hn : n = x.count
    · subst hn
      exact ⟨_, _, releaseRes_stays hp hlt⟩
    · simp only [releaseRes, hp, h0, hn, if_false]
      cases x.substitute
      · exact ⟨_, [_], rfl⟩
      · exact ⟨_, _, (postAll_nil _).symm⟩
  · exact .inl (releaseRes_leaves hp hge)

theorem releaseRes_mgmt : (releaseRes why p n s).1.mgmt = s.mgmt := by
  cases hp : s.reservation p with
  | none => simp [releaseRes, hp]
  | some x =>
    rw [← unreserved_mgmt (s := s) (x := x) (n := n)]
    rcases releaseRes_written why n hp with h | ⟨y, cs, h⟩
    · rw [h, leavePool_mgmt]
      rfl
    · rw [h]
      rfl

theorem releaseRes_other (hq : q ≠ p) : (releaseRes why p n s).1.reservation q = s.reservation q := by
  cases hp : s.reservation p with
  | none => simp [releaseRes, hp]
  | some x =>
    have hpool : ∀ z : Table Reservation, (releaseRes why p n s).1.book.pool = z → tget q z = tget q s.book.pool →
        (releaseRes why p n s).1.reservation q = s.reservation q := fun z hz he => by
      rw [State.reservation, hz, he, State.reservation]
    rcases releaseRes_written why n hp with h | ⟨y, cs, h⟩
    · refine hpool (tdel p s.book.pool) ?_ (tget_tdel_other hq _)
      rw [h, leavePool_pool, ← unreserved_pool (s := s) (x := x) (n := n)]
      rfl
    · refine hpool (tput p y s.book.pool) ?_ (tget_tput_other hq _ _)
      rw [h, ← unreserved_pool (s := s) (x := x) (n := n)]
      rfl

theorem State.Resolves.now (h : s.Resolves t) : t.now = s.now := by rw [h.rest]

/-- What is left of the reservation `x` of place `p` is struck. -/
def State.Dead (t : State) (p : Nat) (x : Reservation) : Prop := ∀ y, t.resOf (resId p x) = some y → y.struck = true

/-- The sequencer of the reservation `x` of place `p` has been told that it is no longer live. -/
def State.toldEnd (t : State) (why : Cause) (p : Nat) (x : Reservation) : Prop :=
  .pickStruck x.car ⟨resId p x, why⟩ ∈ t.mail ∨ (x.state ≠ .presented ∧ .pickDrop x.car (resId p x) ∈ t.mail)

theorem State.Dead.resolves (h : t.Dead p x) (hr : t.Resolves u) (hw : twf t.book.pool = true) (hc : x.seq < t.book.creations) :
    u.Dead p x := by
  intro y hy
  by_contra hlive
  obtain ⟨z, hz, hzs⟩ := hr.lives hw (resId p x) y hc hy (Bool.eq_false_of_not_eq_true hlive)
  rw [h z hz] at hzs
  cases hzs

theorem State.toldEnd.resolves (h : t.toldEnd why p x) (hr : t.Resolves u) : u.toldEnd why p x :=
  h.imp (fun h => hr.mail.subset h) (And.imp_right fun h => hr.mail.subset h)

/-- A reservation released whole is no longer live. -/
theorem releaseRes_dead (hp : s.reservation p = some x) (hw : twf s.book.pool = true) : (releaseRes why p x.count s).1.Dead p x := by
  intro y hy
  have hy := (resOf_eq_some.1 hy).1
  unfold State.reservation resId at hy
  rcases Nat.lt_or_ge (s.gives x x.count).2 x.count with hlt | hge
  · rw [releaseRes_stays hp hlt] at hy
    obtain rfl := Option.some.inj ((tget_tput_same p _ _).symm.trans hy)
    rfl
  · rw [releaseRes_leaves hp hge, leavePool_pool] at hy
    have hnone := (tget_tdel_same (by rw [State.postAll_book, unreserved_pool]; exact hw)).symm.trans hy
    cases hnone

theorem releaseRes_told (hp : s.reservation p = some x) (hsub : x.substitute = false) :
    (releaseRes why p x.count s).1.toldEnd why p x := by
  rcases Nat.lt_or_ge (s.gives x x.count).2 x.count with hlt | hge
  · rw [releaseRes_stays hp hlt, if_neg (by rw [hsub]; nofun)]
    exact .inl (List.mem_append_right _ (List.mem_singleton_self _))
  · rw [releaseRes_leaves hp hge, leaveReport_task hsub]
    unfold State.toldEnd
    rw [leavePool_mail]
    by_cases hst : x.state = .presented
    · rw [if_pos hst]
      exact .inl (List.mem_append_right _ (List.mem_singleton_self _))
    · rw [if_neg hst]
      exact .inr ⟨hst, List.mem_append_right _ (List.mem_singleton_self _)⟩

/-- A live reservation among several that are released is no longer live, and its sequencer has been told. -/
theorem releaseAll_ends {ps : List Nat} (hm : p ∈ ps) (hp : s.reservation p = some x) (hstr : x.struck = false)
    (hsub : x.substitute = false) (hw : twf s.book.pool = true) (hc : x.seq < s.book.creations) :
    (releaseAll ps s).Dead p x ∧ (releaseAll ps s).toldEnd .other p x := by
  induction ps generalizing s with
  | nil => cases hm
  | cons q ps ih =>
    show (releaseAll ps (releaseWhole q s).1).Dead p x ∧ (releaseAll ps (releaseWhole q s).1).toldEnd .other p x
    have hfirst : s.Resolves (releaseWhole q s).1 := (State.Resolves.refl s).releaseWhole
    have hw' := hfirst.canonical hw
    have hc' := Nat.lt_of_lt_of_le hc hfirst.creations
    by_cases hq : q = p
    · subst hq
      have hrest : (releaseWhole q s).1.Resolves (releaseAll ps (releaseWhole q s).1) := (State.Resolves.refl _).releaseAll
      have hone : (releaseWhole q s).1 = (releaseRes .other q x.count s).1 := congrArg Prod.fst (releaseWhole_live hp hstr)
      have hdead : (releaseWhole q s).1.Dead q x := hone ▸ releaseRes_dead hp hw
      have htold : (releaseWhole q s).1.toldEnd .other q x := hone ▸ releaseRes_told hp hsub
      exact ⟨hdead.resolves hrest hw' hc', htold.resolves hrest⟩
    · have hm' : p ∈ ps := (List.mem_cons.1 hm).resolve_left (Ne.symm hq)
      refine ih hm' ?_ hw' hc'
      unfold releaseWhole
      split
      · split
        · rw [releaseRes_other (Ne.symm hq)]
          exact hp
        · exact hp
      · exact hp

theorem mem_livePlaces {f : Reservation → Bool} (hp : s.reservation p = some x) (hstr : x.struck = false) (hf : f x = true) :
    p ∈ s.livePlaces f := by
  refine List.mem_map.2 ⟨(p, x), List.mem_filter.2 ⟨mem_of_tget hp, ?_⟩, rfl⟩
  simp [Reservation.live, hstr, hf]

theorem releaseWhere_none {f : Reservation → Bool} (h : s.livePlaces f = []) (hf : s.book.freed = false) : releaseWhere f s = s := by
  have hl : s.liveLines f = [] := by
    unfold State.liveLines
    rw [List.map_eq_nil_iff.1 h]
    rfl
  rw [releaseWhere, h, hl]
  exact passAfter_passedOver nofun hf

/-- An expiry that finds nothing to release (R54). -/
theorem resExpired_idle (h : ∀ x, s.reservation p = some x →
    x.expiry = none ∨ s.mgmt.cell = .halted ∨ x.state = .presented ∨ x.struck = true) : resExpired p s = s := by
  unfold resExpired
  split
  · rfl
  · next x hp =>
    split
    · rfl
    · next d hd => exact if_pos ((h x hp).resolve_left (by simp [hd]))

end

theorem claim_liveReleases : Claims.LiveReleases := by
  intro s hs hf
  have hhold : ∀ lot, exec (.holdHandover lot) s = .next (takeHold lot s.begun) := fun _ => carry_begun hs _
  have hcarriers : ∀ k cs, exec (.carrierRelease k cs) s = .next (takeCarrierRelease k cs s.begun) := fun _ _ => carry_begun hs _
  have hshort : ∀ r n, exec (.shortReport r n) s = .next (takeShort r n s.begun) := fun _ _ => carry_begun hs _
  have hexpiry : ∀ p, exec (.reservationExpiry p) s = .next (resExpired p s.begun) := fun _ => carry_begun hs _
  refine ⟨fun p x hp hstr hsub hcount hw hc c hcase => ?released, fun lot hl => ?_, fun k cs hl => ?_, fun r n hr => ?_,
    fun p hr => ?_⟩
  case released =>
    have hselected : ∀ (f : Reservation → Bool), f x = true →
        (releaseWhere f s.begun).Dead p x ∧ (releaseWhere f s.begun).toldEnd .other p x ∧ s.onlyOrders (releaseWhere f s.begun) ∧
          (releaseWhere f s.begun).now = s.now := by
      intro f hfx
      have hall : s.begun.Resolves (releaseAll (s.begun.livePlaces f) s.begun) := (State.Resolves.refl _).releaseAll
      have hend : s.begun.Resolves (releaseWhere f s.begun) := (State.Resolves.refl _).releaseWhere
      have hrest : (releaseAll (s.begun.livePlaces f) s.begun).Resolves (releaseWhere f s.begun) :=
        (State.Resolves.refl _).passAfter
      obtain ⟨hdead, htold⟩ := releaseAll_ends (s := s.begun) (mem_livePlaces (s := s.begun) hp hstr hfx) hp hstr hsub hw hc
      exact ⟨hdead.resolves hrest (hall.canonical hw) (Nat.lt_of_lt_of_le hc hall.creations), htold.resolves hrest,
        hend.onlyOrders _ _, hend.now⟩
    rcases hcase with rfl | ⟨cs, hcs, rfl⟩ | ⟨n, rfl, hst, hn⟩ | ⟨rfl, hexp, hcell, hst⟩
    · obtain ⟨hdead, htold, honly, hnow⟩ := hselected (fun r => r.lot = x.lot) (decide_eq_true rfl)
      exact ⟨_, hhold _, hdead, htold, nofun, fun _ => hnow, honly⟩
    · obtain ⟨hdead, htold, honly, hnow⟩ := hselected (fun r => r.car = x.car && r.carrier ∈ cs) (by simp [hcs])
      exact ⟨_, hcarriers _ _, hdead, htold, nofun, fun _ => hnow, honly⟩
    · have hres : s.begun.resOf { place := p, seq := x.seq } = some x := resOf_eq_some.2 ⟨hp, rfl⟩
      have hone : s.begun.Resolves (releaseRes .short p x.count s.begun).1 := (State.Resolves.refl _).releaseRes
      have hpass : (releaseRes .short p x.count s.begun).1.Resolves (takeShort { place := p, seq := x.seq } n s.begun) := by
        simp only [takeShort, hres, Reservation.live, hstr, hst, Nat.min_eq_right hn]
        exact (State.Resolves.refl _).passAfter
      have hend := hone.trans hpass
      exact ⟨_, hshort _ _, (releaseRes_dead (s := s.begun) hp hw).resolves hpass (hone.canonical hw)
        (Nat.lt_of_lt_of_le hc hone.creations), (releaseRes_told (s := s.begun) hp hsub).resolves hpass, nofun,
        fun _ => hend.now, hend.onlyOrders _ _⟩
    · obtain ⟨d, hd⟩ := Option.ne_none_iff_exists'.1 hexp
      have hexec := hexpiry p
      rw [resExpired_live (s := s.begun) hp hstr hd hcell hst] at hexec
      generalize hu : (releaseRes .other p x.count (s.begun.reach d)).1 = u at hexec
      generalize ha : u.modLine x.order x.line (fun l => { l with avoid := some x.car }) = a at hexec
      generalize hb : NoticeBody.reservationExpired x.order (s.begun.orderRef x.order) x.line x.car x.carrier x.lot
        (s.begun.gives x x.count).2 = b at hexec
      generalize ht : passAfter [(x.order, x.line)] none (handNotice b a) = t at hexec
      have hone : (s.begun.reach d).Resolves u := hu ▸ (State.Resolves.refl _).releaseRes
      have hpass : (handNotice b a).Resolves t := ht ▸ (State.Resolves.refl _).passAfter
      have hline : u.Resolves a := ha ▸ (State.Resolves.refl _).modLine
      have hafter : u.Resolves t := (hline.handNotice (hb ▸ rfl)).trans hpass
      have hend := hone.trans hafter
      have hdead : u.Dead p x := hu ▸ releaseRes_dead (s := s.begun.reach d) hp hw
      have htold : u.toldEnd .other p x := hu ▸ releaseRes_told (s := s.begun.reach d) hp hsub
      have hmgmt : a.mgmt = s.mgmt := by
        rw [← ha, ← hu]
        exact releaseRes_mgmt
      refine ⟨t, hexec, hdead.resolves hafter (hone.canonical hw) (Nat.lt_of_lt_of_le hc hone.creations), htold.resolves hafter,
        fun d' _ hd' => ?_, fun hne => absurd rfl hne, ?_, hend.mail⟩
      · obtain rfl := Option.some.inj (hd.symm.trans hd')
        refine ⟨hend.now, fun hroom => ⟨{ seq := a.mgmt.noticeSeq, body := b }, hpass.notices.subset ?_, _, hb.symm⟩⟩
        rw [handNotice_room _ (by rw [hmgmt]; exact hroom)]
        exact List.mem_append_right _ (List.mem_singleton_self _)
      · rw [hend.rest]
        rfl
  · rw [hhold, takeHold, releaseWhere_none (s := s.begun) (by exact hl) hf]
  · rw [hcarriers, takeCarrierRelease, releaseWhere_none (s := s.begun) (by exact hl) hf]
  · rw [hshort, takeShort]
    cases h : s.begun.resOf r with
    | none => rfl
    | some x =>
      have hno : (x.live && x.state == .presented) = false := by
        rcases hr x h with h | h
        · simp [Reservation.live, h]
        · simp [h]
      simp [hno]
  · rw [hexpiry, resExpired_idle (s := s.begun) hr]

end Sys2Proof.Machine

namespace Sys2Proof.Machine

/-! # Trims and substitutions (R62, R64) -/

/-! ## The lowest free number of a table -/

theorem tfree_of_lt {α : Type} {i : Nat} {t : Table α} (h : ∀ e ∈ t, i < e.1) : tfree i t = i := by
  induction t with
  | nil => rfl
  | cons e t ih =>
    rw [tfree, if_neg (Nat.ne_of_gt (h e (.head _)))]
    exact ih fun a ha => h a (.tail _ ha)

theorem tget_tfree_from {α : Type} {i : Nat} {t : Table α} (hw : twf t = true) (h : ∀ e ∈ t, i ≤ e.1) :
    i ≤ tfree i t ∧ tget (tfree i t) t = none := by
  rw [twf_iff] at hw
  induction t generalizing i with
  | nil => exact ⟨Nat.le_refl _, rfl⟩
  | cons e t ih =>
    obtain ⟨m, v⟩ := e
    obtain ⟨hlt, hw'⟩ := List.pairwise_cons.1 hw
    by_cases hm : m = i
    · obtain ⟨hle, hnone⟩ := ih (i := i + 1) hw' fun a ha => Nat.succ_le_of_lt (hm ▸ hlt a ha)
      rw [tfree, if_pos hm, tget, if_neg (by omega)]
      exact ⟨by omega, hnone⟩
    · have hi : i < m := Nat.lt_of_le_of_ne (h _ (.head _)) (Ne.symm hm)
      have hall : ∀ e ∈ (m, v) :: t, i < e.1 := List.forall_mem_cons.2 ⟨hi, fun a ha => Nat.lt_trans hi (hlt a ha)⟩
      rw [tfree_of_lt hall]
      exact ⟨Nat.le_refl _, tget_none_of_lt hall⟩

/-- The lowest free number is free. -/
theorem tget_tfree {α : Type} {t : Table α} (hw : twf t = true) : tget (tfree 0 t) t = none :=
  (tget_tfree_from hw fun _ _ => Nat.zero_le _).2

section
variable {s v w : State} {p n lot h i : Nat} {r : ResId} {x : Reservation} {o : Order} {l : Line}

/-! ## The release of one tyre -/

/-- A release of one tyre that the stock gives back, with room in the pool: the reservation leaves it with its last tyre. -/
theorem releaseRes_one {why : Cause} (hp : w.reservation p = some x) (hsub : x.substitute = false)
    (hg : (w.gives x 1).2 = 1) (ho : (w.unreserved x 1).order x.order = some o) (hlv : o.leaving = false)
    (hpf : w.book.poolFull = false) (hf : w.book.freed = false) :
    (x.count = 1 → (releaseRes why p 1 w).1 = ((w.unreserved x 1).dropRes p).postAll (leaveReport why p x)) ∧
      (2 ≤ x.count → (releaseRes why p 1 w).1 = ((w.unreserved x 1).setRes p { x with count := x.count - 1 }).post
        (.pickNewCount x.car (resId p x) ⟨x.count - 1, why⟩)) := by
  obtain ⟨lots, stock, rs, g, hgive, -⟩ :=
    releaseEntry_frame (k := x.car) (c := x.carrier) (lot := x.lot) (n := 1) (s := w) ⟨rfl, rfl⟩
  have hflags : (w.unreserved x 1).book.poolFull = false ∧ (w.unreserved x 1).book.freed = false := by
    rw [State.unreserved, State.gives, hgive]
    exact ⟨hpf, hf⟩
  refine ⟨fun hone => ?_, fun htwo => ?_⟩
  · rw [releaseRes_leaves hp (by omega),
      leavePool_calm (s := (w.unreserved x 1).postAll _) ho hlv hflags.1 hflags.2]
    rfl
  · rw [releaseRes_cut hp hsub (by omega), hg]

/-! ## Substitutions -/

theorem gives_stock (h : s.oneStock v) (hm : v.mail = s.mail) (x : Reservation) (n : Nat) :
    (v.gives x n).1.lots = (s.gives x n).1.lots ∧ (v.gives x n).1.stock = (s.gives x n).1.stock := by
  rw [(gives_frame h hm x n).1]
  exact ⟨rfl, rfl⟩

/-- A grant names no lot twice. -/
theorem reserveEntry_distinct {k : Carousel} {c : Nat} (hd : s.distinctOn k c) : (reserveEntry k c lot n s).1.distinctOn k c := by
  unfold reserveEntry
  dsimp only
  split
  · exact hd
  · next h0 =>
    intro z hz
    cases hx : s.carrier k c with
    | none => simp [State.reserveGrant, hx] at h0
    | some x =>
      obtain ⟨y, hy, hps⟩ := changePlacements_carrier hx
        (changePlacement lot fun p => { p with reserved := p.reserved + s.reserveGrant k c lot n })
      obtain rfl := Option.some.inj (hy.symm.trans hz)
      rw [hps]
      exact (hd x hx).sublist (changePlacement_lots
        (f := fun p => { p with reserved := p.reserved + s.reserveGrant k c lot n }) (fun _ => rfl) _)

theorem settled_reserved (l : Line) : l.settled.reserved = l.reserved := by
  unfold Line.settled
  split <;> rfl

/-- The reservation that a substitution makes of one tyre (R64). -/
def substituteRes (x : Reservation) (lot seq : Nat) : Reservation :=
  { order := x.order, line := x.line, car := x.car, carrier := x.carrier, lot := lot, count := 1, state := .presented,
    struck := false, expiry := none, seq := seq, substitute := true }

theorem unreserved_order (ho : s.order x.order = some o) (hl : o.lines[x.line]? = some l) :
    (s.unreserved x n).order x.order = some { o with
      lines := o.lines.set x.line (Line.settled { l with reserved := l.reserved - (s.gives x n).2 }) } := by
  obtain ⟨lots, stock, rs, g, hg, -⟩ := releaseEntry_frame (k := x.car) (c := x.carrier) (lot := x.lot) (n := n) (s := s) ⟨rfl, rfl⟩
  refine (modLine_orderIs _ ?_ hl).1
  rw [State.gives, hg]
  exact ho

/-- The pool and the line with a substitution's reservation. -/
def State.substituted (v : State) (x : Reservation) (lot : Nat) : State :=
  ((v.setRes (tfree 0 v.book.pool) (substituteRes x lot v.book.creations)).modBook
    fun b => { b with creations := b.creations + 1 }).modLine x.order x.line fun l => { l with reserved := l.reserved + 1 }

theorem substituted_order (ho : v.order x.order = some o) (hl : o.lines[x.line]? = some l) :
    (v.substituted x lot).order x.order = some { o with
      lines := o.lines.set x.line (Line.settled { l with reserved := l.reserved + 1 }) } :=
  (modLine_orderIs (s := (v.setRes (tfree 0 v.book.pool) (substituteRes x lot v.book.creations)).modBook
    fun b => { b with creations := b.creations + 1 }) _ ho hl).1

/-- A line that gains one tyre and gives back another keeps its reserved count. -/
theorem substituted_line (ho : v.order x.order = some o) (hl : o.lines[x.line]? = some l)
    (hg : ((v.substituted x lot).gives x 1).2 = 1) : ∃ l', l'.reserved = l.reserved ∧
      ((v.substituted x lot).unreserved x 1).order x.order = some { o with lines := o.lines.set x.line l' } := by
  have hget : (o.lines.set x.line (Line.settled { l with reserved := l.reserved + 1 }))[x.line]? =
      some (Line.settled { l with reserved := l.reserved + 1 }) := by
    simp [(List.getElem?_eq_some_iff.1 hl).1]
  have horder := unreserved_order (n := 1) (substituted_order (lot := lot) ho hl) hget
  rw [List.set_set, hg] at horder
  refine ⟨_, ?_, horder⟩
  rw [settled_reserved]
  show (Line.settled { l with reserved := l.reserved + 1 }).reserved - 1 = l.reserved
  rw [settled_reserved]
  exact Nat.add_sub_cancel _ _

theorem takeSubstitution_granted (hr : s.resOf r = some x) (hstr : x.struck = false) (hst : x.state = .presented)
    (hm : s.maySubstitute x r.place lot = true) (he : reserveEntry x.car x.carrier lot 1 s = (v, 1)) :
    takeSubstitution r lot s = (finishPool (releaseRes .accept r.place 1 (v.substituted x lot)).1,
      some { place := tfree 0 v.book.pool, seq := v.book.creations }) := by
  simp only [takeSubstitution, hr, Reservation.live, hstr, hst, hm, he]
  rfl

theorem takeSubstitution_refused (h : ∀ x, s.resOf r = some x → x.struck = true ∨ x.state ≠ .presented ∨
    s.maySubstitute x r.place lot ≠ true) : takeSubstitution r lot s = (s, none) := by
  unfold takeSubstitution
  split
  · rfl
  · next x hx =>
    refine if_neg fun hok => ?_
    simp only [Bool.and_eq_true, beq_iff_eq, Reservation.live, Bool.not_eq_true'] at hok
    obtain ⟨⟨hstr, hst⟩, hm⟩ := hok
    rcases h x hx with h | h | h
    · rw [hstr] at h
      cases h
    · exact h hst
    · exact h hm

theorem takeSubstituteRelease_refused (h : ∀ x, s.resOf r = some x → x.substitute = false ∨ x.struck = true) :
    takeSubstituteRelease r s = s := by
  unfold takeSubstituteRelease
  split
  · next x hx =>
    refine if_neg fun hok => ?_
    simp only [Bool.and_eq_true, Reservation.live, Bool.not_eq_true'] at hok
    rcases h x hx with h | h
    · rw [h] at hok
      cases hok.1
    · rw [h] at hok
      cases hok.2
  · rfl

theorem trim_none {k : Carousel} {c target : Nat} (h : s.reservedAt k c lot ≤ target) (ps : List Nat) :
    ps.foldl (trimOne k c lot target) (s, []) = (s, []) := by
  induction ps with
  | nil => rfl
  | cons p ps ih =>
    have h0 : trimOne k c lot target (s, []) p = (s, []) := by simp [trimOne, Nat.sub_eq_zero_of_le h]
    rw [List.foldl_cons, h0, ih]

/-- The grant of a substitution: one tyre, reported to nobody, with what is reserved of the other lots as before. -/
theorem reserveEntry_one {z : Carrier} {pl : Placement} {k : Carousel} {c m : Nat} (hact : s.lotActive lot = true)
    (hz : s.carrier k c = some z) (hst : z.state = .normal) (hx : z.excluded = false) (hpl : placementOf lot z.placements = some pl)
    (hfree : pl.reserved < pl.onHand) (hd : s.distinctOn k c) (hm : m ≠ lot) : ∃ lots stock,
      reserveEntry k c lot 1 s = ({ s with lots := lots, stock := stock }, 1) ∧
      reserveEntry k c lot 1 s.begun = ({ s.begun with lots := lots, stock := stock }, 1) ∧
      State.distinctOn { s.begun with lots := lots, stock := stock } k c ∧
      State.reservedAt { s.begun with lots := lots, stock := stock } k c m = s.reservedAt k c m := by
  have hgrant : s.reserveGrant k c lot 1 = 1 := by
    have htakes : z.takesNew = true := by simp [Carrier.takesNew, hst, hx]
    rw [reserveGrant_some hz hpl, htakes, hact]
    exact Nat.min_eq_left (by omega)
  obtain ⟨lots, stock, rs, g, hserve, hbegun⟩ := reserveEntry_frame (s := s) (t := s.begun) (k := k) (c := c) (lot := lot) (n := 1)
    ⟨rfl, rfl⟩
  obtain rfl : g = 1 := by
    have hone : (reserveEntry k c lot 1 s).2 = 1 := by simp [reserveEntry, hgrant]
    rwa [hserve] at hone
  obtain ⟨-, hquiet⟩ := reserveEntry_reserved (m := m) (n := 1) hd hm
  obtain ⟨hkept, -⟩ := reserveEntry_reserved (s := s.begun) (m := m) (n := 1) hd hm
  have hdistinct := reserveEntry_distinct (s := s.begun) (lot := lot) (n := 1) hd
  rw [hserve] at hquiet
  obtain rfl : rs = [] := List.append_right_eq_self.1 hquiet
  rw [hbegun] at hkept hdistinct
  rw [List.append_nil] at hserve hbegun hkept hdistinct
  exact ⟨lots, stock, hserve, hbegun, hdistinct, hkept⟩

/-- What a substitution leaves (R64): a reservation of its own, and one tyre fewer of the old one, in place `p`. -/
structure State.Exchanged (v : State) (p : Nat) (x : Reservation) (lot reserved : Nat) (t : State) : Prop where
  made : t.reservation (tfree 0 v.book.pool) = some (substituteRes x lot v.book.creations)
  last : x.count = 1 → t.reservation p = none ∧ t.mail = v.mail ++ [.pickStruck x.car ⟨resId p x, .accept⟩]
  cut : 2 ≤ x.count → t.reservation p = some { x with count := x.count - 1 } ∧
    t.mail = v.mail ++ [.pickNewCount x.car (resId p x) ⟨x.count - 1, .accept⟩]
  others : ∀ n, n ≠ tfree 0 v.book.pool → n ≠ p → t.reservation n = v.reservation n
  stock : t.lots = (v.gives x 1).1.lots ∧ t.stock = (v.gives x 1).1.stock
  line : (t.line x.order x.line).map (·.reserved) = some reserved
  mgmt : t.mgmt = v.mgmt
  calm : t.book.freed = false

theorem substituted_exchanged (hp : v.reservation p = some x) (hsub : x.substitute = false) (hst : x.state = .presented)
    (hcount : 1 ≤ x.count) (hd : v.distinctOn x.car x.carrier) (hres : 1 ≤ v.reservedAt x.car x.carrier x.lot)
    (hw : twf v.book.pool = true) (hpf : v.book.poolFull = false) (hf : v.book.freed = false) (ho : v.order x.order = some o)
    (hl : o.lines[x.line]? = some l) (hlv : o.leaving = false) :
    v.Exchanged p x lot l.reserved (releaseRes .accept p 1 (v.substituted x lot)).1 := by
  have hgone : v.gives x 1 = releaseEntry x.car x.carrier x.lot 1 v := rfl
  obtain ⟨-, hstill⟩ := releaseEntry_reserved (lot := x.lot) (n := 1) hd
  obtain ⟨hgive, hone⟩ := gives_frame (s := v) (v := v.substituted x lot) ⟨rfl, rfl⟩ rfl x 1
  rw [hgone, releaseEntry_count, Nat.min_eq_left hres] at hone
  have hfree : p ≠ tfree 0 v.book.pool := fun he => by
    rw [State.reservation, he, tget_tfree hw] at hp
    cases hp
  have hpw : (v.substituted x lot).reservation p = some x := (tget_tput_other hfree _ _).trans hp
  obtain ⟨l', hl', hline⟩ := substituted_line ho hl hone
  obtain ⟨hlast, hcut⟩ := releaseRes_one (why := .accept) hpw hsub hone hline hlv hpf hf
  have hupool := unreserved_pool (s := v.substituted x lot) (x := x) (n := 1)
  have hustock : ((v.substituted x lot).unreserved x 1).lots = (v.gives x 1).1.lots ∧
      ((v.substituted x lot).unreserved x 1).stock = (v.gives x 1).1.stock ∧
      ((v.substituted x lot).unreserved x 1).mail = v.mail ∧ ((v.substituted x lot).unreserved x 1).book.freed = false := by
    rw [State.unreserved, hgive]
    exact ⟨rfl, rfl, hstill, hf⟩
  generalize (v.substituted x lot).unreserved x 1 = u at hline hlast hcut hupool hustock
  obtain ⟨hlots, hstocks, hmail, hcalm⟩ := hustock
  have hothers : ∀ n, n ≠ p → (releaseRes .accept p 1 (v.substituted x lot)).1.reservation n = (v.substituted x lot).reservation n :=
    fun n hn => releaseRes_other hn
  have hmgmt : (releaseRes .accept p 1 (v.substituted x lot)).1.mgmt = v.mgmt := releaseRes_mgmt
  generalize (releaseRes .accept p 1 (v.substituted x lot)).1 = t at *
  have hshape : ∃ pool cs, t = { u with book := { u.book with pool := pool }, mail := u.mail ++ cs } := by
    rcases Nat.lt_or_ge 1 x.count with htwo | hle
    · exact ⟨_, _, hcut htwo⟩
    · exact ⟨_, _, hlast (by omega)⟩
  obtain ⟨pool, cs, hshape⟩ := hshape
  refine ⟨(hothers _ hfree.symm).trans (tget_tput_same _ _ _), fun hcount1 => ?_, fun htwo => ?_,
    fun n hnq hnp => (hothers n hnp).trans (tget_tput_other hnq _ _), ?_, ?_, hmgmt, ?_⟩
  · rw [hlast hcount1, leaveReport_task hsub, if_pos hst, ← hmail]
    exact ⟨tget_tdel_same (by rw [hupool]; exact twf_tput _ _ hw), rfl⟩
  · rw [hcut htwo, ← hmail]
    exact ⟨tget_tput_same _ _ _, rfl⟩
  · rw [hshape]
    exact ⟨hlots, hstocks⟩
  · rw [line_of_order (o := { o with lines := o.lines.set x.line l' }) (by rw [hshape]; exact hline), ← hl']
    simp [(List.getElem?_eq_some_iff.1 hl).1]
  · rw [hshape]
    exact hcalm

theorem exec_substitutionRequest (s : State) (r : ResId) (lot : Nat) (hs : s.resetLow = false) :
    exec (.substitutionRequest r lot) s = .next ((takeSubstitution r lot s.begun).1.ans
      (match (takeSubstitution r lot s.begun).2 with | some x => .substitute x | none => .refused)) :=
  carry_begun hs fun s =>
    let a := takeSubstitution r lot s
    a.1.ans (match a.2 with | some x => .substitute x | none => .refused)

end

theorem claim_trimsAndSubstitutions : Claims.TrimsAndSubstitutions := by
  intro s hs hf weeks allowed
  have hmay : ∀ x place lot, s.begun.maySubstitute x place lot = true ↔ allowed x place lot := fun x place lot =>
    s.begun.maySubstitute_iff x place lot
  refine ⟨fun k c lot target hle => ?_, fun k c lot target p rest x e htrim hp hsub hk hc hlot he h0 hlt hd => ?_,
    fun r lot hr => ?_, fun r lot x o l q y hr hstr hst hsub hcount hall hlot hres hd hw hpf ho hlv hl hlres hq hy => ?granted,
    fun r hr => ?_, fun r x hr hsub hstr hcount hw hc => ?_⟩
  · rw [exec_auditTrim s k c lot target hs, takeTrim, trim_none (s := s.begun) hle]
    dsimp only
    rw [passAfter_passedOver (lines := []) nofun (by exact hf)]
    rfl
  · obtain ⟨htarget, hfold⟩ := trim_newest (s := s.begun) (p := p) (rest := rest) hp hsub hk hc hlot he h0 hlt hd
    have hone : s.begun.Resolves (releaseRes .other p e s.begun).1 := (State.Resolves.refl _).releaseRes
    have hpass : (releaseRes .other p e s.begun).1.Resolves (passAfter [(x.order, x.line)] none (releaseRes .other p e s.begun).1) :=
      (State.Resolves.refl _).passAfter
    have hexec := exec_auditTrim s k c lot target hs
    rw [takeTrim, show s.begun.trimOrder k c lot = p :: rest from htrim, hfold] at hexec
    dsimp only at hexec
    rw [htarget] at hexec
    refine ⟨_, hexec, rfl, hpass.mail.subset ?_, (hone.trans hpass).onlyOrders _ _⟩
    have hgives : (s.begun.gives x e).2 = e := by
      rw [gives_some hk hc hlot, releaseEntry_count, show s.begun.reservedAt k c lot = s.reservedAt k c lot from rfl]
      omega
    rw [releaseRes_cut (s := s.begun) hp hsub hlt, hgives, hk]
    exact List.mem_append_right _ (List.mem_singleton_self _)
  · rw [exec_substitutionRequest s r lot hs, takeSubstitution_refused (s := s.begun) fun x hx => ?_]
    exact (hr x hx).imp_right (Or.imp_right fun hno hm => hno ((hmay x r.place lot).1 hm))
  case granted =>
    obtain ⟨hp, -⟩ := resOf_eq_some.1 hr
    have hm := (hmay x r.place lot).2 hall
    obtain ⟨hact, -, ⟨z, pl, hz, hzs, hzx, hpl, hfree⟩, -⟩ := hall
    obtain ⟨lots, stock, hserve, hbegun, hdistinct, hkept⟩ := reserveEntry_one hact hz hzs hzx hpl hfree hd (Ne.symm hlot)
    have hgranted := takeSubstitution_granted (s := s.begun) hr hstr hst hm hbegun
    have hresolved := (State.Resolves.refl s.begun).reserveEntry (k := x.car) (c := x.carrier) (lot := lot) (n := 1)
    rw [hbegun] at hresolved
    obtain ⟨hlots, hstock⟩ := gives_stock (s := { s with lots := lots, stock := stock })
      (v := { s.begun with lots := lots, stock := stock }) ⟨rfl, rfl⟩ rfl x 1
    rw [hserve] at hy
    have hex := substituted_exchanged (v := { s.begun with lots := lots, stock := stock }) (lot := lot) hp hsub hst hcount hdistinct
      (by rw [hkept]; exact hres) hw hpf hf ho hl hlv
    have hnew := hresolved.newRes (p := tfree 0 s.book.pool) (r := substituteRes x lot s.book.creations) rfl
    have hend := hnew.modLine (hd := x.order) (i := x.line) (f := fun l => { l with reserved := l.reserved + 1 })
    have hend := hend.releaseRes (why := .accept) (p := r.place) (n := 1)
    have hexec := exec_substitutionRequest s r lot hs
    rw [hgranted, finishPool_calm (by exact hex.calm)] at hexec
    subst hq hy
    exact ⟨_, hexec, rfl, hex.made, hex.last, hex.cut, hex.others, hex.stock.1.trans hlots, hex.stock.2.trans hstock,
      hex.line, hex.mgmt, hend.onlyOrders _ _⟩
  · exact (carry_begun hs _).trans (congrArg _ (takeSubstituteRelease_refused (s := s.begun) hr))
  · have hexec : exec (.substituteRelease r) s = .next (takeSubstituteRelease r s.begun) := carry_begun hs _
    obtain ⟨hp, hseq⟩ := resOf_eq_some.1 hr
    have hone : s.begun.Resolves (releaseRes .other r.place x.count s.begun).1 := (State.Resolves.refl _).releaseRes
    have hpass : (releaseRes .other r.place x.count s.begun).1.Resolves (takeSubstituteRelease r s.begun) := by
      simp only [takeSubstituteRelease, show s.begun.resOf r = some x from hr, Reservation.live, hstr, hsub]
      exact (State.Resolves.refl _).passAfter
    have hdead := (releaseRes_dead (s := s.begun) (why := .other) hp hw).resolves hpass (hone.canonical hw)
        (Nat.lt_of_lt_of_le hc hone.creations)
    refine ⟨_, hexec, fun y hy => hdead y ?_, (hone.trans hpass).onlyOrders _ _⟩
    rw [resId, hseq]
    exact hy

/-- Settles O32: a release takes a live reservation out of the pool or leaves it struck, and each command's pass keeps that. -/
theorem releases : Obligations.Releases := ⟨claim_liveReleases, claim_trimsAndSubstitutions, claim_releaseCounts⟩

end Sys2Proof.Machine

namespace Sys2Proof.Machine

/-! # A lot table that lists a number twice (R57, R59)

`LinePlacements` does not ask that the lot table lists each number once, as the other parts of `LinesResolve` that need it do.
Where lot 1 stands there twice, first HELD and then ACTIVE, the candidate list (R57) reads the second record, and the reserve entry
(R15), which reads the first, grants nothing. -/

/-- A reservation of two tyres of lot 1 on carrier 0 of carousel 0. -/
def heldPart : Reservation :=
  { order := 0, line := 0, car := 0, carrier := 0, lot := 1, count := 2, state := .queued, struck := false,
    expiry := some 0, seq := 0, substitute := false }

/-- A line that needs two tyres more. -/
def partLine : Line :=
  { article := 5, quantity := 4, window := none, reserved := 2, inTransit := 0, delivered := 0, taken := [], avoid := none,
    waitingReported := false }

/-- The order of that line. -/
def partOrder : Order :=
  { ref := 30, cls := 1, lanes := none, state := .picking, comp := some (0, 0), seq := 0, lines := [partLine], leaving := false }

/-- The record of lot 1, in a state. -/
def lotOne (st : LotState) : Lot := ⟨5, ⟨24, 10⟩, 200, 16, 10, st, 4, 2, 0⟩

/-- One carrier with four tyres of lot 1, two of them reserved, while the lot table lists the lot twice. -/
def lotTwice : State :=
  let s := State.powerOn 0
  { s with
    lots := [(1, lotOne .held), (1, lotOne .active)]
    stock := s.stock.set 0 (some { shelf := 480, gap := 15, rated := 400,
                                   carriers := [{ newCarrier false with placements := [⟨1, 4, 2, 0⟩] }] })
    book := { s.book with orders := [(0, partOrder)], pool := [(0, heldPart)], arrivals := 1, creations := 1 }
    mgmt := { s.mgmt with cell := .running } }

/-- The line of `lotTwice` is the one to resolve, and a placement with two free tyres is what its candidate lot has. -/
theorem lotTwice_resolves : lotTwice.linesWhere (fun x => x.article = partLine.article) = [(0, 0)] ∧
    lotTwice.candidates partLine.article none none = [{ lot := 1, week := 1281, avail := 2 }] ∧
    lotTwice.freePlacements 1 none none = [{ car := 0, carrier := 0, count := 2 }] ∧
    findLive 0 0 0 0 1 lotTwice.book.pool = some (0, heldPart) := by decide +kernel

/-- Its line keeps what it had reserved. -/
theorem lotTwice_reserves_nothing : ∀ t, exec (.stockRiseReport partLine.article) lotTwice = .next t →
    (t.line 0 0).map (·.reserved) = some 2 := by
  have h : (passAfter (lotTwice.begun.linesWhere fun l => l.article = partLine.article) none lotTwice.begun).line 0 0 =
      some partLine := by decide +kernel
  intro t ht
  obtain rfl := Host.Outcome.next.inj ((carry_begun rfl _).symm.trans ht)
  exact congrArg (Option.map (·.reserved)) h

/-- Refutes O28: in `lotTwice` the placement has two free tyres for the line, of which none is reserved. -/
theorem not_linesResolve : ¬ Obligations.LinesResolve := by
  rintro ⟨-, -, -, hplacements, -⟩
  obtain ⟨hlines, hlots, hfree, hlive⟩ := lotTwice_resolves
  obtain ⟨hreport, -⟩ := hplacements lotTwice 0 0 partOrder partLine rfl rfl rfl rfl rfl rfl (by decide) rfl rfl
    (.stockRiseReport partLine.article) 1 1281 2 (.inl ⟨rfl, hlines⟩) hlots
  obtain ⟨t, m, hexec, hm, -, hline, -⟩ := hreport 0 0 2 0 heldPart hfree (by decide) rfl hlive
  have hkept := lotTwice_reserves_nothing t hexec
  rw [hline, hm] at hkept
  revert hkept
  decide

end Sys2Proof.Machine

namespace Sys2Proof.Machine

/-! # What every step keeps: the bounds of the queues, and one task of a kind and one audit request per carrier (laws L11, L12)

A queue gains a task in two ways: a new one where there is a place, or one that stood there and is placed anew. So what every
operation keeps is stated of one sequencer, and of a task that stands in its queue in some form. -/

/-! ## One carousel -/

/-- No two tasks of the queue have one number, nor one kind and carrier, and every number is below the next arrival. -/
def Seq.distinct (q : Seq) : Prop := q.numbered ∧ (q.queue.map fun x => (x.kind, x.carrier)).Nodup

/-- What a change of a sequencer from `q` to `r` keeps: the queue's bound, and that its tasks are distinct. -/
structure Seq.Tidies (q r : Seq) : Prop where
  bounded : q.queue.length ≤ Config.queueTasks → r.queue.length ≤ Config.queueTasks
  distinct : q.distinct → r.distinct

theorem Seq.Tidies.trans {q r u : Seq} (h : q.Tidies r) (h' : r.Tidies u) : q.Tidies u :=
  ⟨h'.bounded ∘ h.bounded, h'.distinct ∘ h.distinct⟩

theorem Seq.Tidies.congr {p q r : Seq} (h : p.Tidies q) (hq : r.queue = q.queue) (ha : r.arrivals = q.arrivals) : p.Tidies r :=
  ⟨fun hl => hq ▸ h.bounded hl, fun hd => by
    have := h.distinct hd
    unfold Seq.distinct Seq.numbered at this ⊢
    rwa [hq, ha]⟩

/-- Task `x` stands in the queue of `q`, perhaps with other picks, counts or another class: its number does, and, when the
tasks were distinct in `p`, with its kind and carrier. -/
structure Seq.Stands (p q : Seq) (x : Task) : Prop where
  num : x.num ∈ q.queue.map (·.num)
  same : p.distinct → ∃ y ∈ q.queue, y.num = x.num ∧ y.kind = x.kind ∧ y.carrier = x.carrier

theorem Seq.stands_of_mem {p q : Seq} {x : Task} (h : x ∈ q.queue) : p.Stands q x :=
  ⟨List.mem_map_of_mem h, fun _ => ⟨x, h, rfl, rfl, rfl⟩⟩

/-- A task in another form of the same number, kind and carrier stands where it stood. -/
theorem Seq.Stands.form {p q : Seq} {x y : Task} (h : p.Stands q x) (hn : y.num = x.num) (hk : y.kind = x.kind)
    (hc : y.carrier = x.carrier) : p.Stands q y :=
  ⟨hn ▸ h.num, fun hp => by rw [hn, hk, hc]; exact h.same hp⟩

theorem Task.withPicks_kind (x : Task) (ps : List Pick) : (x.withPicks ps).kind = x.kind := by
  cases x with | mk n c k b => cases b <;> rfl

theorem Task.withPicks_carrier (x : Task) (ps : List Pick) : (x.withPicks ps).carrier = x.carrier := by
  unfold Task.withPicks
  split <;> rfl

/-- A task stands whatever picks it is given. -/
theorem Seq.Stands.withPicks {p q : Seq} {x : Task} (h : p.Stands q x) (ps : List Pick) : p.Stands q (x.withPicks ps) :=
  h.form (x.withPicks_num ps) (x.withPicks_kind ps) (x.withPicks_carrier ps)

/-- Tasks of one number are one task where the numbers are distinct. -/
theorem Seq.distinct_num {q : Seq} (h : q.distinct) {x y : Task} (hx : x ∈ q.queue) (hy : y ∈ q.queue) (e : x.num = y.num) :
    x = y :=
  List.inj_on_of_nodup_map h.1.1 hx hy e

/-- Taking tasks out of a queue. -/
theorem Seq.tidies_sublist {q : Seq} {l : List Task} (h : l.Sublist q.queue) : q.Tidies { q with queue := l } where
  bounded hl := h.length_le.trans hl
  distinct hd := ⟨Seq.numbered_sublist h hd.1, (h.map _).nodup hd.2⟩

/-- A queue from which a number has been removed that stood there has become shorter. -/
theorem withoutTask_length_lt {n : Nat} {l : List Task} (h : n ∈ l.map (·.num)) : (withoutTask n l).length < l.length := by
  obtain ⟨y, hy, rfl⟩ := List.mem_map.1 h
  exact List.length_filter_lt_length_iff_exists.2 ⟨y, hy, by simp⟩

/-- A task that stands, taken out and put back at any place. -/
theorem Seq.Tidies.replace {p q : Seq} (h : p.Tidies q) {x : Task} (hx : p.Stands q x) {l : List Task}
    (hl : l.Perm (x :: withoutTask x.num q.queue)) : p.Tidies { q with queue := l } where
  bounded hb := by
    have := h.bounded hb
    have := withoutTask_length_lt hx.num
    have hlen : l.length = (withoutTask x.num q.queue).length + 1 := hl.length_eq
    show l.length ≤ _
    omega
  distinct hd := by
    obtain ⟨y, hy, hnum, hkind, hcar⟩ := hx.same hd
    obtain ⟨⟨hn, hlt⟩, ha⟩ := h.distinct hd
    have hsub := withoutTask_sublist x.num q.queue
    refine ⟨⟨(hl.map _).nodup_iff.2 (List.nodup_cons.2 ⟨num_notMem_withoutTask _ _, (hsub.map _).nodup hn⟩), fun u hu => ?_⟩,
      (hl.map _).nodup_iff.2 (List.nodup_cons.2 ⟨fun hm => ?_, (hsub.map _).nodup ha⟩)⟩
    · rcases List.mem_cons.1 (hl.subset hu) with rfl | hu
      · exact hnum ▸ hlt y hy
      · exact hlt u (hsub.subset hu)
    · obtain ⟨z, hz, he⟩ := List.mem_map.1 hm
      have hzy : z = y := List.inj_on_of_nodup_map ha (hsub.subset hz) hy (by rw [he, hkind, hcar])
      exact num_notMem_withoutTask x.num q.queue (List.mem_map.2 ⟨z, hz, by rw [hzy, hnum]⟩)

/-- A task that stands, taken out and followed by a new one of its kind for its carrier. -/
theorem Seq.tidies_renew {q : Seq} {x : Task} (hx : x ∈ q.queue) {cls : Class} {body : TaskBody}
    (hk : ({ num := q.arrivals, cls := cls, carrier := x.carrier, body := body } : Task).kind = x.kind) :
    q.Tidies { q with
      queue := placeTask { num := q.arrivals, cls := cls, carrier := x.carrier, body := body } (withoutTask x.num q.queue),
      arrivals := q.arrivals + 1 } where
  bounded hb := by
    have := withoutTask_length_lt (List.mem_map_of_mem (f := Task.num) hx)
    show (placeTask _ _).length ≤ _
    rw [(placeTask_holds _ _).length_eq, List.length_cons]
    omega
  distinct hd := by
    have hsub := withoutTask_sublist x.num q.queue
    refine ⟨Seq.numbered_new (q := { q with queue := withoutTask x.num q.queue }) cls x.carrier body
      (Seq.numbered_sublist hsub hd.1), placeTask_distinct (fun hm => ?_) ((hsub.map _).nodup hd.2)⟩
    obtain ⟨z, hz, he⟩ := List.mem_map.1 hm
    have hzx : z = x := List.inj_on_of_nodup_map hd.2 (hsub.subset hz) hx (he.trans (by rw [hk]))
    exact num_notMem_withoutTask x.num q.queue (List.mem_map.2 ⟨z, hz, by rw [hzx]⟩)

/-- Tasks changed in place that keep their numbers, kinds and carriers. -/
theorem Seq.Tidies.map {p q : Seq} (h : p.Tidies q) {f : Task → Task}
    (hf : p.distinct → ∀ u ∈ q.queue, (f u).num = u.num ∧ (f u).kind = u.kind ∧ (f u).carrier = u.carrier) :
    p.Tidies { q with queue := q.queue.map f } where
  bounded hl := by simpa using h.bounded hl
  distinct hd := by
    obtain ⟨hn, ha⟩ := h.distinct hd
    refine ⟨Seq.numbered_map (fun u hu => (hf hd u hu).1) hn, ?_⟩
    have : (q.queue.map f).map (fun x => (x.kind, x.carrier)) = q.queue.map fun x => (x.kind, x.carrier) := by
      rw [List.map_map]
      exact List.map_congr_left fun u hu => by simp [hf hd u hu]
    exact this ▸ ha

/-- A task that stands, put in its other form wherever its number is. -/
theorem Seq.Tidies.update {p q : Seq} (h : p.Tidies q) {x : Task} (hx : p.Stands q x) :
    p.Tidies { q with queue := q.queue.map fun u => if u.num = x.num then x else u } :=
  h.map fun hd u hu => by
    obtain ⟨y, hy, hnum, hkind, hcar⟩ := hx.same hd
    split
    · rename_i e
      obtain rfl := Seq.distinct_num (h.distinct hd) hu hy (e.trans hnum.symm)
      exact ⟨e.symm, hkind.symm, hcar.symm⟩
    · exact ⟨rfl, rfl, rfl⟩

/-- A new task, where the queue has a place and no task of its kind stands for its carrier. -/
theorem Seq.tidies_new {q : Seq} {cls : Class} {c : Nat} {body : TaskBody} (hp : q.queue.length < Config.queueTasks)
    (hn : ∀ u ∈ q.queue, u.carrier = c → u.kind ≠ ({ num := q.arrivals, cls := cls, carrier := c, body := body } : Task).kind) :
    q.Tidies { q with queue := placeTask { num := q.arrivals, cls := cls, carrier := c, body := body } q.queue,
                      arrivals := q.arrivals + 1 } where
  bounded _ := by
    show (placeTask _ q.queue).length ≤ _
    rw [(placeTask_holds _ _).length_eq]
    exact hp
  distinct hd := by
    refine ⟨Seq.numbered_new cls c body hd.1, placeTask_distinct (fun hm => ?_) hd.2⟩
    obtain ⟨u, hu, he⟩ := List.mem_map.1 hm
    exact hn u hu (congrArg Prod.snd he) (congrArg Prod.fst he)

/-- No task of a kind stands for a carrier. -/
theorem Seq.taskFor_none {q : Seq} {kind : TaskKind} {c : Nat} (h : q.taskFor kind c = none) :
    ∀ u ∈ q.queue, u.carrier = c → u.kind ≠ kind := by
  intro u hu hc hk
  exact (Seq.taskFor_none_iff q kind c).1 h (List.mem_map.2 ⟨u, hu, by rw [hk, hc]⟩)

theorem Seq.hasPlace_iff (q : Seq) : q.hasPlace = true ↔ q.queue.length < Config.queueTasks := by simp [Seq.hasPlace]

/-! ## The whole state -/

/-- Every bound of law L12 on task and scan queues, and every part of law L11, that holds of `s` holds of `t`. -/
structure State.Orderly (s t : State) : Prop where
  requests : (s.requests.map fun r => (r.car, r.carrier)).Nodup → (t.requests.map fun r => (r.car, r.carrier)).Nodup
  seqs : ∀ k : Carousel, (s.seq k).Tidies (t.seq k)
  scans : ∀ i : Station, (s.stn i).queue.length ≤ Config.scanEntries → (t.stn i).queue.length ≤ Config.scanEntries

/-- What the laws speak of: the audit requests, the sequencers and the stations. -/
def State.queued (s : State) : List AuditReq × Vector Seq 8 × Vector Stn 4 := (s.requests, s.seqs, s.stations)

namespace State.Orderly
-- These lemmas rest on each other in long chains: each would hold a thread that waits for the one before.
set_option Elab.async false
variable {s₀ s t : State}

theorem refl (s : State) : s.Orderly s := ⟨id, fun _ => ⟨id, id⟩, fun _ => id⟩

theorem trans (h : s₀.Orderly s) (h' : s.Orderly t) : s₀.Orderly t :=
  ⟨h'.requests ∘ h.requests, fun k => (h.seqs k).trans (h'.seqs k), fun i => h'.scans i ∘ h.scans i⟩

/-- What changes neither the requests nor the sequencers nor the stations. -/
theorem of_queued (h : s₀.Orderly s) (e : t.queued = s.queued) : s₀.Orderly t := by
  simp only [State.queued, Prod.mk.injEq] at e
  obtain ⟨hr, hq, hi⟩ := e
  refine ⟨by rw [hr]; exact h.requests, fun k => ?_, fun i => ?_⟩
  · have : t.seq k = s.seq k := by simp [State.seq, hq]
    rw [this]; exact h.seqs k
  · have : t.stn i = s.stn i := by simp [State.stn, hi]
    rw [this]; exact h.scans i

/-! ### Updates of the state -/

theorem setLane (h : s₀.Orderly s) {l : Lane} {x : LaneRec} : s₀.Orderly (s.setLane l x) := h.of_queued rfl
theorem modLane (h : s₀.Orderly s) {l : Lane} {f : LaneRec → LaneRec} : s₀.Orderly (s.modLane l f) := h.of_queued rfl
theorem setStock (h : s₀.Orderly s) {k : Carousel} {c : Option StockCar} : s₀.Orderly (s.setStock k c) := h.of_queued rfl
theorem setBal (h : s₀.Orderly s) {k : Carousel} {b : Option Balance} : s₀.Orderly (s.setBal k b) := h.of_queued rfl
theorem setSession (h : s₀.Orderly s) {k : Carousel} {x : Option Session} : s₀.Orderly (s.setSession k x) := h.of_queued rfl
theorem modMgmt (h : s₀.Orderly s) {f : Management → Management} : s₀.Orderly (s.modMgmt f) := h.of_queued rfl
theorem modFe (h : s₀.Orderly s) {f : FrameEngine → FrameEngine} : s₀.Orderly (s.modFe f) := h.of_queued rfl
theorem modTransit (h : s₀.Orderly s) {f : Transit → Transit} : s₀.Orderly (s.modTransit f) := h.of_queued rfl
theorem modBook (h : s₀.Orderly s) {f : OrderBook → OrderBook} : s₀.Orderly (s.modBook f) := h.of_queued rfl
theorem setLots (h : s₀.Orderly s) {l : Table Lot} : s₀.Orderly { s with lots := l } := h.of_queued rfl
theorem setMail (h : s₀.Orderly s) {m : List Instr} : s₀.Orderly { s with mail := m } := h.of_queued rfl
theorem setPending (h : s₀.Orderly s) {m : List Instr} : s₀.Orderly { s with pending := m } := h.of_queued rfl
theorem post (h : s₀.Orderly s) {c : Instr} : s₀.Orderly (s.post c) := h.of_queued rfl
theorem postAll (h : s₀.Orderly s) {cs : List Instr} : s₀.Orderly (s.postAll cs) := h.of_queued rfl
theorem ans (h : s₀.Orderly s) {a : Answer} : s₀.Orderly (s.ans a) := h.of_queued rfl
theorem reach (h : s₀.Orderly s) {d : Nat} : s₀.Orderly (s.reach d) := h.of_queued rfl
theorem handNotice (h : s₀.Orderly s) {b : NoticeBody} : s₀.Orderly (handNotice b s) := h.of_queued rfl

/-- A station's record replaced by one whose scan queue is bounded where the old one's was. -/
theorem setStn (h : s₀.Orderly s) {i : Station} {x : Stn}
    (hx : (s.stn i).queue.length ≤ Config.scanEntries → x.queue.length ≤ Config.scanEntries) : s₀.Orderly (s.setStn i x) :=
  { h with
    scans := fun j hj => by
      by_cases e : j = i
      · subst e; rw [State.stn_setStn]; exact hx (h.scans j hj)
      · rw [State.stn_setStn_ne _ _ e]; exact h.scans j hj }

/-- A change of a station's record that leaves its scan queue. -/
theorem modStn (h : s₀.Orderly s) {i : Station} {f : Stn → Stn} (hf : (f (s.stn i)).queue = (s.stn i).queue := by exact rfl) :
    s₀.Orderly (s.modStn i f) := h.setStn (by rw [hf]; exact id)

/-- A sequencer's record written, by what it keeps since `s₀`. -/
theorem setSeq (h : s₀.Orderly s) {k : Carousel} {q : Seq} (hq : (s₀.seq k).Tidies q) : s₀.Orderly (s.setSeq k q) :=
  { h with
    seqs := fun j => by
      by_cases e : j = k
      · subst e; rw [State.seq_setSeq]; exact hq
      · rw [State.seq_setSeq_ne _ _ e]; exact h.seqs j }

theorem modSeq (h : s₀.Orderly s) {k : Carousel} {f : Seq → Seq}
    (hf : (s.seq k).Tidies (f (s.seq k)) := by exact ⟨id, id⟩) : s₀.Orderly (s.modSeq k f) := h.setSeq ((h.seqs k).trans hf)

/-- The audit requests replaced by a list that names no carrier twice where the old one did not. -/
theorem setRequests (h : s₀.Orderly s) {l : List AuditReq}
    (hl : (s.requests.map fun r => (r.car, r.carrier)).Nodup → (l.map fun r => (r.car, r.carrier)).Nodup) :
    s₀.Orderly { s with requests := l } :=
  { h with requests := hl ∘ h.requests }

/-! ### Repetition -/

theorem foldl {α : Type} (h : s₀.Orderly s) {f : State → α → State} (hf : ∀ t x, s₀.Orderly t → s₀.Orderly (f t x))
    (l : List α) : s₀.Orderly (l.foldl f s) := by
  induction l generalizing s with
  | nil => exact h
  | cons x l ih => exact ih (hf s x h)

theorem handNotices (h : s₀.Orderly s) {bs : List NoticeBody} : s₀.Orderly (handNotices bs s) :=
  h.foldl (fun _ _ h => h.handNotice) bs

/-! ### The Stock Table Unit -/

section
variable {k : Carousel} {c lot count : Nat}

theorem changeCarrier (h : s₀.Orderly s) {f : Carrier → Carrier} : s₀.Orderly (s.changeCarrier k c f) := by
  cases hx : s.carrier k c with
  | none => simpa [State.changeCarrier, hx] using h
  | some x =>
    obtain ⟨car, hcar, hg⟩ := carrier_stock hx
    rw [changeCarrier_effect hcar hx]
    exact h.of_queued rfl

theorem changePlacements (h : s₀.Orderly s) {f : List Placement → List Placement} :
    s₀.Orderly (s.changePlacements k c f) := h.changeCarrier

theorem setCarrierState (h : s₀.Orderly s) {st : CarrierState} : s₀.Orderly (s.setCarrierState k c st) := h.changeCarrier

end
end State.Orderly
end Sys2Proof.Machine

namespace Sys2Proof.Machine
namespace State.Orderly
-- These lemmas rest on each other in long chains: each would hold a thread that waits for the one before.
set_option Elab.async false
variable {s₀ s t : State} {k : Carousel} {c lot count : Nat}

theorem reserveEntry (h : s₀.Orderly s) : s₀.Orderly (reserveEntry k c lot count s).1 := by
  unfold Machine.reserveEntry
  dsimp only
  split
  · exact h
  · exact h.changePlacements

theorem releaseEntry (h : s₀.Orderly s) : s₀.Orderly (releaseEntry k c lot count s).1 := by
  unfold Machine.releaseEntry
  dsimp only
  repeat' split
  all_goals first | exact h | exact h.changePlacements

theorem commitPickEntry (h : s₀.Orderly s) : s₀.Orderly (commitPickEntry k c lot s).1 := by
  unfold Machine.commitPickEntry
  split
  · exact h.changePlacements
  · exact h

theorem commitPutEntry (h : s₀.Orderly s) : s₀.Orderly (commitPutEntry k c lot s).1 := by
  unfold Machine.commitPutEntry
  split
  · exact h.changePlacements
  · exact h

theorem planIncomingEntry (h : s₀.Orderly s) : s₀.Orderly (planIncomingEntry k c lot count s).1 := by
  unfold Machine.planIncomingEntry
  split
  · exact h.changePlacements
  · exact h

theorem returnIncomingEntry (h : s₀.Orderly s) : s₀.Orderly (returnIncomingEntry k c lot count s).1 := by
  unfold Machine.returnIncomingEntry
  dsimp only
  repeat' split
  all_goals first | exact h | exact h.changePlacements

theorem auditMarkEntry (h : s₀.Orderly s) : s₀.Orderly (auditMarkEntry k c s).1 := by
  unfold Machine.auditMarkEntry
  split
  · exact h.setCarrierState
  · exact h.setCarrierState
  all_goals exact h

theorem auditClearEntry (h : s₀.Orderly s) : s₀.Orderly (auditClearEntry k c s) := by
  unfold Machine.auditClearEntry
  split
  · exact h.setCarrierState
  · exact h

theorem auditLockEntry (h : s₀.Orderly s) : s₀.Orderly (auditLockEntry k c s).1 := by
  unfold Machine.auditLockEntry
  repeat' split
  all_goals first | exact h | exact h.setCarrierState

theorem auditUnlockEntry (h : s₀.Orderly s) : s₀.Orderly (auditUnlockEntry k c s) := by
  unfold Machine.auditUnlockEntry
  split
  · exact h.setCarrierState
  · exact h

theorem auditApplyEntry (h : s₀.Orderly s) {tally : List (Nat × Nat)} {unknown unplaced : Nat} :
    s₀.Orderly (auditApplyEntry k c tally unknown unplaced s).1 := by
  unfold Machine.auditApplyEntry
  split
  · split
    · exact h.changeCarrier
    · exact h
  · exact h

theorem excludeEntry (h : s₀.Orderly s) {cs : List Nat} : s₀.Orderly (excludeEntry k cs s) :=
  h.foldl (fun _ _ h => h.changeCarrier) cs

theorem admitEntry (h : s₀.Orderly s) {cs : List Nat} : s₀.Orderly (admitEntry k cs s) :=
  h.foldl (fun _ _ h => h.changeCarrier) cs

theorem configureStock (h : s₀.Orderly s) {p shelf gap rated : Nat} {excluded : Nat → Bool} :
    s₀.Orderly (configureStock k p shelf gap rated excluded s) := by
  unfold Machine.configureStock
  dsimp only
  repeat' split
  all_goals exact h.setStock

theorem restartStock (h : s₀.Orderly s) {excluded : Carousel → Nat → Bool} : s₀.Orderly (restartStock excluded s) :=
  h.of_queued rfl

theorem lotWriteRequest (h : s₀.Orderly s) {n width rim mass : Nat} {a : Article} {w : Week} :
    s₀.Orderly (lotWriteRequest n a w width rim mass s).1 := by
  unfold Machine.lotWriteRequest
  dsimp only
  repeat' split
  all_goals first | exact h | exact h.setLots

theorem lotDeleteRequest (h : s₀.Orderly s) {n : Nat} : s₀.Orderly (lotDeleteRequest n s).1 := by
  unfold Machine.lotDeleteRequest
  repeat' split
  all_goals first | exact h | exact h.setLots

theorem lotHoldRequest (h : s₀.Orderly s) {n : Nat} : s₀.Orderly (lotHoldRequest n s).1 := by
  unfold Machine.lotHoldRequest
  repeat' split
  all_goals first | exact h | exact h.setLots.post

theorem lotReleaseRequest (h : s₀.Orderly s) {n : Nat} : s₀.Orderly (lotReleaseRequest n s).1 := by
  unfold Machine.lotReleaseRequest
  repeat' split
  all_goals first | exact h | exact h.setLots.post

theorem carrierWriteRequest (h : s₀.Orderly s) {kn : Nat} {ds dis : Bool} {list : List (Nat × Nat)} :
    s₀.Orderly (carrierWriteRequest kn c ds dis list s).1 := by
  unfold Machine.carrierWriteRequest
  repeat' split
  all_goals first | exact h | exact h.changeCarrier

end State.Orderly
end Sys2Proof.Machine

namespace Sys2Proof.Machine

/-! ## The Frame Engine -/

namespace State.Orderly
-- These lemmas rest on each other in long chains: each would hold a thread that waits for the one before.
set_option Elab.async false
variable {s₀ s t : State}

theorem passFrame (h : s₀.Orderly s) {g : Hdr} {kind : Nat} : s₀.Orderly (passFrame g kind s) := by
  unfold Machine.passFrame
  split
  · exact h.of_queued rfl
  · exact h

theorem sendFrame (h : s₀.Orderly s) {f : TxFrame} : s₀.Orderly (sendFrame f s) := h.of_queued rfl

theorem joinWaiting (h : s₀.Orderly s) {b : Block} : s₀.Orderly (joinWaiting b s) := h.of_queued rfl

theorem spaceFreed (h : s₀.Orderly s) : s₀.Orderly (spaceFreed s) := h.of_queued rfl

theorem keepFrame (h : s₀.Orderly s) {f : TxFrame} : s₀.Orderly (keepFrame f s) := h.of_queued rfl

/-- A MOVE frame that is handed back puts its carousel into IDLE. -/
theorem handBack (h : s₀.Orderly s) {f : TxFrame} : s₀.Orderly (handBack f s) := by
  unfold Machine.handBack
  split
  · split
    · exact h.modSeq
    · exact h.keepFrame
  · exact h.modStn
  · exact h.modMgmt
  · exact h.modMgmt
  · exact h.keepFrame

theorem offerFrame (h : s₀.Orderly s) {f : TxFrame} : s₀.Orderly (offerFrame f s).1 := by
  unfold Machine.offerFrame
  split
  · exact h.of_queued rfl
  · split
    · split
      · exact h.modFe.spaceFreed.handBack.joinWaiting
      · exact h.joinWaiting
    · exact h.joinWaiting

theorem offer (h : s₀.Orderly s) {b : Block} {a : Target} {p : Payload} : s₀.Orderly (offer b a p s).1 := by
  unfold Machine.offer
  split
  · exact h
  · exact h.offerFrame

theorem offerOrKeep (h : s₀.Orderly s) {f : TxFrame} : s₀.Orderly (offerOrKeep f s) := by
  unfold Machine.offerOrKeep
  dsimp only
  split
  · exact h.offerFrame.keepFrame
  · exact h.offerFrame

theorem sendOrKeep (h : s₀.Orderly s) {b : Block} {a : Target} {p : Payload} : s₀.Orderly (sendOrKeep b a p s).1 := by
  unfold Machine.sendOrKeep
  split
  · exact h
  · exact h.offerOrKeep

theorem reofferKept (h : s₀.Orderly s) {b : Block} {unheard : Payload → State → State}
    (hu : ∀ p {t : State}, s₀.Orderly t → s₀.Orderly (unheard p t)) : s₀.Orderly (reofferKept b unheard s) := by
  refine h.modFe.foldl (fun t f ht => ?_) _
  split
  · exact ht.offerOrKeep
  · exact hu _ ht

theorem withdrawFrame (h : s₀.Orderly s) {b : Block} {kind : Nat} : s₀.Orderly (withdrawFrame b kind s).1 := by
  unfold Machine.withdrawFrame
  split
  · exact h.modFe.spaceFreed
  · exact h

theorem withdrawWhere (h : s₀.Orderly s) {p : TxFrame → Bool} : s₀.Orderly (withdrawWhere p s) := by
  unfold Machine.withdrawWhere
  split
  · exact h.modFe.spaceFreed
  · exact h

theorem withdrawFrames (h : s₀.Orderly s) {b : Block} {kind : Nat} : s₀.Orderly (withdrawFrames b kind s) := h.withdrawWhere

theorem replacePayload (h : s₀.Orderly s) {b : Block} {p : Payload} : s₀.Orderly (replacePayload b p s).1 := by
  unfold Machine.replacePayload
  split
  · exact h.of_queued rfl
  · exact h

theorem sendHead (h : s₀.Orderly s) : s₀.Orderly (sendHead s) := by
  unfold Machine.sendHead
  split
  · exact h
  · split
    · exact h.modFe.sendFrame.spaceFreed
    · exact h

theorem reportEntry (h : s₀.Orderly s) {f : TxFrame} {fate : Fate} {i : Option (BitVec 16)} :
    s₀.Orderly (reportEntry f fate i s) := h.postAll

theorem restoreReturned (h : s₀.Orderly s) : s₀.Orderly (restoreReturned s) := by
  unfold Machine.restoreReturned
  split
  · exact h.modFe
  · exact h

theorem reportLost (h : s₀.Orderly s) {l : List Outstanding} : s₀.Orderly (reportLost l s) :=
  h.foldl (fun _ _ h => h.reportEntry) l

theorem frameReturned (h : s₀.Orderly s) {g : Hdr} {kind : Nat} {i : Bool} : s₀.Orderly (frameReturned g kind i s) := by
  unfold Machine.frameReturned
  split
  · exact h
  · split
    · split
      · exact h
      · dsimp only
        split
        · exact h
        · exact h.modFe.reportLost.reportEntry.restoreReturned
    · exact h.modFe.reportEntry.restoreReturned

theorem roundExpired (h : s₀.Orderly s) {i : Nat} : s₀.Orderly (roundExpired i s) := by
  unfold Machine.roundExpired
  split
  · exact h
  · exact h.reach.modFe.reportEntry.restoreReturned

theorem setRing (h : s₀.Orderly s) {r : Ring} : s₀.Orderly (setRing r s) := h.modFe.postAll

theorem endRestore (h : s₀.Orderly s) : s₀.Orderly (endRestore s) := h.postAll.modFe.setRing

theorem sendQueries (h : s₀.Orderly s) : s₀.Orderly (sendQueries s) := by
  unfold Machine.sendQueries
  split
  · exact h.foldl (fun _ _ h => h.sendFrame) _
  · exact h

theorem startQueries (h : s₀.Orderly s) : s₀.Orderly (startQueries s) := by
  unfold Machine.startQueries
  dsimp only
  split
  · exact h.modFe.endRestore
  · exact h.modFe.sendQueries

theorem resumeQueries (h : s₀.Orderly s) : s₀.Orderly (resumeQueries s) := by
  unfold Machine.resumeQueries
  split
  · exact h.sendQueries
  · exact h

theorem beginRestore (h : s₀.Orderly s) : s₀.Orderly (beginRestore s) := h.setRing.startQueries

theorem restartSilence (h : s₀.Orderly s) : s₀.Orderly (restartSilence s) := h.modFe

theorem goodFrame (h : s₀.Orderly s) : s₀.Orderly (goodFrame s) := by
  unfold Machine.goodFrame
  dsimp only
  split
  · exact h.restartSilence.beginRestore
  · exact h.restartSilence

theorem restoreAnswered (h : s₀.Orderly s) {a : Nat} : s₀.Orderly (restoreAnswered a s) := by
  unfold Machine.restoreAnswered
  split
  · dsimp only
    split
    · exact h.modFe.endRestore
    · exact h.modFe
  · exact h

theorem restoreExpired (h : s₀.Orderly s) : s₀.Orderly (restoreExpired s) := by
  unfold Machine.restoreExpired
  split
  · split
    · exact h.reach.endRestore
    · exact h
  · exact h

theorem silenceExpired (h : s₀.Orderly s) : s₀.Orderly (silenceExpired s) := by
  unfold Machine.silenceExpired
  split
  · exact h
  · exact h.reach.modFe.setRing.postAll

theorem badFrame (h : s₀.Orderly s) {g : Hdr} {kind : Nat} : s₀.Orderly (badFrame g kind s) := by
  unfold Machine.badFrame
  dsimp only
  split
  · exact h.restartSilence.modFe.frameReturned
  · exact h.restartSilence.modFe.passFrame

theorem receive (h : s₀.Orderly s) {g : Hdr} {kind : Nat} {act : Disposal → State → State}
    (ha : ∀ d {t : State}, s₀.Orderly t → s₀.Orderly (act d t)) : s₀.Orderly (receive g kind act s) := by
  unfold Machine.receive
  dsimp only
  split
  · split
    · exact h.goodFrame.frameReturned
    · exact h.goodFrame.passFrame
  · exact ha _ h.goodFrame

end State.Orderly
end Sys2Proof.Machine

namespace Sys2Proof.Machine

/-! ## The Order Book -/

namespace State.Orderly
-- These lemmas rest on each other in long chains: each would hold a thread that waits for the one before.
set_option Elab.async false
variable {s₀ s t : State} {k : Carousel} {c lot p n i l week cls : Nat} {hd : Nat}

theorem setOrder (h : s₀.Orderly s) {x : Order} : s₀.Orderly (s.setOrder hd x) := h.modBook

theorem modOrder (h : s₀.Orderly s) {f : Order → Order} : s₀.Orderly (s.modOrder hd f) :=
  h.modBook

theorem modLine (h : s₀.Orderly s) {f : Line → Line} : s₀.Orderly (s.modLine hd i f) := h.modOrder

theorem setRes (h : s₀.Orderly s) {r : Reservation} : s₀.Orderly (s.setRes p r) := h.modBook

theorem leaveTable (h : s₀.Orderly s) : s₀.Orderly (leaveTable hd s) := by
  unfold Machine.leaveTable
  split
  · exact h.modOrder
  · exact h.modBook

theorem vacate (h : s₀.Orderly s) : s₀.Orderly (vacate p hd s) := by
  have hp := h.modBook (f := fun b => { b with pool := tdel p b.pool })
  unfold Machine.vacate
  dsimp only
  split
  · split
    · exact hp.leaveTable
    · exact hp
  · exact hp

theorem leavePool (h : s₀.Orderly s) : s₀.Orderly (leavePool p hd s) := h.modBook.vacate

theorem releaseRes (h : s₀.Orderly s) {why : Cause} : s₀.Orderly (releaseRes why p n s).1 := by
  unfold Machine.releaseRes
  split
  · exact h
  · have hl := fun (r : Reservation) {f} => (h.releaseEntry (k := r.car) (c := r.carrier) (lot := r.lot) (count := n)).modLine
      (hd := r.order) (i := r.line) (f := f)
    dsimp only
    split
    · exact (hl _).postAll.leavePool
    · split
      · split
        · exact (hl _).setRes
        · exact (hl _).setRes.post
      · split
        · exact (hl _).setRes
        · exact (hl _).setRes.post

theorem releaseWhole (h : s₀.Orderly s) : s₀.Orderly (releaseWhole p s).1 := by
  unfold Machine.releaseWhole
  split
  · split
    · exact h.releaseRes
    · exact h
  · exact h

theorem releaseAll (h : s₀.Orderly s) {ps : List Nat} : s₀.Orderly (releaseAll ps s) :=
  h.foldl (fun _ _ h => h.releaseWhole) ps

theorem createRes (h : s₀.Orderly s) {g : Nat} : s₀.Orderly (createRes hd i k c lot g s).1 := h.setRes.modBook.post

theorem enlargeRes (h : s₀.Orderly s) {r : Reservation} {g : Nat} : s₀.Orderly (enlargeRes p r g s) := h.setRes.post

theorem askPlacement {a : Asking} (h : s₀.Orderly a.s) {f : Free} : s₀.Orderly (askPlacement hd i lot a f).s := by
  unfold Machine.askPlacement
  split
  · exact h
  · dsimp only
    split
    · exact h
    · split
      · exact h.reserveEntry
      · split
        · exact h.reserveEntry.modLine.enlargeRes
        · exact h.reserveEntry.modLine.createRes

theorem askLots {a : Asking} (h : s₀.Orderly a.s) {avoid : Option Carousel} {skip : Option (Carousel × Nat)}
    {lots : List Nat} : s₀.Orderly (askLots hd i avoid skip lots a).s := by
  have inner : ∀ (lot : Nat) (l : List Free) {a : Asking}, s₀.Orderly a.s →
      s₀.Orderly (l.foldl (Machine.askPlacement hd i lot) a).s := fun lot l => by
    induction l with
    | nil => exact id
    | cons f l ih => exact fun h => ih h.askPlacement
  unfold Machine.askLots
  induction lots generalizing a with
  | nil => exact h
  | cons lot lots ih => exact ih (inner lot _ h)

theorem giveBackOne (h : s₀.Orderly s) {g : Nat} : s₀.Orderly (giveBackOne p g s) := by
  unfold Machine.giveBackOne
  split
  · exact h
  · dsimp only
    split
    · exact h.releaseEntry.modLine.postAll.vacate
    · exact h.releaseEntry.modLine.setRes.post

theorem giveBack (h : s₀.Orderly s) {added : List (Nat × Nat)} : s₀.Orderly (giveBack added s) :=
  h.foldl (fun _ _ h => h.giveBackOne) added

theorem takeLots (h : s₀.Orderly s) {x : Line} {avoid : Option Carousel} {skip : Option (Carousel × Nat)} {lots : List Nat} :
    s₀.Orderly (takeLots hd i x avoid skip lots s).s := by
  have ha : s₀.Orderly (Machine.askLots hd i avoid skip lots { s := s, need := x.need, added := [], stopped := false }).s :=
    askLots h
  unfold Machine.takeLots
  dsimp only
  split
  · dsimp only
    split
    · exact ha.giveBack.modLine.modBook
    · exact ha.modBook
  · dsimp only
    split
    · exact ha.giveBack.modLine
    · exact ha

theorem resolveLine (h : s₀.Orderly s) {x : Line} {skip : Option (Carousel × Nat)} :
    s₀.Orderly (resolveLine hd i x skip s).s := by
  unfold Machine.resolveLine
  split
  · exact h.takeLots
  · split
    · exact h
    · dsimp only
      split
      · exact h.modLine.takeLots
      · exact h.modLine

theorem reportWaiting (h : s₀.Orderly s) {r : WaitReason} : s₀.Orderly (reportWaiting hd i r s) := by
  unfold Machine.reportWaiting
  split
  · split
    · exact h.modLine.handNotice
    · exact h
  · exact h

theorem passLine {a : State × Bool} (h : s₀.Orderly a.1) {skip : Option (Carousel × Nat)} {x : Nat × Nat} :
    s₀.Orderly (passLine skip a x).1 := by
  unfold Machine.passLine
  dsimp only
  split
  · split
    · split
      · exact h.reportWaiting
      · exact h.resolveLine.reportWaiting
    · exact h
  · exact h

theorem resolvePass (h : s₀.Orderly s) {lines : List (Nat × Nat)} {skip : Option (Carousel × Nat)} :
    s₀.Orderly (resolvePass lines skip s) := by
  have pass : ∀ (l : List (Nat × Nat)) {a : State × Bool}, s₀.Orderly a.1 → s₀.Orderly (l.foldl (Machine.passLine skip) a).1 :=
    fun l => by
      induction l with
      | nil => exact id
      | cons x l ih => exact fun h => ih h.passLine
  exact pass _ h

theorem finishPool (h : s₀.Orderly s) : s₀.Orderly (finishPool s) := by
  unfold Machine.finishPool
  split
  · exact h.modBook.resolvePass
  · exact h

theorem passAfter (h : s₀.Orderly s) {lines : List (Nat × Nat)} {skip : Option (Carousel × Nat)} :
    s₀.Orderly (passAfter lines skip s) := h.resolvePass.finishPool

theorem releaseWhere (h : s₀.Orderly s) {f : Reservation → Bool} : s₀.Orderly (releaseWhere f s) := h.releaseAll.passAfter

theorem postWaiting (h : s₀.Orderly s) : s₀.Orderly (postWaiting hd s) := by
  unfold Machine.postWaiting
  split
  · exact h.post
  · exact h

theorem orderAddRequest (h : s₀.Orderly s) {ref : OrderRef} {lanes : Option (List Nat)} {lines : List LineReq} :
    s₀.Orderly (orderAddRequest ref cls lanes lines s).1 := by
  unfold Machine.orderAddRequest
  repeat' first | split | dsimp only
  all_goals first | exact h | exact h.setOrder.modBook.postWaiting

theorem releaseOrder (h : s₀.Orderly s) : s₀.Orderly (releaseOrder hd s) := h.releaseAll

theorem orderCancelRequest (h : s₀.Orderly s) : s₀.Orderly (orderCancelRequest hd s).1 := by
  unfold Machine.orderCancelRequest
  split
  · exact h
  split
  · exact h
  split
  · exact h
  split
  · exact h
  · exact h
  · exact h.leaveTable.post
  · exact h.leaveTable
  · exact h.releaseOrder.modOrder.post.finishPool

theorem orderClassRequest (h : s₀.Orderly s) : s₀.Orderly (orderClassRequest hd cls s).1 := by
  unfold Machine.orderClassRequest
  split
  · exact h
  split
  · exact h
  split
  · exact h
  split
  · exact h
  · exact h
  all_goals
    refine postAll ?_
    split
    all_goals first | exact h.modOrder | exact h.modOrder.post

theorem orderResumeRequest (h : s₀.Orderly s) : s₀.Orderly (orderResumeRequest hd s).1 := by
  unfold Machine.orderResumeRequest
  split
  · exact h
  split
  · exact h
  split
  · exact h
  split
  · exact h.modOrder.postWaiting
  · exact h

theorem takeReceipt (h : s₀.Orderly s) {sq comp : Nat} {x : Lane} : s₀.Orderly (takeReceipt hd sq x comp s).1 := by
  unfold Machine.takeReceipt
  split
  · exact h.modOrder.post.passAfter
  · exact h.post

theorem takeWithdrawal (h : s₀.Orderly s) {why : Withdrawal} : s₀.Orderly (takeWithdrawal hd why s) := by
  unfold Machine.takeWithdrawal
  split
  · exact h
  split
  · exact h.releaseOrder.modOrder.postWaiting.finishPool
  · exact h.releaseOrder.modOrder.finishPool
  · exact h.releaseOrder.modOrder.finishPool
  · exact h.leaveTable
  · exact h

theorem takeDelivery (h : s₀.Orderly s) : s₀.Orderly (takeDelivery hd i s) := by
  unfold Machine.takeDelivery
  split
  · split
    · exact h
    · dsimp only
      split
      · exact h.modLine
      split
      · split
        · exact h.modLine.modOrder.handNotice.post
        · split
          · exact h.modLine
          · exact h.modLine.handNotices.leaveTable.post
        all_goals exact h.modLine
      · exact h.modLine
  · exact h

theorem takeRemoval (h : s₀.Orderly s) {why : RemovalReason} : s₀.Orderly (takeRemoval hd i week why s) := by
  unfold Machine.takeRemoval
  split
  · split
    · exact h
    · dsimp only
      split
      · exact h.modLine.passAfter
      · exact h.modLine
  · exact h

theorem takeDispatch (h : s₀.Orderly s) {x : Lane} {comp : Nat} {cart : CartId} :
    s₀.Orderly (takeDispatch hd x comp cart s) := by
  unfold Machine.takeDispatch
  split
  · exact h
  split
  all_goals first | exact h | exact h.handNotice.leaveTable

theorem changeRes (h : s₀.Orderly s) {r : ResId} {f : Reservation → Reservation} : s₀.Orderly (changeRes r f s) := by
  unfold Machine.changeRes
  split
  · exact h.setRes
  · exact h

theorem resJoined (h : s₀.Orderly s) {r : ResId} : s₀.Orderly (resJoined r s) := h.changeRes

theorem resPresented (h : s₀.Orderly s) {r : ResId} : s₀.Orderly (resPresented r s) := h.changeRes

theorem resWithdrawn (h : s₀.Orderly s) {r : ResId} : s₀.Orderly (resWithdrawn r s) := h.changeRes

theorem chargeCommit (h : s₀.Orderly s) {r : Reservation} {told : Bool} : s₀.Orderly (chargeCommit p r week told s) := by
  unfold Machine.chargeCommit
  dsimp only
  split
  · refine finishPool (leavePool ?_)
    split
    · exact h.modLine.post
    · exact h.modLine
  · split
    · exact h.modLine.setRes.post
    · exact h.modLine.setRes

theorem takeCommit (h : s₀.Orderly s) {r : ResId} : s₀.Orderly (takeCommit r k c lot week s).1 := by
  unfold Machine.takeCommit
  split
  · exact h.chargeCommit
  · exact h

theorem resExpired (h : s₀.Orderly s) : s₀.Orderly (resExpired p s) := by
  unfold Machine.resExpired
  split
  · exact h
  split
  · exact h
  split
  · exact h
  · exact h.reach.releaseWhole.modLine.handNotice.passAfter

theorem takeHold (h : s₀.Orderly s) : s₀.Orderly (takeHold lot s) := h.releaseWhere

theorem takeCarrierRelease (h : s₀.Orderly s) {cs : List Nat} : s₀.Orderly (takeCarrierRelease k cs s) := h.releaseWhere

theorem trimOne {a : State × List (Nat × Nat)} (h : s₀.Orderly a.1) {target : Nat} :
    s₀.Orderly (trimOne k c lot target a p).1 := by
  unfold Machine.trimOne
  dsimp only
  split
  · exact h
  split
  · exact h.releaseRes
  · exact h

theorem takeTrim (h : s₀.Orderly s) {target : Nat} : s₀.Orderly (takeTrim k c lot target s).1 := by
  have trim : ∀ (l : List Nat) {a : State × List (Nat × Nat)}, s₀.Orderly a.1 →
      s₀.Orderly (l.foldl (Machine.trimOne k c lot target) a).1 := fun l => by
    induction l with
    | nil => exact id
    | cons x l ih => exact fun h => ih h.trimOne
  exact (trim _ h).passAfter

theorem takeShort (h : s₀.Orderly s) {r : ResId} : s₀.Orderly (takeShort r n s) := by
  unfold Machine.takeShort
  split
  · split
    · exact h.releaseRes.passAfter
    · exact h
  · exact h

theorem takeSubstitution (h : s₀.Orderly s) {r : ResId} : s₀.Orderly (takeSubstitution r lot s).1 := by
  unfold Machine.takeSubstitution
  split
  · exact h
  split
  · dsimp only
    split
    · exact h.reserveEntry
    · exact h.reserveEntry.setRes.modBook.modLine.releaseRes.finishPool
  · exact h

theorem takeSubstituteRelease (h : s₀.Orderly s) {r : ResId} : s₀.Orderly (takeSubstituteRelease r s) := by
  unfold Machine.takeSubstituteRelease
  split
  · split
    · exact h.releaseRes.passAfter
    · exact h
  · exact h

theorem shiftExpiries (h : s₀.Orderly s) {d : Nat} : s₀.Orderly (shiftExpiries d s) :=
  h.modBook

theorem restartBook (h : s₀.Orderly s) : s₀.Orderly (restartBook s) :=
  h.of_queued rfl

/-! ## The Balance Unit -/

theorem rebalance (h : s₀.Orderly s) {f : Balance → Balance} : s₀.Orderly (rebalance k f s) := by
  unfold Machine.rebalance
  split
  · unfold balanceReports
    dsimp only
    split <;> split
    · exact h.setBal
    · exact h.setBal.post
    · exact h.setBal.handNotice
    · exact h.setBal.post.handNotice
  · exact h

theorem takeMasses (h : s₀.Orderly s) {report : List (Nat × Nat)} : s₀.Orderly (takeMasses k report s) := h.rebalance

theorem configureBalance (h : s₀.Orderly s) {cfg : CarouselCfg} : s₀.Orderly (configureBalance k cfg s) := by
  unfold Machine.configureBalance
  split
  · exact h.setBal.rebalance
  · exact h.setBal

theorem restartBalance (h : s₀.Orderly s) : s₀.Orderly (restartBalance s) := h.foldl (fun _ _ h => h.rebalance) _

end State.Orderly
end Sys2Proof.Machine


namespace Sys2Proof.Machine

/-! ## The Station Controllers' grants and displays, as the sequencers use them -/

theorem Stn.modView_queue (x : Stn) (f : TaskView → TaskView) : (x.modView f).queue = x.queue := by
  unfold Stn.modView
  split <;> rfl

namespace State.Orderly
-- These lemmas rest on each other in long chains: each would hold a thread that waits for the one before.
set_option Elab.async false
variable {s₀ s t : State} {k : Carousel} {st : Station} {c : Nat}

/-- A change of the view that a station shows. -/
theorem modView (h : s₀.Orderly s) {f : TaskView → TaskView} : s₀.Orderly (s.modStn st fun x => x.modView f) :=
  h.modStn (Stn.modView_queue _ _)

theorem flushGroup (h : s₀.Orderly s) {kind : TaskKind} : s₀.Orderly (flushGroup st k kind s) := by
  unfold Machine.flushGroup
  split
  · exact h
  · exact h.handNotice.modStn

theorem endGrant (h : s₀.Orderly s) {how : GrantEnd} : s₀.Orderly (endGrant st how s) := by
  unfold Machine.endGrant
  split
  · exact h
  · exact h
  · refine modStn ?_
    split
    · split
      · exact h.flushGroup
      · exact h.flushGroup.handNotice
    all_goals exact h.flushGroup

theorem endGrantOf (h : s₀.Orderly s) {how : GrantEnd} : s₀.Orderly (endGrantOf k how s) := by
  unfold Machine.endGrantOf
  split
  · exact h.endGrant
  · exact h

theorem sendContent (h : s₀.Orderly s) {x : Content} : s₀.Orderly (sendContent st x s) := by
  unfold Machine.sendContent
  dsimp only
  split
  · exact h.replacePayload.modStn
  · split
    · exact h.replacePayload.offer.modStn
    · exact h.replacePayload.offer.modStn
    · exact h.replacePayload.offer.modStn.post

theorem refresh (h : s₀.Orderly s) : s₀.Orderly (refresh st s) := by
  unfold Machine.refresh
  dsimp only
  split
  · exact h.sendContent
  · exact h

theorem resend (h : s₀.Orderly s) : s₀.Orderly (resend st s) := by
  unfold Machine.resend
  dsimp only
  split
  · exact h.sendContent
  · exact h

theorem showMessage (h : s₀.Orderly s) {m : Message} : s₀.Orderly (showMessage st m s) := h.modStn

theorem takeViewReport (h : s₀.Orderly s) {v : ViewChange} : s₀.Orderly (takeViewReport st k v s) := by
  unfold Machine.takeViewReport
  split
  · exact h
  · split
    · dsimp only
      split
      · exact h.showMessage.modView.refresh
      · exact h.modView.refresh
    · exact h

/-! ## The sequencers' task queues -/

/-- A task that stands takes another class, and the place that goes with it. -/
theorem reclassTask (h : s₀.Orderly s) {x : Task} (hx : (s₀.seq k).Stands (s.seq k) x) {cls : Class} :
    s₀.Orderly (reclassTask k x cls s) := by
  refine h.setSeq ?_
  split
  · exact (h.seqs k).update hx
  · exact (h.seqs k).replace (x := { x with cls := cls }) (hx.form rfl rfl rfl) (placeTask_holds _ _)

theorem setPicks (h : s₀.Orderly s) {x : Task} (hx : x ∈ (s.seq k).queue) {ps : List Pick} :
    s₀.Orderly (setPicks k x ps s) := h.reclassTask ((Seq.stands_of_mem hx).withPicks ps)

/-- A new task, where the queue has a place and no task of its kind stands for its carrier. -/
theorem newTask (h : s₀.Orderly s) {kind : TaskKind} (hp : (s.seq k).hasPlace = true) (hn : (s.seq k).taskFor kind c = none)
    {cls : Class} {body : TaskBody}
    (hk : ({ num := (s.seq k).arrivals, cls := cls, carrier := c, body := body } : Task).kind = kind := by rfl) :
    s₀.Orderly (newTask k cls c body s) :=
  h.modSeq (Seq.tidies_new ((Seq.hasPlace_iff _).1 hp) (hk ▸ Seq.taskFor_none hn))

theorem tellView (h : s₀.Orderly s) {v : ViewChange} : s₀.Orderly (tellView k v s) := by
  unfold Machine.tellView
  split
  · exact h.takeViewReport
  · exact h

theorem showAudit (h : s₀.Orderly s) : s₀.Orderly (showAudit k c s) := by
  unfold Machine.showAudit
  split
  · split
    · exact h.modView.refresh
    · exact h
  · exact h

theorem joinTask (h : s₀.Orderly s) {i : HeldItem} {u : State} (hu : joinTask k i s = some u) : s₀.Orderly u := by
  unfold Machine.joinTask at hu
  dsimp only at hu
  split at hu
  · rename_i x hx
    have hp := h.setPicks (Seq.taskFor_mem hx) (ps := x.picks ++ [i.pick])
    split at hu
    · split at hu
      · obtain rfl := Option.some.inj hu
        split
        · exact hp.post.tellView
        · exact hp.post
      · obtain rfl := Option.some.inj hu
        exact hp.post
    · cases hu
  · rename_i hn
    split at hu
    · rename_i hp
      obtain rfl := Option.some.inj hu
      exact (h.newTask hp hn).post
    · cases hu

theorem takeReservation (h : s₀.Orderly s) {i : HeldItem} : s₀.Orderly (takeReservation k i s) := by
  unfold Machine.takeReservation
  split
  · rename_i u hu
    exact h.joinTask hu
  · exact h.modSeq

theorem retryHeld (h : s₀.Orderly s) : s₀.Orderly (retryHeld k s) :=
  (h.modSeq (f := fun q => { q with held := [] })).foldl (fun _ _ h => h.takeReservation) _

theorem placeFreed (h : s₀.Orderly s) : s₀.Orderly (placeFreed k s) := by
  unfold Machine.placeFreed
  dsimp only
  split
  · refine post ?_
    split
    · exact h.retryHeld.post
    · exact h.retryHeld
  · exact h.retryHeld

theorem withdrawPicks (h : s₀.Orderly s) : s₀.Orderly (withdrawPicks k s) := by
  unfold Machine.withdrawPicks
  split
  · rename_i x hx
    exact (h.setPicks (Seq.granted_mem hx)).postAll
  · exact h

theorem shedFreed (h : s₀.Orderly s) {b : Bool} : s₀.Orderly (shedFreed k b s) := by
  unfold Machine.shedFreed
  split
  · exact h.placeFreed
  · exact h

theorem leaveOpening (h : s₀.Orderly s) {next : CarState} : s₀.Orderly (leaveOpening k next s) := by
  unfold Machine.leaveOpening
  split
  · refine modSeq ?_
    split
    · exact h.post
    · exact h
  · exact (h.withdrawPicks.endGrantOf.modSeq).shedFreed
  all_goals exact h.modSeq

theorem withdrawGrant (h : s₀.Orderly s) : s₀.Orderly (withdrawGrant k s) := by
  unfold Machine.withdrawGrant
  split
  · exact (h.withdrawPicks.endGrantOf.modSeq).shedFreed
  all_goals exact h

theorem withdrawMove (h : s₀.Orderly s) : s₀.Orderly (withdrawMove k s).1 := h.withdrawFrame

theorem abandonAudit (h : s₀.Orderly s) : s₀.Orderly (abandonAudit k s) := by
  unfold Machine.abandonAudit
  split
  · exact h.post
  · exact h

theorem enterFault (h : s₀.Orderly s) {why : FaultCause} : s₀.Orderly (enterFault k why s) := by
  unfold Machine.enterFault
  dsimp only
  split
  · exact h.withdrawMove.leaveOpening.abandonAudit.modSeq.handNotice
  · exact h

theorem sendQuery (h : s₀.Orderly s) {b : Bool} : s₀.Orderly (sendQuery k b s) := by
  unfold Machine.sendQuery
  dsimp only
  split
  · exact h.sendOrKeep.enterFault
  · exact h.sendOrKeep.modSeq

theorem enterUnknown (h : s₀.Orderly s) : s₀.Orderly (enterUnknown k s) := by
  have hu := (h.leaveOpening (k := k) (next := .unknown)).modSeq (k := k) (f := fun q =>
    { q with fault := none, move := none, built := none, current := none, short := 0 }) ⟨id, id⟩
  unfold Machine.enterUnknown
  dsimp only
  split
  · exact hu.sendQuery
  · exact hu

theorem sendHalt (h : s₀.Orderly s) {b : Bool} : s₀.Orderly (sendHalt k b s).1 := h.sendOrKeep

theorem comeToRest (h : s₀.Orderly s) {b : Bool} : s₀.Orderly (comeToRest k b s) := by
  unfold Machine.comeToRest
  refine h.modSeq ?_
  split <;> exact ⟨id, id⟩

theorem becomeReady (h : s₀.Orderly s) {x : Task} : s₀.Orderly (becomeReady k x s) := by
  have hr := h.modSeq (k := k) (f := fun q => { q with
    state := .ready, current := some x.num, move := none, built := none, short := 0 }) ⟨id, id⟩
  unfold Machine.becomeReady
  dsimp only
  split
  · exact hr.post
  · exact hr

theorem planMove (h : s₀.Orderly s) {x : Task} {d : Option Nat} : s₀.Orderly (planMove k x d s) := by
  unfold Machine.planMove
  split
  · exact h.comeToRest
  split
  · exact h.enterFault
  · exact h.becomeReady
  · dsimp only
    split
    · exact h.offer.enterFault
    · exact h.offer.modSeq
    · exact h.offer.modSeq

theorem clearCurrent (h : s₀.Orderly s) : s₀.Orderly (clearCurrent k s) := h.modSeq

theorem choose (h : s₀.Orderly s) : s₀.Orderly (choose k s) := by
  unfold Machine.choose
  split
  · split
    · exact h.clearCurrent
    · rename_i x _
      have hc : s₀.Orderly (if (s.seq k).current = some x.num then s else Machine.clearCurrent k s) := by
        split
        · exact h
        · exact h.clearCurrent
      dsimp only
      generalize (if (s.seq k).current = some x.num then s else Machine.clearCurrent k s) = u at hc
      split
      · split
        · exact hc.clearCurrent
        · exact hc.becomeReady
      · split
        · exact hc.planMove
        · exact hc.modSeq
  · exact h

theorem settleQueue (h : s₀.Orderly s) : s₀.Orderly (settleQueue k s) := h.placeFreed.choose

theorem takeOut (h : s₀.Orderly s) {x : Task} : s₀.Orderly (takeOut k x s) := by
  have hq := h.modSeq (k := k) (f := fun q => { q with queue := withoutTask x.num q.queue })
    (Seq.tidies_sublist (withoutTask_sublist _ _))
  unfold Machine.takeOut
  dsimp only
  split
  · exact hq.post
  · exact hq
  · exact hq

theorem dropTask (h : s₀.Orderly s) {x : Task} : s₀.Orderly (dropTask k x s) := by
  unfold Machine.dropTask
  dsimp only
  split
  · exact h.leaveOpening.takeOut.clearCurrent
  · exact h.takeOut

theorem endTask (h : s₀.Orderly s) {x : Task} {out : TaskOutcome} : s₀.Orderly (endTask k x out s) :=
  (h.takeOut.endGrantOf.modSeq (f := fun q => { q with state := .idle })).clearCurrent.settleQueue

theorem checkPicks (h : s₀.Orderly s) : s₀.Orderly (checkPicks k s) := by
  unfold Machine.checkPicks
  split
  · split
    · split
      · exact h.dropTask.settleQueue
      · split
        · exact h
        · exact h.endTask
    all_goals exact h
  · exact h

theorem changePicks (h : s₀.Orderly s) {x : Task} (hx : x ∈ (s.seq k).queue) {ps : List Pick} {v : Option ViewChange} :
    s₀.Orderly (changePicks k x ps v s) := by
  unfold Machine.changePicks
  split
  · refine checkPicks ?_
    split
    · exact (h.setPicks hx).tellView
    · exact h.setPicks hx
  · dsimp only
    split
    · exact h.setPicks hx
    · refine settleQueue ?_
      split
      · exact (h.setPicks hx).dropTask
      · exact h.setPicks hx

theorem takeNewCount (h : s₀.Orderly s) {r : ResId} {n : Nat} {why : Cause} :
    s₀.Orderly (takeNewCount k r n why s) := by
  unfold Machine.takeNewCount
  dsimp only
  split
  · rename_i hx
    exact h.changePicks (Seq.taskOf_mem hx)
  · exact h.modSeq

theorem takeDrop (h : s₀.Orderly s) {r : ResId} : s₀.Orderly (takeDrop k r s) := by
  unfold Machine.takeDrop
  split
  · rename_i hx
    exact h.changePicks (Seq.taskOf_mem hx)
  · exact h.modSeq

theorem takeStrike (h : s₀.Orderly s) {r : ResId} {why : Cause} : s₀.Orderly (takeStrike k r why s) := by
  unfold Machine.takeStrike
  split
  · rename_i hx
    exact h.changePicks (Seq.taskOf_mem hx)
  · exact h.takeDrop

theorem pickTaken (h : s₀.Orderly s) {r : ResId} : s₀.Orderly (pickTaken k r s) := by
  unfold Machine.pickTaken
  split
  · rename_i hx
    exact h.changePicks (Seq.taskOf_mem hx)
  · exact h

theorem putTaken (h : s₀.Orderly s) : s₀.Orderly (putTaken k c s) := by
  unfold Machine.putTaken
  split
  · rename_i x hx
    split
    · rename_i lot count n st hb
      have hq := h.setSeq (k := k) (q := { s.seq k with queue := (s.seq k).queue.map fun u =>
          if u.num = x.num then { x with body := .put lot count (n - 1) st } else u })
        ((h.seqs k).update (x := { x with body := .put lot count (n - 1) st })
          ((Seq.stands_of_mem (Seq.taskFor_mem hx)).form rfl (by simp [Task.kind, hb]) rfl))
      dsimp only
      split
      · split
        · exact hq.endTask
        · exact hq.dropTask.settleQueue
      · exact hq
    all_goals exact h
  · exact h

end State.Orderly
end Sys2Proof.Machine


namespace Sys2Proof.Machine

/-! ## A task that stands -/

theorem endGrant_effect (st : Station) (how : GrantEnd) (s : State) : ∃ ss m, endGrant st how s = { s with stations := ss, mgmt := m } := by
  unfold endGrant flushGroup
  split
  · exact ⟨s.stations, s.mgmt, rfl⟩
  · exact ⟨s.stations, s.mgmt, rfl⟩
  · dsimp only
    repeat' split
    all_goals exact ⟨_, _, rfl⟩

/-- The end of a grant changes the stations and the notices alone. -/
theorem endGrantOf_effect (k : Carousel) (how : GrantEnd) (s : State) :
    ∃ ss m, endGrantOf k how s = { s with stations := ss, mgmt := m } := by
  unfold endGrantOf
  split
  · exact endGrant_effect _ _ _
  · exact ⟨s.stations, s.mgmt, rfl⟩

/-- A task of the queue that has another number than the one placed anew is still there. -/
theorem mem_replaced {u y : Task} {q l : List Task} (hu : u ∈ q) (hne : u.num ≠ y.num) (hl : l.Perm (y :: withoutTask y.num q)) :
    u ∈ l :=
  hl.symm.subset (List.mem_cons_of_mem _ (List.mem_filter.2 ⟨hu, by simpa using hne⟩))

/-- A task stands when it, or another, is placed anew. -/
theorem Seq.Stands.replace {p q : Seq} {x y : Task} (hx : p.Stands q x) (h : p.Tidies q) (hy : p.Stands q y) {l : List Task}
    (hl : l.Perm (y :: withoutTask y.num q.queue)) : p.Stands { q with queue := l } x := by
  have hyl : y ∈ l := hl.symm.subset List.mem_cons_self
  by_cases e : y.num = x.num
  · refine ⟨List.mem_map.2 ⟨y, hyl, e⟩, fun hd => ⟨y, hyl, e, ?_⟩⟩
    obtain ⟨u, hu, hun, huk, huc⟩ := hx.same hd
    obtain ⟨v, hv, hvn, hvk, hvc⟩ := hy.same hd
    obtain rfl := Seq.distinct_num (h.distinct hd) hu hv (by rw [hun, hvn, e])
    exact ⟨hvk.symm.trans huk, hvc.symm.trans huc⟩
  · refine ⟨?_, fun hd => ?_⟩
    · obtain ⟨u, hu, hun⟩ := List.mem_map.1 hx.num
      exact List.mem_map.2 ⟨u, mem_replaced hu (by rw [hun]; exact Ne.symm e) hl, hun⟩
    · obtain ⟨u, hu, hs⟩ := hx.same hd
      exact ⟨u, mem_replaced hu (by rw [hs.1]; exact Ne.symm e) hl, hs⟩

/-- A task stands when it, or another, is put in another form where it is. -/
theorem Seq.Stands.update {p q : Seq} {x y : Task} (hx : p.Stands q x) (h : p.Tidies q) (hy : p.Stands q y) :
    p.Stands { q with queue := q.queue.map fun u => if u.num = y.num then y else u } x := by
  refine ⟨?_, fun hd => ?_⟩
  · obtain ⟨u, hu, hun⟩ := List.mem_map.1 hx.num
    exact List.mem_map.2 ⟨_, List.mem_map_of_mem hu, by split <;> simp_all⟩
  · obtain ⟨u, hu, hun, huk, huc⟩ := hx.same hd
    refine ⟨_, List.mem_map_of_mem hu, ?_⟩
    split
    · rename_i e
      obtain ⟨v, hv, hvn, hvk, hvc⟩ := hy.same hd
      obtain rfl := Seq.distinct_num (h.distinct hd) hu hv (by rw [e, hvn])
      exact ⟨hvn.symm.trans hun, hvk.symm.trans huk, hvc.symm.trans huc⟩
    · exact ⟨hun, huk, huc⟩

/-- With the invariants, task `x` stands at carousel `k`. -/
structure State.Holding (k : Carousel) (x : Task) (s₀ s : State) : Prop extends State.Orderly s₀ s where
  stands : (s₀.seq k).Stands (s.seq k) x

namespace State.Holding
set_option Elab.async false
variable {s₀ s t : State} {k : Carousel} {x y : Task}

/-- An operation that keeps the invariants and the carousel's queue. -/
theorem of_queue (h : State.Holding k x s₀ s) (ht : s₀.Orderly t) (hq : (t.seq k).queue = (s.seq k).queue) :
    State.Holding k x s₀ t :=
  ⟨ht, ⟨hq ▸ h.stands.num, fun hd => hq ▸ h.stands.same hd⟩⟩

theorem reclassTask (h : State.Holding k x s₀ s) (hy : (s₀.seq k).Stands (s.seq k) y) {cls : Class} :
    State.Holding k x s₀ (reclassTask k y cls s) := by
  refine ⟨h.toOrderly.reclassTask hy, ?_⟩
  rw [Machine.reclassTask, State.seq_modSeq]
  split
  · exact h.stands.update (h.seqs k) hy
  · exact h.stands.replace (y := { y with cls := cls }) (h.seqs k) (hy.form rfl rfl rfl) (placeTask_holds _ _)

theorem setPicks (h : State.Holding k x s₀ s) (hy : y ∈ (s.seq k).queue) {ps : List Pick} :
    State.Holding k x s₀ (setPicks k y ps s) := h.reclassTask ((Seq.stands_of_mem hy).withPicks ps)

theorem joinTask (h : State.Holding k x s₀ s) {i : HeldItem} {u : State} (hu : joinTask k i s = some u) :
    State.Holding k x s₀ u := by
  have ho := h.toOrderly.joinTask hu
  unfold Machine.joinTask at hu
  dsimp only at hu
  split at hu
  · rename_i y hy
    have hp := h.setPicks (Seq.taskFor_mem hy) (ps := y.picks ++ [i.pick])
    split at hu
    · split at hu
      · obtain rfl := Option.some.inj hu
        refine hp.of_queue ho ?_
        split
        · rw [tellView_seq]; rfl
        · rfl
      · obtain rfl := Option.some.inj hu
        exact hp.of_queue ho rfl
    · cases hu
  · split at hu
    · obtain rfl := Option.some.inj hu
      refine ⟨ho, ?_⟩
      have hperm : ((newTask k i.cls i.carrier (.pick [i.pick]) s).seq k).queue.Perm
          ({ num := (s.seq k).arrivals, cls := i.cls, carrier := i.carrier, body := .pick [i.pick] } :: (s.seq k).queue) := by
        rw [newTask, State.seq_modSeq]
        exact placeTask_holds _ _
      have hin : ∀ u ∈ (s.seq k).queue, u ∈ ((newTask k i.cls i.carrier (.pick [i.pick]) s).seq k).queue := fun u hu =>
        hperm.symm.subset (List.mem_cons_of_mem _ hu)
      refine ⟨?_, fun hd => ?_⟩
      · obtain ⟨u, hu, hun⟩ := List.mem_map.1 h.stands.num
        exact List.mem_map.2 ⟨u, hin u hu, hun⟩
      · obtain ⟨u, hu, hs⟩ := h.stands.same hd
        exact ⟨u, hin u hu, hs⟩
    · cases hu

theorem takeReservation (h : State.Holding k x s₀ s) {i : HeldItem} : State.Holding k x s₀ (takeReservation k i s) := by
  have ho := h.toOrderly.takeReservation (k := k) (i := i)
  unfold Machine.takeReservation at ho ⊢
  split at ho
  · rename_i u hu
    exact h.joinTask hu
  · exact h.of_queue ho (by rw [State.seq_modSeq])

theorem retryHeld (h : State.Holding k x s₀ s) : State.Holding k x s₀ (retryHeld k s) := by
  have hfold : ∀ (l : List HeldItem) {t : State}, State.Holding k x s₀ t →
      State.Holding k x s₀ (l.foldl (fun s i => Machine.takeReservation k i s) t) := fun l => by
    induction l with
    | nil => exact id
    | cons i l ih => exact fun h => ih h.takeReservation
  exact hfold _ (h.of_queue h.toOrderly.modSeq (by rw [State.seq_modSeq]))

theorem placeFreed (h : State.Holding k x s₀ s) : State.Holding k x s₀ (placeFreed k s) := by
  refine h.retryHeld.of_queue h.toOrderly.placeFreed ?_
  unfold Machine.placeFreed
  dsimp only
  split
  · split <;> rfl
  · rfl

theorem shedFreed (h : State.Holding k x s₀ s) {b : Bool} : State.Holding k x s₀ (shedFreed k b s) := by
  unfold Machine.shedFreed
  split
  · exact h.placeFreed
  · exact h

theorem withdrawPicks (h : State.Holding k x s₀ s) : State.Holding k x s₀ (withdrawPicks k s) := by
  unfold Machine.withdrawPicks
  split
  · rename_i hy
    have hp := fun ps => h.setPicks (Seq.granted_mem hy) (ps := ps)
    exact (hp _).of_queue (hp _).toOrderly.postAll rfl
  · exact h

theorem leaveOpening (h : State.Holding k x s₀ s) {next : CarState} : State.Holding k x s₀ (leaveOpening k next s) := by
  have ho := h.toOrderly.leaveOpening (k := k) (next := next)
  unfold Machine.leaveOpening at ho ⊢
  split at ho
  · refine h.of_queue ho ?_
    rw [State.seq_modSeq]
    split <;> rfl
  · have hw := h.withdrawPicks
    refine shedFreed (hw.of_queue hw.toOrderly.endGrantOf.modSeq ?_)
    obtain ⟨ss, m, e⟩ := endGrantOf_effect k .left (Machine.withdrawPicks k s)
    rw [State.seq_modSeq, e]
    rfl
  all_goals exact h.of_queue ho (by rw [State.seq_modSeq])

end State.Holding

theorem Seq.taskFor_kind {q : Seq} {kind : TaskKind} {c : Nat} {x : Task} (h : q.taskFor kind c = some x) : x.kind = kind := by
  have := List.find?_some h
  simp only [Task.is, Bool.and_eq_true, decide_eq_true_eq] at this
  exact this.1

theorem takeOut_queue (k : Carousel) (x : Task) (s : State) :
    ((takeOut k x s).seq k).queue = withoutTask x.num (s.seq k).queue := by
  unfold takeOut
  dsimp only
  split <;> simp [State.seq_modSeq]

/-- A task that is dropped leaves the queue as it stands when the carousel has left the opening, or at once. -/
theorem dropTask_queue (k : Carousel) (x : Task) (s : State) : ∃ u, (u = s ∨ u = leaveOpening k .idle s) ∧
    ((dropTask k x s).seq k).queue = withoutTask x.num (u.seq k).queue ∧
    ((dropTask k x s).seq k).arrivals = (u.seq k).arrivals := by
  have harr : ∀ u : State, ((takeOut k x u).seq k).arrivals = (u.seq k).arrivals := fun u => by
    unfold takeOut
    dsimp only
    split <;> simp [State.seq_modSeq]
  unfold Machine.dropTask
  dsimp only
  split
  · refine ⟨_, .inr rfl, ?_, ?_⟩ <;> rw [clearCurrent, State.seq_modSeq]
    · exact takeOut_queue k x _
    · exact harr _
  · exact ⟨s, .inl rfl, takeOut_queue k x s, harr s⟩

/-- A task of the queue dropped and placed again keeps the queue in order, whatever has joined the queue between. -/
theorem State.Orderly.dropTask_again {s₀ s : State} {k : Carousel} {x : Task} (h : s₀.Orderly s) (hx : x ∈ (s.seq k).queue) :
    s₀.Orderly ((Machine.dropTask k x s).modSeq k fun q => { q with queue := placeTask x q.queue }) := by
  obtain ⟨u, hu, hq, ha⟩ := dropTask_queue k x s
  have hh : State.Holding k x s₀ u := by
    have hs : State.Holding k x s₀ s := ⟨h, Seq.stands_of_mem hx⟩
    rcases hu with rfl | rfl
    · exact hs
    · exact hs.leaveOpening
  refine h.dropTask.setSeq (((hh.seqs k).replace hh.stands (placeTask_holds x _)).congr (congrArg (placeTask x) hq) ha)

namespace State.Orderly
-- These lemmas rest on each other in long chains: each would hold a thread that waits for the one before.
set_option Elab.async false
variable {s₀ s t : State} {k : Carousel} {c : Nat}

/-! ## The sequencers: reports of orders, PUT and AUDIT tasks -/

/-- Tasks that stand take their classes, one after another. -/
theorem reclassTasks (h : s₀.Orderly s) {f : Task → Task} (hn : ∀ x, (f x).num = x.num) (hk : ∀ x, (f x).kind = x.kind)
    (hc : ∀ x, (f x).carrier = x.carrier) {g : Task → Class} {l : List Task}
    (hl : ∀ x ∈ l, (s₀.seq k).Stands (s.seq k) x) :
    s₀.Orderly (l.foldl (fun s x => Machine.reclassTask k (f x) (g x) s) s) := by
  induction l generalizing s with
  | nil => exact h
  | cons x l ih =>
    have hx := (hl x List.mem_cons_self).form (hn x) (hk x) (hc x)
    refine ih (h.reclassTask hx) fun y hy => ?_
    exact (State.Holding.reclassTask ⟨h, hl y (List.mem_cons_of_mem _ hy)⟩ hx).stands

theorem takeClass (h : s₀.Orderly s) {n : Nat} {cls : Class} : s₀.Orderly (takeClass k n cls s) := by
  refine choose (modSeq (h.reclassTasks (fun x => x.withPicks_num _) (fun x => x.withPicks_kind _)
    (fun x => x.withPicks_carrier _) fun x hx => ?_))
  exact Seq.stands_of_mem (List.mem_filter.1 hx).1

theorem takeNewReservation (h : s₀.Orderly s) {r : ResId} {n : Nat} {x : PickOrder} :
    s₀.Orderly (takeNewReservation k r c n x s) := h.takeReservation.choose

theorem takeOrderReport (h : s₀.Orderly s) {i : Instr} : s₀.Orderly (takeOrderReport i s) := by
  unfold Machine.takeOrderReport
  split
  · exact h.takeNewReservation
  · exact h.takeClass
  · exact h.takeNewCount
  · exact h.takeDrop
  · exact h.takeStrike
  · exact h

theorem takeOrderReports (h : s₀.Orderly s) : s₀.Orderly (takeOrderReports k s) := by
  refine foldl ?_ (fun _ _ h => h.takeOrderReport) _
  exact h.of_queued rfl

theorem putOffered (h : s₀.Orderly s) {lot count : Nat} {cls : Class} {st : Station} :
    s₀.Orderly (putOffered k c lot count cls st s).1 := by
  unfold Machine.putOffered
  split
  · exact h
  split
  · exact h
  · rename_i hn
    split
    · rename_i hp
      exact (h.newTask hp (Option.not_isSome_iff_eq_none.1 hn)).choose
    · exact h

theorem auditOffered (h : s₀.Orderly s) {b : Bool} {cls : Class} : s₀.Orderly (auditOffered k c b cls s).1 := by
  unfold Machine.auditOffered
  split
  · exact h
  split
  · exact h
  · rename_i hn
    split
    · rename_i hp
      exact (h.newTask hp (Option.not_isSome_iff_eq_none.1 hn)).choose
    · exact h

theorem auditRequeued (h : s₀.Orderly s) : s₀.Orderly (auditRequeued k c s).1 := by
  unfold Machine.auditRequeued
  split
  · exact h
  · rename_i x hx
    dsimp only
    split
    · exact (h.dropTask_again (Seq.taskFor_mem hx)).choose
    · have hd := h.dropTask (k := k) (x := x)
      generalize Machine.dropTask k x s = u at hd
      exact hd.settleQueue

theorem auditReclassed (h : s₀.Orderly s) {cls : Class} {b : Bool} : s₀.Orderly (auditReclassed k c cls b s) := by
  unfold Machine.auditReclassed
  split
  · exact h
  · rename_i x hx
    have hs : (s₀.seq k).Stands (s.seq k) { x with cls := cls, body := .audit b } :=
      (Seq.stands_of_mem (Seq.taskFor_mem hx)).form rfl (Seq.taskFor_kind hx).symm rfl
    generalize ({ x with cls := cls, body := .audit b } : Task) = y at hs ⊢
    exact (h.setSeq ((h.seqs k).replace hs (replaceAudit_holds y _))).showAudit.choose

theorem auditRemoved (h : s₀.Orderly s) : s₀.Orderly (auditRemoved k c s) := by
  unfold Machine.auditRemoved
  split
  · exact h
  · exact h.dropTask.settleQueue

theorem auditApplied (h : s₀.Orderly s) : s₀.Orderly (auditApplied k c s) := by
  unfold Machine.auditApplied
  split
  · exact h
  split
  · exact h.endTask
  · exact h.dropTask.settleQueue

theorem acceptGrant (h : s₀.Orderly s) {x : Task} : s₀.Orderly (acceptGrant k x s) := h.modSeq.postAll

theorem confirmTask (h : s₀.Orderly s) : s₀.Orderly (confirmTask k s).1 := by
  unfold Machine.confirmTask
  split
  · exact h
  · rename_i x hg
    split
    · rename_i ps hb
      have hp := h.postAll (cs := (ps.filter (·.opened)).map fun p => .reservationWithdrawn p.res)
      have hx : x ∈ (s.seq k).queue := Seq.granted_mem hg
      have hkind : x.kind = .pick := by simp [Task.kind, hb]
      dsimp only
      refine endTask ?_
      split
      · exact hp.modSeq (Seq.tidies_sublist (withoutTask_sublist _ _))
      · rw [Machine.newTask, State.modSeq_modSeq]
        exact hp.modSeq (Seq.tidies_renew (q := s.seq k) hx hkind.symm)
    · dsimp only
      exact endTask h.returnIncomingEntry
    · exact h

/-! ## The sequencers: the drive's answers -/

theorem moveComplete (h : s₀.Orderly s) : s₀.Orderly (moveComplete k s) := by
  unfold Machine.moveComplete
  split
  · exact h.becomeReady
  · exact h.comeToRest.choose

theorem replan (h : s₀.Orderly s) {d : Option Nat} : s₀.Orderly (replan k d s) := by
  unfold Machine.replan
  split
  · exact h.comeToRest.choose
  split
  · exact h.planMove
  · exact h.comeToRest.choose

theorem moveShort (h : s₀.Orderly s) : s₀.Orderly (moveShort k s) := by
  unfold Machine.moveShort
  split
  · exact h.modSeq.replan
  · exact h.enterFault

theorem stopping (h : s₀.Orderly s) {why : StopCause} : s₀.Orderly (stopping k why s) := h.modSeq

theorem otherTarget (h : s₀.Orderly s) : s₀.Orderly (otherTarget k s) := h.sendHalt.stopping

theorem lostPosition (h : s₀.Orderly s) : s₀.Orderly (lostPosition k s) := h.enterUnknown

theorem statusMoving (h : s₀.Orderly s) {mv : Move} {answer still : Bool} {i n : Nat} :
    s₀.Orderly (statusMoving k mv answer still i n s) := by
  unfold Machine.statusMoving
  split
  · split
    · exact h.moveComplete
    split
    · split
      · exact h.enterFault
      · exact h.replan
    · exact h.moveShort
  split
  · exact h
  · exact h.otherTarget

theorem statusStopped (h : s₀.Orderly s) : s₀.Orderly (statusStopped k s) := h.comeToRest.choose

theorem statusMotion (h : s₀.Orderly s) {old : Option Nat} {answer still : Bool} {i n : Nat} :
    s₀.Orderly (statusMotion k old answer still i n s) := by
  unfold Machine.statusMotion
  split
  · split
    · exact h.comeToRest.choose
    · exact h
  · split
    · exact h
    · exact h.lostPosition
  · split
    · exact h
    · exact h.lostPosition
  · split
    · exact h
    · exact h.lostPosition
  · split
    · exact h.statusMoving
    · exact h
  · split
    · exact h.statusStopped
    · exact h
  all_goals exact h

theorem takeStatus (h : s₀.Orderly s) {m : Motion} {i n : Nat} : s₀.Orderly (takeStatus k m i n s) := by
  unfold Machine.takeStatus
  dsimp only
  split
  · exact h
  split
  · split
    · exact h.modSeq.enterFault
    · exact h
  split
  · exact h.modSeq.enterFault
  · exact h.modSeq.statusMotion
  · exact h.modSeq.statusMotion

theorem queryExpired (h : s₀.Orderly s) : s₀.Orderly (queryExpired k s) := by
  unfold Machine.queryExpired
  split
  · exact h
  dsimp only
  split
  · exact h.reach.modSeq
  · exact h.reach.modSeq.enterFault

theorem queryUnanswered (h : s₀.Orderly s) {n : Nat} : s₀.Orderly (queryUnanswered k n s) := h.modSeq.enterFault

theorem queryReturned (h : s₀.Orderly s) {n : Nat} {f : Fate} : s₀.Orderly (queryReturned k n f s) := by
  unfold Machine.queryReturned
  split
  · exact h.modSeq
  all_goals exact h.queryUnanswered

theorem moveReturned (h : s₀.Orderly s) {f : Fate} : s₀.Orderly (moveReturned k f s) := by
  unfold Machine.moveReturned
  dsimp only
  split
  · exact h
  · split
    · exact h.enterFault
    · exact h
  all_goals
    split
    · exact h
    · exact h.sendQuery

theorem haltReturned (h : s₀.Orderly s) {f : Fate} : s₀.Orderly (haltReturned k f s) := by
  unfold Machine.haltReturned
  split
  · exact h.enterFault
  · exact h

theorem moveTimedOut (h : s₀.Orderly s) : s₀.Orderly (moveTimedOut k s) := by
  unfold Machine.moveTimedOut
  split
  · exact h
  split
  · exact h.reach.sendHalt.enterFault
  · exact h.reach.enterFault
  all_goals exact h

/-! ## The sequencers: curtains, missing drives, ring and cell -/

theorem stopMove (h : s₀.Orderly s) : s₀.Orderly (stopMove k s) := by
  unfold Machine.stopMove
  split
  · dsimp only
    split
    · exact h.withdrawMove.comeToRest.choose
    · exact h.withdrawMove.sendHalt.stopping
  · exact h

theorem curtainBreaks (h : s₀.Orderly s) {b : Bool} : s₀.Orderly (curtainBreaks k b s) := h.modSeq.stopMove.choose

theorem curtainClears (h : s₀.Orderly s) : s₀.Orderly (curtainClears k s) := by
  unfold Machine.curtainClears
  split
  · exact h.modSeq
  · exact h.modSeq
  all_goals exact h

theorem curtainSettles (h : s₀.Orderly s) : s₀.Orderly (curtainSettles k s) := by
  unfold Machine.curtainSettles
  split
  · exact h
  split
  · exact h.reach.modSeq.choose
  · exact h

theorem driveMissing (h : s₀.Orderly s) : s₀.Orderly (driveMissing k s) := by
  unfold Machine.driveMissing
  split
  · dsimp only
    split
    · exact h.sendHalt.enterFault
    · exact h.sendHalt
  · exact h

theorem speedReported (h : s₀.Orderly s) : s₀.Orderly (speedReported k s) := by
  unfold Machine.speedReported
  split
  · exact h.choose
  · exact h

theorem driveUnheard (h : s₀.Orderly s) {p : Payload} : s₀.Orderly (driveUnheard k p s) := by
  unfold Machine.driveUnheard
  split
  · exact h.queryUnanswered
  · exact h.enterFault
  · exact h.enterFault
  all_goals exact h

theorem discardMoves (h : s₀.Orderly s) : s₀.Orderly (discardMoves k s) := h.modFe

theorem seqSpace (h : s₀.Orderly s) : s₀.Orderly (seqSpace k s) := by
  have hr : ∀ {u : State}, s₀.Orderly u → s₀.Orderly (Machine.reofferKept (.seq k) (Machine.driveUnheard k) u) :=
    fun hu => hu.reofferKept fun _ {_} h => h.driveUnheard
  unfold Machine.seqSpace
  dsimp only
  split <;> split
  · exact (hr h).choose
  · exact hr h
  · exact (hr h.discardMoves).choose
  · exact hr h.discardMoves

theorem takePlace (h : s₀.Orderly s) {p : Option (Station × Bay)} : s₀.Orderly (takePlace k p s) := by
  refine choose (h.modSeq ?_)
  split <;> exact ⟨id, id⟩

theorem takeStationState (h : s₀.Orderly s) {b : Bool} : s₀.Orderly (takeStationState k b s) := by
  unfold Machine.takeStationState
  split
  · dsimp only
    split
    · exact h.withdrawMove.comeToRest.choose
    · exact h.withdrawMove
  · exact h.choose

theorem seqRingDown (h : s₀.Orderly s) : s₀.Orderly (seqRingDown k s) := by
  have hq := h.modSeq (k := k) (f := fun q => { q with queries := q.queries.filter (s.queryStands k) })
  unfold Machine.seqRingDown
  dsimp only
  split
  · exact hq.withdrawMove.modSeq
  · exact hq.withdrawMove.modSeq
  · exact hq.choose
  all_goals exact hq

theorem seqRing (h : s₀.Orderly s) {r : Ring} : s₀.Orderly (seqRing k r s) := by
  unfold Machine.seqRing
  split
  · exact h.seqRingDown
  all_goals exact h.choose

theorem seqHalt (h : s₀.Orderly s) : s₀.Orderly (seqHalt k s) := by
  unfold Machine.seqHalt
  split
  · dsimp only
    split
    · exact h.withdrawMove.comeToRest.choose
    · exact h.withdrawMove.stopping
  · exact h.stopping
  · exact h.choose
  all_goals exact h

theorem seqRun (h : s₀.Orderly s) : s₀.Orderly (seqRun k s) := by
  unfold Machine.seqRun
  split
  · exact h.enterUnknown
  · exact h.enterUnknown
  · exact h.enterUnknown
  · exact h.enterUnknown
  all_goals exact h


end State.Orderly
end Sys2Proof.Machine

namespace Sys2Proof.Machine
namespace State.Orderly
-- These lemmas rest on each other in long chains: each would hold a thread that waits for the one before.
set_option Elab.async false
variable {s₀ s t : State} {k : Carousel} {c : Nat}

/-! ## The sequencers: windows, disabled carousels and claims -/

theorem closePut (h : s₀.Orderly s) {x : Task} : s₀.Orderly (closePut k s x) := by
  unfold Machine.closePut
  split
  · exact h.returnIncomingEntry.dropTask
  all_goals exact h

theorem closeAudit (h : s₀.Orderly s) {x : Task} : s₀.Orderly (closeAudit k s x) := by
  unfold Machine.closeAudit
  split
  · exact h.dropTask.post
  all_goals exact h

theorem closeCarriers (h : s₀.Orderly s) {cs : List Nat} : s₀.Orderly (closeCarriers k cs s) := by
  unfold Machine.closeCarriers
  split
  · exact h
  dsimp only
  split
  · exact foldl (foldl h.excludeEntry.post (fun _ _ h => h.closePut) _) (fun _ _ h => h.closeAudit) _
  · exact placeFreed (foldl (foldl h.excludeEntry.post (fun _ _ h => h.closePut) _) (fun _ _ h => h.closeAudit) _)

theorem openCarriers (h : s₀.Orderly s) {cs : List Nat} : s₀.Orderly (openCarriers k cs s) := by
  unfold Machine.openCarriers
  split
  · exact h
  · exact h.admitEntry.post

theorem windowSetRequest (h : s₀.Orderly s) {n : Nat} {b : Option (Nat × Nat)} :
    s₀.Orderly (windowSetRequest n b s).1 := by
  unfold Machine.windowSetRequest
  split
  · exact h
  rename_i k _
  dsimp only
  split
  · exact h
  split
  · exact h
  have hc := fun cs => (h.modSeq (k := k) (f := fun q => { q with window := b })).closeCarriers (k := k) (cs := cs)
  split
  · exact (hc _).choose
  · exact (hc _).openCarriers.choose

/-- A carousel that is disabled gives up its move and its built frame (R87). -/
theorem disableRequest (h : s₀.Orderly s) {n : Nat} : s₀.Orderly (disableRequest n s).1 := by
  unfold Machine.disableRequest
  split
  · exact h
  rename_i k _
  split
  · exact h
  · exact h
  · exact h
  all_goals
    dsimp only
    refine modSeq (leaveOpening (closeCarriers ?_))
    split
    · split
      · exact h.withdrawMove
      · exact h.withdrawMove.sendHalt
    · exact h

theorem enableRequest (h : s₀.Orderly s) {n : Nat} : s₀.Orderly (enableRequest n s).1 := by
  unfold Machine.enableRequest
  split
  · exact h
  split
  · exact h
  · exact h.openCarriers.enterUnknown
  · exact h.enterUnknown
  all_goals exact h

theorem restartIdle (h : s₀.Orderly s) {n : Nat} : s₀.Orderly (restartIdle k n s) := h.modSeq

/-- A carousel that enters MANUAL gives up its move and its built frame (R88). -/
theorem takeClaim (h : s₀.Orderly s) {n : Nat} : s₀.Orderly (takeClaim k n s) := by
  unfold Machine.takeClaim
  split
  · exact h
  · exact h
  · exact h.restartIdle
  all_goals
    exact h.withdrawMove.leaveOpening.abandonAudit.modSeq.handNotice

theorem takeAccess (h : s₀.Orderly s) {n : Nat} : s₀.Orderly (takeAccess k n s) := by
  unfold Machine.takeAccess
  split
  · exact h.modSeq.restartIdle
  · exact h

theorem takeMaintFrame (h : s₀.Orderly s) {n : Nat} : s₀.Orderly (takeMaintFrame k n s) := by
  unfold Machine.takeMaintFrame
  split
  · exact h.restartIdle
  · exact h

theorem endClaim (h : s₀.Orderly s) {b : Bool} : s₀.Orderly (endClaim k b s) := by
  unfold Machine.endClaim
  split
  · exact h.postAll.handNotice.modSeq.enterUnknown
  · exact h

theorem takeRelease (h : s₀.Orderly s) {n : Nat} : s₀.Orderly (takeRelease k n s) := by
  unfold Machine.takeRelease
  split
  · exact h.endClaim
  · exact h

theorem manualIdleExpired (h : s₀.Orderly s) : s₀.Orderly (manualIdleExpired k s) := by
  unfold Machine.manualIdleExpired
  split
  · exact h.reach.endClaim
  · exact h

theorem endClaimsOf (h : s₀.Orderly s) {n : Nat} : s₀.Orderly (endClaimsOf n s) :=
  h.foldl (fun _ _ h => h.takeRelease) _

theorem configureSeq (h : s₀.Orderly s) : s₀.Orderly (configureSeq k s) := by
  unfold Machine.configureSeq
  split
  · exact h.modSeq.enterUnknown
  · exact h.modSeq

end State.Orderly
end Sys2Proof.Machine

namespace Sys2Proof.Machine
namespace State.Orderly
-- These lemmas rest on each other in long chains: each would hold a thread that waits for the one before.
set_option Elab.async false
variable {s₀ s t : State} {k : Carousel} {st : Station} {l : Lane} {c n i lot hd : Nat}

/-! ## Frames that a command carries in -/

theorem addReply (h : s₀.Orderly s) {q : Req} {kind : Nat} {a : Answered} : s₀.Orderly (addReply q kind a s) := h.modMgmt

theorem answerRequest (h : s₀.Orderly s) {q : Req} {kind : Nat} {body : State → State × Answered}
    (hb : ∀ {t : State}, s₀.Orderly t → s₀.Orderly (body t).1) : s₀.Orderly (answerRequest q kind body s) := by
  unfold Machine.answerRequest
  split
  · exact h.ans
  · exact (hb h).addReply

theorem malformed (h : s₀.Orderly s) {g : Hdr} {kind : Nat} {p : List Byte} : s₀.Orderly (malformed g kind p s) :=
  h.passFrame.answerRequest id

theorem maintAct (h : s₀.Orderly s) {kind source : Nat} : s₀.Orderly (maintAct kind k source s) := by
  unfold Machine.maintAct
  split
  · exact h.takeClaim
  · exact h.takeAccess
  · exact h.takeRelease
  · exact h.takeMaintFrame

theorem takeForeignFrame (h : s₀.Orderly s) {g : Hdr} {kind : Nat} : s₀.Orderly (takeForeignFrame k g kind s) :=
  h.handNotice

theorem redirect (h : s₀.Orderly s) {d : Disposal} {g : Hdr} {kind : Nat} {p : List Byte} :
    s₀.Orderly (redirect d g kind p s) := by
  unfold Machine.redirect
  split
  · exact h.frameReturned
  · exact h.malformed
  · exact h.takeForeignFrame
  · exact h.passFrame.maintAct
  all_goals exact h.passFrame

theorem fieldFrame (h : s₀.Orderly s) {g : Hdr} {kind : Nat} {p : List Byte} {owner : Role → Nat → State → State}
    (ho : ∀ r u {t : State}, s₀.Orderly t → s₀.Orderly (owner r u t)) :
    s₀.Orderly (fieldFrame g kind p owner s) := by
  refine h.receive fun d t ht => ?_
  split
  · rename_i role unit mirror
    have hm : s₀.Orderly (owner role unit (if mirror then Machine.passFrame g kind t else t)) := by
      refine ho _ _ ?_
      split
      · exact ht.passFrame
      · exact ht
    dsimp only
    split
    · exact hm.restoreAnswered
    · exact hm
  · exact ht.redirect

/-! ## The in-transit list and the diverts -/

theorem freePlace (h : s₀.Orderly s) : s₀.Orderly (freePlace n s) := h.postAll.modTransit

theorem askPlace (h : s₀.Orderly s) : s₀.Orderly (askPlace st s).1 := by
  unfold Machine.askPlace
  dsimp only
  split
  · dsimp only
    exact h.modTransit
  · exact h.of_queued rfl

theorem givePlace (h : s₀.Orderly s) : s₀.Orderly (givePlace st n s) := by
  unfold Machine.givePlace
  split
  · exact h.freePlace
  · exact h

theorem sendDivert (h : s₀.Orderly s) {x : Label} {d : Option Lane} {b : Bool} : s₀.Orderly (sendDivert x d b s) :=
  h.sendOrKeep

theorem unrouted (h : s₀.Orderly s) {ref : OrderRef} {line week : Nat} {x : Label} :
    s₀.Orderly (handOverPlace.unrouted st n hd ref line lot week x s) :=
  (h.freePlace.sendDivert.post).handNotice

theorem handOverPlace (h : s₀.Orderly s) {ref : OrderRef} {line week : Nat} :
    s₀.Orderly (handOverPlace st n hd ref line lot week s) := by
  unfold Machine.handOverPlace
  split
  · dsimp only
    split
    · split
      · exact h.modTransit.sendDivert
      · exact h.unrouted
    · exact h.unrouted
  · exact h

theorem divertReturned (h : s₀.Orderly s) {x : Label} {d : Option Lane} {b : Bool} {f : Fate} :
    s₀.Orderly (divertReturned x d b f s) := by
  unfold Machine.divertReturned
  split
  · split
    · exact h
    · exact h.sendDivert
  · split
    · exact h
    · exact h.sendDivert
  all_goals exact h

/-! ## Lane controllers -/

theorem loseController (h : s₀.Orderly s) : s₀.Orderly (loseController l s) := by
  unfold Machine.loseController
  exact h.withdrawWhere.modFe.modLane

theorem sendLatch (h : s₀.Orderly s) {a b : Bool} : s₀.Orderly (sendLatch l a b s) := by
  unfold Machine.sendLatch
  split
  · exact h
  dsimp only
  generalize (if a = true then Payload.lock l b else Payload.unlock l s.mgmt.timers.latch b) = p
  split
  · exact h.sendOrKeep.modLane.loseController
  · exact h.sendOrKeep.modLane

theorem latchReturned (h : s₀.Orderly s) {a b : Bool} {f : Fate} : s₀.Orderly (latchReturned l a b f s) := by
  unfold Machine.latchReturned
  split
  · exact h
  split
  · exact h.loseController
  · exact h.sendLatch

theorem showAtLane (h : s₀.Orderly s) {x : LaneShow} : s₀.Orderly (showAtLane l x s) := h.sendOrKeep

theorem laneUnheard (h : s₀.Orderly s) {p : Payload} : s₀.Orderly (laneUnheard p s) := by
  unfold Machine.laneUnheard
  split
  · exact h.loseController
  · exact h.loseController
  all_goals exact h

/-! ## Lanes -/

theorem modComp (h : s₀.Orderly s) {f : Comp → Comp} : s₀.Orderly (modComp l c f s) := h.modLane

theorem assignLane (h : s₀.Orderly s) : s₀.Orderly (assignLane l n s) := by
  induction n generalizing s with
  | zero => exact h
  | succ n ih =>
    unfold Machine.assignLane
    split
    · exact ih h.modComp.modTransit.post
    · exact h

theorem assignRound (h : s₀.Orderly s) : s₀.Orderly (assignRound s) := by
  refine h.foldl (fun t l ht => ?_) _
  split
  · exact ht.assignLane
  · exact ht

theorem enterReleasing (h : s₀.Orderly s) : s₀.Orderly (enterReleasing l s) := h.modLane.sendLatch.postAll

theorem checkFlush (h : s₀.Orderly s) : s₀.Orderly (checkFlush l s) := by
  unfold Machine.checkFlush
  split
  · exact h.enterReleasing
  · exact h

theorem enterFlushing (h : s₀.Orderly s) : s₀.Orderly (enterFlushing l s) := h.postAll.modLane.checkFlush

theorem permitTest (h : s₀.Orderly s) : s₀.Orderly (permitTest l s) := by
  unfold Machine.permitTest
  split
  · exact h.enterFlushing
  · exact h

theorem enterSeating (h : s₀.Orderly s) : s₀.Orderly (enterSeating l s) := h.modLane

theorem seatIfMade (h : s₀.Orderly s) : s₀.Orderly (seatIfMade l s) := by
  unfold Machine.seatIfMade
  dsimp only
  split
  · exact h.enterSeating
  · exact h

theorem emptyLane (h : s₀.Orderly s) : s₀.Orderly (emptyLane l s) := h.modLane

theorem coupleCart (h : s₀.Orderly s) {id : CartId} {source : CartSource} : s₀.Orderly (coupleCart l id c source s) :=
  h.modLane.sendLatch.assignRound

theorem cartLost (h : s₀.Orderly s) : s₀.Orderly (cartLost l s) := by
  unfold Machine.cartLost
  dsimp only
  refine seatIfMade (foldl (handNotice (sendLatch (emptyLane (postAll (foldl h (fun _ _ h => ?_) _)))))
    (fun _ _ h => h.checkFlush) _)
  exact h.freePlace.postAll

theorem pressRelease (h : s₀.Orderly s) : s₀.Orderly (pressRelease l s) := by
  unfold Machine.pressRelease
  split
  · exact h.sendLatch
  · exact h.sendLatch
  · exact h.modLane.handNotice.permitTest
  all_goals exact h

theorem contactsChanged (h : s₀.Orderly s) {old : LaneInput} : s₀.Orderly (contactsChanged l old s) := by
  unfold Machine.contactsChanged
  dsimp only
  split
  · exact h.seatIfMade
  · split
    · exact h.emptyLane
    · exact h
  · split
    · exact h.emptyLane
    · exact h
  · split
    · exact h.cartLost
    · exact h
  · split
    · exact h.cartLost
    · exact h
  · split
    · exact h.cartLost
    · exact h
  · split
    · exact h
    · exact h.emptyLane
  · exact h

/-- What a lane does with its contacts and its button (R132, R141). -/
theorem laneInput (h : s₀.Orderly s) {a b : Prop} [Decidable a] [Decidable b] {old : LaneInput} :
    s₀.Orderly (if b then Machine.pressRelease l (if a then s else Machine.contactsChanged l old s)
      else if a then s else Machine.contactsChanged l old s) := by
  have hc : s₀.Orderly (if a then s else Machine.contactsChanged l old s) := by
    split
    · exact h
    · exact h.contactsChanged
  split
  · exact hc.pressRelease
  · exact hc

theorem takeLaneInput (h : s₀.Orderly s) {x : LaneInput} : s₀.Orderly (takeLaneInput l x s) := by
  unfold Machine.takeLaneInput
  dsimp only
  split <;> split
  · exact h.modLane.laneInput.assignRound
  · exact h.modLane.assignRound
  · exact h.modLane.laneInput
  · exact h.modLane

theorem momentaryRelease (h : s₀.Orderly s) : s₀.Orderly (momentaryRelease l s) := by
  unfold Machine.momentaryRelease
  dsimp only
  split
  · exact h
  split <;> split
  · exact h.modLane.pressRelease.assignRound
  · exact h.modLane.assignRound
  · exact h.pressRelease
  · exact h

theorem laneSettled (h : s₀.Orderly s) : s₀.Orderly (laneSettled l s) := by
  unfold Machine.laneSettled
  split
  · exact h.reach.sendOrKeep.modLane
  · exact h

theorem tagExpires (h : s₀.Orderly s) : s₀.Orderly (tagExpires l s) := by
  unfold Machine.tagExpires
  split
  · exact h.reach.modLane.handNotice
  · exact h

theorem takeTag (h : s₀.Orderly s) {id : CartId} : s₀.Orderly (takeTag l id c s) := by
  unfold Machine.takeTag
  split
  · exact h.coupleCart
  · exact h

theorem takeArrival (h : s₀.Orderly s) {x : Label} : s₀.Orderly (takeArrival l x s) := by
  unfold Machine.takeArrival
  split
  · exact h.freePlace.post.showAtLane.checkFlush
  · exact h.handNotice.showAtLane

theorem transitExpired (h : s₀.Orderly s) : s₀.Orderly (transitExpired n s) := by
  unfold Machine.transitExpired
  split
  · exact h.reach.freePlace.post.handNotice.checkFlush
  all_goals exact h

theorem takeWaiting (h : s₀.Orderly s) {w : Waiting} : s₀.Orderly (takeWaiting w s) := h.modTransit.assignRound

theorem takeOrderClass (h : s₀.Orderly s) {cls : Class} : s₀.Orderly (takeOrderClass hd cls s) := h.modTransit.assignRound

theorem takeGone (h : s₀.Orderly s) : s₀.Orderly (takeGone hd s) := h.modTransit

theorem closeComp (h : s₀.Orderly s) {x : CompState} : s₀.Orderly (closeComp hd x s) := by
  unfold Machine.closeComp
  split
  · split
    · exact h.modComp.permitTest
    · exact h
  · exact h

theorem takeCancel (h : s₀.Orderly s) {b : Bool} : s₀.Orderly (takeCancel hd b s) := by
  have hp : s₀.Orderly (s.modTransit fun t => { t with places := tmap (fun _ p => p.cancel hd) t.places }) :=
    h.modTransit
  unfold Machine.takeCancel
  dsimp only
  split
  · exact hp.closeComp
  · exact hp.takeGone

theorem takeCompletion (h : s₀.Orderly s) : s₀.Orderly (takeCompletion hd s) := h.closeComp

theorem takeReceiptAnswer (h : s₀.Orderly s) {sq : Nat} {b : Bool} : s₀.Orderly (takeReceiptAnswer l c hd sq b s) := by
  unfold Machine.takeReceiptAnswer
  split
  · split
    · exact h.modComp
    · exact h.modComp.assignRound
  · exact h

theorem lanePermitRequest (h : s₀.Orderly s) : s₀.Orderly (lanePermitRequest n s).1 := by
  unfold Machine.lanePermitRequest
  split
  · exact h
  split
  · exact h.enterFlushing
  all_goals exact h

theorem laneAssignRequest (h : s₀.Orderly s) {id : CartId} : s₀.Orderly (laneAssignRequest n id c s).1 := by
  unfold Machine.laneAssignRequest
  split
  · exact h
  split
  · exact h
  split
  · dsimp only
    exact h.coupleCart
  · exact h

theorem laneCloseRequest (h : s₀.Orderly s) : s₀.Orderly (laneCloseRequest n s).1 := by
  unfold Machine.laneCloseRequest
  split
  · exact h
  split
  · exact h.of_queued rfl
  all_goals exact h

theorem laneOpenRequest (h : s₀.Orderly s) : s₀.Orderly (laneOpenRequest n s).1 := by
  unfold Machine.laneOpenRequest
  split
  · exact h
  split
  · dsimp only
    split
    · exact h.modLane.enterSeating
    · exact h.modLane
  · exact h

theorem configureLane (h : s₀.Orderly s) {b : Bool} : s₀.Orderly (configureLane l b n s) := by
  unfold Machine.configureLane
  dsimp only
  split
  · refine seatIfMade ?_
    split
    · exact h.modLane
    · exact h.modLane.modLane
  split
  · exact h.modLane
  · exact h.modLane.emptyLane

theorem restartLanes (h : s₀.Orderly s) : s₀.Orderly (restartLanes s) := h.of_queued rfl

end State.Orderly
end Sys2Proof.Machine


namespace Sys2Proof.Machine
namespace State.Orderly
-- These lemmas rest on each other in long chains: each would hold a thread that waits for the one before.
set_option Elab.async false
variable {s₀ s t : State} {k : Carousel} {st : Station} {c n lot : Nat}

/-! ## The planners -/

theorem refusePut (h : s₀.Orderly s) {whole planned : Nat} {why : RefuseReason} :
    s₀.Orderly (refusePut st lot whole planned n why s) := h.modStn.handNotice

theorem refuseBatch (h : s₀.Orderly s) {b : Planning} {why : RefuseReason} : s₀.Orderly (refuseBatch st b why s) :=
  h.modStn.refusePut

theorem offerPart (h : s₀.Orderly s) {p : Part} : s₀.Orderly (offerPart st p s).1 := by
  unfold Machine.offerPart
  dsimp only
  split
  · dsimp only
    exact h.putOffered.modStn
  · exact h.putOffered
  · exact h.putOffered.returnIncomingEntry.refusePut
  · exact h.putOffered.returnIncomingEntry.refusePut

theorem makePart (h : s₀.Orderly s) {b : Planning} {r : Reading} : s₀.Orderly (makePart st b r s) := by
  unfold Machine.makePart
  dsimp only
  split
  · split
    · exact h.planIncomingEntry.modStn.offerPart.modStn
    · exact h.planIncomingEntry.modStn.offerPart
  · exact h.planIncomingEntry

theorem planBatch (h : s₀.Orderly s) : s₀.Orderly (planBatch st n s) := by
  induction n generalizing s with
  | zero => exact h
  | succ n ih =>
    unfold Machine.planBatch
    split
    · exact h
    split
    · exact h.modStn
    split
    · exact h.refuseBatch
    split
    · exact h
    split
    · split
      · exact h.refuseBatch
      · exact ih h.makePart
    · exact h.refuseBatch

theorem handBatch (h : s₀.Orderly s) {b : Batch} : s₀.Orderly (handBatch st b s) := h.modStn.planBatch

theorem roomSteps (h : s₀.Orderly s) {b : Bool} : s₀.Orderly (roomSteps st b s) := by
  have hr : ∀ {u : State}, s₀.Orderly u → s₀.Orderly (if (u.stn st).roomWaiter && !(u.stn st).plannerFull then
      (u.modStn st fun x => { x with roomWaiter := false }).post (.plannerRoomReport st) else u) := fun hu => by
    split
    · exact hu.modStn.post
    · exact hu
  unfold Machine.roomSteps
  split
  · refine hr ?_
    split
    · split
      · exact h.handBatch
      · exact h
    · exact h
  · exact h

theorem offerParts (h : s₀.Orderly s) {l : List Part} : s₀.Orderly (offerParts st k l s) := by
  induction l generalizing s with
  | nil => exact h
  | cons p l ih =>
    unfold Machine.offerParts
    split
    · dsimp only
      split
      · exact h.offerPart
      · exact ih h.offerPart.modStn
    · exact ih h

theorem takePlaceReport (h : s₀.Orderly s) : s₀.Orderly (takePlaceReport st k s) := h.offerParts.planBatch.roomSteps

theorem takePutLeft (h : s₀.Orderly s) : s₀.Orderly (takePutLeft st k c lot s) := h.modStn

theorem accumulate (h : s₀.Orderly s) : s₀.Orderly (accumulate st lot s).1 := by
  unfold Machine.accumulate
  dsimp only
  split
  · dsimp only
    exact h.modStn
  split
  · exact h
  split
  · split
    · dsimp only
      exact h.modStn
    split
    · dsimp only
      exact h.modStn
    · exact h.handBatch
  split
  · exact h
  · dsimp only
    exact h.handBatch.modStn

theorem inboundEntry (h : s₀.Orderly s) {x : Label} : s₀.Orderly (inboundEntry st x s).1 := by
  unfold Machine.inboundEntry
  split
  · split
    · exact h
    · exact h.accumulate
  · exact h

theorem endBatch (h : s₀.Orderly s) : s₀.Orderly (endBatch st s) := by
  unfold Machine.endBatch
  split
  · exact h
  split
  · exact h
  split
  · exact h.modStn
  · exact h.handBatch

theorem closePlanner (h : s₀.Orderly s) : s₀.Orderly (closePlanner st s) := by
  unfold Machine.closePlanner
  dsimp only
  split
  · exact h.modStn.refuseBatch
  · exact h.modStn

theorem returnPart (h : s₀.Orderly s) {p : Part} : s₀.Orderly (returnPart st s p) := h.returnIncomingEntry.refusePut

theorem dropParts (h : s₀.Orderly s) {f : Carousel → Bool} : s₀.Orderly (dropParts st f s) := by
  unfold Machine.dropParts
  dsimp only
  split
  · exact h.modStn.foldl (fun _ _ h => h.returnPart) _
  · exact roomSteps (planBatch (h.modStn.foldl (fun _ _ h => h.returnPart) _))

/-! ## Grants, timers and the scan queue -/

theorem tryGrant (h : s₀.Orderly s) : s₀.Orderly (tryGrant st s) := by
  unfold Machine.tryGrant
  dsimp only
  split
  · split
    · exact h.modStn.post
    · exact h
  · exact h

theorem startTimer (h : s₀.Orderly s) : s₀.Orderly (startTimer st s) := h.modStn (by split <;> rfl)
theorem settleTimer (h : s₀.Orderly s) : s₀.Orderly (settleTimer st s) := by
  refine h.modStn ?_
  repeat' split
  all_goals rfl

theorem popHead (h : s₀.Orderly s) : s₀.Orderly (popHead st s) :=
  h.setStn fun hl => (by simp : (s.stn st).queue.tail.length ≤ (s.stn st).queue.length).trans hl
theorem clearMessage (h : s₀.Orderly s) : s₀.Orderly (clearMessage st s) := h.modStn

theorem lockQueue (h : s₀.Orderly s) {x : Cond} {e : ScanEntry} : s₀.Orderly (lockQueue st x e s) := by
  unfold Machine.lockQueue
  dsimp only
  split
  · exact h.modStn
  · exact h.modStn.handNotice

theorem reportTaken (h : s₀.Orderly s) {kind : TaskKind} {x : ScanItem} : s₀.Orderly (reportTaken st k kind x s) := by
  unfold Machine.reportTaken
  dsimp only
  split
  · exact h.handNotice
  · split
    · exact h
    · exact h.modStn.handNotice
  · split
    · exact h.modStn
    · exact h.modStn.handNotice
  all_goals exact h

theorem reportCommit (h : s₀.Orderly s) {r : ResId} : s₀.Orderly (reportCommit st n r k c lot s).1 := by
  unfold Machine.reportCommit
  dsimp only
  split
  · exact h.takeCommit.handOverPlace
  · exact h.takeCommit.givePlace

theorem takePick (h : s₀.Orderly s) {v : TaskView} {p : ViewPick} {e : ScanEntry} :
    s₀.Orderly (takePick st k v p e s).1 := by
  unfold Machine.takePick
  dsimp only
  split
  · dsimp only
    exact h.askPlace.modStn.showMessage
  split
  · dsimp only
    exact pickTaken (h.askPlace.commitPickEntry.reportCommit.clearMessage.popHead.modView.startTimer.reportTaken)
  · dsimp only
    exact h.askPlace.commitPickEntry.givePlace.lockQueue

theorem takePut (h : s₀.Orderly s) {v : TaskView} {e : ScanEntry} : s₀.Orderly (takePut st k v lot e s).1 := by
  unfold Machine.takePut
  dsimp only
  split
  · dsimp only
    exact putTaken (h.commitPutEntry.clearMessage.popHead.modView.startTimer.reportTaken)
  · exact h.commitPutEntry.lockQueue

theorem evalInbound (h : s₀.Orderly s) {e : ScanEntry} : s₀.Orderly (evalInbound st e s).1 := by
  unfold Machine.evalInbound
  dsimp only
  split
  · exact h.clearMessage.inboundEntry.popHead
  · exact h.lockQueue
  · dsimp only
    exact h.modStn

theorem evalOpening (h : s₀.Orderly s) {e : ScanEntry} : s₀.Orderly (evalOpening st e s).1 := by
  unfold Machine.evalOpening
  split
  · exact h.lockQueue
  split
  · split
    · exact h.takePick
    · exact h.lockQueue
  · split
    · exact h.takePut
    · exact h.lockQueue
  · exact h.post.popHead.startTimer

theorem evalHead (h : s₀.Orderly s) : s₀.Orderly (evalHead st s).1 := by
  unfold Machine.evalHead
  split
  · exact h
  split
  · split
    · exact h.evalInbound
    · exact h.evalOpening
  · exact h

theorem evalLoop (h : s₀.Orderly s) : s₀.Orderly (evalLoop st n s) := by
  induction n generalizing s with
  | zero => exact h
  | succ n ih =>
    unfold Machine.evalLoop
    dsimp only
    split
    · exact ih h.tryGrant.evalHead
    · exact h.tryGrant.evalHead

theorem attend (h : s₀.Orderly s) : s₀.Orderly (attend st s) := h.evalLoop.settleTimer.refresh

theorem attendEnded (h : s₀.Orderly s) {u : State} : s₀.Orderly (attendEnded u s) := by
  refine h.foldl (fun t st ht => ?_) _
  split
  · exact ht.attend
  · exact ht

/-! ## Reports to the Station Controllers -/

theorem takeReady (h : s₀.Orderly s) : s₀.Orderly (takeReady st k s) := h.modStn.attend
theorem takeNotReady (h : s₀.Orderly s) : s₀.Orderly (takeNotReady st k s) := h.modStn.attend
theorem declineGrant (h : s₀.Orderly s) : s₀.Orderly (declineGrant st k s) := h.modStn.attend

theorem holdGrant (h : s₀.Orderly s) {x : Task} {v : TaskView} : s₀.Orderly (holdGrant st k x v s) :=
  h.acceptGrant.modStn.startTimer.attend

theorem takeGrant (h : s₀.Orderly s) : s₀.Orderly (takeGrant k s) := by
  unfold Machine.takeGrant
  split
  · exact h
  split
  · exact h.holdGrant
  · exact h.declineGrant

theorem takeGrantAnswer (h : s₀.Orderly s) {v : Option TaskView} : s₀.Orderly (takeGrantAnswer st k v s) := by
  unfold Machine.takeGrantAnswer
  split
  · split
    · exact h.holdGrant
    · exact h.declineGrant
  · exact h

theorem takeTaskEnd (h : s₀.Orderly s) {x : TaskOutcome} : s₀.Orderly (takeTaskEnd st k x s) := by
  unfold Machine.takeTaskEnd
  split
  · split
    · exact h.endTask.attendEnded
    · exact h.endGrant.attendEnded
  · exact h

theorem takeWithdrawalReport (h : s₀.Orderly s) : s₀.Orderly (takeWithdrawalReport st k s) := by
  unfold Machine.takeWithdrawalReport
  split
  · split
    · exact h.withdrawGrant.attendEnded
    · exact h.endGrant.attendEnded
  · exact h

theorem dropGrant (h : s₀.Orderly s) : s₀.Orderly (dropGrant st s) := by
  unfold Machine.dropGrant
  split
  · exact h
  · exact h.modStn
  · split
    · exact h.withdrawGrant
    · exact h.endGrant

theorem attentionExpired (h : s₀.Orderly s) : s₀.Orderly (attentionExpired st s) := by
  unfold Machine.attentionExpired
  split
  · exact h.reach.dropGrant.attendEnded
  · exact h

theorem takePlaceFree (h : s₀.Orderly s) : s₀.Orderly (takePlaceFree st s) := by
  unfold Machine.takePlaceFree
  split
  · exact h.modStn.attend
  · exact h

theorem takeRoom (h : s₀.Orderly s) : s₀.Orderly (takeRoom st s) := by
  unfold Machine.takeRoom
  split
  · exact h.modStn.attend
  · exact h

theorem takeLabel (h : s₀.Orderly s) {r : Reader} {x : Label} : s₀.Orderly (takeLabel st r x s) := by
  unfold Machine.takeLabel
  dsimp only
  split
  · split
    · rename_i hl
      exact (h.setStn fun _ => by simpa using hl).settleTimer.attend
    · exact h.modStn.refresh
  · exact h

/-! ## Keys -/

theorem liftLock (h : s₀.Orderly s) : s₀.Orderly (liftLock st s) := h.popHead.modStn.startTimer

theorem clearLock (h : s₀.Orderly s) : s₀.Orderly (clearLock st s) := h.liftLock.attend

theorem rejectClear (h : s₀.Orderly s) {b : Bool} : s₀.Orderly (rejectClear st b s).1 := by
  unfold Machine.rejectClear
  dsimp only
  split
  · refine clearLock ?_
    split
    · split
      · exact h.post
      · exact h
    · exact h
  · exact h

theorem acceptClear (h : s₀.Orderly s) : s₀.Orderly (acceptClear st s).1 := by
  unfold Machine.acceptClear
  split
  · exact h.showMessage.refresh
  dsimp only
  split
  · exact h.askPlace.showMessage.refresh
  split
  · dsimp only
    exact h.askPlace.takeSubstitution.givePlace.showMessage.refresh
  split
  · dsimp only
    exact (h.askPlace.takeSubstitution.commitPickEntry.reportCommit.clearMessage.reportTaken.liftLock
      |>.takeOrderReports).attend
  · dsimp only
    exact (h.askPlace.takeSubstitution.commitPickEntry.givePlace.takeSubstituteRelease.modStn
      |>.takeOrderReports).attendEnded.refresh

theorem tellStations (h : s₀.Orderly s) {b : Bool} : s₀.Orderly (tellStations st b s) := h.postAll

theorem signOnKey (h : s₀.Orderly s) : s₀.Orderly (signOnKey st s) := by
  unfold Machine.signOnKey
  dsimp only
  split
  · exact h.modStn.tellStations.attend
  · exact h

theorem closeStation (h : s₀.Orderly s) : s₀.Orderly (closeStation st s) :=
  (h.dropGrant.setStn fun _ => Nat.zero_le _).closePlanner.tellStations.refresh

theorem signOffKey (h : s₀.Orderly s) : s₀.Orderly (signOffKey st s) := by
  unfold Machine.signOffKey
  split
  · exact h.modStn.closeStation
  · exact h

theorem confirmKey (h : s₀.Orderly s) : s₀.Orderly (confirmKey st s) := by
  unfold Machine.confirmKey
  dsimp only
  split
  · exact h
  split
  · split
    · exact h.startTimer.confirmTask.attendEnded
    · exact h.startTimer.confirmTask.attendEnded
    · exact h.startTimer.post
  · exact h.showMessage.refresh

theorem shortKey (h : s₀.Orderly s) : s₀.Orderly (shortKey st s) := by
  unfold Machine.shortKey
  dsimp only
  split
  · exact h
  split
  · exact h
  · exact h
  split
  · split
    · exact h
    · exact h.postAll.modView.startTimer
  · exact h.showMessage.refresh

theorem actKey (h : s₀.Orderly s) {key : Key} : s₀.Orderly (actKey st key s) := by
  unfold Machine.actKey
  split
  · exact h.signOnKey
  all_goals split
  · exact h.acceptClear
  · exact h
  · exact h.rejectClear
  · exact h
  · exact h.rejectClear
  · exact h
  · exact h.shortKey
  · exact h
  · exact h.confirmKey
  · exact h
  · exact h.endBatch.refresh
  · exact h
  · exact h.signOffKey
  · exact h

theorem pressKey (h : s₀.Orderly s) {key : Key} : s₀.Orderly (pressKey st key s) := by
  unfold Machine.pressKey
  dsimp only
  split
  · exact h.actKey
  · exact h

/-! ## Panels -/

theorem takeBayCurtain (h : s₀.Orderly s) {b : Bay} {x : Bool} : s₀.Orderly (takeBayCurtain st b x s) := by
  unfold Machine.takeBayCurtain
  dsimp only
  generalize (if x = true then BayCurtain.broken else BayCurtain.clear) = new
  split
  · exact h
  split
  · exact h.modStn.post
  · exact h.modStn

theorem bayCurtainInput (h : s₀.Orderly s) {b : Bay} {x : Bool} : s₀.Orderly (bayCurtainInput st b x s) := by
  unfold Machine.bayCurtainInput
  dsimp only
  split
  · exact h.takeBayCurtain
  · exact h

theorem takeKeys (h : s₀.Orderly s) {old new : Keys} : s₀.Orderly (takeKeys st old new s) := by
  refine h.foldl (fun t key ht => ?_) _
  split
  · exact ht.actKey
  · exact ht

theorem takePanelInput (h : s₀.Orderly s) {i : PanelInput} : s₀.Orderly (takePanelInput st i s) := by
  unfold Machine.takePanelInput
  dsimp only
  split
  · split
    · have hc : s₀.Orderly (bayList.foldl (fun s b => Machine.takeBayCurtain st b i.broken[b] s) (s.modStn st fun x =>
          { x with panelLost := false, display := { sent := none, waiting := none } })) :=
        h.modStn.foldl (fun _ _ h => h.takeBayCurtain) bayList
      generalize bayList.foldl _ _ = u at hc ⊢
      refine attend ?_
      split
      · exact hc.modStn.tellStations
      · exact hc.modStn
    · exact modStn (takeKeys (h.foldl (fun _ _ h => h.takeBayCurtain) _))
  · exact h

theorem losePanel (h : s₀.Orderly s) : s₀.Orderly (losePanel st s) := by
  unfold Machine.losePanel
  dsimp only
  split
  · exact h
  · refine postAll ?_
    split
    · exact h.withdrawFrames.modStn.closeStation
    · exact h.withdrawFrames.modStn

theorem panelReturned (h : s₀.Orderly s) {f : Fate} : s₀.Orderly (panelReturned st f s) := by
  unfold Machine.panelReturned
  split
  · exact h
  · exact h.resend
  · exact h.losePanel
  · exact h.losePanel

theorem stationSpace (h : s₀.Orderly s) : s₀.Orderly (stationSpace st s) := by
  unfold Machine.stationSpace
  split
  · exact h.resend
  · exact h

theorem stationRing (h : s₀.Orderly s) {r : Ring} : s₀.Orderly (stationRing st r s) := by
  unfold Machine.stationRing
  split
  · split
    · exact h.resend
    · exact h
  all_goals exact h

theorem stationConfigRequest (h : s₀.Orderly s) {x : StationCfg} : s₀.Orderly (stationConfigRequest x s).1 := by
  unfold Machine.stationConfigRequest
  split
  · dsimp only
    split
    · exact h
    split
    · exact h
    split
    · exact h
    split
    · exact h
    · exact h.modStn.postAll.dropParts.refresh
  · exact h

theorem scanClearRequest (h : s₀.Orderly s) {a : Nat} : s₀.Orderly (scanClearRequest n a s).1 := by
  unfold Machine.scanClearRequest
  split
  · split
    · exact h
    split
    · exact h.acceptClear
    · exact h.rejectClear
    · exact h.rejectClear
  · exact h

theorem stationHalt (h : s₀.Orderly s) : s₀.Orderly (stationHalt st s) := h.dropGrant.attend

theorem stationRun (h : s₀.Orderly s) : s₀.Orderly (stationRun st s) := h.modStn.attend

end State.Orderly
end Sys2Proof.Machine


namespace Sys2Proof.Machine
/-! ## The list of audit requests -/

theorem dropFirst_sublist {α : Type} (p : α → Bool) (l : List α) : (dropFirst p l).Sublist l := by
  induction l with
  | nil => exact List.Sublist.slnil
  | cons x l ih =>
    unfold dropFirst
    split
    · exact List.sublist_cons_self x l
    · exact ih.cons_cons x

/-- The first entry for which `p` holds, put ahead of the others. -/
theorem cons_dropFirst_perm {α : Type} {p : α → Bool} {l : List α} {x : α} (h : l.find? p = some x) :
    (x :: dropFirst p l).Perm l := by
  induction l with
  | nil => cases h
  | cons y l ih =>
    unfold dropFirst
    split
    · rename_i hp
      obtain rfl : y = x := by simpa [hp] using h
      exact List.Perm.refl _
    · rename_i hp
      have h' : l.find? p = some x := by simpa [hp] using h
      exact (List.Perm.swap y x _).trans ((ih h').cons y)

theorem map_modFirst {α β : Type} {p : α → Bool} {f : α → α} {g : α → β} (hg : ∀ x, g (f x) = g x) (l : List α) :
    (modFirst p f l).map g = l.map g := by
  induction l with
  | nil => rfl
  | cons x l ih =>
    unfold modFirst
    split <;> simp [hg, ih]

theorem changeCarrier_requests (s : State) (k : Carousel) (c : Nat) (f : Carrier → Carrier) :
    (s.changeCarrier k c f).requests = s.requests := by
  cases hx : s.carrier k c with
  | none => simp [State.changeCarrier, hx]
  | some x =>
    obtain ⟨car, hcar, hg⟩ := carrier_stock hx
    rw [changeCarrier_effect hcar hx]
    rfl

theorem auditMarkEntry_requests (k : Carousel) (c : Nat) (s : State) : (auditMarkEntry k c s).1.requests = s.requests := by
  unfold auditMarkEntry
  split
  · exact changeCarrier_requests ..
  · exact changeCarrier_requests ..
  all_goals rfl

/-- A request for a carrier that had none is the only one for it. -/
theorem requests_append {l : List AuditReq} {r : AuditReq} (hr : l.find? (AuditReq.is r.car r.carrier) = none)
    (hl : (l.map fun r => (r.car, r.carrier)).Nodup) : ((l ++ [r]).map fun r => (r.car, r.carrier)).Nodup := by
  refine (((List.perm_append_singleton r l).map _).nodup_iff).2 (List.nodup_cons.2 ⟨fun hm => ?_, hl⟩)
  obtain ⟨x, hx, he⟩ := List.mem_map.1 hm
  have := List.find?_eq_none.1 hr x hx
  simp only [Prod.mk.injEq] at he
  simp [AuditReq.is, he.1, he.2] at this

namespace State.Orderly
-- These lemmas rest on each other in long chains: each would hold a thread that waits for the one before.
set_option Elab.async false
variable {s₀ s t : State} {k : Carousel} {c n : Nat}

/-! ## Audit requests and sessions -/

/-- A request changed, but for the carrier that it names. -/
theorem modReq (h : s₀.Orderly s) {f : AuditReq → AuditReq}
    (hf : ∀ r, ((f r).car, (f r).carrier) = (r.car, r.carrier) := by exact fun _ => rfl) : s₀.Orderly (modReq k c f s) :=
  h.setRequests fun hl => by rwa [map_modFirst (g := fun r : AuditReq => (r.car, r.carrier)) hf]

theorem dropReq (h : s₀.Orderly s) : s₀.Orderly (dropReq k c s) :=
  h.setRequests fun hl => ((dropFirst_sublist _ _).map _).nodup hl

theorem offerAudits (h : s₀.Orderly s) : s₀.Orderly (offerAudits k n s) := by
  induction n generalizing s with
  | zero => exact h
  | succ n ih =>
    unfold Machine.offerAudits
    split
    · exact h
    split
    · exact h
    dsimp only
    split
    · exact h.auditOffered.modReq
    · exact h.auditOffered.modReq
    · exact h.auditOffered
    · exact ih h.auditOffered.modReq

theorem offerAudit (h : s₀.Orderly s) : s₀.Orderly (offerAudit k s) := h.offerAudits

theorem raiseAudit (h : s₀.Orderly s) {b : Bool} {cls : Class} {source : AuditSource} :
    s₀.Orderly (raiseAudit k c b cls source s).1 := by
  unfold Machine.raiseAudit
  split
  · dsimp only
    split
    · exact h.modReq.auditReclassed
    · exact h.modReq
  · rename_i hr
    split
    · exact h
    dsimp only
    split
    · refine offerAudit (h.auditMarkEntry.setRequests fun hl => requests_append ?_ hl)
      rw [auditMarkEntry_requests]
      exact hr
    · exact h.auditMarkEntry

theorem raiseInternal (h : s₀.Orderly s) {b : Bool} {cls : Class} {source : AuditSource} :
    s₀.Orderly (raiseInternal k c b cls source s) := by
  unfold Machine.raiseInternal
  dsimp only
  split
  · exact h.raiseAudit.handNotice
  all_goals exact h.raiseAudit

theorem auditRequestRequest (h : s₀.Orderly s) {b : Bool} {cls : Nat} :
    s₀.Orderly (auditRequestRequest n c b cls s).1 := by
  unfold Machine.auditRequestRequest
  split
  · exact h
  split
  · exact h
  split
  · exact h
  split
  · exact h
  split
  · exact h
  · exact h.raiseAudit

theorem restartSession (h : s₀.Orderly s) : s₀.Orderly (restartSession k s) := h.setSession

theorem startSession (h : s₀.Orderly s) {r : AuditReq} : s₀.Orderly (startSession k r s) := h.modReq.setSession.showAudit

theorem takeAuditGranted (h : s₀.Orderly s) : s₀.Orderly (takeAuditGranted k c s) := by
  unfold Machine.takeAuditGranted
  split
  · exact h.auditRemoved
  split
  · split
    · exact h.restartSession
    · dsimp only
      split
      · exact h.auditLockEntry.startSession
      · split
        · exact h.auditLockEntry.auditRequeued
        · exact h.auditLockEntry.auditRequeued.modReq
      · exact h.auditLockEntry.auditRemoved.dropReq.handNotice.offerAudit
    · exact h
  · exact h

theorem takeTally (h : s₀.Orderly s) {lot : Option Nat} : s₀.Orderly (takeTally k lot s) := by
  unfold Machine.takeTally
  split
  · exact h.setSession.restartSession
  · exact h

theorem trimPlacements (h : s₀.Orderly s) {tally : List (Nat × Nat)} {lots : List Nat} :
    s₀.Orderly (trimPlacements k c tally lots s).1 := by
  induction lots generalizing s with
  | nil => exact h
  | cons lot rest ih =>
    unfold Machine.trimPlacements
    dsimp only
    split
    · exact ih h.takeTrim
    · exact ih h

theorem confirmAudit (h : s₀.Orderly s) : s₀.Orderly (confirmAudit k s) := by
  unfold Machine.confirmAudit
  split
  · exact h
  dsimp only
  split
  · exact h.trimPlacements.auditApplyEntry.dropReq.setSession.handNotice.auditApplied.attendEnded.offerAudit
  · split
    · exact h.trimPlacements.auditApplyEntry.showMessage.refresh
    · exact h.trimPlacements.auditApplyEntry

theorem reqToHead (h : s₀.Orderly s) {f : AuditReq → AuditReq}
    (hf : ∀ r, ((f r).car, (f r).carrier) = (r.car, r.carrier) := by exact fun _ => rfl) : s₀.Orderly (reqToHead k c f s) := by
  unfold Machine.reqToHead
  split
  · rename_i r hr
    refine h.setRequests fun hl => ?_
    rw [List.map_cons, hf, ← List.map_cons (f := fun r : AuditReq => (r.car, r.carrier))]
    exact ((cons_dropFirst_perm hr).map _).nodup_iff.2 hl
  · exact h

theorem reclassTo (h : s₀.Orderly s) {r : AuditReq} : s₀.Orderly (reclassTo r s) := by
  unfold Machine.reclassTo
  split
  · split
    · exact h
    · exact h.auditReclassed
  · exact h

theorem abandonSession (h : s₀.Orderly s) {f : TaskFate} : s₀.Orderly (abandonSession k f s) := by
  unfold Machine.abandonSession
  split
  · exact h
  dsimp only
  split
  · exact h.auditUnlockEntry.setSession
  split
  · split
    · exact h.auditUnlockEntry.setSession.reqToHead.reclassTo
    · exact h.auditUnlockEntry.setSession.reqToHead.auditRemoved.attendEnded.offerAudit
    · exact h.auditUnlockEntry.setSession.reqToHead.offerAudit
  · split
    · exact h.auditUnlockEntry.setSession.dropReq.auditClearEntry.handNotice.offerAudit
    · exact h.auditUnlockEntry.setSession.auditRemoved.attendEnded.dropReq.auditClearEntry.handNotice.offerAudit

theorem sessionExpired (h : s₀.Orderly s) : s₀.Orderly (sessionExpired k s) := by
  unfold Machine.sessionExpired
  split
  · split
    · exact h.reach.abandonSession
    all_goals exact h
  · exact h

theorem dropAudits (h : s₀.Orderly s) : s₀.Orderly (dropAudits k s) := by
  unfold Machine.dropAudits
  exact (h.handNotices.setRequests fun hl => (List.filter_sublist.map _).nodup hl).setSession

theorem takeHandBack (h : s₀.Orderly s) {x : Option Nat} : s₀.Orderly (takeHandBack k x s) := by
  unfold Machine.takeHandBack
  split
  · exact h.dropAudits
  split
  · exact h
  split
  · split
    · exact h.modReq.offerAudit
    · exact h.abandonSession
    all_goals exact h
  · exact h

theorem takeAdmit (h : s₀.Orderly s) {cs : List Nat} : s₀.Orderly (takeAdmit k cs s) := by
  refine offerAudit (h.setRequests fun hl => ?_)
  have : (s.requests.map fun r => if r.car = k ∧ r.carrier ∈ cs ∧ r.stage = .barred then { r with stage := .listed } else r).map
      (fun r => (r.car, r.carrier)) = s.requests.map fun r => (r.car, r.carrier) := by
    rw [List.map_map]
    exact List.map_congr_left fun r _ => by dsimp only [Function.comp]; split <;> rfl
  rwa [this]

theorem auditCancelRequest (h : s₀.Orderly s) : s₀.Orderly (auditCancelRequest n c s).1 := by
  unfold Machine.auditCancelRequest
  split
  · exact h
  split
  · exact h
  split
  · exact h
  split
  · exact h
  split
  · exact h
  split
  · exact h.dropReq.auditClearEntry
  · exact h.dropReq.auditClearEntry
  · exact h.auditRemoved.attendEnded.dropReq.auditClearEntry.offerAudit
  · exact h.abandonSession

theorem restartAudits (h : s₀.Orderly s) : s₀.Orderly (restartAudits s) :=
  { h with requests := fun _ => List.nodup_nil }

/-! ## Replies and notices -/

theorem offerReply (h : s₀.Orderly s) : s₀.Orderly (offerReply s) := by
  unfold Machine.offerReply
  split
  · exact h
  dsimp only
  split
  · exact h.modMgmt.offer
  all_goals exact h.modMgmt.offer.modMgmt

theorem offerReplies (h : s₀.Orderly s) : s₀.Orderly (offerReplies n s) := by
  induction n generalizing s with
  | zero => exact h
  | succ n ih =>
    unfold Machine.offerReplies
    dsimp only
    split
    · exact ih h.offerReply
    · exact h.offerReply

theorem offerNotice (h : s₀.Orderly s) : s₀.Orderly (offerNotice s) := by
  unfold Machine.offerNotice
  split
  · dsimp only
    split
    · exact h.modMgmt.offer
    all_goals exact h.modMgmt.offer.modMgmt
  · dsimp only
    split
    · exact h.modMgmt.offer
    all_goals exact h.modMgmt.offer.modMgmt
  · exact h

theorem sendNotice (h : s₀.Orderly s) : s₀.Orderly (sendNotice s) := by
  unfold Machine.sendNotice
  dsimp only
  split
  · exact h.offerReplies.offerNotice
  · exact h.offerReplies

theorem noticeReturned (h : s₀.Orderly s) {x : Notice} {b : Bool} {f : Fate} : s₀.Orderly (noticeReturned x b f s) := by
  unfold Machine.noticeReturned
  split
  · exact h
  all_goals exact h.modMgmt

/-- The frames kept for a block are offered again, with nothing to do for one that no node answers. -/
theorem reofferPlain (h : s₀.Orderly s) {b : Block} : s₀.Orderly (Machine.reofferKept b (fun _ s => s) s) :=
  h.reofferKept fun _ {_} h => h

theorem managementSpace (h : s₀.Orderly s) : s₀.Orderly (managementSpace s) := h.reofferPlain.sendNotice

/-! ## Configuration -/

theorem twf_writeNode {a : Nat} {x : Node} {ns : Table Node} (h : twf ns = true) : twf (writeNode a x ns) = true := by
  unfold writeNode
  split
  · exact twf_tdel a h
  · exact twf_tput a x h

theorem nodeMapWriteRequest (h : s₀.Orderly s) {a role unit : Nat} {b : Bool} :
    s₀.Orderly (nodeMapWriteRequest a role unit b s).1 := by
  unfold Machine.nodeMapWriteRequest
  split
  · exact h
  split
  · exact h
  split
  · exact h
  split
  · exact h
  dsimp only
  split
  · exact h.modFe
  · exact (h.modFe).endClaimsOf

theorem groupWriteRequest (h : s₀.Orderly s) {l : List Nat} : s₀.Orderly (groupWriteRequest n l s).1 := by
  unfold Machine.groupWriteRequest
  split
  · split
    · exact h
    dsimp only
    split
    · exact h
    · exact h.of_queued rfl
  · exact h

theorem handBackAudits (h : s₀.Orderly s) : s₀.Orderly (handBackAudits k s) :=
  dropAudits (h.modSeq (Seq.tidies_sublist List.filter_sublist))

theorem carouselConfigRequest (h : s₀.Orderly s) {x : CarouselCfg} : s₀.Orderly (carouselConfigRequest x s).1 := by
  unfold Machine.carouselConfigRequest
  split
  · exact h
  split
  · exact h
  split
  · exact h
  split
  · exact h
  dsimp only
  split
  · exact h.handBackAudits.configureStock.configureBalance.configureSeq
  · exact h.configureStock.configureBalance.configureSeq

theorem laneConfigRequest (h : s₀.Orderly s) {b : Bool} : s₀.Orderly (laneConfigRequest n b c s).1 := by
  unfold Machine.laneConfigRequest
  split
  · exact h
  split
  · exact h
  split
  · exact h
  · exact h.configureLane

theorem timerWriteRequest (h : s₀.Orderly s) {x : Nat} : s₀.Orderly (timerWriteRequest x n s).1 := by
  unfold Machine.timerWriteRequest
  split
  · exact h.of_queued rfl
  · exact h

/-! ## The cell -/

theorem setSessions (h : s₀.Orderly s) {x : Vector (Option Session) 8} : s₀.Orderly { s with sessions := x } :=
  h.of_queued rfl

theorem endHalt (h : s₀.Orderly s) : s₀.Orderly (endHalt s) := h.shiftExpiries.setSessions

theorem runCell (h : s₀.Orderly s) : s₀.Orderly (runCell s) := by
  unfold Machine.runCell
  dsimp only
  refine foldl (foldl (modMgmt ?_) (fun _ _ h => h.seqRun) _) (fun _ _ h => h.stationRun) _
  split
  · exact h.endHalt
  · exact h

theorem cellRunRequest (h : s₀.Orderly s) : s₀.Orderly (cellRunRequest s).1 := by
  unfold Machine.cellRunRequest
  split
  · exact h
  split
  · dsimp only
    exact h.runCell
  · exact h

theorem haltCell (h : s₀.Orderly s) : s₀.Orderly (haltCell s) := by
  unfold Machine.haltCell
  dsimp only
  exact setSessions (foldl (foldl (modMgmt h.sendOrKeep) (fun _ _ h => h.seqHalt) _) (fun _ _ h => h.stationHalt) _)

theorem cellHaltRequest (h : s₀.Orderly s) : s₀.Orderly (cellHaltRequest s).1 := by
  unfold Machine.cellHaltRequest
  split
  · exact h
  · exact h
  · dsimp only
    exact h.haltCell

theorem restartFrames (h : s₀.Orderly s) : s₀.Orderly (restartFrames s) := h.modFe

theorem restartRestore (h : s₀.Orderly s) : s₀.Orderly (restartRestore s) := by
  unfold Machine.restartRestore
  split
  · exact h.startQueries
  · exact h

theorem cellStatusRequest (h : s₀.Orderly s) : s₀.Orderly (cellStatusRequest s).1 := h.of_queued rfl

theorem addOrder (h : s₀.Orderly s) {ref : OrderRef} {lanes : Option (List Nat)} {lines : List LineReq} :
    s₀.Orderly (addOrder ref c lanes lines s).1 := h.orderAddRequest

end State.Orderly
end Sys2Proof.Machine


namespace Sys2Proof.Machine

/-! ## Restarts -/

/-- The queues begin anew, empty. -/
theorem restartQueues_orderly (s : State) :
    s.Orderly { s with seqs := s.seqs.map Seq.restart, stations := s.stations.map Stn.restart } where
  requests := id
  seqs k := by
    rw [State.seq_restart]
    exact ⟨fun _ => Nat.zero_le _, fun _ => ⟨⟨List.nodup_nil, nofun⟩, List.nodup_nil⟩⟩
  scans i _ := by
    have : (({ s with seqs := s.seqs.map Seq.restart, stations := s.stations.map Stn.restart } : State).stn i).queue = [] := by
      simp [State.stn, Stn.restart]
    exact this ▸ Nat.zero_le _

/-- CELL-RESTART leaves every queue within its bound, although the arrivals are counted anew. -/
theorem State.Orderly.restartCell {s₀ s : State} (h : s₀.Orderly s) : s₀.Orderly (restartCell s) := by
  unfold Machine.restartCell
  dsimp only
  have hb : s₀.Orderly (Machine.restartBook (Machine.restartAudits (Machine.restartLanes (Machine.restartStock
      ({ s with mail := s.mail.filter mailKept } : State).keepsExcluded
      (Machine.restartFrames { s with mail := s.mail.filter mailKept }))))) :=
    h.setMail.restartFrames.restartStock.restartLanes.restartAudits.restartBook
  generalize Machine.restartBook _ = b at hb ⊢
  have hs := hb.trans (restartQueues_orderly b)
  generalize ({ b with seqs := b.seqs.map Seq.restart, stations := b.stations.map Stn.restart } : State) = r at hs ⊢
  exact (hs.restartBalance.modMgmt.foldl (fun _ _ h => h.refresh) _).restartRestore

/-- The state after a power-on reset has empty queues. -/
theorem powerOn_orderly (s : State) (strap : BitVec 6) : s.Orderly (State.powerOn strap) where
  requests _ := List.nodup_nil
  seqs k := ⟨fun _ => by simp [State.powerOn, State.seq, Seq.powerOn],
    fun _ => by simp [State.powerOn, State.seq, Seq.powerOn, Seq.distinct, Seq.numbered]⟩
  scans i _ := by simp [State.powerOn, State.stn, Stn.powerOn]

/-! ## The rows of commands -/

/-- Whatever the command comes to, every invariant that held before holds after. -/
def Ordered (s : State) (r : Host.Outcome State Fault Refusal) : Prop := ∀ t, r = .next t → s.Orderly t

section
variable {s : State}

theorem ordered_next {t : State} (h : s.Orderly t) : Ordered s (.next t) := by
  intro u hu
  cases hu
  exact h

/-- A command that is carried out whole starts from a state in which the ring output and the answer are empty. -/
theorem ordered_carry {f : State → State} (hf : ∀ {u : State}, s.Orderly u → s.Orderly (f u)) : Ordered s (carry s f) := by
  refine ordered_next ?_
  split
  · exact (State.Orderly.refl s)
  · exact hf ((State.Orderly.refl s).of_queued rfl)

theorem ordered_stn {f : State → State} (hf : ∀ {u : State}, s.Orderly u → s.Orderly (f u)) : Ordered s (stnStep s f) :=
  ordered_carry fun h => (hf h).attendEnded

theorem ordered_seq {f : State → State} (hf : ∀ {u : State}, s.Orderly u → s.Orderly (f u)) : Ordered s (seqStep s f) :=
  ordered_carry fun h => (hf h).attendEnded

theorem State.Orderly.request {s₀ s : State} (h : s₀.Orderly s) {q : Req} {kind : Nat} {body : State → State × Answered}
    (hb : ∀ {u : State}, s₀.Orderly u → s₀.Orderly (body u).1) : s₀.Orderly (request q kind body s) := by
  refine h.receive fun d t ht => ?_
  split
  · unfold Machine.answerRequest
    split
    · exact ht.passFrame.ans
    · exact (hb ht.passFrame).addReply
  · exact ht.redirect

theorem ordered_request {q : Req} {kind : Nat} {body : State → State × Answered}
    (hb : ∀ {u : State}, s.Orderly u → s.Orderly (body u).1) : Ordered s (carry s (request q kind body)) :=
  ordered_carry fun h => h.request hb

theorem ordered_plain {q : Req} {kind : Nat} {body : State → State × Result}
    (hb : ∀ {u : State}, s.Orderly u → s.Orderly (body u).1) : Ordered s (carry s (request q kind (plain body))) :=
  ordered_request hb

theorem ordered_settled {q : Req} {kind : Nat} {body : State → State × Result}
    (hb : ∀ {u : State}, s.Orderly u → s.Orderly (body u).1) : Ordered s (carry s (request q kind (settled body))) :=
  ordered_request fun h => (hb h).attendEnded

theorem ordered_field {g : Hdr} {kind : Nat} {p : List Byte} {owner : Role → Nat → State → State}
    (ho : ∀ r u {t : State}, s.Orderly t → s.Orderly (owner r u t)) : Ordered s (carry s (fieldFrame g kind p owner)) :=
  ordered_carry fun h => h.fieldFrame ho

theorem ordered_cellRestart {q : Req} : Ordered s (execCellRestart q s) := by
  unfold execCellRestart
  refine ordered_plain fun {u} h => ?_
  have hr := h.restartCell
  generalize restartCell u = t at hr ⊢
  exact hr

end
end Sys2Proof.Machine

namespace Sys2Proof.Machine
namespace State.Orderly
-- These lemmas rest on each other in long chains: each would hold a thread that waits for the one before.
set_option Elab.async false
variable {s₀ s t : State}

/-! ## What the rows do with the node's unit, the frame or the block they name -/

theorem panelOwner (h : s₀.Orderly s) {i : PanelInput} {r : Role} {u : Nat} : s₀.Orderly (panelOwner i r u s) := by
  unfold Machine.panelOwner
  split
  · exact h.takePanelInput
  · exact h

theorem labelOwner (h : s₀.Orderly s) {x : Label} {r : Role} {u : Nat} : s₀.Orderly (labelOwner x r u s) := by
  unfold Machine.labelOwner
  split
  · split
    · exact h.takeLabel
    · exact h
  · split
    · exact h.takeLabel
    · exact h
  · split
    · exact h.takeArrival
    · exact h
  all_goals exact h

theorem driveOwner (h : s₀.Orderly s) {m : Motion} {i n : Nat} {r : Role} {u : Nat} :
    s₀.Orderly (driveOwner m i n r u s) := by
  unfold Machine.driveOwner
  split
  · exact h.takeStatus
  · exact h

theorem tagOwner (h : s₀.Orderly s) {x : CartId} {n : Nat} {r : Role} {u : Nat} : s₀.Orderly (tagOwner x n r u s) := by
  unfold Machine.tagOwner
  split
  · exact h.takeTag
  · exact h

theorem laneOwner (h : s₀.Orderly s) {i : LaneInput} {r : Role} {u : Nat} : s₀.Orderly (laneOwner i r u s) := by
  unfold Machine.laneOwner
  split
  · exact h.takeLaneInput
  · exact h

theorem takeForeign (h : s₀.Orderly s) {g : Hdr} {kind : Nat} : s₀.Orderly (takeForeign g kind s) := by
  refine h.receive fun d t ht => ?_
  split
  · exact ht.takeForeignFrame
  · exact ht.redirect

theorem maintFrame (h : s₀.Orderly s) {g : Hdr} {kind : Nat} {act : Carousel → Nat → State → State}
    (ha : ∀ k n {t : State}, s₀.Orderly t → s₀.Orderly (act k n t)) : s₀.Orderly (maintFrame g kind act s) := by
  refine h.receive fun d t ht => ?_
  split
  · exact ha _ _ ht.passFrame
  · exact ht.redirect

theorem takeReturn (h : s₀.Orderly s) {g : Hdr} {kind : Nat} {b : Bool} : s₀.Orderly (takeReturn g kind b s) := by
  unfold Machine.takeReturn
  split
  · refine h.receive fun d t ht => ?_
    split
    · exact ht.frameReturned
    · exact ht.redirect.attendEnded
  · exact h.badFrame

theorem takeRing (h : s₀.Orderly s) {b : Block} {r : Ring} : s₀.Orderly (takeRing b r s) := by
  unfold Machine.takeRing
  split
  · exact h.seqRing.attendEnded
  · exact h.stationRing
  all_goals exact h

theorem nodeMissing (h : s₀.Orderly s) {r : Role} {u : Nat} : s₀.Orderly (nodeMissing r u s) := by
  unfold Machine.nodeMissing
  split
  · split
    · exact h.enterFault.attendEnded
    · exact h
  · split
    · exact h.losePanel.attendEnded
    · exact h
  · split
    · exact h.loseController
    · exact h
  all_goals exact h

theorem offerUnheard (h : s₀.Orderly s) {b : Block} {p : Payload} : s₀.Orderly (offerUnheard b p s) := by
  unfold Machine.offerUnheard
  split
  · exact h.driveUnheard
  · exact h.driveUnheard
  · exact h.driveUnheard
  · exact h.losePanel
  · exact h.laneUnheard

theorem takeOffer (h : s₀.Orderly s) {b : Block} {a : Target} {p : Payload} : s₀.Orderly (takeOffer b a p s) := by
  unfold Machine.takeOffer
  dsimp only
  split
  · exact h.offer.ans
  · split
    · exact h.offer.handBack.ans
    · exact h.offer.ans
  · exact h.offer.offerUnheard.attendEnded.ans

theorem takeSpace (h : s₀.Orderly s) {b : Block} : s₀.Orderly (takeSpace b s) := by
  unfold Machine.takeSpace
  split
  · exact h.seqSpace.attendEnded
  · exact h.reofferPlain.stationSpace
  · exact h.managementSpace
  · exact h.reofferKept fun _ {_} h => h.laneUnheard
  · exact h.reofferPlain

end State.Orderly

/-! ## Every command -/

section
variable {s : State}

theorem ordered_maint {g : Hdr} {kind : Nat} {act : Carousel → Nat → State → State}
    (ha : ∀ k n {t : State}, s.Orderly t → s.Orderly (act k n t)) : Ordered s (seqStep s (maintFrame g kind act)) :=
  ordered_seq fun h => h.maintFrame ha

/-- The requests of the Management Unit. -/
theorem ordered_runRequest {c : Instr} {r : Host.Outcome State Fault Refusal} (hr : runRequest c s = some r) : Ordered s r := by
  cases c <;> simp only [runRequest, Option.some.injEq, reduceCtorEq] at hr
  all_goals subst hr
  case cellRestart => exact ordered_cellRestart
  case malformedRequest => exact ordered_plain id
  case cellStatus => exact ordered_request fun h => h.cellStatusRequest
  case cellRun => exact ordered_settled fun h => h.cellRunRequest
  case cellHalt => exact ordered_settled fun h => h.cellHaltRequest
  case nodeMapWrite => exact ordered_settled fun h => h.nodeMapWriteRequest
  case groupWrite => exact ordered_plain fun h => h.groupWriteRequest
  case carouselConfigWrite => exact ordered_settled fun h => h.carouselConfigRequest
  case stationConfigWrite => exact ordered_settled fun h => h.stationConfigRequest
  case laneConfigWrite => exact ordered_plain fun h => h.laneConfigRequest
  case timerWrite => exact ordered_request fun h => h.timerWriteRequest
  case lotWrite => exact ordered_plain fun h => h.lotWriteRequest
  case lotDelete => exact ordered_plain fun h => h.lotDeleteRequest
  case lotHold => exact ordered_plain fun h => h.lotHoldRequest
  case lotRelease => exact ordered_plain fun h => h.lotReleaseRequest
  case carrierWrite => exact ordered_settled fun h => h.carrierWriteRequest
  case recordRead => exact ordered_request id
  case orderAdd => exact ordered_request fun h => h.addOrder
  case orderCancel => exact ordered_plain fun h => h.orderCancelRequest
  case orderClass => exact ordered_plain fun h => h.orderClassRequest
  case orderResume => exact ordered_plain fun h => h.orderResumeRequest
  case carouselEnable => exact ordered_settled fun h => h.enableRequest
  case carouselDisable => exact ordered_settled fun h => h.disableRequest
  case windowSet => exact ordered_settled fun h => h.windowSetRequest
  case auditRequest => exact ordered_settled fun h => h.auditRequestRequest
  case auditCancel => exact ordered_settled fun h => h.auditCancelRequest
  case scanClear => exact ordered_settled fun h => h.scanClearRequest
  case lanePermit => exact ordered_plain fun h => h.lanePermitRequest
  case laneAssign => exact ordered_plain fun h => h.laneAssignRequest
  case laneClose => exact ordered_plain fun h => h.laneCloseRequest
  case laneOpen => exact ordered_plain fun h => h.laneOpenRequest

/-- The commands that a frame of the drives, panels, readers and lane controllers carries in. -/
theorem ordered_runFrame {c : Instr} {r : Host.Outcome State Fault Refusal} (hr : runFrame c s = some r) : Ordered s r := by
  cases c <;> simp only [runFrame, Option.some.injEq, reduceCtorEq] at hr
  all_goals subst hr
  case driveStatus => exact ordered_seq fun h => h.fieldFrame fun _ _ {_} h => h.driveOwner
  case panelRecovery => exact ordered_stn fun h => h.fieldFrame fun _ _ {_} h => h.panelOwner
  case stationLabel => exact ordered_stn fun h => h.fieldFrame fun _ _ {_} h => h.labelOwner
  case cartContacts => exact ordered_field fun _ _ {_} h => h.laneOwner
  case laneArrival => exact ordered_field fun _ _ {_} h => h.labelOwner
  case tagRead => exact ordered_field fun _ _ {_} h => h.tagOwner
  case foreignCommand => exact ordered_carry fun h => h.takeForeign
  case manualClaim => exact ordered_maint fun _ _ {_} h => h.takeClaim
  case access => exact ordered_maint fun _ _ {_} h => h.takeAccess
  case manualRelease => exact ordered_maint fun _ _ {_} h => h.takeRelease
  case maintDriveFrame => exact ordered_maint fun _ _ {_} h => h.maintAct
  case frameReturn => exact ordered_carry fun h => h.takeReturn

theorem ordered_passedOn {f : WireFrame} : Ordered s (passedOn f s) :=
  ordered_carry fun h => h.receive fun _ {_} h => h.passFrame

/-- A frame's bytes, whatever command they stand for (R178). -/
theorem ordered_receiveBytes {f : WireFrame} : Ordered s (receiveBytes f s) := by
  unfold receiveBytes
  split
  · split
    · rename_i c _
      cases hq : runRequest c s with
      | some r => exact ordered_runRequest hq
      | none =>
        cases hf : runFrame c s with
        | some r => exact ordered_runFrame hf
        | none => exact ordered_passedOn
    · exact ordered_passedOn
  · exact ordered_carry fun h => h.badFrame

end
end Sys2Proof.Machine

namespace Sys2Proof.Machine

section
variable {s : State} {k : Carousel} {c : Nat}

theorem ordered_resetAssert : Ordered s (execResetAssert s) := by
  refine ordered_next ((powerOn_orderly s s.strap).trans ?_)
  exact (State.Orderly.refl _).of_queued rfl

theorem ordered_powerOnReset {straps : BitVec 6} : Ordered s (execPowerOnReset straps s) := by
  refine ordered_next ((powerOn_orderly s straps).trans ?_)
  exact (State.Orderly.refl _).of_queued rfl

theorem ordered_clockLoss : Ordered s (execClockLoss s) := by
  refine ordered_next ?_
  exact (State.Orderly.refl s).of_queued rfl

theorem ordered_clockReturn : Ordered s (execClockReturn s) := by
  refine ordered_next (State.Orderly.resumeQueries ?_)
  exact (State.Orderly.refl s).of_queued rfl

theorem ordered_putOffer {lot count : Nat} {cls : Class} {st : Station} : Ordered s (execPutOffer k c lot count cls st s) := by
  unfold execPutOffer
  exact ordered_seq fun h => h.putOffered.ans

theorem ordered_auditOffer {b : Bool} {cls : Class} : Ordered s (execAuditOffer k c b cls s) := by
  unfold execAuditOffer
  exact ordered_seq fun h => h.auditOffered.ans

theorem ordered_auditRequeue : Ordered s (execAuditRequeue k c s) := by
  unfold execAuditRequeue
  exact ordered_seq fun h => h.auditRequeued.ans

theorem ordered_earlyConfirm : Ordered s (execEarlyConfirm k s) := by
  unfold execEarlyConfirm
  exact ordered_seq fun h => h.confirmTask.ans

theorem ordered_taskEndReport {st : Station} {kind : TaskKind} {out : TaskOutcome} :
    Ordered s (execTaskEndReport st k c kind out s) := by
  unfold execTaskEndReport
  refine ordered_stn fun h => ?_
  split
  · exact h.takeTaskEnd
  · exact h

end

/-- The rows of every command but the requests and the frames of the field's nodes. -/
theorem ordered_row {i : Instr} {s : State} (hq : runRequest i s = none) (hf : runFrame i s = none) : Ordered s (exec i s) := by
  delta exec
  cases i <;> dsimp only
  case resetAssert => exact ordered_resetAssert
  case powerOnReset => exact ordered_powerOnReset
  case clockLoss => exact ordered_clockLoss
  case clockReturn => exact ordered_clockReturn
  case damagedFrameReceived => exact ordered_receiveBytes
  case forwardedFrame => exact ordered_receiveBytes
  -- the ring and the frames
  case silenceTimerExpiry => exact ordered_carry fun h => h.silenceExpired
  case ringStateReport => exact ordered_carry fun h => h.takeRing
  case restoreRoundExpiry => exact ordered_carry fun h => h.restoreExpired
  case nodeNotAnswered => exact ordered_carry fun h => h.nodeMissing
  case roundDeadlineExpiry => exact ordered_carry fun h => h.roundExpired
  case frameOffer => exact ordered_carry fun h => h.takeOffer
  case frameWithdraw => exact ordered_carry fun h => h.withdrawFrame.ans
  case payloadReplace => exact ordered_carry fun h => h.replacePayload.ans
  case frameSend => exact ordered_carry fun h => h.sendHead
  case spaceReport => exact ordered_carry fun h => h.takeSpace
  -- the drives and the claims
  case manualIdleExpiry => exact ordered_seq fun h => h.manualIdleExpired
  case queryRoundExpiry => exact ordered_seq fun h => h.queryExpired
  case statusQueryReturn => exact ordered_seq fun h => h.queryReturned
  case moveReturn => exact ordered_seq fun h => h.moveReturned
  case haltReturn => exact ordered_seq fun h => h.haltReturned
  case moveTimeout => exact ordered_seq fun h => h.moveTimedOut
  case curtainBroken => exact ordered_seq fun h => h.curtainBreaks
  case curtainClear => exact ordered_seq fun h => h.curtainClears
  case curtainSettleExpiry => exact ordered_seq fun h => h.curtainSettles
  case driveMissingReport => exact ordered_seq fun h => h.driveMissing
  case speedClassReport => exact ordered_seq fun h => h.speedReported
  -- the tasks
  case newReservation => exact ordered_seq fun h => h.takeNewReservation
  case putOffer => exact ordered_putOffer
  case auditOffer => exact ordered_auditOffer
  case auditRequeue => exact ordered_auditRequeue
  case auditTaskReclass => exact ordered_seq fun h => h.auditReclassed
  case taskRemoveRequest => exact ordered_seq fun h => h.auditRemoved
  case pickNewCount => exact ordered_seq fun h => h.takeNewCount
  case pickDrop => exact ordered_seq fun h => h.takeDrop
  case pickStruck => exact ordered_seq fun h => h.takeStrike
  case taskClassReport => exact ordered_seq fun h => h.takeClass
  case pickTakenReport => exact ordered_seq fun h => h.pickTaken
  case putTakenReport => exact ordered_seq fun h => h.putTaken
  case grant => exact ordered_seq fun h => h.takeGrant
  case grantWithdrawal => exact ordered_seq fun h => h.withdrawGrant
  case earlyConfirm => exact ordered_earlyConfirm
  case auditAppliedReport => exact ordered_seq fun h => h.auditApplied
  case stationBayReport => exact ordered_seq fun h => h.takePlace
  case stationStateReport => exact ordered_seq fun h => h.takeStationState
  -- the stock and the balance
  case reserve => exact ordered_carry fun h => h.reserveEntry.ans
  case release => exact ordered_carry fun h => h.releaseEntry.ans
  case commitPick => exact ordered_carry fun h => h.commitPickEntry.ans
  case commitPut => exact ordered_carry fun h => h.commitPutEntry.ans
  case planIncoming => exact ordered_carry fun h => h.planIncomingEntry.ans
  case returnIncoming => exact ordered_carry fun h => h.returnIncomingEntry.ans
  case roomQuery => exact ordered_carry fun h => h.ans
  case auditMark => exact ordered_carry fun h => h.auditMarkEntry.ans
  case auditClear => exact ordered_carry fun h => h.auditClearEntry.ans
  case auditLock => exact ordered_carry fun h => h.auditLockEntry.ans
  case auditUnlock => exact ordered_carry fun h => h.auditUnlockEntry.ans
  case auditApply => exact ordered_carry fun h => h.auditApplyEntry.ans
  case exclude => exact ordered_carry fun h => h.excludeEntry.ans
  case admitCarriers => exact ordered_carry fun h => h.admitEntry.ans
  case massReport => exact ordered_carry fun h => h.takeMasses
  case candidateTest => exact ordered_carry fun h => h.ans
  case balanceQuery => exact ordered_carry fun h => h.ans
  case travelPlan => exact ordered_carry fun h => h.ans
  -- the orders
  case stockRiseReport => exact ordered_carry fun h => h.passAfter
  case eligibilityReport => exact ordered_carry fun h => h.passAfter
  case compartmentReceipt => exact ordered_carry fun h => h.takeReceipt.ans
  case compartmentWithdrawal => exact ordered_carry fun h => h.takeWithdrawal
  case deliveryReport => exact ordered_carry fun h => h.takeDelivery
  case transitRemoval => exact ordered_carry fun h => h.takeRemoval
  case dispatchReport => exact ordered_carry fun h => h.takeDispatch
  case reservationJoined => exact ordered_carry fun h => h.resJoined
  case reservationPresented => exact ordered_carry fun h => h.resPresented
  case reservationWithdrawn => exact ordered_carry fun h => h.resWithdrawn
  case commitReport => exact ordered_carry fun h => h.takeCommit.ans
  case reservationExpiry => exact ordered_carry fun h => h.resExpired
  case holdHandover => exact ordered_carry fun h => h.takeHold
  case carrierRelease => exact ordered_carry fun h => h.takeCarrierRelease
  case auditTrim => exact ordered_carry fun h => h.takeTrim.ans
  case shortReport => exact ordered_carry fun h => h.takeShort
  case substitutionRequest => exact ordered_carry fun h => h.takeSubstitution.ans
  case substituteRelease => exact ordered_carry fun h => h.takeSubstituteRelease
  -- the stations
  case readyReport => exact ordered_stn fun h => h.takeReady
  case notReadyReport => exact ordered_stn fun h => h.takeNotReady
  case grantAnswer => exact ordered_stn fun h => h.takeGrantAnswer
  case taskEndReport => exact ordered_taskEndReport
  case grantWithdrawalReport => exact ordered_stn fun h => h.takeWithdrawalReport
  case attentionTimeout => exact ordered_stn fun h => h.attentionExpired
  case taskViewReport => exact ordered_stn fun h => h.takeViewReport
  case transitPlaceReport => exact ordered_stn fun h => h.takePlaceFree
  case plannerRoomReport => exact ordered_stn fun h => h.takeRoom
  case placeReport => exact ordered_stn fun h => h.takePlaceReport.refresh
  case putTaskLeft => exact ordered_stn fun h => h.takePutLeft
  case panelShowReturn => exact ordered_stn fun h => h.panelReturned
  case bayCurtainChange => exact ordered_stn fun h => h.bayCurtainInput
  -- the lanes
  case transitPlaceRequest => exact ordered_carry fun h => h.askPlace.ans
  case placeGiveUp => exact ordered_carry fun h => h.givePlace
  case handOver => exact ordered_carry fun h => h.handOverPlace
  case divertReturn => exact ordered_carry fun h => h.divertReturned
  case transitTimeout => exact ordered_carry fun h => h.transitExpired
  case releaseButton => exact ordered_carry fun h => h.momentaryRelease
  case laneControllerRecovery => exact ordered_field fun _ _ {_} h => h.laneOwner
  case laneSettleExpiry => exact ordered_carry fun h => h.laneSettled
  case tagTimerExpiry => exact ordered_carry fun h => h.tagExpires
  case latchReturn => exact ordered_carry fun h => h.latchReturned
  case waitingReport => exact ordered_carry fun h => h.takeWaiting
  case orderClassReport => exact ordered_carry fun h => h.takeOrderClass
  case goneReport => exact ordered_carry fun h => h.takeGone
  case cancelReport => exact ordered_carry fun h => h.takeCancel
  case completionReport => exact ordered_carry fun h => h.takeCompletion
  case receiptAnswer => exact ordered_carry fun h => h.takeReceiptAnswer
  -- the audits
  case auditRequestRaised => exact ordered_stn fun h => h.raiseInternal
  case auditPlaceReport => exact ordered_stn fun h => h.offerAudit
  case auditGranted => exact ordered_stn fun h => h.takeAuditGranted
  case tally => exact ordered_stn fun h => h.takeTally
  case auditConfirm => exact ordered_stn fun h => h.confirmAudit
  case auditIdleExpiry => exact ordered_stn fun h => h.sessionExpired
  case auditAbandonReport => exact ordered_stn fun h => h.abandonSession
  case auditHandBack => exact ordered_stn fun h => h.takeHandBack
  case admitNotice => exact ordered_stn fun h => h.takeAdmit
  -- notices and replies
  case noticeHanded => exact ordered_carry fun h => h.handNotice
  case noticeSend => exact ordered_carry fun h => h.sendNotice
  case noticeFate => exact ordered_carry fun h => h.noticeReturned
  case replyOffer => exact ordered_carry fun h => h.offerReply
  -- the keys
  case signOn => exact ordered_stn fun h => h.pressKey
  case signOff => exact ordered_stn fun h => h.pressKey
  case clearAccept => exact ordered_stn fun h => h.pressKey
  case clearReject => exact ordered_stn fun h => h.pressKey
  case recount => exact ordered_stn fun h => h.pressKey
  case short => exact ordered_stn fun h => h.pressKey
  case confirm => exact ordered_stn fun h => h.pressKey
  case batchEnd => exact ordered_stn fun h => h.pressKey
  -- the requests and the field's frames have their rows above
  all_goals simp only [runRequest, runFrame, reduceCtorEq] at hq hf

theorem ordered_exec (i : Instr) (s : State) : Ordered s (exec i s) := by
  cases hq : runRequest i s with
  | some r => exact exec_of_runRequest hq ▸ ordered_runRequest hq
  | none =>
    cases hf : runFrame i s with
    | some r => exact exec_of_runFrame hf ▸ ordered_runFrame hf
    | none => exact ordered_row hq hf

/-- Every step keeps every invariant. -/
theorem ordered_step (s : State) : Ordered s (step s) := by
  have after : ∀ {u : State} {c : Instr}, s.Orderly u → Ordered s (exec c u) := fun hu t ht =>
    hu.trans (ordered_exec _ _ t ht)
  have refl := State.Orderly.refl s
  unfold step
  split
  · exact after refl.setPending
  unfold ownStep
  split
  · exact ordered_next refl
  split
  · exact after refl.setMail
  split
  · exact after refl
  · exact ordered_next (refl.of_queued (t := s.tick) rfl)

/-- Settles O55: the queues gain a task, an entry or a request only where there is a place and none of its kind stands. -/
theorem queuesBounded : Obligations.QueuesBounded := by
  refine ⟨fun s t ⟨hr, hq, hi⟩ ht => ?_, fun s t hn ⟨ha, hr⟩ ht => ?_⟩
  · have h := ordered_step s t ht
    exact ⟨h.requests hr, fun k => (h.seqs k).bounded (hq k), fun i => h.scans i (hi i)⟩
  · have h := ordered_step s t ht
    exact ⟨fun k => ((h.seqs k).distinct ⟨hn k, ha k⟩).2, h.requests hr⟩

end Sys2Proof.Machine

namespace Sys2Proof.Machine

/-! # The transmit queue (R173, R174) -/

section
variable {s : State} {f : TxFrame} {b : Block} {t : Target} {p : Payload} {d : Nat} {k : Carousel}

/-! ## What is handed back -/

/-- The frames that a block keeps as they are after a full answer, and that no record of its own holds: a query, a DIVERT,
and a MOVE of a carousel without a move in flight. -/
def keptAsIs (s : State) (f : TxFrame) : Prop :=
  payloadKind f.payload = 4 ∨ payloadKind f.payload = 18 ∨
    (payloadKind f.payload = 1 ∧ ∃ k, f.block = .seq k ∧ (s.seq k).move = none)

theorem handBack_asIs (h : keptAsIs s f) : handBack f s = keepFrame f s := by
  obtain ⟨dest, urgent, block, payload⟩ := f
  rcases h with h | h | ⟨h, k, hb, hm⟩
  · cases payload <;> simp [payloadKind] at h
    rfl
  · cases payload <;> simp [payloadKind] at h
    rfl
  · obtain rfl : block = .seq k := hb
    cases payload <;> simp [payloadKind] at h
    simp only [handBack, hm]

/-- A frame handed back changes no more of the Frame Engine than the frames that are kept. -/
theorem handBack_fe (f : TxFrame) (s : State) : ∃ l, (handBack f s).fe = { s.fe with kept := l } := by
  unfold handBack
  split
  · split
    · exact ⟨s.fe.kept, rfl⟩
    · exact ⟨_, rfl⟩
  · exact ⟨s.fe.kept, rfl⟩
  · exact ⟨s.fe.kept, rfl⟩
  · exact ⟨s.fe.kept, rfl⟩
  · exact ⟨_, rfl⟩

theorem handBack_mail (f : TxFrame) (s : State) : (handBack f s).mail = s.mail := by
  unfold handBack
  repeat' split
  all_goals rfl

/-! ## Offers -/

/-- A frame that finds the queue full of frames that it may not push out is answered full, and its block waits. -/
theorem offerFrame_full {v : TxFrame} (hl : 32 ≤ s.fe.queue.length) (hv : s.fe.queue.getLast? = some v)
    (hu : f.urgent = false ∨ v.urgent = true) : offerFrame f s = (joinWaiting f.block s, .full) := by
  have hpush : (f.urgent && !v.urgent) = false := by rcases hu with h | h <;> simp [h]
  simp [offerFrame, Config.transmitFrames, Nat.not_lt.2 hl, hv, hpush]

/-- An URGENT frame pushes the newest frame out of a full queue where that one is NORMAL. -/
theorem offerFrame_push {v : TxFrame} (hl : 32 ≤ s.fe.queue.length) (hv : s.fe.queue.getLast? = some v)
    (hf : f.urgent = true) (hu : v.urgent = false) :
    offerFrame f s = (joinWaiting v.block (handBack v (spaceFreed (s.modFe fun e =>
      { e with queue := joinQueue f e.queue.dropLast }))), .queued) := by
  simp [offerFrame, Config.transmitFrames, Nat.not_lt.2 hl, hv, hf, hu]

theorem joinQueue_urgent (hf : f.urgent = true) (q : List TxFrame) :
    joinQueue f q = q.takeWhile (·.urgent) ++ f :: q.dropWhile (·.urgent) := by simp [joinQueue, hf]

theorem exec_frameOffer (hs : s.resetLow = false) (b : Block) (t : Target) (p : Payload) :
    exec (.frameOffer b t p) s = .next (takeOffer b t p s.begun) := carry_begun hs _

theorem takeOffer_queued (ha : s.address t = some d) {u : State} (ho : offerFrame (frameTo b d p) s = (u, .queued)) :
    takeOffer b t p s = u.ans .queued := by
  simp only [takeOffer, offer, ha, ho]

theorem takeOffer_full (ha : s.address t = some d) {u : State} (ho : offerFrame (frameTo b d p) s = (u, .full)) :
    takeOffer b t p s = (handBack (frameTo b d p) u).ans .full := by
  simp only [takeOffer, offer, ha, ho]

theorem takeOffer_noNode (ha : s.address t = none) :
    takeOffer b t p s = (attendEnded s (offerUnheard b p s)).ans .noNode := by
  simp only [takeOffer, offer, ha]

end

theorem claim_frameOffers : Claims.FrameOffers := by
  intro s b t p hs
  refine ⟨fun d ha hl => ?_, fun d v ha hl hv hu => ?_, fun l x ha => ?_⟩
  · rw [exec_frameOffer hs, takeOffer_queued (s := s.begun) ha (offerFrame_room _ hl)]
    rfl
  · have hfull : offerFrame (frameTo b d p) s.begun = (joinWaiting b s.begun, .full) := offerFrame_full hl hv hu
    rw [exec_frameOffer hs, takeOffer_full (s := s.begun) ha hfull]
    obtain ⟨l, hfe⟩ := handBack_fe (frameTo b d p) (joinWaiting b s.begun)
    refine ⟨_, rfl, rfl, ?_, ?_, fun hk => ?_⟩
    · simp only [State.ans_fe, hfe]
      rfl
    · rw [State.ans_fe, hfe]
      change b ∈ if b ∈ s.fe.waiting then s.fe.waiting else s.fe.waiting ++ [b]
      split
      · assumption
      · simp
    · rw [handBack_asIs (s := joinWaiting b s.begun) (f := frameTo b d p) hk]
      rfl
  · rw [exec_frameOffer hs, takeOffer_noNode (s := s.begun) ha]
    exact congrArg (fun u : State => Host.Outcome.next (u.ans .noNode)) (attendEnded_stations rfl)

/-! ## Withdrawals and replacements -/

theorem exec_frameWithdraw {s : State} (hs : s.resetLow = false) (b : Block) (kind : Nat) : exec (.frameWithdraw b kind) s =
    .next ((withdrawFrame b kind s.begun).1.ans (if (withdrawFrame b kind s.begun).2 then .withdrawn else .gone)) := by
  change execFrameWithdraw b kind s = _
  unfold execFrameWithdraw
  exact carry_begun hs _

theorem exec_payloadReplace {s : State} (hs : s.resetLow = false) (b : Block) (p : Payload) : exec (.payloadReplace b p) s =
    .next ((replacePayload b p s.begun).1.ans (if (replacePayload b p s.begun).2 then .replaced else .gone)) := by
  change execPayloadReplace b p s = _
  unfold execPayloadReplace
  exact carry_begun hs _

theorem claim_frameWithdrawals : Claims.FrameWithdrawals := by
  intro s b hs
  refine ⟨fun kind h => ?_, fun kind h => ?_, fun p h => ?_, fun p h => ?_⟩
  · simp only [exec_frameWithdraw hs, withdrawFrame, State.begun_fe, h, if_true]
    rfl
  · simp only [exec_frameWithdraw hs, withdrawFrame, State.begun_fe, h, Bool.false_eq_true, if_false]
  · simp only [exec_payloadReplace hs, replacePayload, State.begun_fe, h, if_true]
  · simp only [exec_payloadReplace hs, replacePayload, State.begun_fe, h, Bool.false_eq_true, if_false]

/-! ## Sending and space reports -/

theorem maySend_iff (s : State) : s.maySend = true ↔ s.fe.ring = .up ∧ s.clock = true ∧ s.fe.outstanding.length < 32 := by
  simp only [State.maySend, Bool.and_eq_true, decide_eq_true_eq, and_assoc]
  rfl

theorem exec_spaceReport {s : State} (hs : s.resetLow = false) (b : Block) :
    exec (.spaceReport b) s = .next (takeSpace b s.begun) := carry_begun hs _

/-- A block without kept frames offers none again. -/
theorem reofferKept_none {s : State} (h : s.fe.kept = []) (b : Block) (g : Payload → State → State) : reofferKept b g s = s := by
  obtain ⟨⟩ := s
  simp only at h
  simp [reofferKept, State.modFe, h]
  rw [← h]

/-- A block that kept one frame alone offers it to the node that the map now holds, and does without where there is none. -/
theorem reofferKept_one {s : State} {f : TxFrame} {b : Block} (h : s.fe.kept = [f]) (hb : f.block = b) (g : Payload → State → State) :
    (∀ d, s.addressNow f = some d → reofferKept b g s = offerOrKeep { f with dest := d } (s.modFe fun e => { e with kept := [] })) ∧
      (s.addressNow f = none → reofferKept b g s = g f.payload (s.modFe fun e => { e with kept := [] })) := by
  have hnone : (s.fe.kept.filter fun f => !(f.block = b)) = [] := by simp [h, hb]
  have hmine : (s.fe.kept.filter fun f => f.block = b) = [f] := by simp [h, hb]
  have hfe : (s.modFe fun e => { e with kept := e.kept.filter fun f => !(f.block = b) }) = s.modFe fun e => { e with kept := [] } :=
    congrArg (fun l => ({ s with fe := { s.fe with kept := l } } : State)) hnone
  have haddr : (s.modFe fun e => { e with kept := [] }).addressNow f = s.addressNow f := by
    unfold State.addressNow
    cases addressee f.block f.payload with
    | none => rfl
    | some t => cases t <;> rfl
  exact ⟨fun d hd => by simp only [reofferKept, hmine, hfe, List.foldl_cons, List.foldl_nil, haddr.trans hd],
    fun hn => by simp only [reofferKept, hmine, hfe, List.foldl_cons, List.foldl_nil, haddr.trans hn]⟩

theorem offerOrKeep_room {s : State} {f : TxFrame} (h : s.fe.queue.length < 32) :
    offerOrKeep f s = s.modFe fun e => { e with queue := joinQueue f e.queue } := by
  simp [offerOrKeep, offerFrame_room _ h]

theorem claim_frameSending : Claims.FrameSending := by
  intro s hs
  refine ⟨fun f rest hq hr hc ho => ?_, fun h => ?_, fun f d hk hb ha hl => ?_, fun f label l second hk hb hp => ⟨?_, fun hn => ?_⟩,
    fun hk => ?_⟩
  · refine (carry_begun hs _).trans ?_
    have hm : s.begun.maySend = true := (maySend_iff _).2 ⟨hr, hc, ho⟩
    simp only [sendHead, State.begun_fe, hq, hm, if_true]
    rfl
  · refine (carry_begun hs _).trans (congrArg _ ?_)
    unfold sendHead
    split
    · rfl
    · next hq =>
      have hm : ¬ s.begun.maySend = true := fun hm => by
        obtain ⟨h1, h2, h3⟩ := (maySend_iff _).1 hm
        rcases h with h | h | h | h
        · exact absurd (hq.symm.trans h) (by simp)
        · exact h h1
        · exact Bool.false_ne_true (h.symm.trans h2)
        · exact Nat.not_lt.2 h h3
      simp only [hm]
      rfl
  · rw [exec_spaceReport hs]
    simp only [takeSpace, (reofferKept_one (s := s.begun) hk hb _).1 d ha]
    rw [offerOrKeep_room (by exact hl)]
    rfl
  · simp [State.addressNow, hp, addressee, State.address]
  · have ha : s.begun.addressNow f = none := by simp [State.addressNow, hp, addressee, State.address, hn]
    rw [exec_spaceReport hs]
    simp only [takeSpace, (reofferKept_one (s := s.begun) hk hb _).2 ha, hp]
    rfl
  · rw [exec_spaceReport hs]
    simp only [takeSpace, reofferKept_none (s := s.begun) hk]

end Sys2Proof.Machine

namespace Sys2Proof.Machine

/-! # The transmit queue: frames pushed out, offers without a node, and space reports (R173) -/

section
variable {s u : State} {f v : TxFrame} {b : Block} {t : Target} {p : Payload} {d : Nat} {k : Carousel} {i : Station}

/-! ## Pushing out -/

/-- The queue as an URGENT frame takes the place of its newest frame, and every waiting block is told of the space. -/
def pushedBy (f : TxFrame) (s : State) : State :=
  spaceFreed (s.modFe fun e => { e with queue := joinQueue f e.queue.dropLast })

theorem exec_frameOffer_push (hs : s.resetLow = false) (ha : s.address t = some d) (hl : 32 ≤ s.fe.queue.length)
    (hv : s.fe.queue.getLast? = some v) (hp : payloadUrgent p = true) (hu : v.urgent = false) :
    exec (.frameOffer b t p) s =
      .next ((joinWaiting v.block (handBack v (pushedBy (frameTo b d p) s.begun))).ans .queued) := by
  rw [exec_frameOffer hs, takeOffer_queued (s := s.begun) ha (offerFrame_push hl hv hp hu)]
  rfl

end

theorem claim_pushedOut : Claims.PushedOut := by
  intro s b t p d v hs ha hl hv hp hu
  obtain ⟨l, hfe⟩ := handBack_fe v (pushedBy (frameTo b d p) s.begun)
  refine ⟨_, exec_frameOffer_push hs ha hl hv hp hu, rfl, ?_, ?_, ?_, fun hk => ?_, fun c i hc hb => ?_,
    fun kind tag r content hr => ?_, fun n hn => ?_, fun dir dist target speed k m hm hb hmove => ?_⟩
  · change (handBack v (pushedBy (frameTo b d p) s.begun)).fe.queue = _
    rw [hfe]
    exact joinQueue_urgent hp _
  · change (if v.block ∈ (handBack v (pushedBy (frameTo b d p) s.begun)).fe.waiting then _ else _) = _
    rw [hfe]
    rfl
  · exact handBack_mail v _
  · rw [handBack_asIs (s := pushedBy (frameTo b d p) s.begun) hk]
    rfl
  · obtain ⟨dest, urgent, block, payload⟩ := v
    obtain ⟨rfl, rfl⟩ := And.intro hc hb
    rfl
  · obtain ⟨dest, urgent, block, payload⟩ := v
    obtain rfl : payload = _ := hr
    rfl
  · obtain ⟨dest, urgent, block, payload⟩ := v
    obtain rfl : payload = _ := hn
    rfl
  · obtain ⟨dest, urgent, block, payload⟩ := v
    obtain ⟨rfl, rfl⟩ := And.intro hm hb
    have hmove : ((pushedBy (frameTo b d p) s.begun).seq k).move = some m := hmove
    simp only [handBack, hmove]
    exact State.seq_modSeq (pushedBy (frameTo b d p) s.begun) k fun q => { q with
      state := .idle, move := none,
      built := some { target := target, dir := dir, dist := dist, speed := speed, timeout := m.timeout,
                      resent := if m.resent = true then some m.deadline else none } }

section
variable {s u : State} {f v : TxFrame} {b : Block} {t : Target} {p : Payload} {d : Nat} {k : Carousel} {i : Station}

/-! ## No node -/

theorem State.onlyCarousels.stations (h : s.onlyCarousels u) : u.stations = s.stations := by rw [h]

theorem State.onlyCarousels.ans (h : s.begun.onlyCarousels u) (a : Answer) : s.onlyCarousels (u.ans a) := by
  unfold State.onlyCarousels at h ⊢
  exact congrArg (fun v : State => v.ans a) h

theorem exec_frameOffer_noNode (hs : s.resetLow = false) (ha : s.address t = none)
    (ho : (offerUnheard b p s.begun).stations = s.stations) :
    exec (.frameOffer b t p) s = .next ((offerUnheard b p s.begun).ans .noNode) := by
  rw [exec_frameOffer hs, takeOffer_noNode (s := s.begun) ha, attendEnded_stations (s := s.begun) ho]

/-- The frames whose answer of no node asks nothing of the block that offers them. -/
theorem offerUnheard_plain (h : payloadKind p = 15 ∨ payloadKind p = 16 ∨ payloadKind p = 18 ∨ payloadKind p = 96 ∨
    payloadKind p = 97) (b : Block) (s : State) : offerUnheard b p s = s := by
  cases p <;> simp [payloadKind] at h <;> cases b <;> rfl

theorem offerUnheard_halt (b : Block) (s : State) : offerUnheard b (.halt false) s = s := by cases b <;> rfl

theorem offerUnheard_move (h : payloadKind p = 1 ∨ p = .halt true) (k : Carousel) (s : State) :
    offerUnheard (.seq k) p s = enterFault k .link s := by
  rcases h with h | rfl
  · cases p <;> simp [payloadKind] at h
    rfl
  · rfl

theorem offerUnheard_latch {l : Lane} {pulse : Nat} {second : Bool} (h : p = .lock l second ∨ p = .unlock l pulse second)
    (b : Block) (s : State) : offerUnheard b p s = s.controllerGone l := by
  rcases h with rfl | rfl <;> cases b <;> exact loseController_gone _ _

/-- A panel lost at a CLOSED station, no frame for it being queued, changes its record and tells its carousels (R98). -/
theorem losePanel_closed (ho : (s.stn i).opened = false) (hl : (s.stn i).panelLost = false)
    (hq : s.fe.queue.any (isFrameOf (.station i) 9) = false) :
    losePanel i s = (s.modStn i fun x => x.panelGone).postAll ((s.stn i).cars.map fun k => .curtainBroken k true) := by
  simp only [losePanel, hl, ho, withdrawFrames, withdrawWhere, hq, Bool.false_eq_true, if_false]

end

theorem claim_noNodeAnswers : Claims.NoNodeAnswers := by
  intro s t hs ha
  refine ⟨fun b p hp => ?_, fun b => ?_, fun k p hp hk => ?_, fun k n hk => ?_, fun i c ho hl hq => ?_,
    fun b l pulse second p hp => ?_⟩
  · rw [exec_frameOffer_noNode hs ha (by rw [offerUnheard_plain hp]; rfl), offerUnheard_plain hp]
  · rw [exec_frameOffer_noNode hs ha (by rw [offerUnheard_halt]; rfl), offerUnheard_halt]
  · obtain ⟨hf, hc⟩ := enterFault_away k .link (s := s.begun) hk
    rw [← offerUnheard_move hp k s.begun] at hf hc
    refine ⟨_, exec_frameOffer_noNode hs ha ?_, rfl, hf, hc.ans .noNode⟩
    exact hc.stations
  · obtain ⟨hf, hc⟩ := enterFault_away k .link (s := s.begun.withoutQuery k n) (by simpa [State.withoutQuery] using hk)
    refine ⟨_, exec_frameOffer_noNode (b := .seq k) (p := .statusQuery n) hs ha
      hc.stations, rfl, hf,
      hc.ans .noNode⟩
  · have he : offerUnheard (.station i) (.panelShow c) s.begun = _ := losePanel_closed (s := s.begun) ho hl hq
    rw [exec_frameOffer hs, takeOffer_noNode (s := s.begun) ha, he, attendEnded_grants]
    · rfl
    intro j
    by_cases hj : j = i
    · subst hj
      simp [Stn.panelGone]
    · exact congrArg Stn.grant (State.stn_modStn_ne _ _ hj)
  · rw [exec_frameOffer_noNode hs ha (by rw [offerUnheard_latch hp]; rfl), offerUnheard_latch hp]

end Sys2Proof.Machine

namespace Sys2Proof.Machine

/-! # Space reports (R173) -/

section
variable {s u : State} {f : TxFrame} {b : Block} {p : Payload} {d : Nat} {k : Carousel} {i : Station}

/-- The test of R75 under its own words. -/
theorem moveAllowed_iff (s : State) (k : Carousel) : s.moveAllowed k = true ↔ s.mayMove k := by
  simp only [State.moveAllowed, State.mayMove, State.stationOf, Bool.and_eq_true, decide_eq_true_eq, Option.any_map]
  cases (s.seq k).place with
  | none => simp
  | some p => simp [Stn.serving]; tauto

/-- The state with no frame kept. -/
abbrev noneKept (s : State) : State := s.modFe fun e => { e with kept := [] }

theorem discardMoves_other (h : s.fe.kept = [f]) (hf : payloadKind f.payload ≠ 1) : discardMoves k s = s := by
  have hkept : (s.fe.kept.filter fun f => !isFrameOf (.seq k) 1 f) = s.fe.kept := by simp [h, isFrameOf, hf]
  exact congrArg (fun l => ({ s with fe := { s.fe with kept := l } } : State)) hkept

theorem discardMoves_own (h : s.fe.kept = [f]) (hb : f.block = .seq k) (hf : payloadKind f.payload = 1) :
    discardMoves k s = noneKept s := by
  have hkept : (s.fe.kept.filter fun f => !isFrameOf (.seq k) 1 f) = [] := by simp [h, isFrameOf, hf, hb]
  exact congrArg (fun l => ({ s with fe := { s.fe with kept := l } } : State)) hkept

/-- A carousel without a built MOVE reoffers what it kept, its MOVEs only while one may leave it (log entry 52). -/
theorem seqSpace_kept (hu : reofferKept (.seq k) (driveUnheard k)
    (if (s.seq k).state = .idle ∧ s.moveAllowed k = true then s else discardMoves k s) = u) (hb : (u.seq k).built = none) :
    seqSpace k s = u := by
  simp [seqSpace, hu, hb]

theorem exec_seqSpace (hs : s.resetLow = false) (hu : seqSpace k s.begun = u) (ht : u.stations = s.stations) :
    exec (.spaceReport (.seq k)) s = .next u := by
  rw [exec_spaceReport hs]
  simp only [takeSpace, hu, attendEnded_stations (s := s.begun) ht]

theorem addressNow_seq (hb : f.block = .seq k)
    (hp : (∃ n, f.payload = .statusQuery n) ∨ (∃ b, f.payload = .halt b) ∨ payloadKind f.payload = 1) :
    s.addressNow f = s.nodeOf .drive k.val := by
  have haddr : addressee f.block f.payload = some (.node .drive k.val) := by
    rw [hb]
    rcases hp with ⟨n, hp⟩ | ⟨b, hp⟩ | hp
    · rw [hp]; rfl
    · rw [hp]; rfl
    · cases hf : f.payload <;> simp [hf, payloadKind] at hp
      rfl
  simp only [State.addressNow, haddr]
  rfl

/-- A fault changes the ring's records as the withdrawal of the MOVE frame does. -/
theorem enterFault_fe (c : FaultCause) (h : (s.seq k).state.away = true) : (enterFault k c s).fe = (withdrawMove k s).1.fe := by
  have hfault : faultable (s.seq k).state = true := by cases hs : (s.seq k).state <;> simp_all [CarState.away, faultable]
  obtain ⟨q, w, m, e1⟩ := withdrawMove_effect k s
  obtain ⟨m2, e2⟩ := leaveOpening_away k .fault (s := { s with fe := { s.fe with queue := q, waiting := w }, mail := m }) h
  obtain ⟨m3, e3⟩ := abandonAudit_effect k (State.modSeq
    { s with fe := { s.fe with queue := q, waiting := w }, mail := m2 } k fun q => { q with state := .fault })
  simp only [enterFault, hfault, if_true, e1, e2, e3]
  rfl

theorem enterFault_kept (c : FaultCause) (h : (s.seq k).state.away = true) : (enterFault k c s).fe.kept = s.fe.kept := by
  obtain ⟨q, w, m, hw⟩ := withdrawMove_effect k s
  rw [enterFault_fe c h, hw]

/-! ## Stations and the Management Unit -/

theorem exec_stationSpace (hs : s.resetLow = false) (hk : s.fe.kept = []) :
    exec (.spaceReport (.station i)) s = .next (stationSpace i s.begun) := by
  rw [exec_spaceReport hs]
  simp only [takeSpace, reofferKept_none (s := s.begun) hk]

theorem sendContent_framed {c : Content} {a : Nat} (ha : s.nodeOf .panel i.val = some a)
    (hq : s.fe.queue.any (isFrameOf (.station i) 9) = false) (hl : s.fe.queue.length < 32) :
    sendContent i c s = (s.framed (.station i) a (.panelShow c)).modStn i fun x =>
      { x with display := { sent := some c, waiting := none } } := by
  have haddr : s.address (panelOf i) = some a := ha
  have hrep : replacePayload (.station i) (.panelShow c) s = (s, false) := by
    simp [replacePayload, payloadKind, hq]
  simp only [sendContent, hrep, offer, haddr, offerFrame_room _ hl, Bool.false_eq_true, if_false]
  rfl

theorem exec_managementSpace (hs : s.resetLow = false) (hk : s.fe.kept = []) :
    exec (.spaceReport .management) s = .next (sendNotice s.begun) := by
  rw [exec_spaceReport hs]
  simp only [takeSpace, managementSpace, reofferKept_none (s := s.begun) hk]

/-- The one ready reply leaves for its requester. -/
theorem offerReplies_one {r : Reply} (hr : s.mgmt.replies = [r]) (hl : s.fe.queue.length < 32) :
    offerReplies 1 s = (s.framed .management r.dest (.reply r.kind r.tag r.result r.content)).modMgmt fun m =>
      { m with replies := [] } := by
  have hone : offerReply s = (s.framed .management r.dest (.reply r.kind r.tag r.result r.content)).modMgmt fun m =>
      { m with replies := [] } := by
    simp only [offerReply, hr, offer, State.address]
    rw [offerFrame_room _ (by exact hl)]
    rfl
  simp only [offerReplies, hone, ite_self]

theorem sendNotice_after (h : offerReplies s.mgmt.replies.length s = u) (hu : u.mgmt.replies = []) :
    sendNotice s = offerNotice u := by simp [sendNotice, h, hu]

/-- The head notice leaves for the gateway. -/
theorem offerNotice_one {n : Notice} {g : Nat} (hr : s.mgmt.resend = []) (hn : s.mgmt.notices = [n]) (hg : s.gateway = some g)
    (hl : s.fe.queue.length < 32) : offerNotice s = (s.framed .management g (.notice n false)).modMgmt fun m =>
      { m with notices := [] } := by
  have haddr : (s.modMgmt fun m => { m with notices := [] }).address (.node .gateway 0) = some g := hg
  simp only [offerNotice, hr, hn, offer]
  rw [haddr]
  dsimp only
  rw [offerFrame_room _ (by exact hl)]
  rfl

end

theorem claim_spaceReports : Claims.SpaceReports := by
  intro s hs
  refine ⟨fun k f hk hb hp hbuilt => ?_, fun k f dir dist target speed hk hb hp hbuilt => ⟨fun d hi hm hd hl => ⟨?_, ?_⟩, fun hno => ?_⟩,
    fun i hk => ⟨fun hw => ?_, fun c a hw hc hlost ha hq hl => ?_⟩, fun r n g hk hr hre hn hg hl => ?_, fun hk hr hre hn => ?_⟩
  · have hkind : payloadKind f.payload ≠ 1 := by rcases hp with ⟨n, h⟩ | ⟨b, h⟩ <;> simp [h, payloadKind]
    have hstart : (if (s.begun.seq k).state = .idle ∧ s.begun.moveAllowed k = true then s.begun else discardMoves k s.begun) =
        s.begun := by rw [discardMoves_other (s := s.begun) hk hkind, ite_self]
    have haddr : s.begun.addressNow f = s.nodeOf .drive k.val :=
      addressNow_seq hb (by rcases hp with h | h <;> simp [h])
    refine ⟨fun d hd hl => ?_, fun n hd hq haway => ?_⟩
    · have hoff := (reofferKept_one (s := s.begun) hk hb (driveUnheard k)).1 d (haddr.trans hd)
      rw [offerOrKeep_room (by exact hl)] at hoff
      exact exec_seqSpace hs (seqSpace_kept (by rw [hstart]; exact hoff) hbuilt) rfl
    · have hoff := (reofferKept_one (s := s.begun) hk hb (driveUnheard k)).2 (haddr.trans hd)
      rw [hq] at hoff
      dsimp only [driveUnheard, queryUnanswered] at hoff
      have haway' : (((noneKept s.begun).withoutQuery k n).seq k).state.away = true := by
        simpa [State.withoutQuery] using haway
      obtain ⟨hf, hc⟩ := enterFault_away k .link haway'
      have hbuilt' := congrArg Seq.built hf.1
      exact ⟨_, exec_seqSpace hs (seqSpace_kept (by rw [hstart]; exact hoff) hbuilt') hc.stations, hf,
        enterFault_kept .link haway', hc⟩
  · rw [addressNow_seq hb (by simp [hp, payloadKind]), hd]
  · have haddr : s.begun.addressNow f = some d := (addressNow_seq hb (by simp [hp, payloadKind])).trans hd
    have hoff := (reofferKept_one (s := s.begun) hk hb (driveUnheard k)).1 d haddr
    rw [offerOrKeep_room (by exact hl)] at hoff
    refine exec_seqSpace hs (seqSpace_kept ?_ hbuilt) rfl
    rw [if_pos ⟨hi, (moveAllowed_iff s.begun k).2 hm⟩]
    exact hoff
  · refine exec_seqSpace hs (seqSpace_kept ?_ (by exact hbuilt)) rfl
    have hfree : ¬ ((s.begun.seq k).state = .idle ∧ s.begun.moveAllowed k = true) := fun ⟨h1, h2⟩ =>
      hno.elim (· h1) (· ((moveAllowed_iff s.begun k).1 h2))
    rw [if_neg hfree, discardMoves_own (s := s.begun) hk hb (by simp [hp, payloadKind])]
    exact reofferKept_none rfl _ _
  · rw [exec_stationSpace hs hk]
    simp [stationSpace, hw]
  · rw [exec_stationSpace hs hk]
    simp only [stationSpace, resend, State.begun_stn, hw, hc, hlost, Option.isSome_some, Bool.not_false, Bool.and_self, if_true]
    rw [sendContent_framed (s := s.begun) ha hq hl]
    rfl
  · have hlen : s.begun.mgmt.replies.length = 1 := congrArg List.length hr
    have hsent : offerReplies s.begun.mgmt.replies.length s.begun = _ :=
      hlen ▸ offerReplies_one (s := s.begun) hr (Nat.lt_succ_of_lt hl)
    rw [exec_managementSpace hs hk, sendNotice_after hsent rfl, offerNotice_one (by exact hre) (by exact hn) (by exact hg) ?_]
    · rfl
    · change (joinQueue (frameTo .management r.dest (.reply r.kind r.tag r.result r.content)) s.fe.queue).length < 32
      rw [joinQueue_normal rfl, List.length_append]
      simpa using Nat.succ_lt_succ hl
  · rw [exec_managementSpace hs hk, sendNotice]
    have hlen : s.begun.mgmt.replies.length = 0 := congrArg List.length hr
    rw [hlen]
    simp [offerReplies, hr, offerNotice, hre, hn]

/-- Settles O7: each clause is the one case of the queue's operation, or of the block's, that it speaks of. -/
theorem transmitQueue : Obligations.TransmitQueue :=
  ⟨claim_frameOffers, claim_frameWithdrawals, claim_frameSending, claim_pushedOut, claim_noNodeAnswers, claim_spaceReports⟩

end Sys2Proof.Machine

namespace Sys2Proof.Machine

/-! # The order of a task queue (R71, R72) -/

section
variable {x y z : Task} {q before after : List Task}

theorem Task.behind_iff : x.behind y = true ↔ @LT.lt Nat _ x.cls y.cls ∨ (@Eq Nat x.cls y.cls ∧ x.num < y.num) :=
  decide_eq_true_iff

theorem Task.behind_trans (hxy : x.behind y = true) (hyz : y.behind z = true) : x.behind z = true := by
  rw [Task.behind_iff] at *
  omega

/-- A task of a lower number that is not behind another has that other behind it. -/
theorem Task.behind_of_num (h : y.behind x = false) (hn : x.num < y.num) : x.behind y = true := by
  have hnot : ¬ y.behind x = true := by simp [h]
  rw [Task.behind_iff] at *
  omega

/-- The place of the first match, or the end, is past what does not match. -/
theorem position_getD {α : Type} (p : α → Bool) (l : List α) :
    (position p l).getD l.length = (l.takeWhile fun a => !p a).length := by
  induction l with
  | nil => rfl
  | cons a rest ih =>
    unfold position
    cases hp : p a with
    | true => simp [hp]
    | false => cases hr : position p rest <;> simp [hr] at ih <;> simp [hp, ih]

/-- What is inserted past the first part of a list that has two stands between them. -/
theorem insertAt_length {α : Type} (x : α) (l m : List α) : insertAt l.length x (l ++ m) = l ++ x :: m := by
  simp [insertAt]

/-- A task goes by class between what it is not ahead of and what it is. -/
theorem insertAt_placeByClass (x : Task) (q : List Task) :
    insertAt (placeByClass x q) x q = (q.takeWhile fun y => !x.behind y) ++ x :: q.dropWhile fun y => !x.behind y := by
  rw [placeByClass, position_getD]
  calc insertAt _ x q = insertAt _ x ((q.takeWhile fun y => !x.behind y) ++ q.dropWhile fun y => !x.behind y) := by
        rw [List.takeWhile_append_dropWhile]
    _ = _ := insertAt_length ..

theorem placeTask_byClass (h : x.kind ≠ .audit) (q : List Task) :
    placeTask x q = (q.takeWhile fun y => !x.behind y) ++ x :: q.dropWhile fun y => !x.behind y := by
  rw [placeTask, placeAt, if_neg h, insertAt_placeByClass]

/-- In an ordered queue everything from the first task behind `x` on is behind `x`. -/
theorem behind_of_mem_dropWhile (hq : q.Pairwise fun a b => Task.behind a b = true) (hy : y ∈ q.dropWhile fun y => !x.behind y) :
    x.behind y = true := by
  have hsorted := hq.sublist (List.dropWhile_sublist fun y => !x.behind y)
  cases hd : q.dropWhile fun y => !x.behind y with
  | nil => simp [hd] at hy
  | cons a rest =>
    have ha : x.behind a = true := by
      have := List.head?_dropWhile_not (fun y => !x.behind y) q
      simpa [hd] using this
    rw [hd] at hy hsorted
    rcases List.mem_cons.1 hy with rfl | hy
    · exact ha
    · exact Task.behind_trans ha (List.rel_of_pairwise_cons hsorted hy)

theorem claim_queueOrder : Claims.QueueOrder := by
  intro x q hk hq hn
  refine ⟨?_, placeTask_holds x q⟩
  rw [placeTask_byClass hk]
  have hahead : ∀ y ∈ q.takeWhile fun y => !x.behind y, y.behind x = true := fun y hy =>
    Task.behind_of_num (by simpa using List.mem_takeWhile_imp hy) (hn y ((List.takeWhile_sublist _).subset hy))
  have hbehind : ∀ y ∈ q.dropWhile fun y => !x.behind y, x.behind y = true := fun y hy => behind_of_mem_dropWhile hq hy
  refine List.pairwise_append.2 ⟨hq.sublist (List.takeWhile_sublist _),
    List.pairwise_cons.2 ⟨hbehind, hq.sublist (List.dropWhile_sublist _)⟩, fun a ha b hb => ?_⟩
  rcases List.mem_cons.1 hb with rfl | hb
  · exact hahead a ha
  · exact Task.behind_trans (hahead a ha) (hbehind b hb)

/-! ## The departure from it (R72) -/

/-- The first match is at the end of what does not match. -/
theorem position_append {α : Type} {p : α → Bool} {l m : List α} {a : α} (hl : ∀ b ∈ l, p b = false) (ha : p a = true) :
    position p (l ++ a :: m) = some l.length := by
  induction l with
  | nil => simp [position, ha]
  | cons b rest ih =>
    simp [position, hl b (by simp), ih fun c hc => hl c (by simp [hc])]

/-- A place by class is not past a task that is behind. -/
theorem placeByClass_le (h : ∃ z ∈ before ++ [y], x.behind z = true) : placeByClass x (before ++ y :: after) ≤ before.length := by
  rw [placeByClass, position_getD]
  by_contra hlen
  have hpre : before ++ [y] <+: (before ++ y :: after).takeWhile fun z => !x.behind z :=
    List.prefix_of_prefix_length_le ⟨after, by simp⟩ (List.takeWhile_prefix _) (by simp; omega)
  obtain ⟨z, hz, hb⟩ := h
  simpa [hb] using List.mem_takeWhile_imp (hpre.subset hz)

theorem claim_auditBehindPut : Claims.AuditBehindPut := by
  intro x y before after hx hy hc hno hb
  have hput : position (Task.is .put x.carrier) (before ++ y :: after) = some before.length :=
    position_append hno (by simp [Task.is, hy, hc])
  have hat : placeAt x (before ++ y :: after) = (before ++ [y]).length := by
    simp [placeAt, hx, hput, placeByClass_le hb]
  rw [placeTask, hat]
  simpa using insertAt_length x (before ++ [y]) after

/-- Settles O13: a task goes between what it is not ahead of and what it is, an AUDIT task past its carrier's PUT task. -/
theorem taskQueueOrder : Obligations.TaskQueueOrder := ⟨claim_queueOrder, claim_auditBehindPut⟩

end
end Sys2Proof.Machine

namespace Sys2Proof.Machine

/-! # The choice of an IDLE carousel (R75, R76) -/

section
variable {s : State} {k : Carousel} {i : Station} {x : Task} {j d : Nat} {p : Plan}

/-! ## What the choice does -/

theorem chosen_fresh (hc : (s.seq k).current = none) : s.chosen k = (s.seq k).queue.find? (s.presentable k) := by
  simp only [State.chosen, Seq.currentTask, hc, Option.bind_none]

theorem clearCurrent_seq (k : Carousel) (s : State) :
    (clearCurrent k s).seq k = { s.seq k with current := none, short := 0, built := none } := State.seq_modSeq ..

theorem clearCurrent_moveAllowed (k : Carousel) (s : State) : (clearCurrent k s).moveAllowed k = s.moveAllowed k := by
  simp only [State.moveAllowed, State.stationOf, clearCurrent_seq]
  rfl

/-- Without a task to go to an IDLE carousel has no current task. -/
theorem choose_none (hst : (s.seq k).state = .idle) (hx : s.chosen k = none) : choose k s = clearCurrent k s := by
  simp only [choose, hst, hx, if_true]

/-- An IDLE carousel without a current task takes up the one that it goes to. -/
theorem choose_some (hst : (s.seq k).state = .idle) (hx : s.chosen k = some x) (hc : (s.seq k).current = none) :
    choose k s =
      if (s.seq k).index = some x.carrier then
        if s.mgmt.cell = .loading then clearCurrent k s else becomeReady k x (clearCurrent k s)
      else if s.moveAllowed k = true then planMove k x none (clearCurrent k s)
      else clearCurrent k s := by
  have hidem : clearCurrent k (clearCurrent k s) = clearCurrent k s := State.modSeq_modSeq ..
  have hbuilt : ((clearCurrent k s).modSeq k fun q => { q with built := none }) = clearCurrent k s := State.modSeq_modSeq ..
  simp only [choose, hst, hx, hc, if_true, reduceCtorEq, if_false, clearCurrent_seq, clearCurrent_moveAllowed, hidem, hbuilt]
  rfl

/-- The carousel stands at the carrier of the task that it goes to. -/
theorem choose_there (hst : (s.seq k).state = .idle) (hx : s.chosen k = some x) (hc : (s.seq k).current = none)
    (hi : (s.seq k).index = some x.carrier) (hcell : s.mgmt.cell ≠ .loading) :
    choose k s = becomeReady k x (clearCurrent k s) := by
  rw [choose_some hst hx hc, if_pos hi, if_neg hcell]

/-- The carousel stands elsewhere and may not move. -/
theorem choose_stays (hst : (s.seq k).state = .idle) (hx : s.chosen k = some x) (hc : (s.seq k).current = none)
    (hi : (s.seq k).index ≠ some x.carrier) (hm : ¬ s.mayMove k) : choose k s = clearCurrent k s := by
  rw [choose_some hst hx hc, if_neg hi, if_neg (by rwa [moveAllowed_iff])]

/-- The carousel stands elsewhere and may move. -/
theorem choose_plans (hst : (s.seq k).state = .idle) (hx : s.chosen k = some x) (hc : (s.seq k).current = none)
    (hi : (s.seq k).index ≠ some x.carrier) (hm : s.mayMove k) : choose k s = planMove k x none (clearCurrent k s) := by
  rw [choose_some hst hx hc, if_neg hi, if_pos ((moveAllowed_iff s k).2 hm)]

theorem becomeReady_station (hi : s.stationOf k = some i) (x : Task) : becomeReady k x s =
    (s.modSeq k fun q => { q with state := .ready, current := some x.num, move := none, built := none, short := 0 }).post
      (.readyReport i k) := by
  have hi' : (s.modSeq k fun q => { q with state := .ready, current := some x.num, move := none, built := none, short := 0 }).stationOf
      k = some i := by simpa [State.stationOf] using hi
  simp only [becomeReady, hi']

/-- The move that is in flight once its MOVE frame has been queued (R76). -/
def Plan.moveTo (p : Plan) (c deadline : Nat) (resent : Bool) : Move :=
  { target := c, dir := p.dir, dist := p.dist, speed := p.speed, timeout := p.timeout, deadline := deadline, resent := resent,
    stop := none }

/-- A planned move is queued for a drive in the node map while the queue has room. -/
theorem planMove_queued {resent : Option Nat} (hj : (s.seq k).index = some j) (hp : s.travelPlan k j x.carrier = .plan p)
    (hd : s.nodeOf .drive k.val = some d) (hl : s.fe.queue.length < 32) :
    planMove k x resent s = (s.modFe fun e =>
      { e with queue := e.queue ++ [frameTo (.seq k) d (.move p.dir p.dist x.carrier p.speed)] }).modSeq k fun q =>
        { q with state := .moving, current := some x.num, built := none,
                 move := some (p.moveTo x.carrier (resent.getD (s.after p.timeout)) resent.isSome) } := by
  have haddr : s.address (driveOf k) = some d := hd
  simp only [planMove, hj, hp, offer, haddr, offerFrame_room _ hl, joinQueue_normal (show (frameTo _ _ (.move ..)).urgent = false from rfl)]
  rfl

end

theorem presentable_iff (s : State) (k : Carousel) (x : Task) :
    s.presentable k x = true ↔ (x.kind = .pick → s.carrierState k x.carrier ≠ some .auditLocked) := by
  simp [State.presentable, imp_iff_not_or]

/-- Settles O14: the report makes the carousel choose, and each clause is one outcome of the choice. -/
theorem taskChoice : Obligations.TaskChoice := by
  intro s k i hs hst hc hb hi
  have hexec : ∀ t, choose k s.begun = t → t.stations = s.stations → exec (.stationStateReport k true) s = .next t :=
    fun t ht => exec_seqStep_plain hs (by simp [takeStationState, ht])
  have hclear : clearCurrent k s.begun = s.begun.modSeq k fun q => { q with short := 0 } :=
    modSeq_congr (by simp [State.begun_seq, hc, hb])
  have hfind : s.begun.chosen k = (s.seq k).queue.find? (s.presentable k) := chosen_fresh (s := s.begun) hc
  refine ⟨fun hx => ?_, presentable_iff s k, fun x hx hnum => ⟨fun hidx hcell => ?_, fun j hidx hne hm => ?_,
    fun j p d hidx hne hm hp hd hl => ?_⟩⟩
  · exact hexec _ ((choose_none (s := s.begun) hst (hfind.trans hx)).trans hclear) rfl
  · refine hexec _ ((choose_there (s := s.begun) hst (hfind.trans hx) hc hidx hcell).trans ?_) rfl
    rw [hclear, becomeReady_station (by simpa [State.stationOf] using hi), State.modSeq_modSeq]
    have hseq : (s.begun.seq k).built = none := hb
    exact congrArg (fun t : State => t.post (.readyReport i k)) (modSeq_congr (by simp only [hseq]))
  · have hidx' : (s.begun.seq k).index ≠ some x.carrier := by simpa [hidx] using hne
    exact hexec _ ((choose_stays (s := s.begun) hst (hfind.trans hx) hc hidx' hm).trans hclear) rfl
  · have hidx' : (s.begun.seq k).index ≠ some x.carrier := by simpa [hidx] using hne
    refine hexec _ ((choose_plans (s := s.begun) hst (hfind.trans hx) hc hidx' hm).trans ?_) rfl
    rw [hclear, planMove_queued (j := j) (d := d) (p := p) (by simpa using hidx) (by exact hp) (by exact hd) (by exact hl),
      State.modFe_modSeq, State.modSeq_modSeq]
    have hseq : ((s.begun.modFe fun e => { e with queue :=
      e.queue ++ [frameTo (.seq k) d (.move p.dir p.dist x.carrier p.speed)] }).seq k).built = none := hb
    exact modSeq_congr (by simp only [hseq]; rfl)

end Sys2Proof.Machine

namespace Sys2Proof.Machine

/-! # Grants (R84, R85, R100 to R102) -/

section
variable {s t u : State} {k : Carousel} {i : Station} {x : Task} {v : TaskView} {d : Nat}

theorem exec_stnStep (hs : s.resetLow = false) (f : State → State) : stnStep s f = .next (attendEnded s.begun (f s.begun)) :=
  carry_begun hs _

/-! ## What a station does when its grant has ended -/

/-- Station `i`, which holds no grant, may have offered one again, and its timer and display have followed (R100 to R102). -/
def State.Regranted (s : State) (i : Station) (t : State) : Prop :=
  ∃ e m a g d, t = State.modStn { s with fe := e, mail := m } i (fun x =>
      { x with attention := a, grant := g, timer := .stopped, display := d }) ∧
    s.mail <+: m ∧ ∀ k v, g ≠ .held k v

theorem Stn.holder_eq_none {x : Stn} : x.holder = none ↔ ∀ k v, x.grant ≠ .held k v := by
  unfold Stn.holder
  split <;> simp_all

theorem settleTimer_unheld (h : (s.stn i).holder = none) : settleTimer i s = s.modStn i fun x => { x with timer := .stopped } :=
  modStn_congr (by simp [h])

theorem attend_regrants (hq : (s.stn i).queue = []) (hh : (s.stn i).holder = none) : s.Regranted i (attend i s) := by
  obtain ⟨m, a, g, htry, hm, -, hg⟩ := tryGrant_effect i s
  have hnone : (State.stn (State.modStn { s with mail := m } i fun x => { x with attention := a, grant := g }) i).holder =
      none := by
    rw [State.stn_modStn]
    exact Stn.holder_eq_none.2 (hg hh)
  obtain ⟨e, m', d, href, hm'⟩ := refresh_modStn i (fun x => { x with attention := a, grant := g, timer := .stopped })
    { s with mail := m }
  refine ⟨e, m', a, g, d (s.stn i).display, ?_, hm.trans hm', hg hh⟩
  rw [attend_empty hq, htry, settleTimer_unheld hnone, State.modStn_modStn, href]
  exact modStn_congr rfl

theorem State.Regranted.refl (hh : (s.stn i).holder = none) (ht : (s.stn i).timer = .stopped) : s.Regranted i s := by
  refine ⟨s.fe, s.mail, (s.stn i).attention, (s.stn i).grant, (s.stn i).display, ?_, List.prefix_refl _, Stn.holder_eq_none.1 hh⟩
  refine (State.modStn_same s i).trans (modStn_congr ?_)
  rw [← ht]

theorem State.Regranted.trans (h : s.Regranted i t) (h' : t.Regranted i u) : s.Regranted i u := by
  obtain ⟨e, m, a, g, d, rfl, hm, -⟩ := h
  obtain ⟨e', m', a', g', d', rfl, hm', hg'⟩ := h'
  exact ⟨e', m', a', g', d', State.modStn_modStn { s with fe := e', mail := m' } i
    (fun x => { x with attention := a, grant := g, timer := .stopped, display := d })
    (fun x => { x with attention := a', grant := g', timer := .stopped, display := d' }), hm.trans hm', hg'⟩

theorem State.Regranted.stn (h : s.Regranted i t) : (t.stn i).holder = none ∧ (t.stn i).timer = .stopped ∧
    (t.stn i).queue = (s.stn i).queue ∧ (t.stn i).ready = (s.stn i).ready := by
  obtain ⟨e, m, a, g, d, rfl, -, hg⟩ := h
  rw [State.stn_modStn]
  exact ⟨Stn.holder_eq_none.2 hg, rfl, rfl, rfl⟩

theorem State.Regranted.stationsKept (h : s.Regranted i t) : s.stationsKept i t := by
  obtain ⟨e, m, a, g, d, rfl, -⟩ := h
  exact fun j hj => State.stn_modStn_ne _ _ hj

theorem State.Regranted.onlyStation (h : s.Regranted i t) :
    t = { s with stations := t.stations, fe := t.fe, mail := t.mail } := by
  obtain ⟨e, m, a, g, d, rfl, -⟩ := h
  rfl

theorem State.Regranted.mail (h : s.Regranted i t) : s.mail <+: t.mail := by
  obtain ⟨e, m, a, g, d, rfl, hm, -⟩ := h
  exact hm

/-- Only the station whose grant has ended attends to what follows. -/
theorem attendEnded_regrants {s₀ : State} (ho : s₀.stationsKept i s) (hq : (s.stn i).queue = []) (hh : (s.stn i).holder = none)
    (ht : (s.stn i).timer = .stopped) : s.Regranted i (attendEnded s₀ s) := by
  have hother : ∀ j, j ≠ i → (s.stn j).grant = (s₀.stn j).grant := fun j hj => congrArg Stn.grant (ho j hj)
  have hat := attend_regrants hq hh
  by_cases hended : (s₀.stn i).grant ≠ .absent ∧ (s.stn i).grant = .absent
  · rw [attendEnded_one hended hother fun j hj =>
      (congrArg Stn.grant (hat.stationsKept j hj)).trans (hother j hj)]
    exact hat
  · have hnone : attendEnded s₀ s = s := attendEnded_granted fun j => by
      by_cases hj : j = i
      · subst hj
        by_cases hg : (s.stn j).grant = .absent
        · exact .inl (by rw [hg]; by_contra h; exact hended ⟨fun h' => h h'.symm, hg⟩)
        · exact .inr hg
      · exact .inl (hother j hj)
    rw [hnone]
    exact .refl hh ht

/-! ## Withdrawals -/

/-- A grant withdrawn without grouped scans ends without a notice. -/
theorem endGrant_withdrawn (hg : (s.stn i).grant = .held k v) (hgroup : (s.stn i).group = []) :
    endGrant i .withdrawn s = s.modStn i fun x => { x with grant := .absent, timer := .stopped, reported := false } := by
  simp only [endGrant, hg, flushGroup, hgroup, if_true]

/-- The place that a withdrawn pick has left is filled from the held list at most. -/
theorem shedFreed_became {b : Bool} (h : (s.seq k).state ≠ .presenting) : ∃ q, s.became k q (shedFreed k b s) := by
  cases b with
  | false => exact ⟨_, State.became.refl s k⟩
  | true =>
    obtain ⟨q, hq, -⟩ := placeFreed_became h
    exact ⟨q, hq⟩

/-- A withdrawn grant changes its carousel and ends at its station, and nothing else changes but the reports. -/
theorem withdrawGrant_bare (hp : (s.seq k).state = .presenting) (hg : (s.stn i).grant = .held k v)
    (hi : s.grantedBy k = some i) (hgroup : (s.stn i).group = []) : ∃ q m,
    withdrawGrant k s = State.modStn (State.setSeq { s with mail := m } k q) i (fun x =>
      { x with grant := .absent, timer := .stopped, reported := false }) ∧ s.mail <+: m := by
  obtain ⟨l, hpicks, -⟩ := withdrawPicks_became k hp
  generalize hu : withdrawPicks k s = u at hpicks
  have hstations : u.stations = s.stations := by obtain ⟨m, rfl, -⟩ := hpicks; rfl
  have hstn : ∀ j, u.stn j = s.stn j := fun j => by rw [State.stn, State.stn, hstations]
  have hof : u.grantedBy k = some i := by simpa only [State.grantedBy, hstn] using hi
  have hend := endGrant_withdrawn ((hstn i).symm ▸ hg) ((hstn i).symm ▸ hgroup)
  generalize hw : (u.modStn i fun x => { x with grant := .absent, timer := .stopped, reported := false }).modSeq k
    (fun q => { q with state := .ready }) = w
  obtain ⟨q, m', hshed, hm'⟩ := shedFreed_became (b := (s.seq k).shedsPick) (s := w)
    (by rw [← hw, State.seq_modSeq]; nofun)
  have hall : withdrawGrant k s = shedFreed k (s.seq k).shedsPick w := by
    simp only [withdrawGrant, hp, hu, endGrantOf, hof, hend, hw]
  obtain ⟨m, rfl, hm⟩ := hpicks
  refine ⟨q, m', ?_, hm.trans (by rw [← hw] at hm'; exact hm')⟩
  rw [hall, hshed, ← hw]
  simp [State.modSeq, State.setSeq, State.modStn, State.setStn, State.stn]

/-- What a withdrawal by the station leaves of the carousel, the station and everything else. -/
theorem withdrawGrant_regrants {s₀ : State} (hp : (s.seq k).state = .presenting) (hg : (s.stn i).grant = .held k v)
    (hi : s.grantedBy k = some i) (hgroup : (s.stn i).group = []) (hq : (s.stn i).queue = []) (h₀ : s₀.stations = s.stations) :
    (withdrawGrant k s).Regranted i (attendEnded s₀ (withdrawGrant k s)) ∧
      ((withdrawGrant k s).stn i).ready = (s.stn i).ready ∧ s.stationsKept i (withdrawGrant k s) ∧
      withdrawGrant k s = { s with seqs := (withdrawGrant k s).seqs, stations := (withdrawGrant k s).stations,
                                   mail := (withdrawGrant k s).mail } := by
  obtain ⟨q, m, h, hm⟩ := withdrawGrant_bare hp hg hi hgroup
  have hkept : s.stationsKept i (withdrawGrant k s) := fun j hj => by
    rw [h]
    exact State.stn_modStn_ne _ _ hj
  have hstn : (withdrawGrant k s).stn i = { s.stn i with grant := .absent, timer := .stopped, reported := false } := by
    rw [h]
    exact State.stn_modStn ..
  have hkept₀ : s₀.stationsKept i (withdrawGrant k s) := fun j hj => (hkept j hj).trans (by rw [State.stn, State.stn, h₀])
  refine ⟨attendEnded_regrants hkept₀ ?_ ?_ ?_, ?_, hkept, ?_⟩
  · rw [hstn]; exact hq
  · rw [hstn]; rfl
  · rw [hstn]
  · rw [hstn]
  · rw [h]
    rfl

/-- A second look at the stations changes no more than the first. -/
theorem State.Regranted.attendEnded {s₀ : State} (h : t.Regranted i u) (ho : s₀.stationsKept i t) (hq : (t.stn i).queue = []) :
    t.Regranted i (attendEnded s₀ u) := by
  obtain ⟨hh, ht, hqu, -⟩ := h.stn
  exact h.trans (attendEnded_regrants (fun j hj => (h.stationsKept j hj).trans (ho j hj)) (hqu.trans hq) hh ht)

end

theorem claim_grantWithdrawn : Claims.GrantWithdrawn := by
  intro s k i x v hs hp hx hheld hnodup hi hg hgroup hq c hc
  -- what holds of the withdrawal at any time of day, however often the stations then attend
  have facts : ∀ (n : Nat) (u : State), (withdrawGrant k { s.begun with now := n }).Regranted i u → exec c s = .next u →
      (c ≠ .attentionTimeout i → n = s.now) → (∀ d, c = .attentionTimeout i → (s.stn i).timer = .running d → n = max s.now d) →
      ∃ t, exec c s = .next t ∧ (t.seq k).state = .ready ∧ (t.seq k).current = some x.num ∧
      (∀ p ∈ x.picks, p.opened = true → .reservationWithdrawn p.res ∈ t.mail) ∧
      (x.kind ≠ .pick → t.seq k = { s.seq k with state := .ready }) ∧ s.othersKept k t ∧
      (t.stn i).holder = none ∧ (t.stn i).timer = .stopped ∧ (t.stn i).ready = (s.stn i).ready ∧ s.stationsKept i t ∧
      (c ≠ .attentionTimeout i → t.now = s.now) ∧
      (∀ d, c = .attentionTimeout i → (s.stn i).timer = .running d → t.now = max s.now d) ∧
      t = { s.begun with now := t.now, seqs := t.seqs, stations := t.stations, fe := t.fe, mail := t.mail } := by
    intro n u hu hexec hn hn'
    obtain ⟨-, -, hother, hready, hret⟩ := withdrawGrant_part (s := { s.begun with now := n }) hp hg hi
    obtain ⟨hcur, htold, hplain⟩ := hret x hx hheld
    obtain ⟨-, hmark, hkept, hrest⟩ := withdrawGrant_regrants (s := { s.begun with now := n }) (s₀ := s) hp hg hi hgroup hq rfl
    obtain ⟨hholder, htimer, -, hmark'⟩ := hu.stn
    have hu' := hu.onlyStation
    generalize hw : withdrawGrant k { s.begun with now := n } = w at *
    have hseq : ∀ j, u.seq j = w.seq j := fun j => by rw [hu']; rfl
    have hnow : u.now = n := by rw [hu', hrest]
    refine ⟨u, hexec, by rw [hseq, hready], by rw [hseq, hcur], fun p hpx ho => hu.mail.subset (htold p hpx ho),
      fun hk => by rw [hseq, hplain hk hnodup]; rfl, fun j hj => (hseq j).trans (hother j hj), hholder, htimer,
      hmark'.trans hmark, fun j hj => (hu.stationsKept j hj).trans (hkept j hj), fun h => hnow.trans (hn h),
      fun d h h' => hnow.trans (hn' d h h'), ?_⟩
    rw [hu', hrest]
  -- the withdrawal, and the stations that attend once or twice
  have once : ∀ n, (withdrawGrant k { s.begun with now := n }).Regranted i
      (attendEnded s.begun (withdrawGrant k { s.begun with now := n })) := fun n =>
    (withdrawGrant_regrants (s := { s.begun with now := n }) hp hg hi hgroup hq rfl).1
  have twice : ∀ n, (withdrawGrant k { s.begun with now := n }).Regranted i
      (attendEnded s.begun (attendEnded s.begun (withdrawGrant k { s.begun with now := n }))) := fun n => by
    obtain ⟨-, -, hkept, -⟩ := withdrawGrant_regrants (s := { s.begun with now := n }) (s₀ := s) hp hg hi hgroup hq rfl
    obtain ⟨q, m, h, -⟩ := withdrawGrant_bare (s := { s.begun with now := n }) hp hg hi hgroup
    refine (once n).attendEnded hkept ?_
    rw [h, State.stn_modStn]
    exact hq
  have hholder : (s.stn i).holder = some (k, v) := by simp [Stn.holder, hg]
  have hholds : (s.begun.stn i).holds k = true := by simp [Stn.holds, hholder]
  rcases hc with rfl | rfl | ⟨rfl, d, hd⟩
  · exact facts s.now _ (once s.now) (exec_seqStep hs _) (fun _ => rfl) nofun
  · refine facts s.now _ (twice s.now) ((exec_stnStep hs (takeWithdrawalReport i k)).trans ?_) (fun _ => rfl) nofun
    rw [takeWithdrawalReport, if_pos hholds, if_pos (by exact hp)]
    rfl
  · refine facts (max s.now d) _ (twice _) ((exec_stnStep hs (attentionExpired i)).trans ?_) (absurd rfl) fun d' _ hd' => ?_
    · have hdrop : dropGrant i (s.begun.reach d) = withdrawGrant k (s.begun.reach d) := by
        simp only [dropGrant, State.reach_stn, State.reach_seq, State.begun_stn, State.begun_seq, hg, hp, if_true]
      have hexp : attentionExpired i s.begun = attendEnded s.begun (dropGrant i (s.begun.reach d)) := by
        simp only [attentionExpired, hholder, State.begun_stn, hd]
      rw [hexp, hdrop]
      rfl
    · obtain rfl := Attention.running.inj (hd.symm.trans hd')
      rfl

/-! ## Grants that are accepted -/

section
variable {s t u : State} {k : Carousel} {i : Station} {x : Task} {v : TaskView}

/-- While a grant is HELD and nothing waits at the station, its timer runs on. -/
theorem settleTimer_running {d : Nat} (h : (s.stn i).holder.isSome = true) (hq : (s.stn i).queue = []) (hl : (s.stn i).lock = none)
    (ht : (s.stn i).timer = .running d) : settleTimer i s = s := by
  refine (modStn_congr (g := fun x => x) ?_).trans (State.modStn_same s i).symm
  simp [h, hq, hl, ht]

theorem tryGrant_held (h : (s.stn i).grant = .held k v) : tryGrant i s = s := by simp [tryGrant, h]

/-- A station's record as its grant becomes HELD and its timer runs (R100, R102). -/
def Stn.holding (y : Stn) (k : Carousel) (v : TaskView) (deadline : Nat) : Stn :=
  { y with grant := .held k v, reported := false, group := [], timer := .running deadline }

/-- A grant that is accepted: the carousel is PRESENTING, its station HOLDs the view and runs its timer, and only its display
follows. -/
theorem holdGrant_effect (hq : (s.stn i).queue = []) (hl : (s.stn i).lock = none) (ha : s.mgmt.timers.attention ≠ 0) :
    ∃ e m, ∃ d : Display → Display, holdGrant i k x v s = State.modStn (State.modSeq { s with fe := e, mail := m } k fun q =>
      { q with state := .presenting }) i (fun y => { y.holding k v (s.now + s.mgmt.timers.attention * 100) with
        display := d y.display }) ∧ (s.mail ++ grantedReports k x) <+: m := by
  let u := (acceptGrant k x s).modStn i (·.holding k v (s.now + s.mgmt.timers.attention * 100))
  have hstart : (acceptGrant k x s).attentionStart = .running (s.now + s.mgmt.timers.attention * 100) := if_neg ha
  have htimer : startTimer i ((acceptGrant k x s).modStn i fun y =>
      { y with grant := .held k v, reported := false, group := [] }) = u := by
    rw [startTimer, State.modStn_modStn]
    exact modStn_congr (congrArg (fun d => { (s.stn i) with grant := .held k v, reported := false, group := [], timer := d }) hstart)
  have hstn : u.stn i = (s.stn i).holding k v (s.now + s.mgmt.timers.attention * 100) := State.stn_modStn ..
  have hattend : attend i u = refresh i u := by
    rw [attend_empty (by rw [hstn]; exact hq), tryGrant_held (by rw [hstn]; rfl), settleTimer_running (by rw [hstn]; rfl)
      (by rw [hstn]; exact hq) (by rw [hstn]; exact hl) (by rw [hstn]; rfl)]
  obtain ⟨e, m, d, href, hm⟩ := refresh_modStn i (·.holding k v (s.now + s.mgmt.timers.attention * 100)) (acceptGrant k x s)
  refine ⟨e, m, d, ?_, hm⟩
  rw [holdGrant, htimer, hattend]
  exact href

/-- The one station that offers a grant to the carousel is the one found. -/
theorem find_offeree (h : ∀ l : Station, (s.stn l).offeree = some k ↔ l = i) :
    stationList.find? (fun l => (s.stn l).offeree = some k) = some i := by
  have hmem : i ∈ stationList := (by decide : ∀ l : Station, l ∈ stationList) i
  cases hf : stationList.find? (fun l => decide ((s.stn l).offeree = some k)) with
  | none => simpa [(h i).2 rfl] using List.find?_eq_none.1 hf i hmem
  | some l => rw [(h l).1 (by simpa using List.find?_some hf)]

end

theorem claim_grantAccepted : Claims.GrantAccepted := by
  intro s k i x hs hoff hst hx hq hl ha c hc
  have hpres : (s.begun.seq k).presents = some x := by simpa [Seq.presents, hst] using hx
  have hoffered : (s.stn i).offeree = some k := (hoff i).2 rfl
  obtain ⟨e, m, d, heff, hm⟩ := holdGrant_effect (k := k) (x := x) (v := s.taskView k x) (s := s.begun) hq hl ha
  have hexec : exec c s = .next (holdGrant i k x (s.taskView k x) s.begun) := by
    have hheld : attendEnded s.begun (holdGrant i k x (s.taskView k x) s.begun) = holdGrant i k x (s.taskView k x) s.begun :=
      attendEnded_granted fun j => by
        rw [heff]
        by_cases hj : j = i
        · subst hj
          rw [State.stn_modStn]
          exact .inr nofun
        · rw [State.stn_modStn_ne _ _ hj]
          exact .inl rfl
    rcases hc with rfl | rfl
    · refine (exec_seqStep hs (takeGrant k)).trans ?_
      rw [takeGrant, find_offeree (s := s.begun) hoff]
      simp only [hpres]
      exact congrArg _ hheld
    · refine (exec_stnStep hs (takeGrantAnswer i k (some (s.taskView k x)))).trans ?_
      have hans : takeGrantAnswer i k (some (s.taskView k x)) s.begun = holdGrant i k x (s.taskView k x) s.begun := by
        simp only [takeGrantAnswer, hpres]
        exact if_pos hoffered
      rw [hans, hheld]
  have hseqs : ∀ j, (holdGrant i k x (s.taskView k x) s.begun).seq j =
      (s.begun.modSeq k fun q => { q with state := .presenting }).seq j := fun j => by
    rw [heff]
    rfl
  have hstn : (holdGrant i k x (s.taskView k x) s.begun).stn i =
      { (s.stn i).holding k (s.taskView k x) (s.now + s.mgmt.timers.attention * 100) with display := d (s.stn i).display } := by
    rw [heff]
    exact State.stn_modStn ..
  refine ⟨_, hexec, (hseqs k).trans (State.seq_modSeq ..), fun j hj => (hseqs j).trans (State.seq_modSeq_ne _ _ hj), ?_, ?_, ?_, ?_,
    fun j hj => ?_, ?_⟩
  · rw [heff]; exact hm
  · rw [hstn]; rfl
  · rw [hstn]; rfl
  · rw [hstn]; exact hq
  · rw [heff]; exact State.stn_modStn_ne _ _ hj
  · rw [heff]; rfl

/-- Settles O16: a grant accepted makes its carousel PRESENTING, and one withdrawn makes it READY again. -/
theorem grants : Obligations.Grants := ⟨claim_grantAccepted, claim_grantWithdrawn⟩

end Sys2Proof.Machine

namespace Sys2Proof.Machine

/-! # Two AUDIT tasks for one carrier (R71, R153)

`AuditTaskChanges` does not ask that a carrier has one AUDIT task at most (law L11). Where carrier 5 has two of them, the second
granted and the first not current, a merge that rewrites the first (R153) shows the station that holds the grant the second one
again (R99), with its present view: the station changes, not the queue alone. -/

/-- An AUDIT task for carrier 5. -/
def auditOfFive (num : Nat) : Task := { num := num, cls := 1, carrier := 5, body := .audit false }

/-- Carousel 0 presents the second of two AUDIT tasks for carrier 5 under the HELD grant of station 0, whose view still has the
blind flag set. -/
def auditTwice : State :=
  ((State.powerOn 0).modSeq 0 fun q => { q with
    state := .presenting, queue := [auditOfFive 0, auditOfFive 1], current := some 1 }).modStn 0 fun x => { x with
      grant := .held 0 { carrier := 5, cls := 1, body := .audit true } }

/-- A merge of the first one shows the second one without the flag. -/
theorem auditTwice_shown : ∀ t, exec (.auditTaskReclass 0 5 1 false) auditTwice = .next t →
    (t.stn 0).grant = .held 0 { carrier := 5, cls := 1, body := .audit false } := by
  have h : ((attendEnded auditTwice.begun (auditReclassed 0 5 1 false auditTwice.begun)).stn 0).grant =
      .held 0 { carrier := 5, cls := 1, body := .audit false } := by decide +kernel
  intro t ht
  obtain rfl := Host.Outcome.next.inj ((exec_seqStep rfl _).symm.trans ht)
  exact h

/-- Refutes O17: in `auditTwice` the merge rewrites the first AUDIT task, and the station's view of the second one changes with
it. -/
theorem not_taskEnds : ¬ Obligations.TaskEnds := by
  rintro ⟨haudits, -, -⟩
  obtain ⟨-, hmerge, -⟩ := haudits auditTwice 0 5 (auditOfFive 0) rfl nofun (by decide +kernel) (by decide +kernel)
  have hgrant := auditTwice_shown _ (hmerge 1 false (auditOfFive 0) rfl)
  revert hgrant
  decide +kernel

end Sys2Proof.Machine

namespace Sys2Proof.Machine

/-! # The fates of the frames to a drive (R68, R79, R80, R83) -/

section
variable {s t u : State} {k : Carousel} {n d : Nat} {c : FaultCause} {f : TxFrame}

/-! ## What a fault does, and where it does nothing -/

/-- A fault of a carousel that has none to enter leaves it as it is (R82). -/
theorem enterFault_spared (h : (s.seq k).state = .manual ∨ (s.seq k).state = .disabled ∨ (s.seq k).state = .unconfigured ∨
    (s.seq k).state = .fault) (c : FaultCause) : enterFault k c s = s := by
  unfold enterFault
  rcases h with h | h | h | h <;> rw [h] <;> rfl

/-- A fault withdraws the MOVE frame alone. -/
theorem enterFault_mem (h : (s.seq k).state.away = true) (hf : f ∈ s.fe.queue) (hm : isFrameOf (.seq k) 1 f = false) :
    f ∈ (enterFault k c s).fe.queue := by
  rw [enterFault_fe c h]
  unfold withdrawMove withdrawFrame
  split
  · exact mem_dropFirst hf hm
  · exact hf

/-- A step that ends in the fault of a carousel away from a grant. -/
theorem exec_seqStep_fault (hs : s.resetLow = false) {g : State → State} (hg : g s.begun = enterFault k c u)
    (hu : u.stations = s.stations) (h : (u.seq k).state.away = true) : seqStep s g = .next (enterFault k c u) :=
  exec_seqStep_plain hs hg ((enterFault_stations k c h).trans hu)

/-- What holds of a fault that a deadline brings is seen at the time before it too. -/
theorem State.onlyCarousels.reached {e : Nat} (h : (s.begun.reach e).onlyCarousels u) :
    u.now = max s.now e ∧ s.onlyCarousels { u with now := s.now } := by
  unfold State.onlyCarousels at h ⊢
  exact ⟨by rw [h]; rfl, congrArg (fun t : State => { t with now := s.now }) h⟩

/-! ## Queries -/

theorem mem_answeredQueries (qs : List Query) (y : Query) :
    y ∈ answeredQueries qs ↔ ∃ x ∈ qs, x.deadline = none ∧ y = { x with answered := true } := by
  simp only [answeredQueries, List.mem_map, List.mem_filter, Option.isNone_iff_eq_none, and_assoc]
  exact exists_congr fun x => and_congr_right fun _ => and_congr_right fun _ => eq_comm

/-- The query whose round time ends before every other's is the one that is due first. -/
theorem firstDue_eq {qs : List Query} {x : Query} (hx : x ∈ qs) (hd : x.deadline = some d)
    (hmin : ∀ y ∈ qs, y ≠ x → ∀ e, y.deadline = some e → d < e) : firstDue qs = some (d, x) := by
  cases hf : firstDue qs with
  | none => simpa [hd] using firstDue_none hf x hx
  | some p =>
    obtain ⟨e, y⟩ := p
    obtain ⟨hy, he, hle⟩ := firstDue_some hf
    have hyx : y = x := by
      by_contra hne
      exact absurd (hmin y hy hne e he) (Nat.not_lt.2 (hle x hx d hd))
    subst hyx
    rw [hd] at he
    rw [Option.some.inj he]

/-- A query whose frame is not ACCEPTED is unanswered. -/
theorem queryReturned_unanswered {fate : Fate} (h : fate ≠ .accepted) (s : State) :
    queryReturned k n fate s = enterFault k .link (s.withoutQuery k n) := by
  cases fate with
  | accepted => exact absurd rfl h
  | refused => rfl
  | damaged => rfl
  | lost => rfl

/-- The expiry of the query that is due first. -/
theorem queryExpired_due {x : Query} (h : firstDue (s.seq k).queries = some (d, x)) : queryExpired k s =
    if x.answered = true then (s.reach d).withoutQuery k x.num else enterFault k .link ((s.reach d).withoutQuery k x.num) := by
  simp only [queryExpired, h]
  rfl

end

theorem claim_queryFates : Claims.QueryFates := by
  refine ⟨mem_answeredQueries, fun s k n hs => ⟨exec_seqStep_plain hs rfl rfl, fun fate hf => ⟨fun haway => ?_, fun hspared => ?_⟩,
    fun x d hx hd hmin => ?_⟩⟩
  · have haway' : ((s.begun.withoutQuery k n).seq k).state.away = true := by simpa [State.withoutQuery] using haway
    obtain ⟨hfault, hcars⟩ := enterFault_away k .link haway'
    exact ⟨_, exec_seqStep_fault hs (queryReturned_unanswered hf s.begun) rfl haway', hfault, hcars⟩
  · have hspared' := enterFault_spared (s := s.begun.withoutQuery k n) (k := k) (by simpa [State.withoutQuery] using hspared) .link
    exact exec_seqStep_plain hs ((queryReturned_unanswered hf s.begun).trans hspared') rfl
  · have hdue : queryExpired k s.begun = _ := queryExpired_due (firstDue_eq hx hd hmin)
    refine ⟨fun hquiet => exec_seqStep_plain hs (hdue.trans ?_) rfl, fun hans haway => ?_⟩
    · rcases hquiet with hans | hspared
      · exact if_pos hans
      · rw [enterFault_spared (by simpa [State.withoutQuery] using hspared), ite_self]
    · have haway' : (((s.begun.reach d).withoutQuery k x.num).seq k).state.away = true := by
        simpa [State.withoutQuery] using haway
      obtain ⟨hfault, hcars⟩ := enterFault_away k .link haway'
      exact ⟨_, exec_seqStep_fault hs (hdue.trans (if_neg (by simp [hans]))) rfl haway', hfault, hcars.reached⟩

/-! ## Moves and halts -/

section
variable {s t u : State} {k : Carousel} {d : Nat}

theorem sendHalt_room {b : Bool} (hd : s.nodeOf .drive k.val = some d) (hl : s.fe.queue.length < 32) : sendHalt k b s =
    (s.modFe fun e => { e with queue := joinQueue (frameTo (.seq k) d (.halt b)) e.queue }, false) := sendOrKeep_room _ _ hd hl

/-- A frame that has joined the queue is in it. -/
theorem mem_joinQueue (f : TxFrame) (q : List TxFrame) : f ∈ joinQueue f q := by
  unfold joinQueue
  split <;> simp

end

theorem claim_moveFates : Claims.MoveFates := by
  intro s k mv d hs hmv hd hl
  have fault : ∀ {c : FaultCause} {u : State} {g : State → State}, g s.begun = enterFault k c u → u.stations = s.stations →
      (u.seq k).state.away = true → seqStep s g = .next (enterFault k c u) ∧ u.faulted k c (enterFault k c u) ∧
        u.onlyCarousels (enterFault k c u) := fun hg hu h =>
    ⟨exec_seqStep_fault hs hg hu h, enterFault_away k _ h⟩
  refine ⟨exec_seqStep_plain hs rfl rfl, fun hst => ?refused, fun fate hf hst => ?asked, fun hst => ?moving, fun hst => ?stopping,
    fun hst => ⟨exec_seqStep_plain hs (by simp [haltReturned]) rfl, fun fate hf => ?halted⟩⟩
  case refused =>
    obtain ⟨hexec, hfault, hcars⟩ := fault (c := .drive) (u := s.begun) (g := moveReturned k .refused) (if_pos hst) rfl
      (by rcases hst with h | h <;> simp [h, CarState.away])
    exact ⟨_, hexec, hfault, hcars⟩
  case asked =>
    refine exec_seqStep_plain hs (f := moveReturned k fate) (Eq.trans ?_ (sendQuery_room (s := s.begun) hd hl)) rfl
    rcases hf with rfl | rfl <;> simp [moveReturned, hst]
  case moving =>
    have hsent := sendHalt_room (b := false) (s := s.begun.reach mv.deadline) hd hl
    have hhalt : frameTo (.seq k) d (.halt false) ∈ (sendHalt k false (s.begun.reach mv.deadline)).1.fe.queue := by
      rw [hsent]; exact mem_joinQueue _ _
    obtain ⟨hexec, hfault, hcars⟩ := fault (c := .timeout) (u := (sendHalt k false (s.begun.reach mv.deadline)).1)
      (g := moveTimedOut k) (by simp [moveTimedOut, hmv, hst]) (by rw [hsent]; rfl) (by rw [hsent]; simp [hst, CarState.away])
    have haway : ((sendHalt k false (s.begun.reach mv.deadline)).1.seq k).state.away = true := by
      rw [hsent]; simp [hst, CarState.away]
    have hmem := enterFault_mem (c := .timeout) haway hhalt (by simp [isFrameOf, frameTo, payloadKind])
    rw [hsent] at *
    obtain ⟨hnow, hcars'⟩ := State.onlyCarousels.reached (s := s) (e := mv.deadline) (by exact hcars)
    exact ⟨_, hexec, hfault, hnow, hmem, hcars'⟩
  case stopping =>
    obtain ⟨hexec, hfault, hcars⟩ := fault (c := .timeout) (u := s.begun.reach mv.deadline)
      (g := moveTimedOut k) (by simp [moveTimedOut, hmv, hst]) rfl (by simp [hst, CarState.away])
    exact ⟨_, hexec, hfault, hcars.reached⟩
  case halted =>
    obtain ⟨hexec, hfault, hcars⟩ := fault (c := .link) (u := s.begun) (g := haltReturned k fate) (if_pos ⟨hst, hf⟩) rfl
      (by simp [hst, CarState.away])
    exact ⟨_, hexec, hfault, hcars⟩

/-- Settles O11: each fate of a frame is one case of the sequencer's return. -/
theorem driveFrameFates : Obligations.DriveFrameFates := ⟨claim_queryFates, claim_moveFates⟩

end Sys2Proof.Machine

namespace Sys2Proof.Machine

/-! # The carousel curtains, missing drives and the speed class (R76, R77, R81, R83) -/

section
variable {s : State} {k : Carousel} {x : Task} {d : Nat}

/-- An IDLE carousel that keeps its current task, elsewhere than at its carrier, plans the move to it while one is allowed. -/
theorem choose_kept (hst : (s.seq k).state = .idle) (hx : (s.seq k).currentTask = some x) (hp : s.presentable k x = true)
    (hi : (s.seq k).index ≠ some x.carrier) : choose k s =
      if s.moveAllowed k = true then planMove k x ((s.seq k).built.bind (·.resent)) s
      else s.modSeq k fun q => { q with built := none } := by
  have hchosen : s.chosen k = some x := by simp only [State.chosen, hx, hp, if_true]
  have hcur : (s.seq k).current = some x.num := (Seq.currentTask_eq_some.1 hx).1
  simp only [choose, hst, hchosen, hcur, if_true, if_neg hi]

theorem withdrawMove_gone (h : s.fe.queue.any (isFrameOf (.seq k) 1) = false) : withdrawMove k s = (s, false) := by
  simp [withdrawMove, withdrawFrame, h]

end

theorem claim_curtains : Claims.Curtains := by
  intro s k hs
  refine ⟨fun d mv hst hmv hq hd hl unseen => ?_, fun hm hi unseen => ?_, fun hc => ?_, fun d hc hsettle hi => ?_⟩
  · -- the record of the curtain, and the HALT that follows it
    generalize hu : s.begun.modSeq k (fun q => { q with curtain := if unseen = true then .unseen else .broken, settle := none }) = u
    have hstop : stopMove k u = stopping k .curtain (u.modFe fun e =>
        { e with queue := joinQueue (frameTo (.seq k) d (.halt false)) e.queue }) := by
      have hust : (u.seq k).state = .moving := by rw [← hu, State.seq_modSeq]; exact hst
      rw [stopMove, if_pos hust, withdrawMove_gone (by rw [← hu]; exact hq), if_neg Bool.false_ne_true,
        sendHalt_room (by rw [← hu]; exact hd) (by rw [← hu]; exact hl)]
    refine exec_seqStep_plain hs (f := curtainBreaks k unseen) ?_ rfl
    have hbreaks : curtainBreaks k unseen s.begun = choose k (stopMove k u) := by rw [← hu]; rfl
    have hother : ((stopMove k u).seq k).state ≠ .idle := by
      rw [hstop, stopping, State.seq_modSeq]
      nofun
    rw [hbreaks, choose_other hother, hstop, ← hu, stopping, State.modFe_modSeq, State.modSeq_modSeq]
    have hmove : ((s.begun.modFe fun e =>
        { e with queue := joinQueue (frameTo (.seq k) d (.halt false)) e.queue }).seq k).move = some mv := hmv
    exact modSeq_congr (by simp only [hmove, Option.map_some])
  · refine exec_seqStep_plain hs (f := curtainBreaks k unseen) ?_ rfl
    have hmoving : ((s.begun.modSeq k fun q =>
        { q with curtain := if unseen = true then .unseen else .broken, settle := none }).seq k).state ≠ .moving := by
      rw [State.seq_modSeq]; exact hm
    rw [curtainBreaks, stopMove, if_neg hmoving]
    exact choose_other (by rw [State.seq_modSeq]; exact hi)
  · refine exec_seqStep_plain hs (f := curtainClears k) ?_ rfl
    rcases hc with hc | hc <;> simp only [curtainClears, State.begun_seq, hc] <;> rfl
  · refine exec_seqStep_plain hs (f := curtainSettles k) ?_ rfl
    simp only [curtainSettles, State.begun_seq, hsettle, hc, if_true]
    exact choose_other (by rw [State.seq_modSeq]; exact hi)

theorem claim_missingDrives : Claims.MissingDrives := by
  intro s k hs
  refine ⟨fun d hst hd hl => ?_, fun hst hn => ?_, fun hst => exec_seqStep_plain hs (if_neg hst) rfl,
    fun speed hb => exec_seqStep_plain hs (f := speedReported k) (by simp [speedReported, hb]) rfl,
    fun speed m x j hst hb hx hp hj hne => ?_⟩
  · refine exec_seqStep_plain hs (f := driveMissing k) ?_ rfl
    rw [driveMissing, if_pos (by exact hst), sendHalt_room (s := s.begun) hd hl]
    rfl
  · have haway : (s.begun.seq k).state.away = true := by simp [hst, CarState.away]
    have hsend : sendHalt k true s.begun = (s.begun, true) := sendOrKeep_noNode _ _ hn
    obtain ⟨hfault, hcars⟩ := enterFault_away k .link haway
    have hmissing : driveMissing k s.begun = enterFault k .link s.begun := by
      rw [driveMissing, if_pos (by exact hst), hsend]
      rfl
    exact ⟨_, exec_seqStep_fault hs hmissing rfl haway, hfault, hcars⟩
  · have hchoose : speedReported k s.begun = _ := (if_pos (by simp [hb])).trans
      (choose_kept (s := s.begun) hst hx hp (by simpa [hj] using hne))
    have hresent : (s.begun.seq k).built.bind (·.resent) = m.resent := by simp [hb]
    refine ⟨fun hm => exec_seqStep_plain hs (hchoose.trans (if_neg (by rwa [moveAllowed_iff]))) rfl,
      fun p d hm hplan hd hl => ?_⟩
    refine exec_seqStep_plain hs (hchoose.trans ((if_pos ((moveAllowed_iff s.begun k).2 hm)).trans ?_)) rfl
    rw [hresent, planMove_queued (s := s.begun) hj hplan hd hl]
    have hcur : ((s.begun.modFe fun e => { e with queue :=
        e.queue ++ [frameTo (.seq k) d (.move p.dir p.dist x.carrier p.speed)] }).seq k).current = some x.num :=
      (Seq.currentTask_eq_some.1 hx).1
    exact modSeq_congr (by rw [← hcur]; rfl)

/-- Settles O12: a carousel that is not IDLE has nothing to choose; an IDLE one plans a built move again. -/
theorem curtainsAndHalts : Obligations.CurtainsAndHalts := ⟨claim_curtains, claim_missingDrives⟩

end Sys2Proof.Machine

namespace Sys2Proof.Machine

/-! # Manual control of a carousel (R88 to R91, R171) -/

theorem claim_foreignCommandsAbsorbed : Claims.ForeignCommandsAbsorbed := by
  intro s h jog k ht hd hl
  have hexec : exec (.foreignCommand h jog) s =
      .next (handNotice (.foreignCommand k h.source (if jog then 2 else 1)) s.heard) := by
    refine (carry_begun ht.1 (takeForeign h (if jog then 2 else 1))).trans ?_
    rw [takeForeign, receive_taken ht, hd]
    rfl
  rw [handNotice_room _ (s := s.heard) hl] at hexec
  exact ⟨_, hexec, rfl, rfl⟩

section
variable {s t u : State} {k : Carousel} {c : Claim} {n d : Nat} {h : Hdr} {kind : Nat}

/-- A frame of a MAINT node to a drive passes on, and its sequencer acts on it. -/
theorem exec_maintFrame (ht : s.takes h) (hd : s.disposal h kind = .maint k) {act : Carousel → Nat → State → State}
    (ha : act k h.source (s.heard.passing h kind) = t) (hst : t.stations = s.stations) :
    seqStep s (maintFrame h kind act) = .next t :=
  exec_seqStep_plain ht.1 ((maintFrame_taken ht hd act).trans ha) hst

/-! ## Claims (R88) -/

/-- The claim that a MANUAL-CLAIM of a node makes at a time (R88). -/
def State.claimOf (s : State) (node : Nat) : Claim := { node := node, carriers := [], all := false, deadline := s.idleDeadline }

/-- A claim stands at a carousel, whose move, task and fault are over (R88). -/
def Seq.claimed (q : Seq) (c : Claim) : Seq :=
  { q with fault := none, move := none, built := none, current := none, short := 0, claim := some c }

/-- A carousel without a grant leaves its state with no more than a report to its station, a faulted one with none. -/
theorem leaveOpening_ungranted (next : CarState) (hst : (s.seq k).state.away = true ∨ (s.seq k).state = .fault) :
    ∃ m, leaveOpening k next s = State.modSeq { s with mail := m } k fun q => { q with state := next } := by
  rcases hst with hst | hst
  · exact leaveOpening_away k next hst
  · exact ⟨s.mail, by simp only [leaveOpening, hst]⟩

/-- A claim of a carousel without a grant, with room for the notice. -/
theorem takeClaim_ungranted (hst : (s.seq k).state.away = true ∨ (s.seq k).state = .fault) (hl : s.mgmt.notices.length < 64) :
    ∃ q w m, takeClaim k n s = State.modSeq { s with
        fe := { s.fe with queue := q, waiting := w }, mail := m,
        mgmt := { s.mgmt with notices := s.mgmt.notices ++ [{ seq := s.mgmt.noticeSeq, body := .manualEntered k n (s.seq k).index }],
                              noticeSeq := (s.mgmt.noticeSeq + 1) % 65536 } } k
          fun q => Seq.claimed { q with state := .manual } (s.claimOf n) := by
  obtain ⟨q, w, m, e1⟩ := withdrawMove_effect k s
  obtain ⟨m2, e2⟩ := leaveOpening_ungranted .manual (s := { s with fe := { s.fe with queue := q, waiting := w }, mail := m }) hst
  obtain ⟨m3, e3⟩ := abandonAudit_effect k (State.modSeq
    { s with fe := { s.fe with queue := q, waiting := w }, mail := m2 } k fun q => { q with state := .manual })
  have hopen : ∀ v, abandonAudit k (leaveOpening k .manual (withdrawMove k s).1) = v → takeClaim k n s =
      handNotice (.manualEntered k n ((v.modSeq k (·.claimed (v.claimOf n))).seq k).index) (v.modSeq k (·.claimed (v.claimOf n))) := by
    rintro v rfl
    cases hs : (s.seq k).state <;> simp only [hs, CarState.away, Bool.false_eq_true, reduceCtorEq, or_false] at hst <;>
      simp only [takeClaim, hs] <;> rfl
  refine ⟨q, w, m3, ?_⟩
  rw [e1, e2, e3] at hopen
  have hmod := State.modSeq_modSeq { s with fe := { s.fe with queue := q, waiting := w }, mail := m3 } k
    (fun q => { q with state := .manual }) (·.claimed (s.claimOf n))
  refine (hopen _ rfl).trans ((congrArg (fun u : State => handNotice (.manualEntered k n (u.seq k).index) u) hmod).trans ?_)
  rw [handNotice_room _ (by exact hl), State.seq_modSeq]
  rfl

end

theorem claim_manualClaims : Claims.ManualClaims := by
  intro s h k ht hd
  refine ⟨fun hst hl => ?_, fun hst => ?_⟩
  · obtain ⟨q, w, m, htake⟩ := takeClaim_ungranted (s := s.heard.passing h 6) (k := k) (n := h.source) hst hl
    refine ⟨_, exec_maintFrame ht hd htake rfl, State.seq_modSeq .., fun j hj => State.seq_modSeq_ne _ _ hj, rfl, rfl, rfl⟩
  · refine exec_maintFrame ht hd (act := takeClaim) ?_ rfl
    have hsame : ∀ u : State, u.seq k = s.seq k → takeClaim k h.source u = u := fun u hu => by
      rcases hst with hst | hst <;> simp only [takeClaim, hu, hst]
    exact hsame _ rfl

/-! ## The claimant's frames (R89) -/

section
variable {s : State} {k : Carousel} {c : Claim} {n : Nat}

theorem restartIdle_claimant (hc : (s.seq k).claim = some c) (hn : c.node = n) :
    restartIdle k n s = s.modSeq k fun q => { q with claim := some { c with deadline := s.idleDeadline } } :=
  modSeq_congr (by simp [hc, hn])

theorem Claim.access_node (c : Claim) (i : Option Nat) : (c.access i).node = c.node := by
  unfold Claim.access
  split
  · rfl
  · split
    · rfl
    · split <;> rfl

theorem takeAccess_claimant (hst : (s.seq k).state = .manual) (hc : (s.seq k).claim = some c) (hn : c.node = n) :
    takeAccess k n s = s.modSeq k fun q => { q with claim := some { c.access q.index with deadline := s.idleDeadline } } := by
  rw [takeAccess, if_pos hst, restartIdle_claimant (c := c.access (s.seq k).index) (by rw [State.seq_modSeq]; simp [hc, hn])
    ((c.access_node _).trans hn), State.modSeq_modSeq]
  rfl

end

theorem claim_claimantFrames : Claims.ClaimantFrames := by
  intro s h k c ht hst hc hn
  refine ⟨fun hd => ?_, fun kind h6 h7 h8 hd => ?_, fun i hi hl => ?_, fun i hi => ?_, fun i hi hl => ?_, rfl⟩
  · exact exec_maintFrame ht hd (takeAccess_claimant (s := s.heard.passing h 7) hst hc hn) rfl
  · have hact : maintAct kind = takeMaintFrame := by
      unfold maintAct
      split <;> simp_all
    refine exec_maintFrame ht hd (act := maintAct kind) ?_ rfl
    rw [hact, takeMaintFrame, if_pos (by exact hst)]
    exact restartIdle_claimant (s := s.heard.passing h kind) hc hn
  · simp [Claim.access, hi, hl]
  · simp [Claim.access, hi]
  · simp [Claim.access, hi, Nat.not_lt.2 hl]

/-! ## Release and idle exit (R90) -/

section
variable {s : State} {k : Carousel} {c : Claim} {d : Nat} {idle : Bool}

/-- The audits that the end of a claim asks for, in the order of its list (R90). -/
def State.raisedBy (s : State) (k : Carousel) (c : Claim) : List Instr :=
  (if c.all then List.range (s.carriersOf k) else c.carriers).map fun i => .auditRequestRaised k i true 1 .manual

/-- A carousel that has left MANUAL, its audits asked for, its end noticed and its query queued (R90). -/
def State.leftManual (s : State) (k : Carousel) (idle : Bool) (c : Claim) (d : Nat) : State :=
  ((handNotice (.manualExited k idle c.carriers c.all (s.seq k).index) (s.postAll (s.raisedBy k c))).modFe fun e =>
    { e with queue := e.queue ++ [frameTo (.seq k) d (.statusQuery (s.seq k).asked)] }).modSeq k
      fun q => Seq.asking { q with claim := none }

theorem endClaim_leaves (hm : (s.seq k).state = .manual) (hc : (s.seq k).claim = some c) (hring : s.fe.ring = .up)
    (hd : s.nodeOf .drive k.val = some d) (hl : s.fe.queue.length < 32) : endClaim k idle s = s.leftManual k idle c d := by
  have hend : endClaim k idle s = enterUnknown k ((handNotice (.manualExited k idle c.carriers c.all (s.seq k).index)
      (s.postAll (s.raisedBy k c))).modSeq k fun q => { q with claim := none }) := by
    simp only [endClaim, hm, hc]
    rfl
  have hstate : (((handNotice (.manualExited k idle c.carriers c.all (s.seq k).index) (s.postAll (s.raisedBy k c))).modSeq k
      fun q => { q with claim := none }).seq k).state = .manual := by
    rw [State.seq_modSeq]
    exact hm
  rw [hend, enterUnknown_manual hstate hring hd hl, State.modFe_modSeq, State.modSeq_modSeq, State.seq_modSeq]
  rfl

theorem leftManual_noticed (hl : s.mgmt.notices.length < 64) :
    s.noticed (.manualExited k idle c.carriers c.all (s.seq k).index) (s.leftManual k idle c d) := by
  change (handNotice _ (s.postAll (s.raisedBy k c))).mgmt = _
  rw [handNotice_room _ (s := s.postAll _) hl]
  rfl

end

theorem claim_manualExits : Claims.ManualExits := by
  intro s k c d hm hc hring hd hl hnotes raised left
  refine ⟨fun h ht hdisp hn => ?_, fun e hs he => ?_⟩
  · have hrelease : takeRelease k h.source (s.heard.passing h 8) = (s.heard.passing h 8).leftManual k false c d := by
      have hmine : (((s.heard.passing h 8).seq k).claim.any fun c => c.node = h.source) = true := by
        rw [show ((s.heard.passing h 8).seq k).claim = some c from hc]
        simp [hn]
      rw [takeRelease, if_pos hmine]
      exact endClaim_leaves (s := s.heard.passing h 8) hm hc hring hd hl
    exact ⟨_, exec_maintFrame ht hdisp hrelease rfl, State.seq_modSeq .., fun j hj => State.seq_modSeq_ne _ _ hj, rfl,
      leftManual_noticed (s := s.heard.passing h 8) hnotes, rfl, rfl, rfl⟩
  · have hexpired : manualIdleExpired k s.begun = (s.begun.reach e).leftManual k true c d := by
      have hdue : (s.begun.seq k).claim.bind (·.deadline) = some e := by simp [hc, he]
      simp only [manualIdleExpired, hdue]
      exact endClaim_leaves (s := s.begun.reach e) hm hc hring hd hl
    exact ⟨_, exec_seqStep_plain hs hexpired rfl, State.seq_modSeq .., fun j hj => State.seq_modSeq_ne _ _ hj, rfl,
      leftManual_noticed (s := s.begun.reach e) hnotes, rfl, rfl, rfl⟩

/-- Settles O9: a claim leaves its state by the step that every exit takes, and its end raises the audits and asks the drive. -/
theorem manualControl : Obligations.ManualControl :=
  ⟨claim_foreignCommandsAbsorbed, claim_manualClaims, claim_claimantFrames, claim_manualExits⟩

end Sys2Proof.Machine

namespace Sys2Proof.Machine

/-! # Nodes that do not answer, and changes of the ring's state (R92, R98, R99, R143, R166, R167) -/

theorem stn?_val (i : Station) : stn? i.val = some i := by simp [stn?]

theorem claim_unansweredNodes : Claims.UnansweredNodes := by
  intro s hs
  refine ⟨fun k haway => ?_, fun l => ?_, fun i ho hl hq => ?_⟩
  · have hmissing : nodeMissing .drive k.val s.begun = enterFault k .link s.begun := by
      simp only [nodeMissing, car?_val]
      exact attendEnded_stations (enterFault_stations k .link (s := s.begun) haway)
    obtain ⟨hfault, hcars⟩ := enterFault_away k .link (s := s.begun) haway
    exact ⟨_, (carry_begun hs _).trans (congrArg _ hmissing), hfault, hcars⟩
  · refine (carry_begun hs _).trans (congrArg _ ?_)
    simp only [nodeMissing, lane?_val]
    exact loseController_gone s.begun l
  · refine (carry_begun hs _).trans (congrArg _ ?_)
    simp only [nodeMissing, stn?_val]
    rw [losePanel_closed (s := s.begun) ho hl hq]
    exact attendEnded_grants fun j => by
      by_cases hj : j = i
      · subst hj
        simp [Stn.panelGone]
      · exact congrArg Stn.grant (State.stn_modStn_ne s.begun _ hj)

section
variable {s t : State} {k : Carousel} {i : Station} {r : Ring}

theorem exec_ringState_seq (hs : s.resetLow = false) (ht : seqRing k r s.begun = t) (hst : t.stations = s.stations) :
    exec (.ringStateReport (.seq k) r) s = .next t := by
  refine (carry_begun hs _).trans (congrArg _ ?_)
  simp only [takeRing, ht]
  exact attendEnded_stations hst

theorem exec_ringState_station (hs : s.resetLow = false) : exec (.ringStateReport (.station i) r) s = .next (stationRing i r s.begun) :=
  carry_begun hs _

/-- The carousel's queries that neither wait to be sent nor have returned are dropped as the ring goes DOWN (log entry 20). -/
def State.queriesDropped (s : State) (k : Carousel) : State :=
  s.modSeq k fun q => { q with queries := q.queries.filter (s.queryStands k) }

/-- A carousel whose move the loss of the ring has ended, with the queries that stand (R92). -/
def Seq.uprooted (q : Seq) (stands : Query → Bool) : Seq :=
  { q with queries := q.queries.filter stands, state := .unknown, move := none, built := none, current := none, short := 0 }

/-- A ring that goes DOWN stops a moving carousel (R92). -/
theorem seqRingDown_moving (h : (s.seq k).state = .moving ∨ (s.seq k).state = .stopping) : ∃ q w m,
    seqRingDown k s = State.modSeq { s with fe := { s.fe with queue := q, waiting := w }, mail := m } k
      (·.uprooted (s.queryStands k)) := by
  obtain ⟨q, w, m, hw⟩ := withdrawMove_effect k (s.queriesDropped k)
  have hdown : seqRingDown k s = (withdrawMove k (s.queriesDropped k)).1.modSeq k fun q =>
      { q with state := .unknown, move := none, built := none, current := none, short := 0 } := by
    rcases h with h | h <;> simp only [seqRingDown, State.seq_modSeq, h] <;> rfl
  refine ⟨q, w, m, ?_⟩
  rw [hdown, hw]
  exact State.modSeq_modSeq { s with fe := { s.fe with queue := q, waiting := w }, mail := m } k
    (fun q => { q with queries := q.queries.filter (s.queryStands k) })
    (fun q => { q with state := .unknown, move := none, built := none, current := none, short := 0 })

/-- A carousel at rest or out of use loses only its queries. -/
theorem seqRingDown_resting (h : (s.seq k).state = .unconfigured ∨ (s.seq k).state = .ready ∨ (s.seq k).state = .presenting ∨
    (s.seq k).state = .manual ∨ (s.seq k).state = .fault ∨ (s.seq k).state = .disabled ∨ (s.seq k).state = .unknown) :
    seqRingDown k s = s.queriesDropped k := by
  rcases h with h | h | h | h | h | h | h <;> simp only [seqRingDown, State.seq_modSeq, h] <;> rfl

/-- An IDLE carousel elsewhere than at its current task's carrier makes no move while the ring is DOWN. -/
theorem seqRingDown_idle {x : Task} (hst : (s.seq k).state = .idle) (hx : (s.seq k).currentTask = some x)
    (hp : s.presentable k x = true) (hi : (s.seq k).index ≠ some x.carrier) (hr : s.fe.ring = .down) :
    seqRingDown k s = s.modSeq k fun q => { q with built := none, queries := q.queries.filter (s.queryStands k) } := by
  have hdown : seqRingDown k s = choose k (s.queriesDropped k) := by
    simp only [seqRingDown, State.seq_modSeq, hst]
    rfl
  have hseq : (s.queriesDropped k).seq k = { s.seq k with queries := (s.seq k).queries.filter (s.queryStands k) } :=
    State.seq_modSeq ..
  have hno : (s.queriesDropped k).moveAllowed k = false := by
    have hm : ¬ (s.queriesDropped k).mayMove k := fun ⟨_, hup, _⟩ => by cases hr.symm.trans hup
    rw [← Bool.not_eq_true, moveAllowed_iff]
    exact hm
  rw [hdown, choose_kept (s := s.queriesDropped k) (by rw [hseq]; exact hst) (by rw [hseq]; exact hx) (by exact hp)
    (by rw [hseq]; exact hi), hno, if_neg Bool.false_ne_true]
  exact State.modSeq_modSeq ..

theorem resend_lost (h : (s.stn i).configured = false ∨ (s.stn i).panelLost = true) : resend i s = s := by
  rcases h with h | h <;> simp [resend, h]

end

theorem claim_ringDownAtCarousels : Claims.RingDownAtCarousels := by
  intro s k hs
  refine ⟨fun hst => ?_, fun hst => exec_ringState_seq hs (r := .down) (seqRingDown_resting (s := s.begun) ?_) rfl,
    carry_begun hs _, carry_begun hs _⟩
  · obtain ⟨q, w, m, hdown⟩ := seqRingDown_moving (s := s.begun) hst
    have hseq : (seqRingDown k s.begun).seq k = (s.seq k).uprooted (s.queryStands k) := by
      rw [hdown]
      exact State.seq_modSeq ..
    have hcars : s.onlyCarousels (seqRingDown k s.begun) := by rw [hdown]; rfl
    have hothers : s.othersKept k (seqRingDown k s.begun) := fun j hj => by
      rw [hdown]
      exact State.seq_modSeq_ne _ _ hj
    exact ⟨_, exec_ringState_seq hs (r := .down) rfl hcars.stations, congrArg Seq.state hseq, congrArg Seq.move hseq,
      congrArg Seq.built hseq, congrArg Seq.current hseq, congrArg Seq.short hseq, (congrArg Seq.queue hseq :),
      (congrArg Seq.held hseq :), (congrArg Seq.index hseq :), (congrArg Seq.curtain hseq :), (congrArg Seq.queries hseq :), hothers, hcars⟩
  · exact .inr hst

theorem claim_ringStateAtBlocks : Claims.RingStateAtBlocks := by
  intro s hs
  refine ⟨fun k hst => exec_ringState_seq hs (r := .down) (seqRingDown_resting (s := s.begun) (.inl hst)) rfl,
    fun k x hst hx hp hi hr => exec_ringState_seq hs (r := .down) (seqRingDown_idle (s := s.begun) hst hx hp hi hr) rfl,
    fun k r hr hst => ?_, fun i r hr => ?_, fun i h => ?_, fun i a hlast hc hl ha hq hroom => ?_⟩
  · refine exec_ringState_seq hs ?_ rfl
    cases r with
    | down => exact absurd rfl hr
    | restoring => exact choose_other (s := s.begun) hst
    | up => exact choose_other (s := s.begun) hst
  · rw [exec_ringState_station hs]
    cases r with
    | up => exact absurd rfl hr
    | restoring => rfl
    | down => rfl
  · rw [exec_ringState_station hs]
    rcases h with h | h
    · simp [stationRing, h]
    · simp [stationRing, resend_lost (s := s.begun) h]
  · rw [exec_ringState_station hs]
    have hsome : (s.begun.stn i).latest.isSome = true := Option.isSome_iff_ne_none.2 hlast
    have hsend : resend i s.begun = sendContent i (s.content i) s.begun := by
      simp [resend, hc, hl]
      rfl
    rw [stationRing, if_pos hsome, hsend, sendContent_framed (s := s.begun) ha hq hroom]

/-! ## Restores that are answered (R167) -/

section
variable {s t u : State} {h : Hdr}

theorem endRestore_answered (hall : s.fe.restore.all (·.2) = true) : endRestore s =
    (s.modFe fun e => { e with ring := .up, restore := [], restoreDeadline := none }).postAll (ringReports .up) := by
  have hnone : (s.fe.restore.filter fun e => !e.2) = [] := by
    simpa [List.filter_eq_nil_iff] using hall
  simp only [endRestore, hnone, List.map_nil, State.postAll, List.append_nil]
  rfl

/-- The nodes of a restore with the one that has answered marked (R167). -/
def answeredBy (a : Nat) (l : List (Nat × Bool)) : List (Nat × Bool) := l.map fun x => if x.1 = a then (x.1, true) else x

theorem restoreAnswered_last {a : Nat} (hr : s.fe.ring = .restoring) (hall : (answeredBy a s.fe.restore).all (·.2) = true) :
    restoreAnswered a s =
      (s.modFe fun e => { e with ring := .up, restore := [], restoreDeadline := none }).postAll (ringReports .up) := by
  rw [restoreAnswered, if_pos hr, if_pos (by exact hall), endRestore_answered (by exact hall)]
  rfl

theorem restoreAnswered_other {a : Nat} (hr : s.fe.ring = .restoring) (hall : (answeredBy a s.fe.restore).all (·.2) = false) :
    restoreAnswered a s = s.modFe fun e => { e with restore := answeredBy a s.fe.restore } := by
  rw [restoreAnswered, if_pos hr]
  exact if_neg (by rw [Bool.not_eq_true]; exact hall)

theorem restoreAnswered_stations (a : Nat) (s : State) : (restoreAnswered a s).stations = s.stations := by
  unfold restoreAnswered
  split
  · dsimp only
    split <;> rfl
  · rfl

end

/-- A status in FAULT answers the queries and records the index alone (R67). -/
theorem takeStatus_fault {s : State} {k : Carousel} {index target : Nat} (hst : (s.seq k).state = .fault)
    (hi : index < s.carriersOf k) :
    takeStatus k .still index target s = (s.queriesAnswered k).modSeq k fun q => { q with index := some index } := by
  simp only [takeStatus, hst, reduceCtorEq, if_false, Nat.not_le.2 hi, statusMotion, State.seq_modSeq, Seq.answerQueries]
  rw [State.queriesAnswered, State.modSeq_modSeq]

theorem claim_restoreAnswers : Claims.RestoreAnswers := by
  intro s h ht hr marked ends
  have answered : ∀ u : State, u.fe.ring = .restoring → u.fe.restore = s.fe.restore → ends u (restoreAnswered h.source u) :=
    fun u hu hsame => ⟨fun hall => restoreAnswered_last hu (by rw [hsame]; exact hall),
      fun hall => by rw [restoreAnswered_other hu (by rw [hsame]; exact hall), hsame]; rfl⟩
  have field : ∀ {kind : Nat} {bytes : List Byte} {role : Role} {unit : Nat} {owner : Role → Nat → State → State} {u : State},
      s.disposal h kind = .field role unit false → restoreRole role = true → owner role unit s.heard = u →
      fieldFrame h kind bytes owner s.begun = restoreAnswered h.source u := fun hd hrole hu => by
    simp only [fieldFrame, receive_taken ht, hd, Bool.false_eq_true, if_false, hrole, if_true, hu]
  refine ⟨fun k index target hd hst hi => ?_, fun i input hd hc => ?_, fun l input hd hc hb hw => ?_⟩
  · have htake : takeStatus k .still index target s.heard = (s.heard.queriesAnswered k).modSeq k fun q => { q with index := some index } :=
      takeStatus_fault (s := s.heard) hst hi
    have howner : driveOwner .still index target .drive k.val s.heard = takeStatus k .still index target s.heard := by
      simp only [driveOwner, car?_val]
    have hexec : exec (.driveStatus h .still index target) s = .next (restoreAnswered h.source
        ((s.heard.queriesAnswered k).modSeq k fun q => { q with index := some index })) :=
      exec_seqStep_plain ht.1 (field hd rfl (howner.trans htake)) (restoreAnswered_stations _ _)
    exact ⟨_, hexec, answered _ hr rfl⟩
  · refine ⟨_, (exec_stnStep ht.1 _).trans (congrArg _ ?_), answered s.heard hr rfl⟩
    rw [field hd rfl (u := s.heard)]
    · exact attendEnded_stations (restoreAnswered_stations _ _)
    · simp only [panelOwner, stn?_val, takePanelInput]
      exact if_neg (by rw [Bool.not_eq_true]; exact hc)
  · have htake : takeLaneInput l input s.heard = s.heard.setLane l { s.lane l with input := input, controllerLost := false } := by
      have hc' : (s.heard.lane l).configured = false := hc
      simp only [takeLaneInput, hc', Bool.false_eq_true, if_false]
      rw [assignRound_idle (by exact hw), ite_self]
      rfl
    refine ⟨_, (carry_begun ht.1 _).trans (congrArg _ (field hd rfl ?_)),
      answered (s.heard.setLane l { s.lane l with input := input, controllerLost := false }) hr rfl⟩
    simp only [laneOwner, lane?_val, htake]

/-- Settles O8: each clause is one block's answer to a node that is lost or a ring state that has changed. -/
theorem ringLoss : Obligations.RingLoss :=
  ⟨claim_unansweredNodes, claim_ringDownAtCarousels, claim_ringStateAtBlocks, claim_restoreAnswers⟩

end Sys2Proof.Machine

namespace Sys2Proof.Machine

/-! # Drive statuses: what each branch of R67 and R78 does -/

section
variable {s t u : State} {h : Hdr} {k : Carousel} {m : Motion} {mv : Move} {x : Task} {p : Plan} {index target d : Nat}
  {f : Seq → Seq}

/-! ## Where a status goes -/

/-- The status has been recorded with the index, and the queries that stand are answered (R67, R68). -/
def State.statused (s : State) (k : Carousel) (index : Nat) : State :=
  (s.queriesAnswered k).modSeq k fun q => { q with index := some index }

theorem statused_seq (s : State) (k : Carousel) (index : Nat) : (s.statused k index).seq k =
    { s.seq k with index := some index, queries := answeredQueries (s.seq k).queries } := by
  simp only [State.statused, State.queriesAnswered, State.seq_modSeq]

/-- What a status then makes of the carousel, in the words of the statements. -/
theorem statused_modSeq (s : State) (k : Carousel) (index : Nat) (f : Seq → Seq) : (s.statused k index).modSeq k f =
    (s.queriesAnswered k).modSeq k fun q => f { q with index := some index } := State.modSeq_modSeq ..

theorem statused_mayMove (s : State) (k : Carousel) (index : Nat) : (s.statused k index).mayMove k ↔ s.mayMove k := by
  simp only [State.mayMove, statused_seq]
  rfl

theorem modSeq_mayMove (hc : (f (s.seq k)).curtain = (s.seq k).curtain) (hp : (f (s.seq k)).place = (s.seq k).place) :
    (s.modSeq k f).mayMove k ↔ s.mayMove k := by
  simp only [State.mayMove, State.seq_modSeq, hc, hp]
  rfl

/-- A query that a MOVE asked for has returned (R79). -/
def Seq.moveAsked (q : Seq) : Bool := q.queries.any fun x => x.afterMove && x.deadline.isSome

theorem answerQueries_statused (s : State) (k : Carousel) (index : Nat) :
    (s.modSeq k fun q => Seq.answerQueries { q with index := some index }) = s.statused k index := by
  rw [State.statused, State.queriesAnswered, State.modSeq_modSeq]
  rfl

/-- A status of a configured carousel with an index of its own is acted on by its motion: a FAULTED one is a fault. -/
theorem takeStatus_faulted (hst : (s.seq k).state ≠ .unconfigured) (hi : index < s.carriersOf k) :
    takeStatus k .faulted index target s = enterFault k .drive (s.statused k index) := by
  simp only [takeStatus, if_neg hst, if_neg (Nat.not_le.2 hi), answerQueries_statused]

theorem takeStatus_still (hst : (s.seq k).state ≠ .unconfigured) (hi : index < s.carriersOf k) :
    takeStatus k .still index target s =
      statusMotion k (s.seq k).index (s.seq k).moveAsked true index target (s.statused k index) := by
  simp only [takeStatus, if_neg hst, if_neg (Nat.not_le.2 hi), answerQueries_statused]
  rfl

theorem takeStatus_moving (hst : (s.seq k).state ≠ .unconfigured) (hi : index < s.carriersOf k) :
    takeStatus k .moving index target s =
      statusMotion k (s.seq k).index (s.seq k).moveAsked false index target (s.statused k index) := by
  simp only [takeStatus, if_neg hst, if_neg (Nat.not_le.2 hi), answerQueries_statused]
  rfl

/-- A status from the drive of a carousel while the ring is UP. -/
theorem exec_driveStatus (ht : s.takes h) (hd : s.disposal h 5 = .field .drive k.val false)
    (hu : takeStatus k m index target s.heard = t) (hst : t.stations = s.stations) (hr : t.fe.ring = .up) :
    exec (.driveStatus h m index target) s = .next t := by
  have howner : driveOwner m index target .drive k.val s.heard = t := by simp only [driveOwner, car?_val, hu]
  exact exec_seqStep_plain ht.1 ((fieldFrame_taken ht hd _ (by rw [howner, hr])).trans howner) hst

theorem exec_driveStatus_still (ht : s.takes h) (hd : s.disposal h 5 = .field .drive k.val false) (hst : (s.seq k).state ≠ .unconfigured)
    (hi : index < s.carriersOf k)
    (hu : statusMotion k (s.seq k).index (s.seq k).moveAsked true index target (s.heard.statused k index) = t)
    (ht' : t.stations = s.stations) (hr : t.fe.ring = .up) : exec (.driveStatus h .still index target) s = .next t :=
  exec_driveStatus ht hd ((takeStatus_still (s := s.heard) hst hi).trans hu) ht' hr

theorem exec_driveStatus_moving (ht : s.takes h) (hd : s.disposal h 5 = .field .drive k.val false) (hst : (s.seq k).state ≠ .unconfigured)
    (hi : index < s.carriersOf k)
    (hu : statusMotion k (s.seq k).index (s.seq k).moveAsked false index target (s.heard.statused k index) = t)
    (ht' : t.stations = s.stations) (hr : t.fe.ring = .up) : exec (.driveStatus h .moving index target) s = .next t :=
  exec_driveStatus ht hd ((takeStatus_moving (s := s.heard) hst hi).trans hu) ht' hr

/-! ## Coming to rest, and the move that follows (R75, R78, R79) -/

theorem becomeReady_told (k : Carousel) (x : Task) (s : State) : becomeReady k x s =
    (s.modSeq k fun q => { q with state := .ready, current := some x.num, move := none, built := none, short := 0 }).postAll
      ((s.stationOf k).toList.map fun i => .readyReport i k) := by
  cases hi : s.stationOf k with
  | some i => rw [becomeReady_station hi]; rfl
  | none =>
    have hnone : (s.modSeq k fun q =>
        { q with state := .ready, current := some x.num, move := none, built := none, short := 0 }).stationOf k = none := by
      simpa [State.stationOf] using hi
    simp only [becomeReady, hnone, Option.toList_none, List.map_nil, State.postAll, List.append_nil]

/-- A carousel that comes to rest with its task, elsewhere than at its carrier, and may not move (R77 to R79). -/
theorem rest_keeps (hx : (s.seq k).currentTask = some x) (hp : s.presentable k x = true) (hi : (s.seq k).index ≠ some x.carrier)
    (hm : ¬ s.mayMove k) (hc : s.mgmt.cell = .running) : choose k (comeToRest k true s) =
      s.modSeq k fun q => { q with state := .idle, move := none, built := none } := by
  have hrest : comeToRest k true s = s.modSeq k fun q => { q with state := .idle, move := none, built := none } :=
    modSeq_congr (by simp [hc])
  rw [hrest]
  generalize hu : (s.modSeq k fun q => { q with state := .idle, move := none, built := none }) = u
  have hseq : u.seq k = { s.seq k with state := .idle, move := none, built := none } := by rw [← hu]; exact State.seq_modSeq ..
  have hno : ¬ u.mayMove k := by
    have hsame : u.mayMove k ↔ s.mayMove k := by
      rw [State.mayMove, State.mayMove, hseq, ← hu]
      rfl
    rwa [hsame]
  rw [choose_kept (s := u) (x := x) (by rw [hseq]) (by rw [hseq]; exact hx) (by rw [← hu]; exact hp) (by rw [hseq]; exact hi),
    if_neg (by rwa [moveAllowed_iff]), ← hu]
  exact State.modSeq_modSeq ..

/-- A carousel that comes to rest without a task and has none to present (R75, R77). -/
theorem rest_drops (hx : (s.seq k).queue.find? (s.presentable k) = none) : choose k (comeToRest k false s) =
    s.modSeq k fun q => { q with state := .idle, move := none, built := none, current := none, short := 0 } := by
  have hrest : comeToRest k false s = s.modSeq k fun q =>
      { q with state := .idle, move := none, built := none, current := none, short := 0 } := modSeq_congr (by simp)
  rw [hrest]
  generalize hu : (s.modSeq k fun q => { q with state := .idle, move := none, built := none, current := none, short := 0 }) = u
  have hseq : u.seq k = { s.seq k with state := .idle, move := none, built := none, current := none, short := 0 } := by
    rw [← hu]
    exact State.seq_modSeq ..
  have hchosen : u.chosen k = none := by
    have hpres : u.presentable k = s.presentable k := by rw [← hu]; rfl
    rw [chosen_fresh (by rw [hseq]), hseq, hpres]
    exact hx
  rw [choose_none (by rw [hseq]) hchosen, clearCurrent, ← hu]
  exact State.modSeq_modSeq ..

/-- A move planned again while one is allowed (R78, R79). -/
theorem replan_moves {resent : Option Nat} (hx : (s.seq k).currentTask = some x) (hm : s.mayMove k) (hj : (s.seq k).index = some index)
    (hp : s.travelPlan k index x.carrier = .plan p) (hd : s.nodeOf .drive k.val = some d) (hl : s.fe.queue.length < 32) :
    replan k resent s = (s.modFe fun e =>
      { e with queue := e.queue ++ [frameTo (.seq k) d (.move p.dir p.dist x.carrier p.speed)] }).modSeq k fun q =>
        { q with state := .moving, current := some x.num, built := none,
                 move := some (p.moveTo x.carrier (resent.getD (s.after p.timeout)) resent.isSome) } := by
  simp only [replan, hx, (moveAllowed_iff s k).2 hm, if_true]
  exact planMove_queued hj hp hd hl

/-- A move that is not planned again since none is allowed (R78, R79). -/
theorem replan_rests {resent : Option Nat} (hx : (s.seq k).currentTask = some x) (hm : ¬ s.mayMove k) (hc : s.mgmt.cell = .running)
    (hp : s.presentable k x = true) (hi : (s.seq k).index ≠ some x.carrier) : replan k resent s =
      s.modSeq k fun q => { q with state := .idle, move := none, built := none } := by
  have hno : ¬ s.moveAllowed k = true := by rwa [moveAllowed_iff]
  simp only [replan, hx, if_neg hno]
  exact rest_keeps hx hp hi hm hc

/-- A drive on its way elsewhere is halted (R79, R91). -/
theorem otherTarget_halted (hmv : (s.seq k).move = some mv) (hd : s.nodeOf .drive k.val = some d) (hl : s.fe.queue.length < 32) :
    otherTarget k s = (s.framed (.seq k) d (.halt false)).modSeq k fun q =>
      { q with state := .stopping, move := some { mv with stop := some .other } } := by
  rw [otherTarget, sendHalt_room hd hl, stopping]
  have hmv' : ((s.framed (.seq k) d (.halt false)).seq k).move = some mv := hmv
  exact modSeq_congr (s := s.framed (.seq k) d (.halt false)) (by simp only [hmv', Option.map_some])

/-- A carousel that has lost its position is UNKNOWN and asks its drive (R70). -/
theorem lostPosition_asks (hst : (s.seq k).state = .idle ∨ (s.seq k).state = .ready) (hr : s.fe.ring = .up)
    (hd : s.nodeOf .drive k.val = some d) (hl : s.fe.queue.length < 32) : lostPosition k s =
      ((s.modFe fun e => { e with queue := e.queue ++ [frameTo (.seq k) d (.statusQuery (s.seq k).asked)] }).postAll
        (if (s.seq k).state = .ready then (s.stationOf k).toList.map (fun i => .notReadyReport i k) else [])).modSeq k
          Seq.asking := by
  have hleave : leaveOpening k .unknown s = (s.postAll (if (s.seq k).state = .ready then
      (s.stationOf k).toList.map (fun i => .notReadyReport i k) else [])).modSeq k fun q => { q with state := .unknown } := by
    rcases hst with hst | hst
    · simp [leaveOpening, hst, State.postAll]
    · cases hi : s.stationOf k <;> simp [leaveOpening, hst, hi, State.postAll, State.post]
  rw [lostPosition, enterUnknown, hleave]
  generalize hv : s.postAll (if (s.seq k).state = .ready then
    (s.stationOf k).toList.map (fun i => .notReadyReport i k) else []) = v
  have hring : v.fe.ring = .up := by rw [← hv]; exact hr
  have hnode : v.nodeOf .drive k.val = some d := by rw [← hv]; exact hd
  have hroom : v.fe.queue.length < 32 := by rw [← hv]; exact hl
  simp only [State.modSeq_modSeq]
  rw [if_pos (show (v.modSeq k _).fe.ring = .up from hring), sendQuery_room (s := v.modSeq k _) hnode hroom, State.seq_modSeq,
    State.modFe_modSeq, State.modSeq_modSeq, ← hv]
  rfl

end
end Sys2Proof.Machine

namespace Sys2Proof.Machine

/-! # Moves that end at, short of or away from their target; faults; stops (R67, R78, R79) -/

section
variable {s t u : State} {h : Hdr} {k : Carousel} {m : Motion} {mv : Move} {x : Task} {p : Plan} {index target d : Nat}
  {old : Option Nat} {answer still : Bool} {f : Seq → Seq}

/-! ## The branches of a motion -/

theorem statusMotion_moving (hst : (s.seq k).state = .moving) (hmv : (s.seq k).move = some mv) :
    statusMotion k old answer still index target s = statusMoving k mv answer still index target s := by
  simp only [statusMotion, hst, hmv]

/-- A STILL drive at the target has completed the move (R78). -/
theorem statusMoving_there (hi : index = mv.target) (hx : (s.seq k).currentTask = some x) :
    statusMoving k mv answer true index target s = becomeReady k x s := by
  simp only [statusMoving, if_true, if_pos hi, moveComplete, hx]

/-- A STILL drive elsewhere, which answers no MOVE's query, has moved short (R78). -/
theorem statusMoving_short (hi : index ≠ mv.target) : statusMoving k mv false true index target s = moveShort k s := by
  simp only [statusMoving, if_true, if_neg hi, Bool.false_eq_true, if_false]

/-- A STILL drive elsewhere, which answers a MOVE's query (R79). -/
theorem statusMoving_answer (hi : index ≠ mv.target) : statusMoving k mv true true index target s =
    if mv.resent = true then enterFault k .link s else replan k (some mv.deadline) s := by
  simp only [statusMoving, if_true, if_neg hi]

theorem statusMoving_toward : statusMoving k mv answer false index mv.target s = s := by
  simp only [statusMoving, Bool.false_eq_true, if_false, if_true]

theorem statusMoving_away (ht : target ≠ mv.target) : statusMoving k mv answer false index target s = otherTarget k s := by
  simp only [statusMoving, Bool.false_eq_true, if_false, if_neg ht]

theorem statusMotion_stopping (hst : (s.seq k).state = .stopping) :
    statusMotion k old answer still index target s = if still = true then statusStopped k s else s := by
  simp only [statusMotion, hst]

theorem statusMotion_unknown (hst : (s.seq k).state = .unknown) :
    statusMotion k old answer still index target s = if still = true then choose k (comeToRest k false s) else s := by
  simp only [statusMotion, hst]

theorem statusMotion_resting (hst : (s.seq k).state = .idle ∨ (s.seq k).state = .ready ∨ (s.seq k).state = .presenting) :
    statusMotion k old answer still index target s =
      if (still && decide (old = some index)) = true then s else lostPosition k s := by
  rcases hst with hst | hst | hst <;> simp only [statusMotion, hst]

theorem statusMotion_unused (hst : (s.seq k).state = .manual ∨ (s.seq k).state = .disabled ∨ (s.seq k).state = .fault) :
    statusMotion k old answer still index target s = s := by
  rcases hst with hst | hst | hst <;> simp only [statusMotion, hst]

theorem statused_state (s : State) (k : Carousel) (index : Nat) : ((s.statused k index).seq k).state = (s.seq k).state := by
  rw [statused_seq]

theorem statused_move (s : State) (k : Carousel) (index : Nat) : ((s.statused k index).seq k).move = (s.seq k).move := by
  rw [statused_seq]

theorem statused_currentTask (s : State) (k : Carousel) (index : Nat) :
    ((s.statused k index).seq k).currentTask = (s.seq k).currentTask := by
  rw [statused_seq]
  rfl

theorem statused_index (s : State) (k : Carousel) (index : Nat) : ((s.statused k index).seq k).index = some index := by
  rw [statused_seq]

/-- A status with an index outside the carousel is a fault where the state has one (R67, R82). -/
theorem takeStatus_outside (haway : (s.seq k).state.away = true) (hi : s.carriersOf k ≤ index) :
    takeStatus k m index target s = enterFault k .index (s.queriesAnswered k) := by
  have hf : faultable (s.seq k).state = true := by cases hs : (s.seq k).state <;> simp_all [CarState.away, faultable]
  have hconf : (s.seq k).state ≠ .unconfigured := fun hst => by simp [hst, CarState.away] at haway
  simp only [takeStatus, if_neg hconf, if_pos hi, hf, if_true]
  rfl

theorem takeStatus_discarded (hst : (s.seq k).state = .manual ∨ (s.seq k).state = .disabled ∨ (s.seq k).state = .fault)
    (hi : s.carriersOf k ≤ index) : takeStatus k m index target s = s := by
  have hf : faultable (s.seq k).state = false := by rcases hst with hst | hst | hst <;> rw [hst] <;> rfl
  have hconf : (s.seq k).state ≠ .unconfigured := by rcases hst with hst | hst | hst <;> rw [hst] <;> nofun
  simp only [takeStatus, if_neg hconf, if_pos hi, hf, Bool.false_eq_true, if_false]

/-- A MANUAL, DISABLED or FAULT carousel records the index alone (R67). -/
theorem takeStatus_unused (hst : (s.seq k).state = .manual ∨ (s.seq k).state = .disabled ∨ (s.seq k).state = .fault)
    (hi : index < s.carriersOf k) : takeStatus k m index target s = s.statused k index := by
  have hconf : (s.seq k).state ≠ .unconfigured := by rcases hst with hst | hst | hst <;> rw [hst] <;> nofun
  cases m with
  | faulted =>
    rw [takeStatus_faulted hconf hi]
    refine enterFault_spared ?_ .drive
    rw [statused_state]
    rcases hst with hst | hst | hst
    · exact .inl hst
    · exact .inr (.inl hst)
    · exact .inr (.inr (.inr hst))
  | still => rw [takeStatus_still hconf hi, statusMotion_unused (by rwa [statused_state])]
  | moving => rw [takeStatus_moving hconf hi, statusMotion_unused (by rwa [statused_state])]

theorem enterFault_ring (c : FaultCause) (haway : (s.seq k).state.away = true) : (enterFault k c s).fe.ring = s.fe.ring := by
  obtain ⟨q, w, m, hw⟩ := withdrawMove_effect k s
  rw [enterFault_fe c haway, hw]

/-- A status that ends in a fault of a carousel away from a grant. -/
theorem exec_driveStatus_fault {c : FaultCause} (ht : s.takes h) (hd : s.disposal h 5 = .field .drive k.val false)
    (hu : takeStatus k m index target s.heard = enterFault k c u) (hst : u.stations = s.stations) (hr : u.fe.ring = .up)
    (haway : (u.seq k).state.away = true) : exec (.driveStatus h m index target) s = .next (enterFault k c u) :=
  exec_driveStatus ht hd hu ((enterFault_stations k c haway).trans hst) ((enterFault_ring c haway).trans hr)

end

theorem claim_moveCompletes : Claims.MoveCompletes := by
  intro s h k mv x ht hr hd hst hmv hx htgt
  have hconf : (s.seq k).state ≠ .unconfigured := by rw [hst]; nofun
  have hmotion : ∀ {still : Bool} {index target : Nat},
      statusMotion k (s.seq k).index (s.seq k).moveAsked still index target (s.heard.statused k index) =
        statusMoving k mv (s.seq k).moveAsked still index target (s.heard.statused k index) :=
    statusMotion_moving ((statused_state ..).trans hst) ((statused_move ..).trans hmv)
  refine ⟨fun target => exec_driveStatus_still ht hd hconf htgt (hmotion.trans ?_) rfl hr,
    fun index hi => exec_driveStatus_moving ht hd hconf hi (hmotion.trans statusMoving_toward) rfl hr⟩
  have hx' : ((s.heard.statused k mv.target).seq k).currentTask = some x := (statused_currentTask ..).trans hx
  rw [statusMoving_there rfl hx', becomeReady_told, statused_modSeq]
  have hplace : (s.heard.statused k mv.target).stationOf k = s.stationOf k := by
    rw [State.stationOf, statused_seq]
    rfl
  rw [hplace]

theorem claim_driveFaults : Claims.DriveFaults := by
  intro s h k m index target ht hr hd
  refine ⟨fun haway hi => ?_, fun haway hi => ?_, fun hst => exec_driveStatus ht hd (if_pos hst) rfl hr,
    fun hst => ⟨fun hi => exec_driveStatus ht hd (takeStatus_unused (s := s.heard) hst hi) rfl hr,
      fun hi => exec_driveStatus ht hd (takeStatus_discarded (s := s.heard) hst hi) rfl hr⟩⟩
  · have haway' : ((s.heard.queriesAnswered k).seq k).state.away = true := by
      simpa [State.queriesAnswered] using haway
    obtain ⟨hfault, hcars⟩ := enterFault_away k .index haway'
    exact ⟨_, exec_driveStatus_fault ht hd (takeStatus_outside (s := s.heard) haway hi) rfl hr haway', hfault, hcars⟩
  · have hconf : (s.seq k).state ≠ .unconfigured := fun hst => by simp [hst, CarState.away] at haway
    have haway' : ((s.heard.statused k index).seq k).state.away = true := by rw [statused_state]; exact haway
    obtain ⟨⟨hseq, hothers, hnote⟩, hcars⟩ := enterFault_away k .drive haway'
    rw [statused_seq] at hseq hnote
    refine ⟨_, exec_driveStatus_fault ht hd (takeStatus_faulted (s := s.heard) hconf hi) rfl hr haway', ?_⟩
    have hothers' : s.othersKept k (enterFault k .drive (s.heard.statused k index)) := fun j hj =>
      (hothers j hj).trans ((congrArg (State.seq · j) (answerQueries_statused s.heard k index).symm).trans
        (State.seq_modSeq_ne _ _ hj))
    exact ⟨congrArg Seq.state hseq, congrArg Seq.fault hseq, congrArg Seq.index hseq, congrArg Seq.move hseq,
      congrArg Seq.current hseq, (congrArg Seq.queue hseq :), (congrArg Seq.queries hseq :), hothers', hcars, hnote⟩

end Sys2Proof.Machine

namespace Sys2Proof.Machine

/-! # Moves that do not go as planned, and the answers to a MOVE's query (R67, R70, R77 to R79) -/

section
variable {s t u : State} {h : Hdr} {k : Carousel} {m : Motion} {mv : Move} {x : Task} {p : Plan} {index target d : Nat}
  {old : Option Nat} {answer still : Bool} {f : Seq → Seq}

/-- What a MOVING carousel does with a status, as its statements give it. -/
structure MovingStatus (s : State) (h : Hdr) (k : Carousel) (mv : Move) (x : Task) (index d : Nat) : Prop where
  taken : s.takes h
  ring : s.fe.ring = .up
  disposal : s.disposal h 5 = .field .drive k.val false
  inside : index < s.carriersOf k
  node : s.nodeOf .drive k.val = some d
  room : s.fe.queue.length < 32
  state : (s.seq k).state = .moving
  move : (s.seq k).move = some mv
  task : (s.seq k).currentTask = some x

namespace MovingStatus

theorem configured (h' : MovingStatus s h k mv x index d) : (s.seq k).state ≠ .unconfigured := by rw [h'.state]; nofun

theorem motion (h' : MovingStatus s h k mv x index d) :
    statusMotion k old answer still index target (s.heard.statused k index) =
      statusMoving k mv answer still index target (s.heard.statused k index) :=
  statusMotion_moving ((statused_state ..).trans h'.state) ((statused_move ..).trans h'.move)

/-- A STILL status that answers no MOVE's query, short of the target, is a short move. -/
theorem short (h' : MovingStatus s h k mv x index d) (hi : index ≠ mv.target) (ha : (s.seq k).moveAsked = false)
    (ht : moveShort k (s.heard.statused k index) = t) (hst : t.stations = s.stations) (hr : t.fe.ring = .up) :
    exec (.driveStatus h .still index target) s = .next t := by
  refine exec_driveStatus_still h'.taken h'.disposal h'.configured h'.inside ?_ hst hr
  rw [h'.motion, ha, statusMoving_short hi, ht]

/-- A STILL status that answers a MOVE's query, elsewhere than at the target. -/
theorem answered (h' : MovingStatus s h k mv x index d) (hi : index ≠ mv.target) (ha : (s.seq k).moveAsked = true)
    (ht : (if mv.resent = true then enterFault k .link (s.heard.statused k index)
           else replan k (some mv.deadline) (s.heard.statused k index)) = t)
    (hst : t.stations = s.stations) (hr : t.fe.ring = .up) : exec (.driveStatus h .still index target) s = .next t := by
  refine exec_driveStatus_still h'.taken h'.disposal h'.configured h'.inside ?_ hst hr
  rw [h'.motion, ha, statusMoving_answer hi, ht]

/-- A drive on its way to another target is halted (R79, R91). -/
theorem away (h' : MovingStatus s h k mv x index d) (ht : target ≠ mv.target) :
    exec (.driveStatus h .moving index target) s = .next ((((s.heard.statused k index).framed (.seq k) d (.halt false))).modSeq k
      fun q => { q with state := .stopping, move := some { mv with stop := some .other } }) := by
  refine exec_driveStatus_moving h'.taken h'.disposal h'.configured h'.inside ?_ rfl h'.ring
  rw [h'.motion, statusMoving_away ht]
  exact otherTarget_halted ((statused_move ..).trans h'.move) h'.node h'.room

theorem toward (h' : MovingStatus s h k mv x index d) :
    exec (.driveStatus h .moving index mv.target) s = .next (s.heard.statused k index) := by
  refine exec_driveStatus_moving h'.taken h'.disposal h'.configured h'.inside ?_ rfl h'.ring
  rw [h'.motion, statusMoving_toward]

/-- A fault that a STILL status ends in. -/
theorem fault {c : FaultCause} (h' : MovingStatus s h k mv x index d)
    (ht : ∀ t : State, enterFault k c (s.heard.statused k index) = t → t.stations = s.stations → t.fe.ring = .up →
      exec (.driveStatus h .still index target) s = .next t) :
    ∃ t, exec (.driveStatus h .still index target) s = .next t ∧ (s.heard.statused k index).faulted k c t ∧ s.onlyCarousels t := by
  have haway : ((s.heard.statused k index).seq k).state.away = true := by rw [statused_state]; simp [h'.state, CarState.away]
  obtain ⟨hfault, hcars⟩ := enterFault_away k c haway
  exact ⟨_, ht _ rfl (enterFault_stations k c haway) ((enterFault_ring c haway).trans h'.ring), hfault, hcars⟩

end MovingStatus

theorem State.postAll_modSeq (s : State) (k : Carousel) (f : Seq → Seq) (l : List Instr) :
    (s.modSeq k f).postAll l = (s.postAll l).modSeq k f := rfl

/-- The first short move in a row is planned again (R78). -/
theorem moveShort_first (h : (s.seq k).short = 0) : moveShort k s = replan k none (s.modSeq k fun q => { q with short := 1 }) :=
  if_pos h

theorem moveShort_again (h : (s.seq k).short ≠ 0) : moveShort k s = enterFault k .short s := if_neg h

/-- A STOPPING carousel that is STILL keeps its task after a curtain alone (R77). -/
theorem statusStopped_curtain (hmv : (s.seq k).move = some mv) (hc : mv.stop = some .curtain) :
    statusStopped k s = choose k (comeToRest k true s) := by simp [statusStopped, hmv, hc]

theorem statusStopped_other (hmv : (s.seq k).move = some mv) (hc : mv.stop ≠ some .curtain) :
    statusStopped k s = choose k (comeToRest k false s) := by simp [statusStopped, hmv, hc]

end

theorem claim_driveMotion : Claims.DriveMotion := by
  intro s h k index d ht hr hd hi hnode hroom at_
  have hU : s.heard.statused k index = at_ id := rfl
  have hat : ∀ f, (s.heard.statused k index).modSeq k f = at_ f := fun f => statused_modSeq s.heard k index f
  have hflat := (answerQueries_statused s.heard k index).symm
  have hmay : (s.heard.statused k index).mayMove k ↔ s.mayMove k := statused_mayMove s.heard k index
  refine ⟨fun mv x hst hmv hx hne hq => ?moving, fun mv target hst hmv => ?stopping, fun target hst => ?unknown,
    fun m target hst hm => ?lost, fun target hst hidx => ?rest, fun fate hf hst hu => ?asks, fun hm hst => ?refused⟩
  case moving =>
    have hmoving : MovingStatus s h k mv x index d := ⟨ht, hr, hd, hi, hnode, hroom, hst, hmv, hx⟩
    have hask : (s.seq k).moveAsked = false := by
      refine List.any_eq_false.2 fun y hy => ?_
      cases ha : y.afterMove with
      | false => simp
      | true => simp [hq y hy ha]
    -- the carousel as it counts the short move
    generalize hV : (s.heard.statused k index).modSeq k (fun q => { q with short := 1 }) = V
    have hVseq : V.seq k = { s.seq k with index := some index, queries := answeredQueries (s.seq k).queries, short := 1 } := by
      rw [← hV, State.seq_modSeq, statused_seq]
      rfl
    have hVmay : V.mayMove k ↔ s.mayMove k := by rw [← hV]; exact (modSeq_mayMove rfl rfl).trans hmay
    have hfirst : (s.seq k).short = 0 → moveShort k (s.heard.statused k index) = replan k none V := fun h0 => by
      rw [moveShort_first (by rw [statused_seq]; exact h0), hV]
    refine ⟨fun p target h0 hm hp => hmoving.short hne hask ?_ rfl hr, fun target h0 hm hc hpres hcar =>
      hmoving.short hne hask ?_ rfl hr, fun target h0 => hmoving.fault fun t h' => hmoving.short hne hask ?_,
      fun target htgt => (hmoving.away htgt).trans ?_⟩
    · rw [hfirst h0, replan_moves (index := index) (p := p) (d := d) (x := x) (by rw [hVseq]; exact hx) (hVmay.2 hm) (by rw [hVseq])
        (by rw [← hV]; exact hp) (by rw [← hV]; exact hnode) (by rw [← hV]; exact hroom), ← hV, hflat, State.modFe_modSeq,
        State.modFe_modSeq, State.modSeq_modSeq, State.modSeq_modSeq]
      refine modSeq_congr ?_
      rw [← hst]
      rfl
    · rw [hfirst h0, replan_rests (x := x) (by rw [hVseq]; exact hx) (by rwa [hVmay]) (by rw [← hV]; exact hc) (by rw [← hV]; exact hpres)
        (by rw [hVseq]; simpa using hcar), ← hV, State.modSeq_modSeq, hat]
    · rw [moveShort_again (by rw [statused_seq]; exact h0), h']
    · rw [hflat]
      rw [State.framed, State.modFe_modSeq, State.modSeq_modSeq]
      rfl
  case stopping =>
    have hconf : (s.seq k).state ≠ .unconfigured := by rw [hst]; nofun
    have hmotion : ∀ {still : Bool}, statusMotion k (s.seq k).index (s.seq k).moveAsked still index target (s.heard.statused k index) =
        if still = true then statusStopped k (s.heard.statused k index) else s.heard.statused k index :=
      statusMotion_stopping ((statused_state ..).trans hst)
    refine ⟨exec_driveStatus_moving ht hd hconf hi hmotion rfl hr, fun x hc hcur hcell hx hp hne =>
      exec_driveStatus_still ht hd hconf hi (hmotion.trans ?_) rfl hr, fun hc hnone =>
      exec_driveStatus_still ht hd hconf hi (hmotion.trans ?_) rfl hr⟩
    · have hno : ¬ (s.heard.statused k index).mayMove k := fun hm => hcur (hmay.1 hm).2.2.1
      rw [if_pos rfl, statusStopped_curtain (s := s.heard.statused k index) ((statused_move ..).trans hmv) hc,
        rest_keeps (s := s.heard.statused k index) (x := x) ((statused_currentTask ..).trans hx) hp (by rw [statused_index]; simpa using hne) hno hcell, hat]
    · rw [if_pos rfl, statusStopped_other (s := s.heard.statused k index) ((statused_move ..).trans hmv) hc, rest_drops (s := s.heard.statused k index) (by rw [statused_seq]; exact hnone), hat]
  case unknown =>
    have hconf : (s.seq k).state ≠ .unconfigured := by rw [hst]; nofun
    have hmotion : ∀ {still : Bool}, statusMotion k (s.seq k).index (s.seq k).moveAsked still index target (s.heard.statused k index) =
        if still = true then choose k (comeToRest k false (s.heard.statused k index)) else s.heard.statused k index :=
      statusMotion_unknown ((statused_state ..).trans hst)
    refine ⟨exec_driveStatus_moving ht hd hconf hi hmotion rfl hr, fun hnone =>
      exec_driveStatus_still ht hd hconf hi (hmotion.trans ?_) rfl hr⟩
    rw [if_pos rfl, rest_drops (s := s.heard.statused k index) (by rw [statused_seq]; exact hnone), hat]
  case lost =>
    have hconf : (s.seq k).state ≠ .unconfigured := by rcases hst with hst | hst <;> rw [hst] <;> nofun
    have hst' : ((s.heard.statused k index).seq k).state = .idle ∨ ((s.heard.statused k index).seq k).state = .ready := by
      rwa [statused_state]
    have hmotion : ∀ {still : Bool}, still = false ∨ (s.seq k).index ≠ some index →
        statusMotion k (s.seq k).index (s.seq k).moveAsked still index target (s.heard.statused k index) =
          lostPosition k (s.heard.statused k index) := fun hs => by
      rw [statusMotion_resting (hst'.imp_right .inl)]
      exact if_neg (by rcases hs with hs | hs <;> simp [hs])
    have hlost : lostPosition k (s.heard.statused k index) = _ := lostPosition_asks hst' hr hnode hroom
    have hplace : (s.heard.statused k index).stationOf k = s.stationOf k := by
      rw [State.stationOf, statused_seq]
      rfl
    rw [statused_state, hplace, statused_seq, hflat] at hlost
    rw [State.modFe_modSeq, State.postAll_modSeq, State.modSeq_modSeq] at hlost
    rcases hm with rfl | ⟨rfl, hne⟩
    · exact exec_driveStatus_moving ht hd hconf hi ((hmotion (.inl rfl)).trans ((congrArg (lostPosition k) hflat).trans hlost)) rfl hr
    · exact exec_driveStatus_still ht hd hconf hi ((hmotion (.inr hne)).trans ((congrArg (lostPosition k) hflat).trans hlost)) rfl hr
  case rest =>
    have hconf : (s.seq k).state ≠ .unconfigured := by rcases hst with hst | hst | hst <;> rw [hst] <;> nofun
    refine exec_driveStatus_still ht hd hconf hi ?_ rfl hr
    rw [statusMotion_resting (by rwa [statused_state])]
    exact if_pos (by simp [hidx])
  case asks =>
    refine exec_seqStep_plain ht.1 (f := moveReturned k fate) (Eq.trans ?_ (sendQuery_room (s := s.begun) hnode hroom)) rfl
    rcases hf with rfl | rfl <;> simp [moveReturned, hst, hu]
  case refused =>
    exact exec_seqStep_plain ht.1 (f := moveReturned k .refused) (if_neg (not_or.2 ⟨hm, hst⟩)) rfl

/-! ## The answers to a MOVE's query (R79) -/

theorem Seq.moveAsked_iff {q : Seq} :
    q.moveAsked = true ↔ ∃ y ∈ q.queries, y.afterMove = true ∧ y.deadline ≠ none := by
  simp [Seq.moveAsked, List.any_eq_true, Option.isSome_iff_ne_none]

theorem queriesAnswered_seq (s : State) (k : Carousel) :
    (s.queriesAnswered k).seq k = { s.seq k with queries := answeredQueries (s.seq k).queries } := State.seq_modSeq ..

theorem claim_moveAnswers : Claims.MoveAnswers := by
  intro s h k mv x index d ht hr hd hi hnode hroom hst hmv hx htgt _ returned at_ sends fails
  have hmoving : MovingStatus s h k mv x index d := ⟨ht, hr, hd, hi, hnode, hroom, hst, hmv, hx⟩
  have hU : s.heard.statused k index = at_ index id := rfl
  have hat : ∀ f, (s.heard.statused k index).modSeq k f = at_ index f := fun f => statused_modSeq s.heard k index f
  have hmay : (s.heard.statused k index).mayMove k ↔ s.mayMove k := statused_mayMove s.heard k index
  have hseq := queriesAnswered_seq s.heard k
  have hshort := fun (hret : ¬ returned) hne => (claim_driveMotion s h k index d ht hr hd hi hnode hroom).1 mv x hst hmv hx hne
    fun y hy ha => Classical.not_not.1 fun hdl => hret ⟨y, hy, ha, hdl⟩
  refine ⟨(claim_moveCompletes s h k mv x ht hr hd hst hmv hx htgt).1, fun hret => ⟨hmoving.toward, fun target htg => ?halted,
    fun hne hre => ⟨fun p target hm hp => ?again, fun target hm hc hpres hcar => ?stays⟩, fun hne hre target => ?resent⟩, fun hret =>
    ⟨fun hne h0 p target hm hp => ?short, fun hne h0 target => ?second⟩⟩
  case halted =>
    refine (hmoving.away htg).trans ?_
    rw [State.statused, State.framed, State.modFe_modSeq, State.modSeq_modSeq]
    rfl
  case again =>
    refine hmoving.answered hne (Seq.moveAsked_iff.2 hret) ?_ rfl hr
    rw [hre, if_neg Bool.false_ne_true, replan_moves (s := s.heard.statused k index) (index := index) (p := p) (d := d) (x := x) ((statused_currentTask ..).trans hx)
      (hmay.2 hm) (statused_index ..) hp hnode hroom, State.statused, State.modFe_modSeq, State.modSeq_modSeq]
    refine modSeq_congr ?_
    rw [show ((s.heard.queriesAnswered k).modFe fun e => { e with queue :=
      e.queue ++ [frameTo (.seq k) d (.move p.dir p.dist x.carrier p.speed)] }).seq k = _ from hseq, ← hst]
    rfl
  case stays =>
    refine hmoving.answered hne (Seq.moveAsked_iff.2 hret) ?_ rfl hr
    rw [hre, if_neg Bool.false_ne_true, replan_rests (s := s.heard.statused k index) (x := x) ((statused_currentTask ..).trans hx) (by rwa [hmay]) hc hpres
      (by rw [statused_index]; simpa using hcar), hat]
  case resent =>
    exact hmoving.fault fun t h' => hmoving.answered hne (Seq.moveAsked_iff.2 hret) (by rw [hre, if_pos rfl, h'])
  case short =>
    refine ((hshort hret hne).1 p target h0 hm hp).trans (congrArg Host.Outcome.next ?_)
    simp only [sends, State.queriesAnswered, State.modFe_modSeq, State.modSeq_modSeq]
  case second => exact (hshort hret hne).2.2.1 target h0

/-- Settles O10: a status is recorded, answers the queries, and is acted on by the branch of R67 and R78 that its state gives. -/
theorem driveStatuses : Obligations.DriveStatuses :=
  ⟨claim_moveCompletes, claim_driveFaults, claim_driveMotion, claim_moveAnswers⟩

end Sys2Proof.Machine

namespace Sys2Proof.Machine

/-! # The marks of several carriers, set or cleared (R10) -/

section
variable {s t u : State} {k : Carousel} {car : StockCar} {e : Bool} {cs : List Nat} {f g : Nat → Carrier → Carrier}

/-- No carrier of the carousel has two placements of one lot. -/
def State.placedOnce (s : State) (k : Carousel) : Prop :=
  ∀ d x, s.carrier k d = some x → (x.placements.map (·.lot)).Nodup

theorem placedOnce_of_stockCar (hc : s.stockCar k = some car) (hn : ∀ x ∈ car.carriers, (x.placements.map (·.lot)).Nodup) :
    s.placedOnce k := fun d x hx => by
  obtain ⟨car', hc', hg⟩ := carrier_stock hx
  obtain rfl : car = car' := Option.some.inj (hc.symm.trans hc')
  exact hn x (List.mem_of_getElem? hg)

/-- The carriers of the carousel stand as `f` makes them; its geometry, the other carousels' stock and the lots' masses are as
they were. -/
structure State.Stowed (k : Carousel) (car : StockCar) (f : Nat → Carrier → Carrier) (s t : State) : Prop where
  carriers : ∀ d, t.carrier k d = (s.carrier k d).map (f d)
  geometry : ∃ cs, t.stockCar k = some { car with carriers := cs }
  others : ∀ j : Carousel, j ≠ k → t.stockCar j = s.stockCar j
  masses : ∀ ps, t.actualMass ps = s.actualMass ps

theorem State.Stowed.trans (h : State.Stowed k car f s t) (h' : State.Stowed k car g t u) :
    State.Stowed k car (fun d x => g d (f d x)) s u where
  carriers d := by rw [h'.carriers, h.carriers, Option.map_map]; rfl
  geometry := h'.geometry
  others j hj := (h'.others j hj).trans (h.others j hj)
  masses ps := (h'.masses ps).trans (h.masses ps)

/-- The carriers that stood before do not matter for what stands now. -/
theorem State.Stowed.resize {l : List Carrier} (h : State.Stowed k { car with carriers := l } f s t) : State.Stowed k car f s t :=
  ⟨h.carriers, h.geometry, h.others, h.masses⟩

theorem State.Stowed.refl (hc : s.stockCar k = some car) : State.Stowed k car (fun _ x => x) s s where
  carriers d := by simp
  geometry := ⟨car.carriers, hc⟩
  others _ _ := rfl
  masses _ := rfl

theorem State.Stowed.placedOnce (h : State.Stowed k car f s t) (hn : s.placedOnce k)
    (hf : ∀ d x, (x.placements.map (·.lot)).Nodup → ((f d x).placements.map (·.lot)).Nodup) : t.placedOnce k := by
  intro d y hy
  rw [h.carriers] at hy
  obtain ⟨x, hx, rfl⟩ := Option.map_eq_some_iff.1 hy
  exact hf d x (hn d x hx)

/-- A carrier whose excluded mark has been set or cleared, with its OVERLOAD mark (R10, R11). -/
def State.remark (s : State) (car : StockCar) (e : Bool) (cs : List Nat) (d : Nat) (x : Carrier) : Carrier :=
  if d ∈ cs then { x with excluded := e, overload := decide (car.rated < s.actualMass x.placements) } else x

/-- The carriers that become able to take new reservations when the excluded marks of `cs` are cleared. -/
def State.freedBy (s : State) (k : Carousel) (cs : List Nat) : List Instr :=
  (cs.filter fun d => (s.carrier k d).any fun x => decide (x.state = .normal) && x.excluded).map (.eligibilityReport k)

theorem mark_geometry (k : Carousel) (e : Bool) (cs : List Nat) : ∀ {s : State} {car : StockCar}, s.stockCar k = some car →
    ∃ l, (s.mark k e cs).stockCar k = some { car with carriers := l } := by
  induction cs with
  | nil => exact fun {s car} hc => ⟨car.carriers, hc⟩
  | cons c cs ih =>
    intro s car hc
    have hgeo : ∃ l, (s.changeCarrier k c fun x => { x with excluded := e }).stockCar k =
        some { car with carriers := l } := by
      cases hx : s.carrier k c with
      | none => exact ⟨car.carriers, by simpa [State.changeCarrier, hx] using hc⟩
      | some x =>
        rw [changeCarrier_effect hc hx]
        exact ⟨_, State.stockCar_setStock _ _ _⟩
    obtain ⟨l, hl⟩ := hgeo
    exact ih (car := { car with carriers := l }) hl

theorem mark_stowed (hc : s.stockCar k = some car) (hn : s.placedOnce k) (hcs : cs.Nodup) :
    State.Stowed k car (s.remark car e cs) s (s.mark k e cs) := by
  obtain ⟨hcar, hothers, hlots, -, -⟩ := State.mark_spec e hcs hc hn
  exact ⟨hcar, mark_geometry k e cs hc, hothers, fun ps => by simp [State.actualMass, State.lotOr, State.lot, hlots]⟩

/-- Marks change the stock records, the mail and no lot's totals. -/
theorem mark_frame (hc : s.stockCar k = some car) (hn : s.placedOnce k) (hcs : cs.Nodup) :
    s.mark k e cs = { s with stock := (s.mark k e cs).stock, mail := s.mail ++ if e then [] else s.freedBy k cs } := by
  obtain ⟨-, -, hlots, hmail, hframe⟩ := State.mark_spec e hcs hc hn
  have hmail' : (s.mark k e cs).mail = s.mail ++ if e then [] else s.freedBy k cs := by
    rw [hmail]; cases e <;> simp [State.freedBy]
  rw [hlots, hmail'] at hframe
  exact hframe

theorem excluded_frame (hc : s.stockCar k = some car) (hn : s.placedOnce k) (hcs : cs.Nodup) :
    excludeEntry k cs s = { s with stock := (s.mark k true cs).stock } := by
  have h := mark_frame (e := true) hc hn hcs
  simp only [if_true, List.append_nil] at h
  exact h

/-- Carriers admitted, and the Audit Unit told (R86, R155). -/
theorem openCarriers_frame (hc : s.stockCar k = some car) (hn : s.placedOnce k) (hcs : cs.Nodup) : openCarriers k cs s =
    { s with stock := (s.mark k false cs).stock,
             mail := s.mail ++ s.freedBy k cs ++ if cs = [] then [] else [.admitNotice k cs] } := by
  by_cases h : cs = []
  · subst h; simp [openCarriers, State.mark, State.freedBy]
  · rw [openCarriers, if_neg h, if_neg h, admitEntry_eq, mark_frame hc hn hcs]
    rfl

theorem reMarked_of_stowed (h : State.Stowed k car (s.remark car e cs) s t) (hc : s.stockCar k = some car)
    (hl : t.lots = s.lots) : s.reMarked k cs e t := by
  refine ⟨fun car' hc' d => ?_, h.others, hl⟩
  obtain rfl : car = car' := Option.some.inj (hc.symm.trans hc')
  exact h.carriers d

theorem carriersWhere_of_stockCar (hc : s.stockCar k = some car) (p : Nat → Bool) :
    s.carriersWhere k p = (List.range car.carriers.length).filter p := by
  simp [State.carriersWhere, State.carriersOf, hc]

theorem closeCarriers_nil : closeCarriers k [] s = s := if_pos rfl

/-- Carriers without PUT or AUDIT tasks closed (R86). -/
theorem closeCarriers_pick (hcs : cs ≠ []) (hq : ∀ x ∈ (s.seq k).queue, x.carrier ∈ cs → x.kind = .pick)
    (hseq : (excludeEntry k cs s).seqs = s.seqs) :
    closeCarriers k cs s = (excludeEntry k cs s).post (.carrierRelease k cs) := by
  have hqueue : (((excludeEntry k cs s).post (.carrierRelease k cs)).seq k).queue = (s.seq k).queue := by
    simp only [State.post, State.seq, hseq]
  have hnone : ∀ kd : TaskKind, kd ≠ .pick →
      ((s.seq k).queue.filter fun t => decide (t.kind = kd) && decide (t.carrier ∈ cs)) = [] := by
    intro kd hkd
    refine List.filter_eq_nil_iff.2 fun x hx h => ?_
    rw [Bool.and_eq_true, decide_eq_true_eq, decide_eq_true_eq] at h
    exact hkd (h.1.symm.trans (hq x hx h.2))
  simp only [closeCarriers, if_neg hcs, hqueue, hnone .put (by decide), hnone .audit (by decide), List.foldl_nil, and_self,
    if_true]

end

/-! # CAROUSEL-ENABLE and CAROUSEL-DISABLE (R87) -/

section
variable {s : State} {q : Req} {k : Carousel} {car : StockCar}

theorem exec_carouselEnable (hs : s.asks q) {n : Nat} {t : State} {r : Result} (h : enableRequest n (s.asked q 84) = (t, r))
    (hst : t.stations = s.stations) : exec (.carouselEnable q n) s = .next (t.replied q 84 r []) := by
  have hc := carry_settled hs 84 (enableRequest n) (by rw [h]; exact hst)
  rw [h] at hc
  exact hc

theorem exec_carouselDisable (hs : s.asks q) {n : Nat} {t : State} {r : Result} (h : disableRequest n (s.asked q 85) = (t, r))
    (hst : t.stations = s.stations) : exec (.carouselDisable q n) s = .next (t.replied q 85 r []) := by
  have hc := carry_settled hs 85 (disableRequest n) (by rw [h]; exact hst)
  rw [h] at hc
  exact hc

theorem car?_none {n : Nat} (h : 7 < n) : car? n = none := by
  unfold car?
  rw [dif_neg (by omega)]

/-- A carousel at no opening leaves its state without a report. -/
theorem leaveOpening_quiet {n : CarState} (h : (s.seq k).state ≠ .ready) (h' : (s.seq k).state ≠ .presenting) :
    leaveOpening k n s = s.modSeq k fun q => { q with state := n } := by
  unfold leaveOpening
  cases hst : (s.seq k).state <;> simp_all

/-- A sequencer that enters UNKNOWN, and has asked its drive where the ring is UP (R68). -/
def Seq.adrift (r : Ring) (q : Seq) : Seq :=
  (if r = .up then Seq.ask false else id)
    { q with state := .unknown, fault := none, move := none, built := none, current := none, short := 0 }

theorem Seq.adrift_kept (r : Ring) (q : Seq) : (q.adrift r).state = .unknown ∧ (q.adrift r).fault = none ∧
    (q.adrift r).queue = q.queue := by
  unfold Seq.adrift
  split <;> exact ⟨rfl, rfl, rfl⟩

/-- A carousel at no opening enters UNKNOWN, whatever room its query finds. -/
theorem enterUnknown_adrift (h : (s.seq k).state ≠ .ready) (h' : (s.seq k).state ≠ .presenting)
    (hd : (s.nodeOf .drive k.val).isSome = true) :
    ∃ e, enterUnknown k s = State.setSeq { s with fe := e } k ((s.seq k).adrift s.fe.ring) := by
  simp only [enterUnknown, leaveOpening_quiet h h', State.modSeq_modSeq, State.modSeq_fe, Seq.adrift]
  by_cases hring : s.fe.ring = .up
  · obtain ⟨e, he, -⟩ := sendQuery_node (b := false) (s := s.modSeq k fun q =>
      { q with state := .unknown, fault := none, move := none, built := none, current := none, short := 0 }) hd
    refine ⟨e, ?_⟩
    rw [if_pos hring, if_pos hring, he, State.seq_modSeq]
    exact State.setSeq_setSeq { s with fe := e } k _ _
  · rw [if_neg hring, if_neg hring]
    exact ⟨s.fe, rfl⟩

/-- The same with room in the transmit queue. -/
theorem enterUnknown_room {d : Nat} (h : (s.seq k).state ≠ .ready) (h' : (s.seq k).state ≠ .presenting)
    (hd : s.nodeOf .drive k.val = some d) (hroom : s.fe.queue.length < 32) : enterUnknown k s =
    (s.modFe fun e => { e with queue :=
      e.queue ++ if s.fe.ring = .up then [frameTo (.seq k) d (.statusQuery (s.seq k).asked)] else [] }).modSeq k
        (Seq.adrift s.fe.ring) := by
  simp only [enterUnknown, leaveOpening_quiet h h', State.modSeq_modSeq, State.modSeq_fe]
  by_cases hring : s.fe.ring = .up
  · rw [if_pos hring, if_pos hring]
    rw [sendQuery_room (s := s.modSeq k _) hd hroom, State.seq_modSeq, State.modFe_modSeq, State.modSeq_modSeq]
    have hup : Seq.adrift s.fe.ring = fun q => Seq.ask false
        { q with state := .unknown, fault := none, move := none, built := none, current := none, short := 0 } :=
      funext fun q => by rw [Seq.adrift, if_pos hring]
    rw [hup]
  · have hdown : Seq.adrift s.fe.ring = fun q =>
        { q with state := .unknown, fault := none, move := none, built := none, current := none, short := 0 } :=
      funext fun q => by rw [Seq.adrift, if_neg hring, id]
    simp only [if_neg hring, List.append_nil, hdown]
    rfl

theorem enableRequest_fault (h : (s.seq k).state = .fault) : enableRequest k.val s = (enterUnknown k s, .done) := by
  simp only [enableRequest, car?_val, h]

theorem enableRequest_disabled (h : (s.seq k).state = .disabled) (hc : s.stockCar k = some car) :
    enableRequest k.val s = (enterUnknown k (openCarriers k
      ((List.range car.carriers.length).filter fun c => !inWindow (s.seq k).window c) s), .done) := by
  simp only [enableRequest, car?_val, h, carriersWhere_of_stockCar hc]

/-- A sequencer that has been disabled (R87). -/
def Seq.shutDown (q : Seq) : Seq :=
  { q with state := .disabled, fault := none, move := none, built := none, current := none, short := 0 }

/-- The end of a disable, once the motion has been dealt with. -/
def disableTail (k : Carousel) (s : State) : State :=
  (leaveOpening k .disabled (closeCarriers k (s.carriersWhere k fun _ => true) s)).modSeq k fun q =>
    { q with fault := none, move := none, built := none, current := none, short := 0 }

theorem disableRequest_still (h : (s.seq k).state = .idle ∨ (s.seq k).state = .unknown ∨ (s.seq k).state = .fault)
    (hm : (s.seq k).move = none) : disableRequest k.val s = (disableTail k s, .done) := by
  rcases h with h | h | h <;>
    simp only [disableRequest, car?_val, h, hm, Option.isSome_none, Bool.false_eq_true, if_false, disableTail]

/-- A MOVE that has left the part is halted first (R87). -/
theorem disableRequest_moving {d : Nat} (h : (s.seq k).state = .moving) (hm : (s.seq k).move.isSome = true)
    (hgone : s.fe.queue.any (isFrameOf (.seq k) 1) = false) (hd : s.nodeOf .drive k.val = some d) (hl : s.fe.queue.length < 32) :
    disableRequest k.val s = (disableTail k (s.framed (.seq k) d (.halt false)), .done) := by
  simp only [disableRequest, car?_val, h, hm, withdrawMove_gone hgone, sendHalt_room hd hl, Bool.false_eq_true, if_false,
    if_true, disableTail, State.framed]

/-- What a disable leaves of a carousel without a queue that is at no opening. -/
theorem disableTail_frame (hc : s.stockCar k = some car) (hn : ∀ x ∈ car.carriers, (x.placements.map (·.lot)).Nodup)
    (hne : car.carriers ≠ []) (hq : (s.seq k).queue = []) (h : (s.seq k).state ≠ .ready) (h' : (s.seq k).state ≠ .presenting) :
    disableTail k s = State.modSeq
      { s with stock := (s.mark k true (List.range car.carriers.length)).stock,
               mail := s.mail ++ [.carrierRelease k (List.range car.carriers.length)] } k Seq.shutDown := by
  have hall : s.carriersWhere k (fun _ => true) = List.range car.carriers.length := by
    rw [carriersWhere_of_stockCar hc, List.filter_true]
  have hmark := excluded_frame hc (placedOnce_of_stockCar hc hn) List.nodup_range (cs := List.range car.carriers.length)
  have hrange : List.range car.carriers.length ≠ [] := by simpa using hne
  have hsame : ((excludeEntry k (List.range car.carriers.length) s).post
      (.carrierRelease k (List.range car.carriers.length))).seq k = s.seq k := by
    rw [hmark]; rfl
  rw [disableTail, hall, closeCarriers_pick hrange (by simp [hq]) (by rw [hmark]),
    leaveOpening_quiet (by rw [hsame]; exact h) (by rw [hsame]; exact h'), State.modSeq_modSeq, hmark]
  rfl

end

theorem claim_carouselSwitches : Claims.CarouselSwitches := by
  intro s q k hs
  refine ⟨fun n hn => ⟨?_, ?_⟩, fun hu => ⟨?_, ?_⟩, fun hu hd hf => ?_, fun hf hnode => ?_, fun hm => ?_, fun hd => ?_,
    fun car hcar hn => ⟨fun a cs hd ha hroom hcs => ?enable, fun hne hqueue _ => ?disable⟩⟩
  · exact exec_carouselEnable hs (by simp only [enableRequest, car?_none hn]) rfl
  · exact exec_carouselDisable hs (by simp only [disableRequest, car?_none hn]) rfl
  · exact exec_carouselEnable hs (by simp only [enableRequest, car?_val, State.asked_seq, hu]) rfl
  · exact exec_carouselDisable hs (by simp only [disableRequest, car?_val, State.asked_seq, hu]) rfl
  · refine exec_carouselEnable hs (t := s.asked q 84) ?_ rfl
    simp only [enableRequest, car?_val, State.asked_seq]
    cases hst : (s.seq k).state <;> simp_all
  · have hst : ((s.asked q 84).seq k).state = .fault := hf
    obtain ⟨e, he⟩ := enterUnknown_adrift (s := s.asked q 84) (k := k) (by rw [hst]; nofun) (by rw [hst]; nofun) hnode
    obtain ⟨hstate, hfault, hkept⟩ := Seq.adrift_kept (s.asked q 84).fe.ring (s.seq k)
    have hseq := State.seq_setSeq { s.asked q 84 with fe := e } k ((s.seq k).adrift (s.asked q 84).fe.ring)
    refine ⟨_, exec_carouselEnable hs ((enableRequest_fault hst).trans (congrArg (·, Result.done) he)) rfl, rfl,
      (congrArg Seq.state hseq).trans hstate, (congrArg Seq.fault hseq).trans hfault, (congrArg Seq.queue hseq).trans hkept,
      fun j hj => State.seq_setSeq_ne { s.asked q 84 with fe := e } _ hj, rfl⟩
  · exact exec_carouselDisable hs (by simp only [disableRequest, car?_val, State.asked_seq, hm]) rfl
  · exact exec_carouselDisable hs (by simp only [disableRequest, car?_val, State.asked_seq, hd]) rfl
  case enable =>
    have hst : ((s.asked q 84).seq k).state = .disabled := hd
    have hnodup : cs.Nodup := hcs ▸ List.nodup_range.filter _
    have honce : (s.asked q 84).placedOnce k := placedOnce_of_stockCar hcar hn
    have hopened := openCarriers_frame (s := s.asked q 84) hcar honce hnodup
    have hstow := mark_stowed (e := false) (s := s.asked q 84) hcar honce hnodup
    have hreq := enableRequest_disabled (s := s.asked q 84) hst hcar
    rw [show (List.range car.carriers.length).filter (fun c => !inWindow ((s.asked q 84).seq k).window c) = cs from hcs.symm,
      hopened] at hreq
    have hunknown := enterUnknown_room (k := k) (d := a)
      (s := { s.asked q 84 with
        stock := ((s.asked q 84).mark k false cs).stock,
        mail := s.mail ++ s.freedBy k cs ++ if cs = [] then [] else [.admitNotice k cs] })
      (show (s.seq k).state ≠ .ready by rw [hd]; nofun) (show (s.seq k).state ≠ .presenting by rw [hd]; nofun) ha hroom
    refine ⟨_, exec_carouselEnable hs (hreq.trans (congrArg (·, Result.done) hunknown)) rfl, rfl, State.seq_modSeq _ k _,
      fun j hj => State.seq_modSeq_ne _ _ hj, reMarked_of_stowed ?_ hcar rfl, rfl, rfl⟩
    exact ⟨hstow.carriers, hstow.geometry, hstow.others, fun _ => rfl⟩
  case disable =>
  have stow : ∀ {v : State}, v.stockCar k = some car → State.Stowed k car
      (v.remark car true (List.range car.carriers.length)) v (v.mark k true (List.range car.carriers.length)) :=
    fun hv => mark_stowed hv (placedOnce_of_stockCar hv hn) List.nodup_range
  intro left
  refine ⟨?rest, ?moving⟩
  case rest =>
    intro hst hmove
    have hready : (s.seq k).state ≠ .ready := fun h => by simp [h] at hst
    have hpres : (s.seq k).state ≠ .presenting := fun h => by simp [h] at hst
    have hreq := (disableRequest_still (s := s.asked q 85) hst hmove).trans
      (congrArg (·, Result.done) (disableTail_frame (s := s.asked q 85) hcar hn hne hqueue hready hpres))
    have hstow := stow (v := s.asked q 85) hcar
    exact ⟨_, exec_carouselDisable hs hreq rfl, ⟨rfl, State.seq_modSeq _ k _, fun j hj => State.seq_modSeq_ne _ _ hj,
      reMarked_of_stowed ⟨hstow.carriers, hstow.geometry, hstow.others, fun _ => rfl⟩ hcar rfl, rfl⟩, rfl⟩
  case moving =>
    intro a hst hmove hgone ha hroom
    have hreq := (disableRequest_moving (s := s.asked q 85) hst hmove hgone ha hroom).trans
      (congrArg (·, Result.done) (disableTail_frame (s := (s.asked q 85).framed (.seq k) a (.halt false)) hcar hn hne hqueue
        (show (s.seq k).state ≠ .ready by rw [hst]; nofun) (show (s.seq k).state ≠ .presenting by rw [hst]; nofun)))
    have hstow := stow (v := (s.asked q 85).framed (.seq k) a (.halt false)) hcar
    exact ⟨_, exec_carouselDisable hs hreq rfl, ⟨rfl, State.seq_modSeq _ k _, fun j hj => State.seq_modSeq_ne _ _ hj,
      reMarked_of_stowed ⟨hstow.carriers, hstow.geometry, hstow.others, fun _ => rfl⟩ hcar rfl, rfl⟩, rfl⟩
end Sys2Proof.Machine

namespace Sys2Proof.Machine

/-! # WINDOW-SET (R86) -/

section
variable {s u v : State} {q : Req} {k : Carousel} {car : StockCar} {bounds : Option (Nat × Nat)} {shut opened cs : List Nat}
  {x : Task} {queue : List Task} {reports : List Instr} {back : Nat → List Placement → List Placement} {c lot m : Nat}

/-! ## Where a request goes -/

theorem exec_windowSet (hs : s.asks q) {n : Nat} {t : State} {r : Result}
    (h : windowSetRequest n bounds (s.asked q 86) = (t, r)) (hst : t.stations = s.stations) :
    exec (.windowSet q n bounds) s = .next (t.replied q 86 r []) := by
  have hc := carry_settled hs 86 (windowSetRequest n bounds) (by rw [h]; exact hst)
  rw [h] at hc
  exact hc

theorem windowSet_range {lo hi : Nat} (hc : s.stockCar k = some car) (hu : (s.seq k).state ≠ .unconfigured)
    (hb : car.carriers.length ≤ lo ∨ car.carriers.length ≤ hi) : windowSetRequest k.val (some (lo, hi)) s = (s, .range) := by
  have hlen : s.carriersOf k = car.carriers.length := by simp only [State.carriersOf, hc]
  simp only [windowSetRequest, car?_val, hlen]
  rw [if_pos ⟨hu, by simpa using hb⟩]

/-- The carriers that a new window admits, none of them on a DISABLED carousel. -/
theorem open_opened (hc : s.stockCar k = some car) (hopened : opened = (List.range car.carriers.length).filter fun c =>
    decide ((s.seq k).state ≠ .disabled) && inWindow (s.seq k).window c && !inWindow bounds c) (v : State) :
    (if (s.seq k).state = .disabled then v else
      openCarriers k (s.carriersWhere k fun c => inWindow (s.seq k).window c && !inWindow bounds c) v) =
        openCarriers k opened v := by
  rw [carriersWhere_of_stockCar hc]
  by_cases hd : (s.seq k).state = .disabled
  · have hnil : opened = [] := by rw [hopened]; simp [hd]
    rw [if_pos hd, hnil]
    rfl
  · rw [if_neg hd, hopened]
    simp only [hd, ne_eq, not_false_eq_true, decide_true, Bool.true_and]

theorem windowSet_opens (hc : s.stockCar k = some car) (hu : (s.seq k).state ≠ .unconfigured)
    (hb : ∀ lo hi, bounds = some (lo, hi) → lo < car.carriers.length ∧ hi < car.carriers.length)
    (hshut : shut = (List.range car.carriers.length).filter fun c => inWindow bounds c && !inWindow (s.seq k).window c)
    (hopened : opened = (List.range car.carriers.length).filter fun c =>
      decide ((s.seq k).state ≠ .disabled) && inWindow (s.seq k).window c && !inWindow bounds c) :
    windowSetRequest k.val bounds s = (choose k (openCarriers k opened
      (closeCarriers k shut (s.modSeq k fun q => { q with window := bounds }))), .done) := by
  have hlen : s.carriersOf k = car.carriers.length := by simp only [State.carriersOf, hc]
  have hinside : ¬ ((s.seq k).state ≠ .unconfigured ∧
      bounds.any (fun b => decide (car.carriers.length ≤ b.1) || decide (car.carriers.length ≤ b.2)) = true) := by
    rintro ⟨-, hany⟩
    cases bounds with
    | none => simp at hany
    | some b =>
      have hin := hb b.1 b.2 rfl
      simp only [Option.any_some, Bool.or_eq_true, decide_eq_true_eq] at hany
      omega
  rw [← open_opened hc hopened, hshut]
  simp only [windowSetRequest, car?_val, hlen, if_neg hinside, if_neg hu, carriersWhere_of_stockCar hc]

/-! ## Once the carriers newly inside have been closed -/

/-- A carrier as a new window that takes it in leaves it: excluded, with its OVERLOAD mark and what is left of its
placements. -/
def State.shutting (s : State) (car : StockCar) (shut : List Nat) (back : Nat → List Placement → List Placement) (d : Nat)
    (x : Carrier) : Carrier :=
  if d ∈ shut then { x with excluded := true, overload := decide (car.rated < s.actualMass x.placements),
                            placements := back d x.placements } else x

/-- The carriers newly inside the window have been closed: `reports` have been handed out and the queue stands as `queue`. -/
structure State.WindowShut (s : State) (q : Req) (k : Carousel) (car : StockCar) (bounds : Option (Nat × Nat))
    (shut : List Nat) (back : Nat → List Placement → List Placement) (queue : List Task) (reports : List Instr) (v : State) :
    Prop where
  seq : v.seq k = { s.seq k with window := bounds, queue := queue }
  others : s.othersKept k v
  mail : v.mail = s.mail ++ reports
  frame : v = { s.asked q 86 with lots := v.lots, stock := v.stock, seqs := v.seqs, mail := v.mail }
  stowed : State.Stowed k car (s.shutting car shut back) s v

/-- What WINDOW-SET leaves, in the words of the statement. -/
def State.windowed (s : State) (q : Req) (k : Carousel) (car : StockCar) (bounds : Option (Nat × Nat)) (shut opened : List Nat)
    (back : Nat → List Placement → List Placement) (queue : List Task) (reports : List Instr) (t : State) : Prop :=
  (s.answeredDone q 86 t ∧ t.seq k = { s.seq k with window := bounds, queue := queue } ∧ s.othersKept k t ∧
    t.mail = s.mail ++ reports ++ (s.freedBy k opened ++ if opened = [] then [] else [.admitNotice k opened]) ∧
    t = { s.asked q 86 with lots := t.lots, stock := t.stock, seqs := t.seqs, mail := t.mail, mgmt := t.mgmt }) ∧
  ((∀ d, t.carrier k d = (s.carrier k d).map fun x => if d ∈ shut ∨ d ∈ opened then
      { x with excluded := decide (d ∈ shut), overload := decide (car.rated < s.actualMass x.placements),
               placements := back d x.placements } else x) ∧
    (∃ cs, t.stockCar k = some { car with carriers := cs }) ∧ ∀ j : Carousel, j ≠ k → t.stockCar j = s.stockCar j)

theorem freedBy_congr (h : ∀ d ∈ cs, v.carrier k d = s.carrier k d) : v.freedBy k cs = s.freedBy k cs := by
  unfold State.freedBy
  rw [List.filter_congr fun d hd => by rw [h d hd]]

/-- Carriers admitted behind those closed: each stands as the statement says. -/
theorem remark_shutting (hdisj : ∀ d ∈ shut, d ∉ opened) (hback : ∀ d ps, d ∉ shut → back d ps = ps)
    (hm : ∀ ps, v.actualMass ps = s.actualMass ps) (d : Nat) (y : Carrier) :
    v.remark car false opened d (s.shutting car shut back d y) = if d ∈ shut ∨ d ∈ opened then
      { y with excluded := decide (d ∈ shut), overload := decide (car.rated < s.actualMass y.placements),
               placements := back d y.placements } else y := by
  by_cases h : d ∈ shut
  · simp only [State.remark, State.shutting, if_neg (hdisj d h), h, true_or, if_true, decide_true]
  · by_cases h' : d ∈ opened <;>
      simp only [State.remark, State.shutting, h, h', hm, hback d _ h, if_true, if_false, or_true, or_false, decide_false]

theorem windowSet_of_shut (hs : s.asks q) (hc : s.stockCar k = some car) (hn : s.placedOnce k)
    (hu : (s.seq k).state ≠ .unconfigured) (hi : (s.seq k).state ≠ .idle)
    (hb : ∀ lo hi, bounds = some (lo, hi) → lo < car.carriers.length ∧ hi < car.carriers.length)
    (hshut : shut = (List.range car.carriers.length).filter fun c => inWindow bounds c && !inWindow (s.seq k).window c)
    (hopened : opened = (List.range car.carriers.length).filter fun c =>
      decide ((s.seq k).state ≠ .disabled) && inWindow (s.seq k).window c && !inWindow bounds c)
    (hback : ∀ d ps, d ∉ shut → back d ps = ps)
    (hsub : ∀ d ps, (ps.map (·.lot)).Nodup → ((back d ps).map (·.lot)).Nodup)
    (hv : closeCarriers k shut ((s.asked q 86).modSeq k fun q => { q with window := bounds }) = v)
    (h : s.WindowShut q k car bounds shut back queue reports v) :
    ∃ t, exec (.windowSet q k.val bounds) s = .next t ∧ s.windowed q k car bounds shut opened back queue reports t ∧
      t.lots = v.lots := by
  have hdisj : ∀ d ∈ shut, d ∉ opened := by
    subst hshut hopened
    simp only [List.mem_filter, Bool.and_eq_true]
    rintro d ⟨-, hin, -⟩ ⟨-, -, hout⟩
    simp [hin] at hout
  have hnv : v.placedOnce k := h.stowed.placedOnce hn fun d y hy => by
    unfold State.shutting
    split
    · exact hsub d _ hy
    · exact hy
  obtain ⟨l, hcv⟩ := h.stowed.geometry
  have hnodup : opened.Nodup := hopened ▸ List.nodup_range.filter _
  have hopen := openCarriers_frame hcv hnv hnodup
  have hmark : State.Stowed k car (v.remark car false opened) v (v.mark k false opened) :=
    (mark_stowed (e := false) hcv hnv hnodup).resize
  have hstow := h.stowed.trans hmark
  have hfreed : v.freedBy k opened = s.freedBy k opened := freedBy_congr fun d hd => by
    have hout : d ∉ shut := fun h' => hdisj d h' hd
    have hid : s.shutting car shut back d = id := funext fun y => if_neg hout
    rw [h.stowed.carriers, hid, Option.map_id, id]
  have hreq := windowSet_opens (s := s.asked q 86) hc hu hb hshut hopened
  have hidle : ((openCarriers k opened v).seq k).state ≠ .idle := by
    rw [hopen]
    exact (congrArg Seq.state h.seq).trans_ne hi
  rw [hv, choose_other hidle, hopen] at hreq
  have hst : v.stations = s.stations := by rw [h.frame]; rfl
  refine ⟨_, exec_windowSet hs hreq hst, ⟨⟨?_, h.seq, h.others, ?_, ?_⟩, fun d => ?_, hstow.geometry, hstow.others⟩, rfl⟩
  · have hm : v.mgmt = s.mgmt := by rw [h.frame]; rfl
    show v.mgmt.replies ++ _ = _
    rw [hm]
    rfl
  · show v.mail ++ _ ++ _ = _
    rw [hfreed, h.mail]
    simp only [List.append_assoc]
  · rw [h.frame]
    rfl
  · refine (hstow.carriers d).trans (congrArg (Option.map · _) (funext fun y => ?_))
    exact remark_shutting hdisj hback h.stowed.masses d y

/-! ## Closing the carriers newly inside -/

/-- The state in which the carriers newly inside the window are closed. -/
def State.windowMoved (s : State) (q : Req) (k : Carousel) (bounds : Option (Nat × Nat)) : State :=
  (s.asked q 86).modSeq k fun q => { q with window := bounds }

theorem windowMoved_seq (s : State) (q : Req) (k : Carousel) (bounds : Option (Nat × Nat)) :
    (s.windowMoved q k bounds).seq k = { s.seq k with window := bounds } := State.seq_modSeq _ k _

theorem windowMoved_others (s : State) (q : Req) (k : Carousel) (bounds : Option (Nat × Nat)) :
    s.othersKept k (s.windowMoved q k bounds) := fun _ hj => State.seq_modSeq_ne _ _ hj

/-- With no PUT or AUDIT task among them the carriers are excluded and their reservations released. -/
theorem windowShut_pick (hc : s.stockCar k = some car) (hn : s.placedOnce k) (hshut : shut.Nodup)
    (hq : ∀ x ∈ (s.seq k).queue, x.carrier ∈ shut → x.kind = .pick) :
    s.WindowShut q k car bounds shut (fun _ ps => ps) (s.seq k).queue (if shut = [] then [] else [.carrierRelease k shut])
      (closeCarriers k shut (s.windowMoved q k bounds)) ∧
    (closeCarriers k shut (s.windowMoved q k bounds)).lots = s.lots := by
  have hstow := mark_stowed (e := true) (s := s.windowMoved q k bounds) hc hn hshut
  by_cases hnil : shut = []
  · subst hnil
    rw [closeCarriers_nil, if_pos rfl]
    refine ⟨⟨windowMoved_seq .., windowMoved_others s q k bounds, (List.append_nil _).symm, rfl, hstow.carriers, hstow.geometry,
      hstow.others, hstow.masses⟩, rfl⟩
  · have hmark := excluded_frame (s := s.windowMoved q k bounds) hc hn hshut
    rw [closeCarriers_pick hnil (by rw [windowMoved_seq]; exact hq) (by rw [hmark]), hmark, if_neg hnil]
    exact ⟨⟨windowMoved_seq .., windowMoved_others s q k bounds, rfl, rfl, hstow.carriers, hstow.geometry, hstow.others, fun _ => rfl⟩, rfl⟩

/-- The one PUT or AUDIT task of the closed carriers, found by its kind. -/
theorem filter_kind {l : List Task} (h : l.filter (fun x => decide (x.kind ≠ .pick) && decide (x.carrier ∈ cs)) = [x])
    {kd : TaskKind} (hkd : kd ≠ .pick) :
    l.filter (fun x => decide (x.kind = kd) && decide (x.carrier ∈ cs)) = if x.kind = kd then [x] else [] := by
  have hsub : l.filter (fun x => decide (x.kind = kd) && decide (x.carrier ∈ cs)) =
      (l.filter fun x => decide (x.kind ≠ .pick) && decide (x.carrier ∈ cs)).filter fun x => decide (x.kind = kd) := by
    rw [List.filter_filter]
    refine List.filter_congr fun y _ => ?_
    by_cases hy : y.kind = kd
    · simp [hy, hkd]
    · simp [hy]
  rw [hsub, h]
  by_cases hx : x.kind = kd <;> simp [hx]

/-- The carriers have been excluded and their reservations released, and their tasks not yet dealt with. -/
def State.released (s : State) (k : Carousel) (cs : List Nat) : State := (excludeEntry k cs s).post (.carrierRelease k cs)

theorem released_eq (s : State) (k : Carousel) (cs : List Nat) :
    (excludeEntry k cs s).post (.carrierRelease k cs) = s.released k cs := rfl

/-- A place freed in a queue that was within its bound, with nothing held. -/
theorem placeFreed_withoutTask (hq : u.seq k = { s.seq k with queue := withoutTask x.num (s.seq k).queue })
    (hx : x ∈ (s.seq k).queue) (hheld : (s.seq k).held = []) (hnums : ((s.seq k).queue.map (·.num)).Nodup)
    (hlen : (s.seq k).queue.length ≤ 16) : placeFreed k u = u.postAll (s.toldFree k) := by
  have hshort : (u.seq k).queue.length < 16 := by
    have := (withoutTask_perm hnums hx).length_eq
    rw [hq]
    simp only [List.length_cons] at this
    show (withoutTask x.num (s.seq k).queue).length < 16
    omega
  have htold : u.toldFree k = s.toldFree k := by simp only [State.toldFree, State.stationOf, hq]
  rw [placeFreed_none (by rw [hq]; exact hheld), if_pos hshort, htold]

/-! ## Return-incoming on an excluded carrier -/

/-- The placements that a return-incoming of up to `m` tyres of a lot to carrier `c` leaves (R20). -/
def returned (c lot m d : Nat) (ps : List Placement) : List Placement :=
  if d = c ∧ 0 < min m (incomingOf lot ps) then
    countsChanged lot (fun p => { p with incoming := p.incoming - min m (incomingOf lot ps) }) ps else ps

/-- A carrier after a return-incoming, with its OVERLOAD mark where its counts have changed. -/
def State.returning (s : State) (car : StockCar) (c lot m d : Nat) (y : Carrier) : Carrier :=
  if d = c ∧ 0 < min m (incomingOf lot y.placements) then
    { y with overload := decide (car.rated < s.actualMass y.placements), placements := returned c lot m d y.placements } else y

theorem returned_nodup {c lot m d : Nat} {ps : List Placement} (h : (ps.map (·.lot)).Nodup) :
    ((returned c lot m d ps).map (·.lot)).Nodup := by
  unfold returned
  split
  · rw [← changePlacement_counts]
    refine (changePlacement_lots ?_ ps).nodup h
    exact fun _ => rfl
  · exact h

/-- Totals that follow a carrier's counts leave the masses of the lots. -/
theorem retotal_masses {old new : List Placement} (h : v.lots = retotal old new s.lots) (ps : List Placement) :
    v.actualMass ps = s.actualMass ps := by
  have hmass : ∀ n, (v.lotOr n).mass = (s.lotOr n).mass := fun n => by
    simp only [State.lotOr, State.lot, h, tget_retotal]
    cases tget n s.lots <;> rfl
  simp only [State.actualMass, hmass]

/-- What a return-incoming leaves: the counts of one placement; it is reported to nobody. -/
theorem returnIncoming_stowed (hc : s.stockCar k = some car) (hn : s.placedOnce k) :
    State.Stowed k car (s.returning car c lot m) s (returnIncomingEntry k c lot m s).1 ∧
    (returnIncomingEntry k c lot m s).1 =
      { s with lots := (returnIncomingEntry k c lot m s).1.lots, stock := (returnIncomingEntry k c lot m s).1.stock } := by
  by_cases hg : ∃ y, s.carrier k c = some y ∧ 0 < min m (incomingOf lot y.placements)
  · obtain ⟨y, hy, hpos⟩ := hg
    have hentry := congrArg Prod.fst (returnIncomingEntry_some (lot := lot) (count := m) hy rfl hpos)
    have hcounts : ∀ p : Placement, ({ p with incoming := p.incoming - min m (incomingOf lot y.placements) } : Placement).lot =
        p.lot ∧ ({ p with incoming := p.incoming - min m (incomingOf lot y.placements) } : Placement).onHand = p.onHand :=
      fun p => ⟨rfl, rfl⟩
    rw [hentry]
    unfold State.changePlacements
    obtain ⟨hre, hlots, hmail, hframe⟩ := changeCarrier_spec hy fun z => { z with
      placements := changePlacement lot (fun p => { p with incoming := p.incoming - min m (incomingOf lot y.placements) })
        z.placements }
    obtain ⟨-, hstands, hother, hothers⟩ := restocked_reads hc hy hre
    rw [carrierReports_quiet hcounts s k c (hn c y hy), List.append_nil] at hmail
    rw [hmail] at hframe
    refine ⟨⟨fun d => ?_, ?_, hothers, fun ps => ?_⟩, hframe⟩
    · by_cases hd : d = c
      · subst hd
        rw [hstands, hy, Option.map_some, State.returning, if_pos ⟨rfl, hpos⟩, returned, if_pos ⟨rfl, hpos⟩,
          actualMass_change hcounts, changePlacement_counts]
      · have hid : s.returning car c lot m d = id := funext fun z => if_neg fun h => hd h.1
        rw [hother d hd, hid, Option.map_id, id]
    · rw [changeCarrier_effect hc hy]
      exact ⟨_, State.stockCar_setStock _ _ _⟩
    · exact retotal_masses hlots ps
  · have hsame : (returnIncomingEntry k c lot m s).1 = s := by
      unfold returnIncomingEntry
      cases hy : s.carrier k c with
      | none => simp
      | some y => simp [Nat.eq_zero_of_not_pos fun h => hg ⟨y, hy, h⟩]
    rw [hsame]
    refine ⟨⟨fun d => ?_, ⟨car.carriers, hc⟩, fun _ _ => rfl, fun _ => rfl⟩, rfl⟩
    cases hd : s.carrier k d with
    | none => rfl
    | some y =>
      have hid : ¬ (d = c ∧ 0 < min m (incomingOf lot y.placements)) := fun h => hg ⟨y, h.1 ▸ hd, h.2⟩
      rw [Option.map_some, State.returning, if_neg hid]

/-- The lot totals that a return-incoming leaves follow from the totals and the carrier's placements. -/
theorem returnIncoming_lots (hl : v.lots = s.lots)
    (hp : (v.carrier k c).map (·.placements) = (s.carrier k c).map (·.placements)) :
    (returnIncomingEntry k c lot m v).1.lots = (returnIncomingEntry k c lot m s).1.lots := by
  cases hy : s.carrier k c with
  | none =>
    have hv : v.carrier k c = none := by simpa [hy] using hp
    simp [returnIncomingEntry, hy, hv, hl]
  | some y =>
    rw [hy, Option.map_some] at hp
    obtain ⟨z, hz, hps⟩ := Option.map_eq_some_iff.1 hp
    rcases Nat.eq_zero_or_pos (min m (incomingOf lot y.placements)) with h | h
    · rw [returnIncomingEntry_none hy h, returnIncomingEntry_none hz (by rw [hps]; exact h)]
      exact hl
    · rw [returnIncomingEntry_some hy rfl h, returnIncomingEntry_some hz (by rw [hps]) h]
      simp only [State.changePlacements, (changeCarrier_spec hy _).2.1, (changeCarrier_spec hz _).2.1, hps, hl]

/-! ## A PUT or an AUDIT task of a carrier newly inside -/

theorem dropTask_waiting_put {n : Nat} {i : Station} (hc : (s.seq k).current ≠ some x.num) (hb : x.body = .put lot n m i) :
    dropTask k x s = (s.modSeq k fun q => { q with queue := withoutTask x.num q.queue }).post (.putTaskLeft i k x.carrier lot) := by
  simp only [dropTask, hc, false_and, if_false, takeOut, hb]

theorem dropTask_waiting_audit {blind : Bool} (hc : (s.seq k).current ≠ some x.num) (hb : x.body = .audit blind) :
    dropTask k x s = s.modSeq k fun q => { q with queue := withoutTask x.num q.queue } := by
  simp only [dropTask, hc, false_and, if_false, takeOut, hb]

theorem closeCarriers_one (hcs : cs ≠ [])
    (h : (s.seq k).queue.filter (fun x => decide (x.kind ≠ .pick) && decide (x.carrier ∈ cs)) = [x])
    (hseq : (excludeEntry k cs s).seqs = s.seqs) : closeCarriers k cs s = placeFreed k
      (if x.kind = .put then closePut k (s.released k cs) x else closeAudit k (s.released k cs) x) := by
  have hqueue : ((s.released k cs).seq k).queue = (s.seq k).queue := by simp only [State.released, State.post, State.seq, hseq]
  have hmem : x ∈ (s.seq k).queue.filter fun x => decide (x.kind ≠ .pick) && decide (x.carrier ∈ cs) := h ▸ List.mem_singleton_self x
  have hkind : x.kind ≠ .pick := by simpa using (Bool.and_eq_true_iff.1 (List.mem_filter.1 hmem).2).1
  have hputs := filter_kind h (kd := .put) (by decide)
  have haudits := filter_kind h (kd := .audit) (by decide)
  rw [closeCarriers, if_neg hcs]
  simp only [released_eq, hqueue, hputs, haudits]
  cases hk : x.kind with
  | pick => exact absurd hk hkind
  | put => simp
  | audit => simp

theorem released_frame (hc : s.stockCar k = some car) (hn : s.placedOnce k) (hcs : cs.Nodup) : s.released k cs =
    { s with stock := (s.mark k true cs).stock, mail := s.mail ++ [.carrierRelease k cs] } := by
  rw [State.released, excluded_frame hc hn hcs]
  rfl

theorem released_stowed (hc : s.stockCar k = some car) (hn : s.placedOnce k) (hcs : cs.Nodup) :
    State.Stowed k car (s.remark car true cs) s (s.released k cs) := by
  have hmark := mark_stowed (e := true) hc hn hcs
  rw [released_frame hc hn hcs]
  exact ⟨hmark.carriers, hmark.geometry, hmark.others, fun _ => rfl⟩

theorem remark_placements (s : State) (e : Bool) (d : Nat) (y : Carrier) : (s.remark car e cs d y).placements = y.placements := by
  unfold State.remark
  split <;> rfl

theorem released_placedOnce (hc : s.stockCar k = some car) (hn : s.placedOnce k) (hcs : cs.Nodup) :
    (s.released k cs).placedOnce k :=
  (released_stowed hc hn hcs).placedOnce hn fun d y hy => by rw [remark_placements]; exact hy

/-- What a return-incoming leaves of a carousel whose closed carriers have been excluded. -/
theorem released_return (hc : s.stockCar k = some car) (hn : s.placedOnce k) (hcs : cs.Nodup) (c lot m : Nat) :
    State.Stowed k car ((s.released k cs).returning car c lot m) (s.released k cs)
      (returnIncomingEntry k c lot m (s.released k cs)).1 ∧
    (returnIncomingEntry k c lot m (s.released k cs)).1 = { s.released k cs with
      lots := (returnIncomingEntry k c lot m (s.released k cs)).1.lots,
      stock := (returnIncomingEntry k c lot m (s.released k cs)).1.stock } := by
  obtain ⟨l, hl⟩ := (released_stowed hc hn hcs).geometry
  obtain ⟨hstow, hframe⟩ := returnIncoming_stowed (c := c) (lot := lot) (m := m) hl (released_placedOnce hc hn hcs)
  exact ⟨State.Stowed.resize hstow, hframe⟩

/-- The only PUT or AUDIT task of the carriers that are closed, which is not current, in a queue within its bound. -/
structure State.OneWaits (s : State) (k : Carousel) (cs : List Nat) (x : Task) : Prop where
  only : (s.seq k).queue.filter (fun x => decide (x.kind ≠ .pick) && decide (x.carrier ∈ cs)) = [x]
  waits : (s.seq k).current ≠ some x.num
  held : (s.seq k).held = []
  nums : ((s.seq k).queue.map (·.num)).Nodup
  bound : (s.seq k).queue.length ≤ 16

theorem State.OneWaits.mem (h : s.OneWaits k cs x) : x ∈ (s.seq k).queue ∧ x.carrier ∈ cs := by
  have hmem : x ∈ (s.seq k).queue.filter fun x => decide (x.kind ≠ .pick) && decide (x.carrier ∈ cs) :=
    h.only ▸ List.mem_singleton_self x
  obtain ⟨hq, hp⟩ := List.mem_filter.1 hmem
  exact ⟨hq, of_decide_eq_true (Bool.and_eq_true_iff.1 hp).2⟩

theorem State.OneWaits.ne_nil (h : s.OneWaits k cs x) : cs ≠ [] := List.ne_nil_of_mem h.mem.2

/-- The closing of a carrier with a PUT task: the task leaves, and the place that frees is reported. -/
theorem closeCarriers_put {n : Nat} {i : Station} (hw : s.OneWaits k cs x) (hb : x.body = .put lot n m i)
    (hc : s.stockCar k = some car) (hn : s.placedOnce k) (hcs : cs.Nodup) : closeCarriers k cs s =
      ((returnIncomingEntry k x.carrier lot m (s.released k cs)).1.modSeq k fun q =>
        { q with queue := withoutTask x.num q.queue }).postAll (.putTaskLeft i k x.carrier lot :: s.toldFree k) := by
  have hrel := released_frame hc hn hcs
  have hkind : x.kind = .put := by simp only [Task.kind, hb]
  obtain ⟨-, hret⟩ := released_return hc hn hcs x.carrier lot m
  have hseq : (returnIncomingEntry k x.carrier lot m (s.released k cs)).1.seq k = s.seq k := by rw [hret, hrel]; rfl
  rw [closeCarriers_one hw.ne_nil hw.only (by rw [excluded_frame hc hn hcs]), if_pos hkind]
  simp only [closePut, hb]
  rw [dropTask_waiting_put (by rw [hseq]; exact hw.waits) hb, placeFreed_withoutTask (s := s) (x := x) ?_ hw.mem.1 hw.held
    hw.nums hw.bound]
  · simp [State.post, State.postAll]
  · simp only [State.post_seq, State.seq_modSeq, hseq]

/-- The closing of a carrier with an AUDIT task: it is handed back, and the place that frees is reported. -/
theorem closeCarriers_audit {blind : Bool} (hw : s.OneWaits k cs x) (hb : x.body = .audit blind)
    (hc : s.stockCar k = some car) (hn : s.placedOnce k) (hcs : cs.Nodup) : closeCarriers k cs s =
      ((s.released k cs).modSeq k fun q => { q with queue := withoutTask x.num q.queue }).postAll
        (.auditHandBack k (some x.carrier) :: s.toldFree k) := by
  have hrel := released_frame hc hn hcs
  have hkind : x.kind ≠ .put := by simp only [Task.kind, hb]; decide
  have hseq : (s.released k cs).seq k = s.seq k := by rw [hrel]; rfl
  rw [closeCarriers_one hw.ne_nil hw.only (by rw [excluded_frame hc hn hcs]), if_neg hkind]
  simp only [closeAudit, hb]
  rw [dropTask_waiting_audit (by rw [hseq]; exact hw.waits) hb, placeFreed_withoutTask (s := s) (x := x) ?_ hw.mem.1 hw.held
    hw.nums hw.bound]
  · simp [State.post, State.postAll]
  · simp only [State.post_seq, State.seq_modSeq, hseq]

theorem windowMoved_waits (h : s.OneWaits k shut x) : (s.windowMoved q k bounds).OneWaits k shut x := by
  constructor <;> rw [windowMoved_seq]
  exacts [h.only, h.waits, h.held, h.nums, h.bound]

theorem windowMoved_toldFree (s : State) (q : Req) (k : Carousel) (bounds : Option (Nat × Nat)) :
    (s.windowMoved q k bounds).toldFree k = s.toldFree k := by
  simp only [State.toldFree, State.stationOf, windowMoved_seq]

/-- A task then leaves the queue, with the reports `l`. -/
theorem State.WindowShut.left (h : s.WindowShut q k car bounds shut back queue reports v) (n : Nat) (l : List Instr) :
    s.WindowShut q k car bounds shut back (withoutTask n queue) (reports ++ l)
      ((v.modSeq k fun q => { q with queue := withoutTask n q.queue }).postAll l) where
  seq := by rw [State.postAll_seq, State.seq_modSeq, h.seq]
  others j hj := by
    rw [State.postAll_seq, State.seq_modSeq_ne _ _ hj]
    exact h.others j hj
  mail := by
    show v.mail ++ l = _
    rw [h.mail, List.append_assoc]
  frame := by
    rw [h.frame]
    rfl
  stowed := ⟨h.stowed.carriers, h.stowed.geometry, h.stowed.others, h.stowed.masses⟩

theorem windowShut_released (hc : s.stockCar k = some car) (hn : s.placedOnce k) (hshut : shut.Nodup) :
    s.WindowShut q k car bounds shut (fun _ ps => ps) (s.seq k).queue [.carrierRelease k shut]
      ((s.windowMoved q k bounds).released k shut) := by
  have hstow := released_stowed (s := s.windowMoved q k bounds) hc hn hshut
  rw [released_frame (s := s.windowMoved q k bounds) hc hn hshut] at hstow ⊢
  exact ⟨windowMoved_seq s q k bounds, windowMoved_others s q k bounds, rfl, rfl, hstow.carriers, hstow.geometry, hstow.others,
    fun _ => rfl⟩

/-- The closing of carriers, an AUDIT task of one of them being handed back. -/
theorem windowShut_audit {blind : Bool} (hw : s.OneWaits k shut x) (hb : x.body = .audit blind)
    (hc : s.stockCar k = some car) (hn : s.placedOnce k) (hshut : shut.Nodup) :
    s.WindowShut q k car bounds shut (fun _ ps => ps) (withoutTask x.num (s.seq k).queue)
      ([.carrierRelease k shut, .auditHandBack k (some x.carrier)] ++ s.toldFree k)
      (closeCarriers k shut (s.windowMoved q k bounds)) ∧
    (closeCarriers k shut (s.windowMoved q k bounds)).lots = s.lots := by
  have hlots : ((s.windowMoved q k bounds).released k shut).lots = s.lots := by
    rw [released_frame (s := s.windowMoved q k bounds) hc hn hshut]
    rfl
  rw [closeCarriers_audit (windowMoved_waits hw) hb hc hn hshut, windowMoved_toldFree]
  exact ⟨(windowShut_released hc hn hshut).left _ _, hlots⟩

/-- A carrier excluded, and its incoming tyres then given back. -/
theorem returning_remark (hv : ∀ ps, v.actualMass ps = s.actualMass ps) (hmem : c ∈ cs) (d : Nat) (y : Carrier) :
    v.returning car c lot m d (s.remark car true cs d y) = s.shutting car cs (returned c lot m) d y := by
  by_cases hd : d ∈ cs
  · by_cases h : d = c ∧ 0 < min m (incomingOf lot y.placements)
    · simp only [State.returning, State.remark, State.shutting, if_pos hd, if_pos h, hv]
    · simp only [State.returning, State.remark, State.shutting, if_pos hd, if_neg h, returned]
  · have hne : d ≠ c := fun h => hd (h ▸ hmem)
    simp only [State.returning, State.remark, State.shutting, if_neg hd, hne, false_and, if_false]

/-- The closing of carriers, a PUT task of one of them being given back. -/
theorem windowShut_put {n : Nat} {i : Station} (hw : s.OneWaits k shut x) (hb : x.body = .put lot n m i)
    (hc : s.stockCar k = some car) (hn : s.placedOnce k) (hshut : shut.Nodup) :
    s.WindowShut q k car bounds shut (returned x.carrier lot m) (withoutTask x.num (s.seq k).queue)
      ([.carrierRelease k shut, .putTaskLeft i k x.carrier lot] ++ s.toldFree k)
      (closeCarriers k shut (s.windowMoved q k bounds)) ∧
    (closeCarriers k shut (s.windowMoved q k bounds)).lots = (returnIncomingEntry k x.carrier lot m s).1.lots := by
  have hrel := windowShut_released (q := q) (bounds := bounds) hc hn hshut
  have hframe := released_frame (s := s.windowMoved q k bounds) hc hn hshut
  have hstow := released_stowed (s := s.windowMoved q k bounds) hc hn hshut
  obtain ⟨hret, hsame⟩ := released_return (s := s.windowMoved q k bounds) hc hn hshut x.carrier lot m
  have hlots : (returnIncomingEntry k x.carrier lot m ((s.windowMoved q k bounds).released k shut)).1.lots =
      (returnIncomingEntry k x.carrier lot m s).1.lots := by
    refine returnIncoming_lots (by rw [hframe]; rfl) ?_
    rw [hstow.carriers, Option.map_map]
    exact congrArg (Option.map · _) (funext fun y => remark_placements _ _ _ y)
  have hreturned : s.WindowShut q k car bounds shut (returned x.carrier lot m) (s.seq k).queue [.carrierRelease k shut]
      (returnIncomingEntry k x.carrier lot m ((s.windowMoved q k bounds).released k shut)).1 := by
    have hboth := hstow.trans hret
    refine ⟨?_, fun j hj => ?_, ?_, ?_, fun d => ?_, hboth.geometry, hboth.others, hboth.masses⟩
    · rw [hsame]; exact hrel.seq
    · rw [hsame]; exact hrel.others j hj
    · rw [hsame]; exact hrel.mail
    · rw [hsame, hrel.frame]
    · refine (hboth.carriers d).trans (congrArg (Option.map · _) (funext fun y => ?_))
      exact returning_remark hstow.masses hw.mem.2 d y
  rw [closeCarriers_put (windowMoved_waits hw) hb hc hn hshut, windowMoved_toldFree]
  exact ⟨hreturned.left _ _, hlots⟩

end

theorem claim_windows : Claims.Windows := by
  intro s q k hs
  refine ⟨fun n bounds hn => ?_, fun hu bounds => ?_, fun car hcar hn hu => ⟨fun lo hi hb => ?_,
    fun bounds shut opened hi hb hshut hopened => ?_⟩⟩
  · exact exec_windowSet hs (by simp only [windowSetRequest, car?_none hn]) rfl
  · refine exec_windowSet hs (t := s.asked q 86) ?_ rfl
    simp [windowSetRequest, hu]
  · exact exec_windowSet hs (windowSet_range (s := s.asked q 86) hcar hu hb) rfl
  · intro carriers admitted freed done
    have honce := placedOnce_of_stockCar hcar hn
    have hnodup : shut.Nodup := hshut ▸ List.nodup_range.filter _
    have finish {back queue reports v} := windowSet_of_shut (queue := queue) (reports := reports) (v := v) (back := back)
      hs hcar honce hu hi hb hshut hopened
    refine ⟨fun hq => ?_, fun x hx hwait hheld hnums hlen => ?_⟩
    · obtain ⟨h, hl⟩ := windowShut_pick (q := q) (bounds := bounds) hcar honce hnodup hq
      obtain ⟨t, ht, ⟨hdone, hcars⟩, hlots⟩ := finish (fun _ _ _ => rfl) (fun _ _ h => h) rfl h
      exact ⟨t, ht, hdone, hcars, hlots.trans hl⟩
    · have hone : s.OneWaits k shut x := ⟨hx, hwait, hheld, hnums, hlen⟩
      refine ⟨fun lot n m i hbody => ?_, fun blind hbody => ?_⟩
      · obtain ⟨h, hl⟩ := windowShut_put (q := q) (bounds := bounds) hone hbody hcar honce hnodup
        obtain ⟨t, ht, ⟨hdone, hcars⟩, hlots⟩ := finish
          (fun d ps hd => if_neg fun hd' : d = x.carrier ∧ _ => hd (hd'.1 ▸ hone.mem.2)) (fun _ _ => returned_nodup) rfl h
        exact ⟨t, ht, hdone, hcars, hlots.trans hl⟩
      · obtain ⟨h, hl⟩ := windowShut_audit (q := q) (bounds := bounds) hone hbody hcar honce hnodup
        obtain ⟨t, ht, ⟨hdone, hcars⟩, hlots⟩ := finish (fun _ _ _ => rfl) (fun _ _ h => h) rfl h
        exact ⟨t, ht, hdone, hcars, hlots.trans hl⟩

/-- Settles O50: the switches of a carousel, and its window. -/
theorem carouselRequests : Obligations.CarouselRequests := ⟨claim_carouselSwitches, claim_windows⟩
end Sys2Proof.Machine
